-- ==== Sys2Proof/Word.lean ====
section
/-! DEFINITION. Bytes, words and their little-endian layout (R8): the plainest arithmetic the model uses. -/
namespace Sys2Proof

/-- One byte of a packet, a register or a memory line. -/
abbrev Byte := BitVec 8

/-- An IEEE 754 binary32 value, as its bits. -/
abbrev F32 := BitVec 32

/-- An IEEE 754 binary64 value, as its bits. -/
abbrev F64 := BitVec 64

/-- `n` bytes of a natural number, least significant byte first (R8). -/
def le : Nat → Nat → List Byte
  | 0, _ => []
  | n + 1, v => BitVec.ofNat 8 v :: le n (v / 256)

/-- The natural number that little-endian bytes spell (R8). -/
def ofLe : List Byte → Nat
  | [] => 0
  | b :: bs => b.toNat + 256 * ofLe bs

/-- `n` zero bytes (a reserved field of a reply reads as 0, R11 and R13). -/
def zeros (n : Nat) : List Byte := List.replicate n 0

/-- `n` bytes of a two's complement integer, least significant first. -/
def leInt (n : Nat) (v : Int) : List Byte := le n (v % (2 ^ (8 * n) : Nat)).toNat

/-- Bit `i` of a natural number. -/
def bitOf (v i : Nat) : Bool := v / 2 ^ i % 2 == 1

/-- Field `[hi:lo]` of a natural number (R8). -/
def fieldOf (v hi lo : Nat) : Nat := v / 2 ^ lo % 2 ^ (hi + 1 - lo)

/-- A truth value as one bit. -/
def b2n (b : Bool) : Nat := if b then 1 else 0

/-- Bits, the first at position 0, as a number. -/
def bitsN : List Bool → Nat
  | [] => 0
  | b :: bs => b2n b + 2 * bitsN bs

/-- The two's complement reading of an `n`-bit number. -/
def sextN (n v : Nat) : Int := if v < 2 ^ (n - 1) then (v : Int) else (v : Int) - (2 ^ n : Nat)

/-- Replace element `i` of a list by a function of it. -/
def updAt {α : Type} (l : List α) (i : Nat) (f : α → α) : List α := l.modify i f

end Sys2Proof
end

