-- ==== Sys2Proof/Syntax.lean ====
section
/-! DEFINITION. The commands of the block: one constructor of `Instr` for each row of the opcode table.
A Corlith command carries the packet that brings it (R58); every other row carries the module time at which it
happens and what the outside world brings to it (a measured voltage, a received frame, a strap reading). -/
namespace Sys2Proof

/-- The way a packet reaches the module (R63). The port number follows from it; on Ethernet it follows from the session. -/
inductive Via where
  | mailbox (partition : Nat)
  | eth (port : Nat) (ip : Nat) (udp : Nat)
  | svc
  | can (channel : Nat)
  | peer (index : Nat)
  | summit
deriving DecidableEq, Repr, Inhabited

/-- One command packet as it arrives (R58, R59). The opcode is the row's own. `rxLength` is the received length that
R74 measures; `crc` is the received trailer; `payload` are the raw payload bytes. -/
structure Packet where
  time : Nat := 0
  via : Via := .svc
  tag : Nat := 0
  flags : BitVec 8 := 0
  target : BitVec 32 := 0
  length : Nat := 0
  seq : BitVec 16 := 0
  session : BitVec 32 := 0
  payload : List Byte := []
  rxLength : Nat := 0
  crc : BitVec 32 := 0
  /-- the UDP destination port of a datagram (R65) -/
  dstPort : Nat := 47301
deriving DecidableEq, Repr, Inhabited

/-- The opcodes of the commands sent to the module (R62, R85), one per packet row of the table. -/
inductive Op where
  | sysIdent
  | sysStatus
  | sysSessionOpen
  | sysSessionClose
  | sysCreditSet
  | sigRead
  | sigWrite
  | sigRouteSet
  | sigForce
  | funConfig
  | funEnable
  | funDisable
  | funSourceSet
  | funState
  | funClear
  | funInterlockSet
  | funAutoSet
  | culConfig
  | culStageSet
  | culSensorSet
  | culStart
  | culStop
  | culStatus
  | culLedgerRead
  | culCalRun
  | senChannelSet
  | senClassWrite
  | senTrain
  | senChannelRead
  | senCropSet
  | senYieldConfig
  | senCalLoad
  | senStatus
  | mapFieldOpen
  | mapFieldClose
  | mapConfig
  | mapTileRead
  | mapStatus
  | mapExport
  | mapExportRead
  | gdeConfig
  | gdeLineWrite
  | gdeLineSelect
  | gdeEngage
  | gdeDisengage
  | gdeStatus
  | gdeWasCal
  | lpeLoopConfig
  | lpeLoopRun
  | lpeBankWrite
  | lpeBankSwap
  | lpeLoopStatus
  | lpeTraceSet
  | lpeTraceRead
  | lpeEngineStatus
  | vlvConfig
  | vlvDrive
  | vlvStatus
  | vlvClear
  | vlvGroupStatus
  | fioDiConfig
  | fioAiConfig
  | fioDoConfig
  | fioDoClear
  | fioStatus
  | gnsConfig
  | gnsRtcmPut
  | gnsRawLatch
  | gnsTest
  | gnsRestart
  | gnsStatus
  | gnsChannelRead
  | timConfig
  | timStatus
  | timConvert
  | timEpochSet
  | fusConfig
  | fusFrameSet
  | fusFrameRead
  | fusGroupSet
  | fusSourceSet
  | fusStatus
  | fusTrackRead
  | camLinkSet
  | camPipeSet
  | camPairSet
  | camFsyncSet
  | camSensorWrite
  | camVaSet
  | camStatus
  | canConfig
  | canBufferSet
  | canFilterSet
  | canPower
  | canRecover
  | canTtSet
  | canClaim
  | canStatus
  | fltConfig
  | fltKeySet
  | fltMemberSet
  | fltHazardSet
  | fltLine
  | fltUnload
  | fltStatus
  | colPartitionConfig
  | colInputSet
  | colAdmit
  | colPartitionRun
  | colStatus
  | colPartitionStatus
  | colRoleReturn
  | colInject
  | memStatus
  | memScrubConfig
  | memRegionSet
  | memDeviceFail
  | memRemapClear
  | memInject
  | dmaChannelSet
  | dmaStatus
  | crnStatus
  | crnCursorOpen
  | crnRead
  | crnCursorClose
  | crnClear
  | crnAppWrite
  | updBegin
  | updPiece
  | updStatus
  | updMissing
  | updInstall
  | updCommit
  | updAbort
  | pwrSet
  | pwrConfig
  | pwrStatus
  | sumStatus
  | sumConfig
  | sumKeySet
  | sumWindowText
deriving DecidableEq, Repr, Inhabited


/-- What stage 1 of a supply-on start-up finds (R19, R501, R512): three strap samples, the level of `IGN`, and whether
Summit's self-test passes. -/
structure BootMeas where
  straps : List Nat := [7, 7, 7]
  ign : Bool := false
  summitOk : Bool := true
deriving DecidableEq, Repr, Inhabited

/-- What stages 3 to 8 of a start-up find (R512, R513): DRAM channels that failed, valve channels, analogue inputs and GNSS
ports out of calibration, how Cairn was mounted (0 from a valid copy, 1 rebuilt, else not), and whether the active image set
is authentic. -/
structure SelfTest where
  dram : List Nat := []
  valves : List Nat := []
  analogue : List Nat := []
  gnss : List Nat := []
  cairn : Nat := 0
  image : Bool := true
deriving DecidableEq, Repr, Inhabited

/-- What Summit measures on a logic supply path (R496): volts, reverse current in A, and whether its protection passes its
self-test. -/
structure PathMeas where
  volts : Rat := 24
  reverse : Rat := 0
  protectOk : Bool := true
deriving DecidableEq, Repr, Inhabited

/-- What Summit's sensors show (R519 to R523): 24 temperatures in °C, none for an open sensor; humidity in %RH; logic input
current in A; hold-up bank in V. -/
structure HealthMeas where
  temps : List (Option Rat) := List.replicate 24 (some 25)
  rh : Rat := 40
  logicA : Rat := 0
  bankV : Rat := 48
deriving DecidableEq, Repr, Inhabited

/-- A guidance line as the acting manager tells the deputy (R180): its number, type, vertices in mm east and north, spacing, radius, name. -/
structure LineNote where
  no : Nat
  type : Nat
  verts : List (Int × Int) := []
  spacing : BitVec 32 := 0
  radius : BitVec 32 := 0
  name : List (BitVec 8) := []
deriving DecidableEq, Repr, Inhabited

/-- The open field as the acting manager tells the deputy (R174). -/
structure FieldNote where
  fieldId : Nat
  cell : Nat
  origin : BitVec 64 × BitVec 64 × BitVec 64
  crop : Nat
  /-- the field's guidance lines (R180) -/
  lines : List LineNote := []
deriving DecidableEq, Repr, Inhabited

/-- A tile that the manager copies to its deputy (R173): its field, its header and its cells, 64 bytes each, by number. -/
structure TileCopy where
  fieldId : Nat
  cell : Nat
  origin : BitVec 64 × BitVec 64 × BitVec 64
  crop : Nat
  te : Int
  tn : Int
  generation : Nat
  cells : List (Nat × List Byte)
deriving DecidableEq, Repr, Inhabited

/-- One chunk of a guidance line as another member sends it (R396, R399). The spec gives its 64-byte header no layout: these are the
things a line has. -/
structure LineChunk where
  fieldId : Nat
  /-- latitude, longitude, height of the field origin -/
  origin : BitVec 64 × BitVec 64 × BitVec 64
  line : Nat
  type : Nat
  spacing : BitVec 32
  radius : BitVec 32
  name : List Byte
  total : Nat
  first : Nat
  verts : List (Int × Int)
deriving DecidableEq, Repr, Inhabited

/-- One record of a fleet datagram (R394, R396). -/
inductive FleetRecord where
  | body (type : Nat) (bytes : List Byte)
  | line (c : LineChunk)
deriving DecidableEq, Repr, Inhabited

/-- A fleet datagram as plaintext (R394): the header's fields and the records. -/
structure FleetDatagram where
  magic : Nat := 0x464D424F
  version : Nat := 1
  sender : Nat := 0
  massif : Nat := 0
  seq : Nat := 1
  records : List FleetRecord := []
deriving DecidableEq, Repr, Inhabited

/-- One inertial sensor over 1 ms of the grid (R327): whether its self-test passes and no axis saturates, its rates in °/s and
its accelerations in m/s². -/
structure ImuSample where
  ok : Bool := true
  gyro : List Rat := [0, 0, 0]
  acc : List Rat := [0, 0, 0]
deriving DecidableEq, Repr, Inhabited

/-- What fusion measures and what its filter holds at a 1 ms instant (R327 to R332): the inertial sensors, the rates and
accelerations that the filter predicts from GNSS alone, the local vertical in sensor axes, the part of the accelerations along
frame 0 x and y that gravity makes, the slip estimate, the inertial velocity along frame 0 x in m/s, and whether roll and pitch
are levelled. -/
structure FusInstant where
  imus : List ImuSample := [{}, {}, {}]
  witness : ImuSample := {}
  up : List Rat := [0, 0, 1]
  gravity : Rat × Rat := (0, 0)
  slip : Rat := 0
  vInertial : Rat := 0
  levelled : Bool := false
deriving DecidableEq, Repr, Inhabited

/-- The filter's pose at a 10 ms instant (R331, R333, R340): degrees, metres and m/s. -/
structure PoseEst where
  lat : Rat := 0
  lon : Rat := 0
  height : Rat := 0
  theta : Rat := 0
  pitch : Rat := 0
  roll : Rat := 0
  speed : Rat := 0
  ve : Rat := 0
  vn : Rat := 0
  vu : Rat := 0
  hacc : Rat := 0
  headAcc : Rat := 0
deriving DecidableEq, Repr, Inhabited

/-- One detection of a block (R335). -/
structure Detection where
  cls : Nat := 0
  conf : Nat := 0
  member : Nat := 0xFF
  velValid : Bool := false
  x : Rat := 0
  y : Rat := 0
  sx : Rat := 0
  sy : Rat := 0
  vx : Rat := 0
  vy : Rat := 0
deriving DecidableEq, Repr, Inhabited

/-- What a camera link shows at an evaluation (R342): whether the receiver is locked and trained, whether its self-test passes
and whether its reference is good. -/
structure LinkMeas where
  lock : Bool := true
  selfTest : Bool := true
  reference : Bool := true
deriving DecidableEq, Repr, Inhabited

/-- A CSI-2 packet as the receiver decodes it (R343, R345): a long packet's pixel codes, and whether both line buffers of its
route are full as it arrives. -/
structure CsiPacket where
  vc : Nat
  dt : Nat
  eccBad : Bool := false
  crcBad : Bool := false
  full : Bool := false
  pixels : List Nat := []
deriving DecidableEq, Repr, Inhabited

/-- What the running job of the vision accelerator computes (R356): lateral offsets, confidences and crop heights of the crop
edge; kernels, broken kernels, MOG area and frame spacing; or detections in frame 0. -/
inductive VaResult where
  | edge (offsets : List F32) (confs : List Nat) (heights : List F32)
  | kernels (kernels broken mog spacing : F32)
  | persons (dets : List Detection)
deriving DecidableEq, Repr, Inhabited

/-- What one tracking channel measures at an epoch (R288, R303): its locks, its measurements, its residual over its
expected deviation (R294), and the other signal of its satellite with the departure of their code difference. -/
structure ChObs where
  ch : Nat
  codeLock : Bool := true
  carrierLock : Bool := true
  halfCycle : Bool := true
  towKnown : Bool := true
  /-- 0.01 dB-Hz -/
  cn0 : Nat
  txTime : Nat
  carrier : Int
  doppler : Int
  lockMs : Nat
  /-- 0.001 chip -/
  mpEst : Int := 0
  slip : Bool := false
  residual : Rat := 0
  pair : Option (Nat × Rat) := none
deriving DecidableEq, Repr, Inhabited

/-- A visible signal (R288): port, signal, satellite, GLONASS k + 7, elevation in degrees. -/
structure VisSat where
  port : Nat
  signal : Nat
  svid : Nat
  fcn : Nat := 0
  elevation : Rat
deriving DecidableEq, Repr, Inhabited

/-- A solution as computed from one antenna: place, velocity and 95 % radii. -/
structure GnssSol where
  lat : Rat
  lon : Rat
  height : Rat
  ve : Rat := 0
  vn : Rat := 0
  vu : Rat := 0
  hAcc : Rat := 0
  vAcc : Rat := 0
  /-- carrier ambiguities are fixed with SSR corrections -/
  pppFixed : Bool := false
  /-- carrier ambiguities are fixed and validated by the ratio test with base observations -/
  rtkFixed : Bool := false
deriving DecidableEq, Repr, Inhabited

/-- What the baseband's signal processing yields at one epoch (R290 to R297). -/
structure GnssEpoch where
  obs : List ChObs := []
  visible : List VisSat := []
  ga1 : Option GnssSol := none
  /-- with `ga3_role` 2 translated to the GA1 frame (R293) -/
  ga3 : Option GnssSol := none
  /-- heading, pitch and heading accuracy in degrees, with fixed ambiguities (R292) -/
  heading : Option (Rat × Rat × Rat) := none
  /-- common satellites and resolved baseline length in m -/
  common : Nat := 0
  baseline : Rat := 0
  gpsNs : Int := 0
  gpsFrac : Rat := 0
  /-- module-time rate relative to GPS time, minus 1, ppb -/
  rate : Rat := 0
  /-- Galileo, BeiDou, GLONASS and QZSS time minus GPS time, ns -/
  interSystem : List Rat := [0, 0, 0, 0]
  /-- each system's clock offset less its stored inter-system offset, against the time base's clock model, ns (R295) -/
  sysClock : List (Nat × Rat) := []
  /-- whether the geometry predicts a spread of the GA1-GA2 single differences above 0.2 cycle (S3) -/
  spread : Bool := false
  /-- broadcast ephemeris changed without a change of issue of data (S4) -/
  ephemChanged : Bool := false
  /-- the GPS time of the epoch instant that the decoded time of week gives, ns (S4) -/
  decoded : Option Int := none
  /-- leap-second count decoded from the navigation data, and an announced leap second: the GPS second at which it takes
  effect and the count from then on (R310) -/
  leap : Option Int := none
  leapNext : Option (Int × Int) := none
deriving DecidableEq, Repr, Inhabited

/-- A demodulated navigation unit (R300): `parity` is the outcome of its check, `stamp` the arrival of its first bit. -/
structure NavUnit where
  kind : Nat
  parity : Nat
  bits : Nat
  data : List Byte
  stamp : Nat
deriving DecidableEq, Repr, Inhabited

/-- An IEEE 802.1AS message exchanged (R30, R317). -/
inductive GptpMsg where
  /-- received from the manager: its module time minus this module's, its mapping O and L, and whether the worker now has
  time lock -/
  | sync (offset : Int) (mapping : Option Int) (leap : Int) (lock : Bool)
  /-- an announce received: the grandmaster's identity -/
  | announce (gm : Nat)
  /-- an announce that the module sends on an ETH port -/
  | send (eth : Nat)
deriving DecidableEq, Repr, Inhabited

/-- A frame on a CAN bus (R363, R367). `fmt`: 0 Classical, 1 FD, 2 XL; `sof` is the stamp of its start. -/
structure CanFrame where
  id : Nat
  ide : Bool := false
  rtr : Bool := false
  fmt : Nat := 0
  brs : Bool := false
  esi : Bool := false
  dlc : Nat := 0
  sdt : Nat := 0
  vcid : Nat := 0
  sec : Bool := false
  af : Nat := 0
  data : List Byte := []
  sof : Nat := 0
deriving DecidableEq, Repr, Inhabited

/-- How a transmit attempt ends (R371, R379), with the stamp of its start of frame. -/
inductive TxResult where
  | sent (sof : Nat)
  | lost
  | ackError
  | error
deriving DecidableEq, Repr, Inhabited

/-- A transmit attempt that has ended (R365, R371): how, and the loop delay measured at the edge of an FD or XL frame, in `BCLK` cycles. -/
structure TxAttempt where
  result : TxResult := .lost
  delay : Nat := 0
deriving DecidableEq, Repr, Inhabited

/-- A mailbox slot as the module reads it (R64): its bytes, and whether one of its lines is poisoned. -/
structure MailSlot where
  bytes : List Byte := []
  poisoned : Bool := false
deriving DecidableEq, Repr, Inhabited

/-- What the beam shows since the last decision (R547): the readings of the current of `YP_PWR` in mA with their module times, and when the
level of `YP_DET` last changed. -/
structure BeamMeas where
  power : List (Nat × Rat) := []
  edge : Nat := 0
deriving DecidableEq, Repr, Inhabited

/-- What the bridge shows over a block (R547): the excitation current in mA, and by how much the sense lines depart from the excitation in %. -/
structure BridgeMeas where
  amps : Rat := 0
  depart : Rat := 0
deriving DecidableEq, Repr, Inhabited

/-- What a sleeping channel sees on its bus (R382). -/
inductive WakeSeen where
  | dominant (ns : Nat)
  | frame (id : Nat) (ide : Bool) (dlc : Nat) (data : Nat)
  | fdFrame
  | badFrame
deriving DecidableEq, Repr, Inhabited

/-- A reference message of the time-triggered schedule (R383). -/
inductive TtRef where
  | send
  | received (cycleCount : Nat) (priority : Nat)
  | watchExpired
deriving DecidableEq, Repr, Inhabited

/-- An address-claim message or a request for address claimed (R385). -/
inductive ClaimMsg where
  | claimed (address : Nat) (name : Nat)
  | request
deriving DecidableEq, Repr, Inhabited

/-- What an analogue input shows over 1 ms (R273, R274): its 20 samples in V or mA, and the temperature of its group's front end
in °C. -/
structure AiMeas where
  samples : List Rat
  temp : Rat := 25
deriving DecidableEq, Repr, Inhabited

/-- The mean of a millisecond's samples (R273). -/
def AiMeas.mean (m : AiMeas) : Rat := m.samples.sum / (m.samples.length : Rat)
/-- The lowest sample of a millisecond. -/
def AiMeas.low (m : AiMeas) : Rat := m.samples.foldl (fun a x => if x < a then x else a) (m.samples.headD 0)
/-- The highest sample of a millisecond. -/
def AiMeas.high (m : AiMeas) : Rat := m.samples.foldl (fun a x => if a < x then x else a) (m.samples.headD 0)

/-- What a digital output shows at a 10 µs instant (R276): whether it limits its current, load current in A, pin voltage, junction
temperature. -/
structure DoMeas where
  limiting : Bool := false
  amps : Rat := 0
  volts : Rat := 0
  junction : Rat := 25
deriving DecidableEq, Repr, Inhabited

/-- What the sensing of a valve channel shows at a 20 µs instant (R238, R251, R254): the coil-current samples of the last
20 µs in A, at 5 MS/s, the hotter junction in °C, and the readings of a ratiometric position input since the last instant: its voltage and
its supply's, at 100 kS/s. -/
structure ValveMeas where
  samples : List Rat := []
  junction : Rat := 25
  pos : List (Rat × Rat) := []
deriving DecidableEq, Repr, Inhabited

/-- What a supply group's sensing shows (R257): the input voltage, the input current over the last 10 µs, and whether its internal supply or
reference has failed. -/
structure GroupMeas where
  volts : Rat
  amps : Rat := 0
  refFailed : Bool := false
deriving DecidableEq, Repr, Inhabited

/-- A packet discarded without reply: its received length cannot be trusted (R74), or it is a datagram of no session on
ETH2 or ETH3 (R549). -/
inductive Discard where
  | untrusted
  | noSession (eth : Nat)
  /-- a packet as its transport delivers it, whatever opcode it carries (R62, R73): a datagram, a decoded message, or a frame of `SVC` with
  its byte stuffing (R66); for a datagram its destination port -/
  | frame (via : Via) (dstPort : Nat) (bytes : List Byte)
deriving DecidableEq, Repr, Inhabited

/-- A record as it arrives on ETH0 or ETH1 (R52, R54), with the sender's module time minus this module's (R30). -/
structure RouteRecord where
  handle : Nat
  value : Nat
  stamp : Nat
  confidence : Nat
  quality : Nat
  ty : Nat
  seq : Nat
  source : Nat
  blockLen : Nat := 0
  published : Nat
  offset : Int := 0
deriving DecidableEq, Repr, Inhabited

/-- What another module reports of itself over ETH0 and ETH1 (R21, R24, R434). -/
structure PeerReport where
  index : Nat
  serial : BitVec 64
  machine : Nat := 0xFF
  /-- it acts as manager of the machine -/
  acting : Bool := false
  /-- its hardware issue, for the check of R489 -/
  hwIssue : Nat := 0
  /-- its power state code (R492) -/
  power : Nat := 2
  /-- the image identity of its active set (R493, R494) -/
  image : Nat := 0
deriving DecidableEq, Repr, Inhabited

/-- A partition's configuration (`COL_PARTITION_CONFIG`, R408 to R411). -/
structure PartCfg where
  /-- 0-6 -/
  period : Nat := 0
  pair : Nat := 0xFF
  critical : Bool := false
  supervisory : Bool := false
  shedRank : Nat := 0
  wcet : Nat := 10
  dirtyMax : Nat := 64
  stateSize : Nat := 64
  journal : Nat := 4
  checkpoint : Nat := 0
  image : Nat := 0
deriving DecidableEq, Repr, Inhabited

/-- A critical function as its owner's module mirrors it (R103): the parameters of its `FUN_CONFIG`, the codes of its state, source and
degraded mode, its effective set-point and its trim. -/
structure FnMirror where
  fn : Nat
  params : List Byte
  st : Nat
  source : Nat
  dm : Option Nat
  eff : BitVec 32
  trim : Rat
deriving DecidableEq, Repr, Inhabited

/-- A mirrored commit as it arrives (R430): the generation's dirty lines as offsets in the state region. -/
structure MirrorRecord where
  partition : Nat
  period : Nat
  generation : Nat
  lines : List (Nat × List Byte) := []
  /-- Couloir's state, `k_cam` and mean grain flow of the last 10 s (R137) -/
  couloir : Option (Nat × BitVec 32 × BitVec 32) := none
  /-- the period's output record (R417), of no use to the deputy, which discards it (R432) -/
  outputs : List (Nat × BitVec 32 × List (BitVec 8)) := []
  /-- the partition's critical functions (R103) -/
  fns : List FnMirror := []
  /-- the open field, if any (R174) -/
  field : Option FieldNote := none
  /-- tiles flushed since (R173) -/
  tiles : List TileCopy := []
deriving DecidableEq, Repr, Inhabited

/-- A load or a store by an agent (R441): `agent` is its requester ID (R57), `partition` the partition a core pair runs. -/
structure MemAccess where
  agent : Nat
  partition : Option Nat := none
  addr : Nat
  size : Nat
  /-- the bytes of a store; none for a load -/
  store : Option (List Byte) := none
  /-- a store that carries the poison mark: a whole line, or words of a register block (R212, R375, R444) -/
  mark : Bool := false
  /-- symbols in error that this access meets in the code word, by device (R437) -/
  pat : List (Nat × Nat) := []
  /-- stored bits in error that it meets in SRAM or MRAM (R449, R450) -/
  bits : Nat := 0
deriving DecidableEq, Repr, Inhabited

/-- A signal declaration of the machine configuration (R45, R46). -/
structure DeclItem where
  localNo : Nat
  producers : List Nat
  ty : Nat
  unit : String := ""
  fresh : Nat := 0
deriving DecidableEq, Repr, Inhabited

/-- A route of the machine configuration (R50). -/
structure RouteItem where
  handle : Nat
  isImport : Bool
  modules : Nat := 0
  massif : Bool := false
  onChange : Bool := false
  prio : Nat := 0
  period : Nat := 0
  fresh : Nat := 0
  policy : Nat := 0
  default : BitVec 64 := 0
deriving DecidableEq, Repr, Inhabited

/-- The machine configuration that the host loads into the manager (R17, R23, R45, R46, R50, R430). -/
structure MachineConfig where
  machine : Nat
  /-- the indices named as deputy; more than one is refused (R23) -/
  deputies : List Nat := []
  decls : List DeclItem := []
  routes : List RouteItem := []
  /-- how many routes it gives each other module (R50) -/
  otherRoutes : List Nat := []
  /-- the Corlith UDP port (R65) -/
  udpPort : Nat := 47301
  /-- block size and STmin in ms of CAN channels that carry Corlith (R67): channel, block size, STmin -/
  iso : List (Nat × Nat × Nat) := []
  /-- the manager's critical partitions, for the module that is deputy (R430) -/
  standing : List (Nat × PartCfg) := []
  /-- index of the yield module (R141) -/
  yieldIndex : Option Nat := none
  /-- functions of other modules that drive points of this one (R88): function and the parameters of its `FUN_CONFIG` -/
  copies : List (Nat × List Byte) := []
  /-- configuration commands of the machine configuration that this module is given to hold, in order: opcode, target and
  parameters (R89, R137, R180, R392) -/
  held : List (Op × BitVec 32 × List Byte) := []
deriving DecidableEq, Repr, Inhabited

/-- One command of the block for each row of the opcode table. `t` is the module time of the event in ns. -/
inductive Instr where
  /-- R4: Returns the part number, serial number, latched index, role, machine number, image set and firmware version. -/
  | sysIdent (p : Packet)
  /-- R22: Returns power state, readiness, role, flags, module time, credit counts and failure counts. -/
  | sysStatus (p : Packet)
  /-- R69: Opens a half-open authenticated session on ETH2, ETH3 or SVC and derives its session key. -/
  | sysSessionOpen (p : Packet)
  /-- R71: Closes the carrying session; its in-flight commands end without reply and release their credits. -/
  | sysSessionClose (p : Packet)
  /-- R76: Sets a port's reserved credit count and credit limit. -/
  | sysCreditSet (p : Packet)
  /-- R75: A reply packet arriving at the module is matched to an originated packet with a matching tag, or discarded and counted. -/
  | replyPacket (t : Nat) (p : Packet) (opcode status : Nat)
  /-- R74: A packet whose length cannot be trusted, or an unsessioned datagram, is discarded without reply and counted. -/
  | packetDiscard (t : Nat) (d : Discard)
  /-- R78: A command not started within its priority's queue limit ends TIMEOUT with no effect. -/
  | queueTimeout (t : Nat) (port tag : Nat)
  /-- R69: A half-open session that has had no accepted command for 2 s is closed. -/
  | halfOpenExpiry (t : Nat) (port : Nat)
  /-- R72: Once per second in which authentication failures occurred, a Cairn event is written. -/
  | authFailReport (t : Nat)
  /-- R37: Returns one whole Ridgeline record, POISONED where its line is poisoned. -/
  | sigRead (p : Packet)
  /-- R48: Publishes a record, or holds a Class P write for release after the Col commit. -/
  | sigWrite (p : Packet)
  /-- R50: Adds, replaces or removes an export or import route-table entry. -/
  | sigRouteSet (p : Packet)
  /-- R40: Sets or releases a service override forcing a local signal to a value with quality FORCED. -/
  | sigForce (p : Packet)
  /-- R40: A forced signal is republished with its forced value at least every 10 ms. -/
  | forcedPublish (t : Nat)
  /-- R40: A force whose hold has elapsed ends, the record turns STALE and a Cairn event of cause 2 is written. -/
  | forceHoldElapsed (t : Nat)
  /-- R50: An accepted route takes effect at the next 1 ms grid instant. -/
  | routeEffective (t : Nat)
  /-- R53: An export whose period has come, or whose signal changed, is sent on ETH0 and ETH1. -/
  | routeExport (t : Nat)
  /-- R52: A received record that is newer by seq is converted to local time and stored; an older one is discarded. -/
  | routeRecordReceived (t : Nat) (r : RouteRecord)
  /-- R55: At stale_at the record becomes STALE, or on a default-policy route the default is stored as SUBSTITUTED. -/
  | staleAtReached (t : Nat)
  /-- R17: The host loads the machine configuration into the manager, which distributes the machine number and applies mode changes. -/
  | machineConfigLoad (t : Nat) (c : MachineConfig)
  /-- R89: Configures an OFF function and copies the configuration to every module carrying a bound point. -/
  | funConfig (p : Packet)
  /-- R98: Moves a function toward ENABLING, reverses a stop, or is held until switch-off completes. -/
  | funEnable (p : Packet)
  /-- R100: Starts a ramped or immediate shut-down, or cancels a pending enable. -/
  | funDisable (p : Packet)
  /-- R91: Selects the set-point source from the next sample and ends any override. -/
  | funSourceSet (p : Packet)
  /-- R97: Returns a function's state, source, degraded mode, flags and values. -/
  | funState (p : Packet)
  /-- R98: Moves a FAULTED function whose points are no longer latched to OFF. -/
  | funClear (p : Packet)
  /-- R95: Binds the six interlock classes to Boolean signals and sets asw_angle. -/
  | funInterlockSet (p : Packet)
  /-- R105: Sets the crop-flow controller mode and targets from the next 1 ms instant. -/
  | funAutoSet (p : Packet)
  /-- R93: Each function sample evaluates interlocks and triggers, starts due commands, reads the source and conditions the set-point. -/
  | functionSample (t : Nat)
  /-- R96: A class unsatisfied for il_hold starts a shut-down or freezes the set-point with IL_HOLD. -/
  | interlockHoldExpiry (t : Nat)
  /-- R98: An ENABLING function not within tol by enable_timeout enters DEGRADED. -/
  | enableTimeout (t : Nat)
  /-- R98: With every trigger clear for recover_hold and auto_recover set, a DEGRADED function returns to ACTIVE. -/
  | recoverHold (t : Nat)
  /-- R99: 2 s after the effective set-point reaches rest, the point of no return is reached whatever the actual value. -/
  | pnrTimeout (t : Nat)
  /-- R99: When every point's switch-off has completed, a FINISHING function goes OFF or runs its pending enable. -/
  | switchOffComplete (t : Nat) (ack : Bool)
  /-- R106: ov_hold after the last operator change, the override ends and AUTO resumes if auto_resume is set. -/
  | overrideEnd (t : Nat)
  /-- R136: Stores the Couloir configuration, refused under R119 when the history is too short. -/
  | culConfig (p : Packet)
  /-- R119: Stores one stage's speed source, length, v_min, fallback, dispersion and side lengths. -/
  | culStageSet (p : Packet)
  /-- R121: Stores a sensor entry connecting a signal to a slot at a path position. -/
  | culSensorSet (p : Packet)
  /-- R136: Clears the ledger and moves Couloir to RUNNING. -/
  | culStart (p : Packet)
  /-- R136: Drains Couloir or stops it at once, closing open parcels with STOPPED. -/
  | culStop (p : Packet)
  /-- R136: Returns Couloir's state, counters, chain delays and flags. -/
  | culStatus (p : Packet)
  /-- R115: Returns up to 7 ledger entries from a parcel number. -/
  | culLedgerRead (p : Packet)
  /-- R140: Correlates the predicted feederhouse flow with a sensor over a window and proposes a stage length. -/
  | culCalRun (p : Packet)
  /-- R140: At the end of a calibration window the result is computed and the command ends. -/
  | calWindowEnd (t : Nat)
  /-- R120: At each tick start Couloir snapshots inputs, advances odometers, closes, attributes, allocates and publishes forecasts. -/
  | couloirTick (t : Nat)
  /-- R130: The cut position is written from the section pose publication, or extrapolated when pose_wait expires. -/
  | poseWait (t : Nat)
  /-- R111: An unusable stage speed held for hold changes to v_fallback and sets FALLBACK. -/
  | velocityHoldExpiry (t : Nat)
  /-- R126: A parcel open for max_age closes with AGED. -/
  | parcelAged (t : Nat)
  /-- R137: One chain delay after a deputy takeover the refill flag clears and forecasts stop adding the mirrored flow. -/
  | refillEnd (t : Nat)
  /-- R143: A filtered Chanter sample crosses thr_on and an impact capture starts with its onset stamp. -/
  | impactDetected (t : Nat) (ch age : Nat) (before : List Int) (crossing : Int) (after : List Int)
  /-- R142: At each report boundary Chanter counts, corrected kernels and yield amounts are published. -/
  | reportInterval (t : Nat) (m : List (Rat × Nat))
  /-- R155: Every 100 ms the flow sources are compared, voted out, rejoined or disputed. -/
  | flowDecision (t : Nat) (beam : BeamMeas)
  /-- R152: Each 1 ms block of bridge samples yields a plate flow. -/
  | plateBlock (t : Nat) (samples : List Rat) (bridge : BridgeMeas)
  /-- R152: A paddle passing the beam yields a blocked time and a volume. -/
  | paddlePass (t : Nat) (tb : Rat)
  /-- R152: Each moist_period with the cell full yields a moisture value. -/
  | moistureSample (t : Nat) (c cEmpty cRef temp : Rat) (readings : List (Nat × Rat)) (ok : Bool)
  /-- R153: After 5 s empty and running, the plate tare is re-taken over 2 s or TARE_JUMP is raised. -/
  | tareRetake (t : Nat) (block : List Rat)
  /-- R146: Stores a Chanter channel's configuration. -/
  | senChannelSet (p : Packet)
  /-- R144: Installs a classifier table and ring-down at the next boundary. -/
  | senClassWrite (p : Packet)
  /-- R149: Opens a collection phase, finishes training with a new table, or aborts it. -/
  | senTrain (p : Packet)
  /-- R145: Returns a channel's diagnostic state, totals and dead-time values. -/
  | senChannelRead (p : Packet)
  /-- R152: Stores a crop profile. -/
  | senCropSet (p : Packet)
  /-- R152: Stores the yield-sensing configuration. -/
  | senYieldConfig (p : Packet)
  /-- R158: Starts, ends, weighs, applies or clears plate calibration loads. -/
  | senCalLoad (p : Packet)
  /-- R155: Returns source states, masks, fused values and tare. -/
  | senStatus (p : Packet)
  /-- R161: Creates or reopens a field and sets the fusion map-frame origin. -/
  | mapFieldOpen (p : Packet)
  /-- R160: Flushes every dirty tile and closes the field. -/
  | mapFieldClose (p : Packet)
  /-- R165: Stores the section widths and flush period. -/
  | mapConfig (p : Packet)
  /-- R163: Returns cells of a tile from the snapshot or from flash. -/
  | mapTileRead (p : Packet)
  /-- R160: Returns the map's field, cache and parcel counters. -/
  | mapStatus (p : Packet)
  /-- R176: Builds an ISO 11783-10 or tile-format export in the export area. -/
  | mapExport (p : Packet)
  /-- R176: The export build completes and MAP_EXPORT ends DONE. -/
  | exportBuilt (t : Nat)
  /-- R177: Returns bytes of the export area. -/
  | mapExportRead (p : Packet)
  /-- R171: A tile loaded from flash lets its waiting parcels be written at the next tick. -/
  | tileLoadComplete (t : Nat) (te tn : Int)
  /-- R173: A dirty tile due under flush_period is written to the older flash generation and copied to the deputy. -/
  | tileFlush (t : Nat)
  /-- R196: Stores the guidance configuration and moves G from OFF to STANDBY. -/
  | gdeConfig (p : Packet)
  /-- R181: Begins, appends to, commits or deletes a guidance line. -/
  | gdeLineWrite (p : Packet)
  /-- R183: Selects a line and pass from the next sample. -/
  | gdeLineSelect (p : Packet)
  /-- R195: An engage request engages G, reverses a release, or is held until switch-off completes. -/
  | gdeEngage (p : Packet)
  /-- R194: Releases G by ramp or at once, or cancels a pending request. -/
  | gdeDisengage (p : Packet)
  /-- R191: Returns guidance state, path, errors and blockers. -/
  | gdeStatus (p : Packet)
  /-- R190: Records a wheel-angle calibration point, applies or clears the calibration. -/
  | gdeWasCal (p : Packet)
  /-- R190: After 1 s of averaging a calibration point is recorded and the command ends. -/
  | wasPointRecorded (t : Nat)
  /-- R192: Each 10 ms guidance sample snapshots inputs, evaluates triggers, fuses angles, starts commands and computes the law. -/
  | lawSample (t : Nat) (ready : Bool)
  /-- R193: When coast or coast_dist is exceeded, COASTING ends with release cause 5. -/
  | coastExpiry (t : Nat)
  /-- R195: At the end of release_ramp the point of no return is reached and the paths are switched off. -/
  | releaseRampEnd (t : Nat)
  /-- R195: When both off-times end with spools neutral, or after 300 ms, FINISHING ends. -/
  | gdeSwitchOffComplete (t : Nat)
  /-- R200: Allocates a partition loop in IDLE. -/
  | lpeLoopConfig (p : Packet)
  /-- R219: Runs or stops a partition loop. -/
  | lpeLoopRun (p : Packet)
  /-- R211: Writes bytes to a loop's bank and its shadow. -/
  | lpeBankWrite (p : Packet)
  /-- R210: Requests a bank swap, taking effect at the loop's next boundary or after the Col commit. -/
  | lpeBankSwap (p : Packet)
  /-- R232: Returns a loop's status, owner, class and values. -/
  | lpeLoopStatus (p : Packet)
  /-- R226: Configures and arms, releases or triggers a trace unit. -/
  | lpeTraceSet (p : Packet)
  /-- R226: Returns samples from a completed capture. -/
  | lpeTraceRead (p : Packet)
  /-- R229: Returns engine status, mapping and takeover count. -/
  | lpeEngineStatus (p : Packet)
  /-- R210: A write to LOOP_CTRL.SWAP requests a bank swap, deferred to the period's commit for a partition. -/
  | loopCtrlSwap (t : Nat) (loop partition value : Nat)
  /-- R226: A write of ARM arms a trace unit or starts its stream. -/
  | trcArm (t : Nat) (traceUnit partition : Nat)
  /-- R226: A write of SWTRIG is a software trigger of the trace unit. -/
  | trcSwtrig (t : Nat) (traceUnit partition : Nat)
  /-- R202: At each sample instant a loop latches inputs, applies swaps, selects its region and evaluates the law. -/
  | loopSample (t : Nat) (loop : Nat)
  /-- R217: A Class P loop's output is released at exactly t + T. -/
  | outputRelease (t : Nat) (loop : Nat)
  /-- R213: A reference pulse edge updates the revolution period for the repetitive term. -/
  | repPulse (t : Nat) (di : Nat)
  /-- R220: A lockstep mismatch, memory error or missed deadline excludes an engine and starts spare loading. -/
  | engineFault (t : Nat) (physical : Nat)
  /-- R222: The spare finishes loading the shadow, re-executes unreleased samples and resumes the loops. -/
  | takeoverComplete (t : Nat) (logical : Nat)
  /-- R224: Every 1 ms the spare engine evaluates a reference loop and is excluded on a wrong result. -/
  | spareReferenceCheck (t : Nat) (good : Bool)
  /-- R247: Stores a valve channel's configuration, mode changes waiting for the next machine configuration. -/
  | vlvConfig (p : Packet)
  /-- R242: Sets a channel's drive on or off. -/
  | vlvDrive (p : Packet)
  /-- R254: Returns a channel's status, present conditions, driver and values. -/
  | vlvStatus (p : Packet)
  /-- R247: Moves a LATCHED channel to DE_ENERGISED and clears its on-state conditions. -/
  | vlvClear (p : Packet)
  /-- R257: Returns a supply group's state, voltage, current and budget. -/
  | vlvGroupStatus (p : Packet)
  /-- R242: At each 20 µs instant the channel evaluates want and moves its driver state. -/
  | valveInstant (t : Nat) (ch : Nat) (m : ValveMeas)
  /-- R250: After 50 µs of test pulse the channel energises or latches BRIDGED with its partners. -/
  | testPulseEnd (t : Nat) (ch : Nat) (seen : List (Nat × Rat × Rat))
  /-- R254: A switch current above the trip level opens both switches and enters RETRY_WAIT or LATCHED. -/
  | shortTrip (t : Nat) (ch : Nat) (high low : Bool)
  /-- R247: 10 ms after a trip the channel retries if want is true. -/
  | retryWaitExpiry (t : Nat) (ch : Nat)
  /-- R247: 100 ms energised without a trip resets the retry count. -/
  | retryReset (t : Nat) (ch : Nat)
  /-- R249: Coil current below 20 mA ends demagnetisation and starts the off-time. -/
  | demagComplete (t : Nat) (ch : Nat) (current : Rat)
  /-- R247: Demagnetisation exceeding demag_max latches SHORT_GND_ON on terminal L. -/
  | demagTimeout (t : Nat) (ch : Nat)
  /-- R248: At the end of the off-time a held switch-on runs or the channel becomes DE_ENERGISED. -/
  | offTimeEnd (t : Nat) (ch : Nat)
  /-- R256: Every 1 ms the de-energised terminals are classified. -/
  | offStateCheck (t : Nat) (ch : Nat) (hMax hMin : Rat) (hi lo : List Rat)
  /-- R257: Every 10 µs each field supply group's state is evaluated. -/
  | groupStateEval (t : Nat) (g : Nat) (m : GroupMeas)
  /-- R258: Every 1 ms the winding temperature and allowed current are updated. -/
  | coilThermalUpdate (t : Nat) (ch : Nat) (samples : List Rat)
  /-- R259: A steady-hold window ends with a coil resistance measurement. -/
  | resistanceMeasurement (t : Nat) (ch : Nat) (duty : Rat) (samples : List Rat) (vGroup : Rat)
  /-- R252: A SENT frame is received and validated as a position sample. -/
  | sentFrame (t : Nat) (ch cal : Nat) (nibs : List Nat)
  /-- R261: Each 1 ms the channel's current and position signals are published. -/
  | valvePublish (t : Nat) (ch : Nat) (samples : List Rat)
  /-- R269: Configures a digital input. -/
  | fioDiConfig (p : Packet)
  /-- R273: Configures an analogue input. -/
  | fioAiConfig (p : Packet)
  /-- R277: Configures a digital output. -/
  | fioDoConfig (p : Packet)
  /-- R277: Moves a LATCHED output to OFF and clears its latched diagnostics. -/
  | fioDoClear (p : Packet)
  /-- R276: Returns a point's state, diagnostic and values. -/
  | fioStatus (p : Packet)
  /-- R270: A change of a level input's integrated output is published with its edge stamp. -/
  | diOutChange (t : Nat) (di : Nat) (samples : List Rat)
  /-- R270: Every 10 ms a level input is republished with its last edge stamp. -/
  | diPeriodicPublish (t : Nat) (di : Nat)
  /-- R271: At each 1 ms instant a pulse input's frequency is published. -/
  | pulseFrequency (t : Nat) (di : Nat)
  /-- R272: Every 1 ms the input is compared with its supply to detect a broken wire. -/
  | wireBreakCheck (t : Nat) (di : Nat) (vIn temp : Rat)
  /-- R273: Every 1 ms the analogue mean is filtered, its state evaluated and the value published. -/
  | aiConversion (t : Nat) (ai : Nat) (m : AiMeas)
  /-- R274: 1 s after an OVERLOAD the shunt is reconnected for a new test. -/
  | aiShuntRetry (t : Nat) (ai : Nat)
  /-- R275: At each 10 µs instant the output evaluates want and moves its state. -/
  | doInstant (t : Nat) (out : Nat) (m : DoMeas)
  /-- R278: After 50 µs of test pulse the output goes ON or latches BRIDGED with its partners. -/
  | doTestPulseEnd (t : Nat) (out : Nat) (seen : List (Nat × Rat × Rat))
  /-- R276: An output overload or short opens its switch and enters RETRY_WAIT or LATCHED. -/
  | doTrip (t : Nat) (out : Nat) (amps : Rat) (limiting : Bool)
  /-- R277: 10 ms after a trip the output retries if want is true. -/
  | doRetryExpiry (t : Nat) (out : Nat)
  /-- R277: 100 ms on without a trip resets the output's retries. -/
  | doRetryReset (t : Nat) (out : Nat)
  /-- R277: Load current below 5 mA ends demagnetisation; a held switch-on runs or the output goes OFF. -/
  | doDemagComplete (t : Nat) (out : Nat) (current : Rat)
  /-- R276: Every 1 ms the off output's pin is classified. -/
  | doOffStateCheck (t : Nat) (out : Nat) (pin : Rat)
  /-- R267: Every 10 µs each sensor and output supply is measured and its condition updated. -/
  | supplyEval (t : Nat) (supply : Nat) (volts : Rat) (limiting : Bool)
  /-- R267: A sensor supply switched off after 10 ms in limit is switched on again every 1 s. -/
  | sensorSupplyRetry (t : Nat) (supply : Nat)
  /-- R281: Stores the GNSS configuration, applied at the next epoch. -/
  | gnsConfig (p : Packet)
  /-- R298: Appends RTCM bytes to the port's stream and applies completed frames. -/
  | gnsRtcmPut (p : Packet)
  /-- R301: Requests a raw-measurement latch at the next epoch. -/
  | gnsRawLatch (p : Packet)
  /-- R301: Enters or leaves GNSS test mode. -/
  | gnsTest (p : Packet)
  /-- R301: Returns every channel to IDLE and restarts acquisition. -/
  | gnsRestart (p : Packet)
  /-- R304: Returns fix, spoofing, port, tracking and correction status. -/
  | gnsStatus (p : Packet)
  /-- R303: Returns channel records, live or from a latch. -/
  | gnsChannelRead (p : Packet)
  /-- R290: At each epoch instant every channel latches and the solution is computed and published. -/
  | gnssEpoch (t : Nat) (e : GnssEpoch)
  /-- R297: After 60 s without any indicator the spoofing state returns to CLEAR. -/
  | spoofClearTimer (t : Nat)
  /-- R282: Every 1 ms each antenna port's state is evaluated, with 1 s bias retries. -/
  | portStateEval (t : Nat) (port : Nat) (mA : Rat) (loLocked : Bool) (refDev : Rat)
  /-- R283: Once per second a front end's correlator self-test runs and excludes it on failure. -/
  | correlatorSelfTest (t : Nat) (port : Nat) (good : Bool)
  /-- R286: An acquisition dwell completes and a detection is confirmed or a channel takes the signal. -/
  | dwellComplete (t : Nat) (ch : Nat) (exceeds : Bool)
  /-- R289: A phase-lock indicator below 0.7 for 50 ms returns the channel to PULL_IN. -/
  | carrierLockLoss (t : Nat) (ch : Nat) (pli : Rat)
  /-- R300: A completed navigation unit is sent as GNS_NAV. -/
  | navUnit (t : Nat) (ch : Nat) (u : NavUnit)
  /-- R298: An RTCM UDP datagram appends to its source's stream. -/
  | rtcmDatagram (t : Nat) (udp source : Nat) (bytes : List Byte)
  /-- R296: Per front end and band, the interference flag is set or cleared. -/
  | interferenceCheck (t : Nat) (port band : Nat) (agcDrop cn0Drop : Rat) (noNotch : Bool)
  /-- R306: Stores the time-base configuration, applied at the next whole second. -/
  | timConfig (p : Packet)
  /-- R311: Returns time state, leap count, offset and uncertainties. -/
  | timStatus (p : Packet)
  /-- R310: Converts between module time, GPS time and UTC. -/
  | timConvert (p : Packet)
  /-- R309: Names the GPS second of the next PPS_IN edge to set the mapping. -/
  | timEpochSet (p : Packet)
  /-- R311: Every 1 ms the time state is evaluated against the active reference. -/
  | timeStateEval (t : Nat) (temp : Rat)
  /-- R316: A PPS_IN edge is stamped and published with its offset. -/
  | ppsInEdge (t : Nat) (falling : Bool)
  /-- R316: 1.5 s without a PPS_IN edge declares it lost. -/
  | ppsInLost (t : Nat)
  /-- R315: A PPS output asserts at a whole second of the mapping. -/
  | ppsOutEdge (t : Nat) (out : Nat)
  /-- R312: At the next whole second the mapping offset steps by epsilon. -/
  | mappingStep (t : Nat)
  /-- R310: An announced leap second is applied at the end of its UTC day. -/
  | leapSecond (t : Nat)
  /-- R317: An IEEE 802.1AS event or general message is exchanged for time transfer and lock. -/
  | gptpMessage (t : Nat) (m : GptpMsg)
  /-- R320: Applies the fusion configuration at the next 1 ms instant. -/
  | fusConfig (p : Packet)
  /-- R325: Writes a transform-table frame, copied to every module. -/
  | fusFrameSet (p : Packet)
  /-- R324: Returns a frame's record and its composed place. -/
  | fusFrameRead (p : Packet)
  /-- R329: Configures a sensor group. -/
  | fusGroupSet (p : Packet)
  /-- R335: Configures a detection source. -/
  | fusSourceSet (p : Packet)
  /-- R332: Returns pose mode, inertial states and counters. -/
  | fusStatus (p : Packet)
  /-- R338: Returns track records from the latest table. -/
  | fusTrackRead (p : Packet)
  /-- R331: Each 1 ms instant fusion latches, votes, propagates, applies updates and publishes ego-motion. -/
  | fusionInstant (t : Nat) (m : FusInstant)
  /-- R333: Each 10 ms instant the pose, sections, tracks and cart offsets are published. -/
  | posePublish (t : Nat) (e : PoseEst)
  /-- R334: At each GNSS epoch the inertially predicted antenna position is published. -/
  | ga1Prediction (t : Nat) (lat lon height : Rat)
  /-- R336: A detection block is associated to tracks or opens new ones. -/
  | detectionBlock (t : Nat) (source stamp : Nat) (dets : List Detection)
  /-- R337: A track without hits for 300 ms coasts, and after t_drop becomes FREE. -/
  | trackTimeout (t : Nat)
  /-- R344: Configures a link's gear, power over coax and routes. -/
  | camLinkSet (p : Packet)
  /-- R346: Configures a pipeline. -/
  | camPipeSet (p : Packet)
  /-- R355: Configures a camera pair. -/
  | camPairSet (p : Packet)
  /-- R354: Configures an FSYNC output, applied at the next multiple of its period. -/
  | camFsyncSet (p : Packet)
  /-- R352: Sends tagged register writes to a camera head over the upstream channel. -/
  | camSensorWrite (p : Packet)
  /-- R357: Configures an accelerator job. -/
  | camVaSet (p : Packet)
  /-- R351: Returns link or pipeline state, load and counts. -/
  | camStatus (p : Packet)
  /-- R342: Every 1 ms a link's state is evaluated, with retraining and self-test. -/
  | linkStateEval (t : Nat) (link : Nat) (m : LinkMeas)
  /-- R343: A CSI-2 packet is accepted into its route's line buffer or discarded. -/
  | csi2Packet (t : Nat) (link : Nat) (k : CsiPacket)
  /-- R352: The head acknowledges its last register and the write governs frame N + D. -/
  | sensorWriteComplete (t : Nat) (link acked : Nat)
  /-- R354: An FSYNC output asserts at a multiple of its period. -/
  | fsyncEdge (t : Nat) (output : Nat)
  /-- R355: After holding FSYNC for 2 periods, matching restarts; 10 periods without a match returns to UNSYNCHRONISED. -/
  | resyncRelease (t : Nat) (pair : Nat)
  /-- R356: An accelerator job finishes and its result is published. -/
  | vaJobComplete (t : Nat) (res : VaResult)
  /-- R376: Configures and enables or disables a CAN channel. -/
  | canConfig (p : Packet)
  /-- R366: Makes a buffer receive, transmit or unused with an owner. -/
  | canBufferSet (p : Packet)
  /-- R368: Configures a receive filter. -/
  | canFilterSet (p : Packet)
  /-- R382: Puts a channel to sleep with a wake setting or wakes it. -/
  | canPower (p : Packet)
  /-- R376: Starts bus-off recovery. -/
  | canRecover (p : Packet)
  /-- R383: Configures the time-triggered schedule. -/
  | canTtSet (p : Packet)
  /-- R385: Sets or withdraws an address claim. -/
  | canClaim (p : Packet)
  /-- R388: Returns channel status, claimed address and counters. -/
  | canStatus (p : Packet)
  /-- R371: A write to CAN_TXREQ makes a transmit buffer PENDING. -/
  | canTxreq (t : Nat) (ch partition word value : Nat)
  /-- R374: A write to CAN_TXABORT aborts a PENDING or STRANDED frame. -/
  | canTxabort (t : Nat) (ch partition word value : Nat)
  /-- R368: A received frame is filtered into its buffer slot. -/
  | canFrameReceived (t : Nat) (ch : Nat) (f : CanFrame)
  /-- R370: At an arbitration start the winning pending buffer is offered on the bus. -/
  | arbitrationStart (t : Nat) (ch : Nat)
  /-- R371: A transmit attempt ends sent, lost or in error, updating status and error counters. -/
  | txAttemptEnd (t : Nat) (ch : Nat) (r : TxAttempt)
  /-- R372: A frame whose deadline passes before an attempt ends EXPIRED. -/
  | deadlineExpiry (t : Nat) (ch buffer : Nat)
  /-- R376: recovery_delay after bus-off the channel starts RECOVERING. -/
  | recoveryDelayExpiry (t : Nat) (ch : Nat)
  /-- R376: 128 recessive sequences return the channel to ERROR_ACTIVE and STRANDED frames to PENDING. -/
  | recoveryComplete (t : Nat) (ch : Nat)
  /-- R379: While ALONE, one attempt is allowed per 100 ms. -/
  | alonePace (t : Nat) (ch : Nat)
  /-- R381: The idle-bus self-test, or a dominant output beyond 2 ms, excludes the channel. -/
  | canSelfTest (t : Nat) (ch : Nat) (good : Bool)
  /-- R382: A dominant level or a wake-up frame wakes a sleeping channel. -/
  | canWake (t : Nat) (ch : Nat) (w : WakeSeen)
  /-- R384: A time-triggered mark sends its buffer or checks a receive buffer. -/
  | ttTrigger (t : Nat) (ch trigger : Nat)
  /-- R383: A reference message is sent or followed, or the watch expires and the schedule stops. -/
  | ttReference (t : Nat) (ch : Nat) (r : TtRef)
  /-- R385: An address-claim message or request settles the claimed address. -/
  | addressClaimMessage (t : Nat) (ch : Nat) (m : ClaimMsg)
  /-- R392: Stores the fleet-link configuration. -/
  | fltConfig (p : Packet)
  /-- R393: Loads the massif key and reopens sessions. -/
  | fltKeySet (p : Packet)
  /-- R392: Sets a roster member's kind and address. -/
  | fltMemberSet (p : Packet)
  /-- R400: Sets or withdraws a hazard marker. -/
  | fltHazardSet (p : Packet)
  /-- R399: Sends a guidance line or reads a received line from the inbox. -/
  | fltLine (p : Packet)
  /-- R402: Requests or ends unloading with a cart. -/
  | fltUnload (p : Packet)
  /-- R403: Returns member and unloading states or a member's last status. -/
  | fltStatus (p : Packet)
  /-- R396: Every 100 ms records are applied, commands started, states evaluated and datagrams sent. -/
  | exchangeInstant (t : Nat)
  /-- R394: A received fleet datagram is checked and its records queued for the next instant. -/
  | fleetDatagram (t : Nat) (ip : Nat) (addr : List Byte) (d : FleetDatagram)
  /-- R393: A DTLS session with a peer is opened or replaced. -/
  | dtlsHandshake (t : Nat) (member : Nat)
  /-- R403: A member without datagrams becomes SILENT, then LOST. -/
  | memberTimeout (t : Nat)
  /-- R402: A request without grant for grant_timeout returns unloading to IDLE. -/
  | grantTimeout (t : Nat)
  /-- R402: After lost_hold in LOST, unloading returns to IDLE. -/
  | lostHoldExpiry (t : Nat)
  /-- R400: A hazard marker is removed at its expiry. -/
  | hazardExpiry (t : Nat)
  /-- R411: Stores a partition's configuration. -/
  | colPartitionConfig (p : Packet)
  /-- R412: Writes entries of a partition's input list. -/
  | colInputSet (p : Packet)
  /-- R419: Admits STOPPED partitions under the response-time test, or refuses all. -/
  | colAdmit (p : Packet)
  /-- R429: Starts or stops a partition at a period start or release. -/
  | colPartitionRun (p : Packet)
  /-- R407: Returns pair, deputy and recovery status. -/
  | colStatus (p : Packet)
  /-- R429: Returns a partition's state, pair, flags and timing. -/
  | colPartitionStatus (p : Packet)
  /-- R434: Hands the manager role back to a displaced manager at a common boundary. -/
  | colRoleReturn (p : Packet)
  /-- R405: Forces a lockstep mismatch in a pair. -/
  | colInject (p : Packet)
  /-- R64: A partition advances its submit index, presenting a packet to the module. -/
  | mailboxSubmit (t : Nat) (partition taken : Nat) (slot : Option MailSlot)
  /-- R412: At a Col period start the input snapshot is frozen and deferred packets become visible. -/
  | periodStart (t : Nat) (partition : Nat)
  /-- R416: A partition writing k to done ends its period and starts the commit. -/
  | doneWrite (t : Nat) (partition value execUs : Nat)
  /-- R416: Both commit lines are written and the period is committed. -/
  | commitComplete (t : Nat) (partition : Nat)
  /-- R417: At a release boundary committed periods' writes and held commands are released. -/
  | releaseBoundary (t : Nat) (returnReady : Bool)
  /-- R421: A partition not done by wcet is stopped and counted as an overrun. -/
  | wcetExpiry (t : Nat) (partition : Nat)
  /-- R405: A core pair faults; it is excluded and its uncommitted periods discarded. -/
  | pairFault (t : Nat) (pairs : List Nat)
  /-- R422: The spare finishes restoring and re-executes the discarded periods. -/
  | restoreComplete (t : Nat) (pair : Nat)
  /-- R407: Every 1 ms a spare pair's reference computation is checked. -/
  | spareCheck (t : Nat) (pair : Nat) (good : Bool)
  /-- R430: The deputy receives a mirrored commit of a critical partition. -/
  | commitMirrorReceived (t : Nat) (m : MirrorRecord)
  /-- R431: Every 100 µs the manager sends its heartbeat on ETH0 and ETH1. -/
  | heartbeatSend (t : Nat)
  /-- R431: A failure notice from the manager is received by the deputy. -/
  | failureNotice (t : Nat)
  /-- R432: 500 µs without a heartbeat, or a notice, declares the manager lost. -/
  | managerLost (t : Nat)
  /-- R21: Modules exchange index, serial and machine number to form the machine. -/
  | peerDiscovery (t : Nat) (reports : List PeerReport)
  /-- R440: Returns memory channel state, counters and scrub progress. -/
  | memStatus (p : Packet)
  /-- R446: Sets scrub and device-failure parameters. -/
  | memScrubConfig (p : Packet)
  /-- R447: Names the owner of a DRAM region. -/
  | memRegionSet (p : Packet)
  /-- R439: Declares a DRAM device failed or clears a declaration. -/
  | memDeviceFail (p : Packet)
  /-- R448: Writes spare lines back and frees remap entries. -/
  | memRemapClear (p : Packet)
  /-- R438: Corrupts a DRAM line's code word for testing. -/
  | memInject (p : Packet)
  /-- R446: The scrubber reads a line in an idle cycle and corrects or handles an error. -/
  | scrubRead (t : Nat) (line : Nat) (pat : List (Nat × Nat)) (bits : Nat)
  /-- R446: A scrub pass not finished by its due time sets SCRUB_LATE. -/
  | scrubDue (t : Nat)
  /-- R464: Enables a DMA channel and sets its owner. -/
  | dmaChannelSet (p : Packet)
  /-- R461: Returns a DMA channel's status and progress. -/
  | dmaStatus (p : Packet)
  /-- R461: A START write fetches the descriptor at CH_HEAD and runs the channel. -/
  | dmaStart (t : Nat) (ch partition : Nat)
  /-- R461: An ABORT write stops the channel after writes in flight. -/
  | dmaAbort (t : Nat) (ch partition : Nat)
  /-- R463: A doorbell write re-reads the tail or sets DOORBELL_PENDING. -/
  | chDoorbell (t : Nat) (ch partition : Nat)
  /-- R457: A descriptor's writes, record and read-back complete and the next is fetched. -/
  | descriptorComplete (t : Nat) (ch : Nat)
  /-- R472: Returns Cairn mount state, sequence numbers and counts. -/
  | crnStatus (p : Packet)
  /-- R479: Opens a read cursor on a part. -/
  | crnCursorOpen (p : Packet)
  /-- R480: Returns whole records from a cursor. -/
  | crnRead (p : Packet)
  /-- R479: Releases a cursor. -/
  | crnCursorClose (p : Packet)
  /-- R481: Empties the ring or origin log and writes a clear record. -/
  | crnClear (p : Packet)
  /-- R475: Holds an application record for acceptance by Summit at the release boundary. -/
  | crnAppWrite (p : Packet)
  /-- R475: Summit accepts an event into its record queue or drops it. -/
  | cairnEventAccept (t : Nat)
  /-- R476: A queued record is written to the ring and origin log. -/
  | recordWritten (t : Nat)
  /-- R479: A cursor unread for 600 s is released. -/
  | cursorTimeout (t : Nat) (cursor : Nat)
  /-- R486: Opens or resumes an update transfer. -/
  | updBegin (p : Packet)
  /-- R487: Stores a piece fragment and authenticates completed pieces. -/
  | updPiece (p : Packet)
  /-- R495: Returns the update state and progress. -/
  | updStatus (p : Packet)
  /-- R488: Returns the absent piece numbers. -/
  | updMissing (p : Packet)
  /-- R490: Installs components into the standby banks. -/
  | updInstall (p : Packet)
  /-- R492: Commits the staged set or returns to the previous one and restarts. -/
  | updCommit (p : Packet)
  /-- R495: Ends the transfer and empties the standby banks. -/
  | updAbort (p : Packet)
  /-- R487: A piece buffer without a fragment for 60 s is freed. -/
  | pieceBufferTimeout (t : Nat)
  /-- R490: A component is written, read back and verified on one module. -/
  | componentInstalled (t : Nat) (good : Bool)
  /-- R494: Once READY on the new set everywhere, the rollback number rises. -/
  | rollbackRaise (t : Nat)
  /-- R493: A worker with pending set adopts the manager's set or clears pending. -/
  | pendingResolve (t : Nat) (managerImage : Nat)
  /-- R502: Moves the power state step by step toward a target. -/
  | pwrSet (p : Packet)
  /-- R500: Stores host identity, wake sources and host addresses. -/
  | pwrConfig (p : Packet)
  /-- R498: Returns power state, paths, bank and budget. -/
  | pwrStatus (p : Packet)
  /-- R502: A power-state step completes and the next step starts. -/
  | powerStepComplete (t : Nat)
  /-- R502: The drain completes and the module leaves RUN. -/
  | drainEnd (t : Nat)
  /-- R502: At drain the module leaves RUN whatever the drain state. -/
  | drainTimeout (t : Nat)
  /-- R500: A wake source in SLEEP brings the module to STANDBY. -/
  | wake (t : Nat) (source : Nat)
  /-- R500: An IGN edge wakes, starts up from OFF, or is reported. -/
  | ignEdge (t : Nat) (rising : Bool)
  /-- R500: A WAKE pin edge wakes from SLEEP or is reported. -/
  | wakeEdge (t : Nat) (rising : Bool)
  /-- R500: The Summit alarm expires in SLEEP and wakes the module. -/
  | summitAlarm (t : Nat)
  /-- R501: Supply returns and the start-up stages run toward READY. -/
  | supplyOnStartUp (t : Nat) (b : BootMeas)
  /-- R512: Start-up completes, MOD_READY asserts and SYS_READY is sent. -/
  | ready (t : Nat) (r : SelfTest)
  /-- R496: Every 10 µs each logic supply path's state is evaluated. -/
  | logicPathEval (t : Nat) (a b : PathMeas)
  /-- R497: No logic path OK for 200 µs declares supply failure and runs SAVE. -/
  | supplyFailure (t : Nat) (ended records : Nat)
  /-- R506: The hold-up bank's capacitance is measured at charge or daily and its state set. -/
  | bankMeasurement (t : Nat) (volts mf : Rat) (charger : Bool)
  /-- R514: Every 10 ms the thermal budget and power cap are updated. -/
  | thermalBudget (t : Nat) (p : Rat)
  /-- R515: Power above the cap for 10 s with both measures in force sends PWR_EVENT cause 9. -/
  | limitInsufficient (t : Nat)
  /-- R26: Each 1 ms Summit window compares the LCLK count with 600,000. -/
  | clockWindow (t : Nat) (count : Nat)
  /-- R26: A root PLL loss-of-lock indication declares main-clock failure. -/
  | pllLossOfLock (t : Nat)
  /-- R20: Once per second the straps are read and a difference flagged. -/
  | strapRead (t : Nat) (straps : Nat)
  /-- R517: Summit sends a heartbeat every 1 ms; 10 ms without one excludes Summit. -/
  | summitHeartbeat (t : Nat) (arrived : Bool)
  /-- R516: Each 1 s window the Summit oscillator is counted against module time. -/
  | summitOscCheck (t : Nat) (count : Nat)
  /-- R523: Every 100 ms Summit publishes sensor and health signals. -/
  | healthPublish (t : Nat) (m : HealthMeas)
  /-- R521: A shock above shock_thr is recorded and counted. -/
  | shockEvent (t : Nat) (x y z peak : Rat) (durationUs : Nat)
  /-- R522: Humidity above rh_limit for rh_time sets the alert. -/
  | humidityAlert (t : Nat) (rh : Rat)
  /-- R525: A health-test failure stops the random source. -/
  | randomSourceFault (t : Nat)
  /-- R518: Returns Summit, window, key and sensor status. -/
  | sumStatus (p : Packet)
  /-- R526: Sets shock, humidity and window parameters. -/
  | sumConfig (p : Packet)
  /-- R524: Loads or erases a key. -/
  | sumKeySet (p : Packet)
  /-- R527: Queues application text for the footer region. -/
  | sumWindowText (p : Packet)
  /-- R526: A changed value recomposes a window region once its gap has elapsed. -/
  | regionRecompose (t : Nat) (region : Nat)
  /-- R527: The panel falls free and a queued region's waveform starts after bias. -/
  | waveformStart (t : Nat) (frame : Nat) (bias : Bool)
  /-- R530: A waveform completes and its frame is journalled. -/
  | waveformComplete (t : Nat)
  /-- R528: 1 s after a bias failure the waveform is retried. -/
  | biasRetry (t : Nat) (frame : Nat) (bias : Bool)
  /-- R9: A write to a register with no row of its own sets, clears or is refused with ACCESS_FAULT. -/
  | registerWrite (t : Nat) (partition : Nat) (addr width value : Nat)
  /-- R441: A load or store by a core pair or other agent to DRAM, SRAM or MRAM is decoded and checked: corrected and written back, refused as an access fault, counted toward device failure, delivered as poison, or counted as a dirty line of the period. -/
  | memoryAccess (t : Nat) (a : MemAccess)
  /-- R376: An error detected while the channel receives a frame raises REC and can move the channel to ERROR_PASSIVE. -/
  | receiveError (t : Nat) (ch : Nat) (dominantAfterFlag : Bool)
  /-- R376: After enabling or waking, 11 consecutive recessive bits on the bus move the channel into ERROR_ACTIVE. -/
  | recessiveBitsDetected (t : Nat) (ch : Nat)
  /-- R541: A link's power over coax above 1.0 A is switched off within 10 µs. -/
  | pocOvercurrent (t : Nat) (link : Nat)
  /-- R541: 1 s after a power-over-coax trip the supply is switched on again. -/
  | pocRetry (t : Nat) (link : Nat)
  /-- R309: TIM_EPOCH_SET ends WRONG_STATE with no payload when no PPS_IN edge arrives within 2 s of admission. -/
  | epochSetTimeout (t : Nat)
  /-- R459: When the completed bytes of a descriptor first reach half its total, the channel reads back the last line written and sets HALF. -/
  | halfCompletion (t : Nat) (ch : Nat)
deriving DecidableEq, Repr, Inhabited

end Sys2Proof
end

