-- ==== Sys2Proof/Decode.lean ====
section
/-! DEFINITION. The commands that words spell by the bits of the opcode table. -/
namespace Sys2Proof

/-- The command that a word spells by the table's bits. No row of the table gives bits: a command comes as a packet or as an event
with its operands, so no word spells one (log entry 197). -/
def decodeTableWord (_nbits _w : Nat) : Option Instr := none

end Sys2Proof
end

