-- ==== Sys2Proof/Config.lean ====
section
/-! DEFINITION. What one implementation fixes and what the spec leaves open. Every `opaque` constant is a free value:
nothing in Lean can evaluate it, so a statement about it holds whatever its value. -/
namespace Sys2Proof.Config

/-- A free value of the spec: the k-th one that a run meets (`State.free` counts them). Log entry 5. -/
opaque freeValue : Nat → BitVec 64
/-- A free truth value, the k-th one that a run meets. Log entry 5. -/
opaque freeBool : Nat → Bool
/-- A free number, the k-th one that a run meets. Log entry 5. -/
opaque freeRat : Nat → Rat
/-- A free byte string of a wanted length, the k-th one that a run meets. Log entry 5. -/
opaque freeByte : Nat → Nat → BitVec 8
/-- The module's serial number (R4): each module has its own; the spec gives no value. -/
opaque serial : BitVec 64
/-- The hardware issue number that `SYS_IDENT` reports; the spec gives no value. -/
opaque hwIssue : BitVec 16

/-- What an infinity or a NaN counts as where the spec computes exactly with the value of a record or a parameter (R16), by its encoding: the
spec states none. Log entry 252. -/
opaque noNumber : Nat → Rat

/-- The addresses of the blocks that a unit of the module publishes through a ring (R132, R338): by local and by place in the ring. The spec
gives none. Log entry 256. -/
opaque ringAddr : Nat → Nat → BitVec 64
/-- Whether a line of memory holds, or holds part of, what the module keeps there: the kind of thing, and its two indices. The spec gives no
addresses. Log entry 255. -/
opaque holds : Nat → Nat → Nat → Nat → Bool
/-- The cut position of a section that no publication of its position precedes (R130): by section and instant. Log entry 115. -/
opaque cutPos : Nat → Nat → Int × Int

/-- The confidence that module hardware gives a signal it publishes (R36): the spec states none. By local number. Log
entry 36. -/
opaque hwConfidence : Nat → BitVec 8
/-- The source field of a Cairn event raised by a unit to which R57 gives no requester ID, by the event's code (R471). Log
entry 45. -/
opaque eventSource : Nat → BitVec 8
/-- The dither wave over one period, at a phase from 0 to 1 (R245): a triangle whose starting point the spec does not
state. Log entry 37. -/
opaque triangle : Rat → Rat

/-- How a loop's binary32 output is encoded into a signal whose type is neither binary32 nor binary64: the spec states
none. Log entry 52. -/
opaque encodeOut : Nat → BitVec 32 → BitVec 64

/-- The covariance of a track predicted over a time in s with a process noise in m/s² (R336): the spec gives the noise and
not the matrices. The first two entries are the σ of position and of velocity. Log entry 87. -/
opaque trackPredict : List Rat → Rat → Rat → List Rat
/-- The normalised squared distance of a detection from a track (R336): its covariance, σx, σy, and the differences east and
north. Log entry 87. -/
opaque trackDist : List Rat → Rat → Rat → Rat → Rat → Rat
/-- The update of a track by a detection (R336): corrections of east, north and both velocities, then the new covariance.
Log entry 87. -/
opaque trackUpdate : List Rat → List Rat → List Rat
/-- The covariance of a track opened by a detection of σx, σy (R336). Log entry 87. -/
opaque trackInit : Rat → Rat → List Rat

/-- The median of an even number of pixels whose two middle values differ (R346 step 2), from those two. Log entry 101. -/
opaque midPixel : Nat → Nat → Nat
/-- The median of an even number of ring-down times whose two middle values differ (R149), from those two. Log entry 129. -/
opaque midRing : Nat → Nat → Nat
/-- The output of a decompanding curve below its first knee (R347): the code, the knee's input and output. Log entry 102. -/
opaque pwlBelow : Nat → Nat → Nat → Nat
/-- A 20-bit linear value as a 16-bit sample (R350, format 3). Log entry 103. -/
opaque pixel16 : Nat → BitVec 16

/-- The direction of travel (east, north) of a parcel whose positions give none (R165): sections at one place. Log entry 124. -/
opaque footDir : Nat → Rat × Rat

/-- The bytes of a file of an ISO 11783-10 task data set (R176), whose coding the standard gives and the spec does not: which of the three, the
field, the crop's name, and the time log: time, latitude, longitude, values. Log entry 126. -/
opaque taskFile : Nat → Nat → List (BitVec 8) → List (Nat × Rat × Rat × List Rat) → List (BitVec 8)

/-- The `cause` of the `FUN_STATE_CHANGE` from FINISHING to OFF, which the list of causes does not name. Log entry 216. -/
opaque funOffCause : BitVec 8
/-- The `cause` of a `GDE_EVENT` for a change of state that the table of causes does not name, by the codes of the old and the
new state. Log entry 148. -/
opaque gdeCause : Nat → Nat → BitVec 8

/-- The code of the unload record in the unloading states for which R401 and R402 state none. Log entry 165. -/
opaque unloadCode : Nat → BitVec 8

/-- AES-256-GCM decryption (R483): key, nonce, additional data, ciphertext, tag; none where the tag fails. The algorithm is
a standard's, which the spec names and does not give. Log entry 172. -/
opaque gcmOpen : List (BitVec 8) → List (BitVec 8) → List (BitVec 8) → List (BitVec 8) → List (BitVec 8) → Option (List (BitVec 8))
/-- SHA-384 (R485). Log entry 172. -/
opaque sha384 : List (BitVec 8) → List (BitVec 8)
/-- Whether an ECDSA P-384 signature is valid (R485): public key, digest, r and s. Log entry 172. -/
opaque ecdsaOk : List (BitVec 8) → List (BitVec 8) → List (BitVec 8) → Bool
/-- Whether a public key lies on the P-384 curve (`SUM_KEY_SET`). Log entry 172. -/
opaque onP384 : List (BitVec 8) → Bool
/-- The components of the factory image set on a module index: kind, number, version (R4, R489). Log entry 173. -/
opaque factorySet : Nat → List (Nat × Nat × Nat)
/-- The components of the module's own factory image set: kind, number, version (R4, R489). Log entry 173. -/
opaque ownSet : List (Nat × Nat × Nat)
/-- The identity of the factory image set, 0-99 by ordering code (R4). Log entry 173. -/
opaque factoryImageSet : Nat
/-- The `state` byte of a `SUM_EVENT`, whose codes the spec does not give: by cause and by what the state is. Log entry 179. -/
opaque sumState : Nat → Nat → BitVec 8
/-- The commissioning key in session slot 0 (R524). Log entry 173. -/
opaque commissioningKey : List (BitVec 8)
/-- The factory image set's image key (R524). Log entry 173. -/
opaque factoryImageKey : List (BitVec 8)
/-- The factory image set's public signing key (R524). Log entry 173. -/
opaque factorySignKey : List (BitVec 8)

end Sys2Proof.Config
end

