-- ==== Sys2Proof/Machine/Float.lean ====
section
/-! DEFINITION. IEEE 754 binary32 and binary64 over exact rational numbers: encoding, decoding, and the correctly rounded
operations (round to nearest, ties to even). -/
namespace Sys2Proof.Machine

/-- 2 to an integer power. -/
def pow2 (k : Int) : Rat := if 0 ≤ k then ((2 ^ k.toNat : Nat) : Rat) else 1 / ((2 ^ (-k).toNat : Nat) : Rat)

/-- The nearest integer, ties to even. -/
def roundEven (q : Rat) : Int :=
  let f := q.floor
  let d := q - f
  if d < 1 / 2 then f else if 1 / 2 < d then f + 1 else if f % 2 == 0 then f else f + 1

/-- The nearest integer, halves upward. -/
def roundHalfUp (q : Rat) : Int := (q + 1 / 2).floor

/-- The greatest `e` with `2 ^ e` at most a positive rational number. -/
def floorLog2 (q : Rat) : Int :=
  let e : Int := (Nat.log2 q.num.toNat : Int) - (Nat.log2 q.den : Int)
  if pow2 (e + 1) ≤ q then e + 1 else if pow2 e ≤ q then e else e - 1

/-- The value of an encoding with `mb` fraction and `eb` exponent bits; none for an infinity or a NaN. -/
def fDecode (mb eb n : Nat) : Option Rat :=
  let m := n % 2 ^ mb
  let e := n / 2 ^ mb % 2 ^ eb
  let bias : Int := 2 ^ (eb - 1) - 1
  if e == 2 ^ eb - 1 then none
  else
    let a : Rat := if e == 0 then (m : Rat) * pow2 (1 - bias - mb) else ((2 ^ mb + m : Nat) : Rat) * pow2 ((e : Int) - bias - mb)
    some (if n / 2 ^ (mb + eb) % 2 == 1 then -a else a)

/-- The correctly rounded encoding of a rational number; a negative zero never results. -/
def fEncode (mb eb : Nat) (q : Rat) : Nat :=
  if q == 0 then 0 else
  let sign := if q < 0 then 2 ^ (mb + eb) else 0
  let a := if q < 0 then -q else q
  let bias : Int := 2 ^ (eb - 1) - 1
  let e := max (floorLog2 a) (1 - bias)
  let n := (roundEven (a / pow2 (e - mb))).toNat
  let bits := (e + bias - 1).toNat * 2 ^ mb + n
  let inf := (2 ^ eb - 1) * 2 ^ mb
  sign + (if inf ≤ bits then inf else bits)

/-- The value of a binary32; none for an infinity or a NaN. -/
def f32q (b : F32) : Option Rat := fDecode 23 8 b.toNat
/-- The value of a binary64; none for an infinity or a NaN. -/
def f64q (b : F64) : Option Rat := fDecode 52 11 b.toNat
/-- The binary32 nearest to a rational number. -/
def qf32 (q : Rat) : F32 := BitVec.ofNat 32 (fEncode 23 8 q)
/-- The binary64 nearest to a rational number. -/
def qf64 (q : Rat) : F64 := BitVec.ofNat 64 (fEncode 52 11 q)
/-- The value of a binary32 in exact arithmetic; that of an infinity or a NaN is free (log entry 252). -/
def f32d (b : F32) : Rat := (f32q b).getD (Config.noNumber b.toNat)
/-- The value of a binary64 in exact arithmetic; that of an infinity or a NaN is free (log entry 252). -/
def f64d (b : F64) : Rat := (f64q b).getD (Config.noNumber b.toNat)

/-- Whether a binary32 is an infinity or a NaN. -/
def f32Special (b : F32) : Bool := b.toNat / 2 ^ 23 % 256 == 255
/-- Whether a binary32 is a NaN. -/
def f32NaN (b : F32) : Bool := f32Special b && b.toNat % 2 ^ 23 != 0
/-- The sign bit of a binary32. -/
def f32Sign (b : F32) : Bool := b.toNat / 2 ^ 31 == 1
/-- The quiet NaN that an invalid operation gives. -/
def f32QNaN : F32 := 0x7FC00000
/-- An infinity. -/
def f32Inf (neg : Bool) : F32 := if neg then 0xFF800000 else 0x7F800000
/-- A zero. -/
def f32Zero (neg : Bool) : F32 := if neg then 0x80000000 else 0
/-- Whether a binary32 is a zero. -/
def f32IsZero (b : F32) : Bool := b.toNat % 2 ^ 31 == 0
/-- Negation of a binary32. -/
def f32Neg (b : F32) : F32 := b ^^^ 0x80000000
/-- Absolute value of a binary32. -/
def f32Abs (b : F32) : F32 := b &&& 0x7FFFFFFF

/-- Rounding of an exact result that is 0 only when both operands cancel: the zero is positive. -/
def f32Round (q : Rat) : F32 := qf32 q

/-- Sum of binary32 values. -/
def f32Add (a b : F32) : F32 :=
  if f32NaN a || f32NaN b then f32QNaN
  else if f32Special a && f32Special b then (if f32Sign a == f32Sign b then a else f32QNaN)
  else if f32Special a then a
  else if f32Special b then b
  else if f32IsZero a && f32IsZero b then f32Zero (f32Sign a && f32Sign b)
  else f32Round (f32d a + f32d b)

/-- Difference of binary32 values. -/
def f32Sub (a b : F32) : F32 := f32Add a (f32Neg b)

/-- A rounded value with a given sign: an exact or underflowed zero keeps the sign. -/
def f32Signed (neg : Bool) (q : Rat) : F32 :=
  let r := qf32 q
  if f32IsZero r then f32Zero neg else r

/-- Product of binary32 values. -/
def f32Mul (a b : F32) : F32 :=
  let neg := f32Sign a != f32Sign b
  if f32NaN a || f32NaN b then f32QNaN
  else if f32Special a || f32Special b then
    (if f32IsZero a || f32IsZero b then f32QNaN else f32Inf neg)
  else f32Signed neg (f32d a * f32d b)

/-- Quotient of binary32 values. -/
def f32Div (a b : F32) : F32 :=
  let neg := f32Sign a != f32Sign b
  if f32NaN a || f32NaN b then f32QNaN
  else if f32Special a then (if f32Special b then f32QNaN else f32Inf neg)
  else if f32Special b then f32Zero neg
  else if f32IsZero b then (if f32IsZero a then f32QNaN else f32Inf neg)
  else f32Signed neg (f32d a / f32d b)

/-- Less than, false where an operand is a NaN. -/
def f32Lt (a b : F32) : Bool :=
  if f32NaN a || f32NaN b then false
  else if f32Special a then f32Sign a && !(f32Special b && f32Sign b)
  else if f32Special b then !f32Sign b
  else f32d a < f32d b

/-- At most, false where an operand is a NaN. -/
def f32Le (a b : F32) : Bool := f32Lt a b || (!f32NaN a && !f32NaN b && !f32Lt b a)

/-- The binary32 nearest to the square root of a rational number at least 0. -/
def sqrt32 (q : Rat) : F32 :=
  if q ≤ 0 then 0 else
  -- 2 ^ 200 scales the root far below one unit in the last place; the sticky bit keeps the rounding correct
  let n := q.num.toNat * q.den * 2 ^ 400
  let r := Nat.sqrt n
  let x : Rat := if r * r == n then (r : Rat) else (r : Rat) + 1 / 2
  qf32 (x / (q.den : Rat) / ((2 ^ 200 : Nat) : Rat))

/-- The binary64 nearest to the square root of a rational number at least 0. -/
def sqrt64 (q : Rat) : F64 :=
  if q ≤ 0 then 0 else
  let n := q.num.toNat * q.den * 2 ^ 600
  let r := Nat.sqrt n
  let x : Rat := if r * r == n then (r : Rat) else (r : Rat) + 1 / 2
  qf64 (x / (q.den : Rat) / ((2 ^ 300 : Nat) : Rat))

/-- A number as the nearest binary64 has it. -/
def r64 (q : Rat) : Rat := f64d (qf64 q)

/-- Absolute value. -/
def absR (q : Rat) : Rat := if q < 0 then -q else q
/-- Limits a value to a range. -/
def clampR (q lo hi : Rat) : Rat := if q < lo then lo else if hi < q then hi else q
/-- Sign of a value: -1, 0 or 1. -/
def signR (q : Rat) : Rat := if q < 0 then -1 else if 0 < q then 1 else 0
/-- The smaller of two values. -/
def minR (a b : Rat) : Rat := if a ≤ b then a else b
/-- The larger of two values. -/
def maxR (a b : Rat) : Rat := if a ≤ b then b else a

/-- Whether a binary32 field is a number within a range; a limit that binary32 cannot hold is the nearest one it can
(log entry 22). -/
def f32In (b : F32) (lo hi : Rat) : Bool :=
  match f32q b with
  | some q => decide (minR lo (f32d (qf32 lo)) ≤ q) && decide (q ≤ maxR hi (f32d (qf32 hi)))
  | none => false
/-- Whether a binary64 field is a number within a range, with the same reading of its limits. -/
def f64In (b : F64) (lo hi : Rat) : Bool :=
  match f64q b with
  | some q => decide (minR lo (f64d (qf64 lo)) ≤ q) && decide (q ≤ maxR hi (f64d (qf64 hi)))
  | none => false
/-- Whether a binary32 field is a number at all. -/
def f32Ok (b : F32) : Bool := !f32Special b

/-- A binary32 as the value field of a record (R36). -/
def f32v (b : F32) : BitVec 64 := BitVec.ofNat 64 b.toNat
/-- A rational number as a binary32 value field. -/
def q32v (q : Rat) : BitVec 64 := f32v (qf32 q)
/-- A rational number as a binary64 value field. -/
def q64v (q : Rat) : BitVec 64 := qf64 q
/-- Whether a record's value is a number: no infinity and no NaN. -/
def numOk (ty : Nat) (v : BitVec 64) : Bool :=
  if ty == 2 then (f64q v).isSome else if ty == 3 then (f32q (v.setWidth 32)).isSome else true
/-- The value of a record by its encoding (R36); none for a block. -/
def valueQ (ty : Nat) (v : BitVec 64) : Option Rat :=
  if ty == 0 then some (v.toNat : Rat)
  else if ty == 1 then some ((v.toInt : Int) : Rat)
  else if ty == 2 then some (f64d v)
  else if ty == 3 then some (f32d (v.setWidth 32))
  else if ty == 4 then some ((v.toNat % 2 : Nat) : Rat)
  else none

end Sys2Proof.Machine
end

