-- ==== Sys2Proof/Machine/Real.lean ====
section
/-! DEFINITION. The real functions that the spec's pseudocode and formulas use (R16, R143, R186, R333): computed in fixed point with 128
fraction bits, far below the last place of any width the spec states (log entry 247). -/
namespace Sys2Proof.Machine

/-- A number in fixed point with 128 fraction bits. -/
abbrev Fx := Int

/-- One. -/
def fxOne : Fx := 2 ^ 128
/-- π. -/
def fxPi : Fx := 1069028584064966747859680373161870783300
/-- The natural logarithm of 2. -/
def fxLn2 : Fx := 235865763225513294137944142764154484399

/-- A rational number in fixed point, rounded down. -/
def toFx (q : Rat) : Fx := (q * (fxOne : Rat)).floor
/-- A fixed-point number as a rational number. -/
def ofFx (x : Fx) : Rat := (x : Rat) / (fxOne : Rat)
/-- A product in fixed point. -/
def fxMul (a b : Fx) : Fx := a * b / fxOne
/-- A quotient in fixed point; 0 where the divisor is 0. -/
def fxDiv (a b : Fx) : Fx := a * fxOne / b

/-- Newton's iteration for the integer square root, from above, with its fuel. -/
def isqrtGo : Nat → Nat → Nat → Nat
  | 0, _, x => x
  | k + 1, n, x => let y := (x + n / x) / 2
                   if y < x then isqrtGo k n y else x

/-- The integer square root. -/
def isqrt (n : Nat) : Nat := if n == 0 then 0 else isqrtGo (Nat.log2 n + 8) n (2 ^ (Nat.log2 n / 2 + 1))

/-- The square root in fixed point; 0 below 0. -/
def fxSqrt (x : Fx) : Fx := (isqrt (x.toNat * 2 ^ 128) : Int)

/-- The square root of a rational number; 0 below 0. -/
def sqrtR (q : Rat) : Rat := if q ≤ 0 then 0 else ofFx (fxSqrt (toFx q))

/-- A Taylor series whose k-th term is its predecessor times `x` over `den k`: the terms left, k, x, the term, the sum. -/
def fxSeries (den : Nat → Int) : Nat → Nat → Fx → Fx → Fx → Fx
  | 0, _, _, _, acc => acc
  | n + 1, k, x, t, acc => let t := fxMul t x / den k
                           fxSeries den n (k + 1) x t (acc + t)

/-- e to a power between 0 and 1, in fixed point. -/
def fxExp (x : Fx) : Fx := fxSeries (fun k => (k : Int)) 40 1 x fxOne fxOne

/-- e to a rational power; 0 far below the smallest binary64. -/
def expR (q : Rat) : Rat :=
  if q < -2000 then 0 else
  let x := toFx q
  let n := x / fxLn2
  ofFx (fxExp (x - n * fxLn2)) * pow2 n

/-- The sine of an angle of at most π/4. -/
def fxSin (x : Fx) : Fx := fxSeries (fun k => -((2 * k * (2 * k + 1) : Nat) : Int)) 20 1 (fxMul x x) x x
/-- The cosine of an angle of at most π/4. -/
def fxCos (x : Fx) : Fx := fxSeries (fun k => -(((2 * k - 1) * (2 * k) : Nat) : Int)) 20 1 (fxMul x x) fxOne fxOne

/-- The sine of an angle in degrees in fixed point. -/
def fxSinDeg (a : Rat) : Fx :=
  let k := (a / 90 + 1 / 2).floor
  let x := toFx (a - 90 * (k : Rat)) * fxPi / (180 * fxOne)
  match (k % 4).toNat with
  | 0 => fxSin x
  | 1 => fxCos x
  | 2 => -fxSin x
  | _ => -fxCos x

/-- The sine of an angle in degrees (R186, R322). -/
def sinDeg (a : Rat) : Rat := ofFx (fxSinDeg a)
/-- The cosine of an angle in degrees. -/
def cosDeg (a : Rat) : Rat := ofFx (fxSinDeg (a + 90))

/-- One degree in radians. -/
def radPerDeg : Rat := ofFx fxPi / 180

/-- The arc tangent of a number from 0 to 1 in radians: halved twice, then its series. -/
def fxAtan (t : Fx) : Fx :=
  let half := fun (x : Fx) => fxDiv x (fxOne + fxSqrt (fxOne + fxMul x x))
  let u := half (half t)
  let u2 := fxMul u u
  let rec go : Nat → Int → Fx → Fx → Fx
    | 0, _, _, acc => acc
    | n + 1, k, p, acc => let p := -(fxMul p u2)
                          go n (k + 2) p (acc + p / k)
  4 * go 32 3 u u

/-- The angle in degrees, anticlockwise from east, of a vector (east, north): above -180 and at most 180, 0 for no vector. -/
def headingDeg (e n : Rat) : Rat :=
  let ae := absR e
  let an := absR n
  if ae == 0 && an == 0 then 0 else
  let small := if an ≤ ae then fxAtan (toFx (an / ae)) else fxPi / 2 - fxAtan (toFx (ae / an))
  let deg := ofFx small * 180 / ofFx fxPi
  let d := if 0 ≤ e then deg else 180 - deg
  if n < 0 then -d else d

/-- The arc tangent in degrees (R186, R189). -/
def atanDeg (x : Rat) : Rat := headingDeg 1 x

/-! ## WGS 84 (R161, R293, R295, R333) -/

/-- The semi-major axis of the ellipsoid in metres. -/
def wgsA : Rat := 6378137
/-- The first eccentricity squared. -/
def wgsE2 : Rat := let f := 1000000000 / 298257223563; f * (2 - f)

/-- A vector of three numbers. -/
abbrev Vec3 := Rat × Rat × Rat

/-- A number cut to 128 fraction bits. -/
def cutR (q : Rat) : Rat := ofFx (toFx q)

/-- The Earth-centred coordinates in metres of a latitude and longitude in degrees and a height in metres. -/
def toEcef (lat lon h : Rat) : Vec3 :=
  let sp := sinDeg lat
  let cp := cosDeg lat
  let n := cutR (wgsA / sqrtR (1 - wgsE2 * sp * sp))
  (cutR ((n + h) * cp * cosDeg lon), cutR ((n + h) * cp * sinDeg lon), cutR ((n * (1 - wgsE2) + h) * sp))

/-- East, north and up of an Earth-centred position in the tangent frame of an origin. -/
def ecefToMap (olat olon oh : Rat) (p : Vec3) : Vec3 :=
  let o := toEcef olat olon oh
  let dx := p.1 - o.1
  let dy := p.2.1 - o.2.1
  let dz := p.2.2 - o.2.2
  let sp := sinDeg olat
  let cp := cosDeg olat
  let sl := sinDeg olon
  let cl := cosDeg olon
  (cutR (cl * dy - sl * dx), cutR (cp * dz - sp * (cl * dx + sl * dy)), cutR (cp * (cl * dx + sl * dy) + sp * dz))

/-- East, north and up in metres of a WGS 84 place in the tangent frame of an origin (R333), by latitude, longitude and height of the
origin and then of the place. -/
def toMap (olat olon oh lat lon h : Rat) : Vec3 := ecefToMap olat olon oh (toEcef lat lon h)

/-- The Earth-centred coordinates of a place of a tangent frame. -/
def mapToEcef (olat olon oh : Rat) (p : Vec3) : Vec3 :=
  let o := toEcef olat olon oh
  let sp := sinDeg olat
  let cp := cosDeg olat
  let sl := sinDeg olon
  let cl := cosDeg olon
  (cutR (o.1 - sl * p.1 - sp * cl * p.2.1 + cp * cl * p.2.2), cutR (o.2.1 + cl * p.1 - sp * sl * p.2.1 + cp * sl * p.2.2),
    cutR (o.2.2 + cp * p.2.1 + sp * p.2.2))

/-- The latitude of an Earth-centred position by fixed-point iteration on its tangent, and the height that goes with it. -/
def latIter : Nat → Rat → Rat → Rat → Rat
  | 0, _, _, lat => lat
  | k + 1, r, z, lat =>
    let sp := sinDeg lat
    let n := cutR (wgsA / sqrtR (1 - wgsE2 * sp * sp))
    latIter k r z (headingDeg r (z + n * wgsE2 * sp))

/-- Latitude and longitude in degrees of an Earth-centred position, and its height in metres. -/
def ofEcef (p : Vec3) : Vec3 :=
  let r := sqrtR (p.1 * p.1 + p.2.1 * p.2.1)
  let lat := latIter 8 r p.2.2 (headingDeg (r * (1 - wgsE2)) p.2.2)
  let sp := sinDeg lat
  let n := cutR (wgsA / sqrtR (1 - wgsE2 * sp * sp))
  (lat, headingDeg p.1 p.2.1, cutR (r * cosDeg lat + (p.2.2 + wgsE2 * n * sp) * sp - n))

/-- A position of one map frame in the frame of another origin (R333), taken on the tangent plane of the old one: the old origin, the
new origin, east, north. Log entry 65. -/
def mapShift (o p : Vec3) (e n : Rat) : Rat × Rat :=
  let q := ecefToMap p.1 p.2.1 p.2.2 (mapToEcef o.1 o.2.1 o.2.2 (e, n, 0))
  (q.1, q.2.1)

/-- Distance in metres between two WGS 84 places (latitude and longitude in degrees, height in metres), through Earth-centred
coordinates (R293, R295). -/
def geoDist (alat alon ah blat blon bh : Rat) : Rat :=
  let a := toEcef alat alon ah
  let b := toEcef blat blon bh
  let d := (a.1 - b.1, a.2.1 - b.2.1, a.2.2 - b.2.2)
  sqrtR (d.1 * d.1 + d.2.1 * d.2.1 + d.2.2 * d.2.2)

/-- The mean of some samples. -/
def meanOf (l : List Rat) : Rat := l.sum / (l.length : Rat)

end Sys2Proof.Machine
end

