-- ==== Sys2Proof/Machine/Crypto.lean ====
section
/-! DEFINITION. Checksums and message authentication: CRC-32C (R59), CRC-16/CCITT (R456), and AES-CMAC (R69, R70), whose
name the spec gives and whose definition is the standard's (PRESUMED, log entry 6). -/
namespace Sys2Proof.Machine

namespace Crypto

/-- One bit of a reflected CRC-32C. -/
def crcBit (c : Nat) : Nat := if c % 2 == 1 then (c / 2) ^^^ 0x82F63B78 else c / 2

/-- One byte into a running CRC-32C, before the final XOR (R59). -/
def crcByte (c : Nat) (b : Byte) : Nat :=
  crcBit (crcBit (crcBit (crcBit (crcBit (crcBit (crcBit (crcBit (c ^^^ b.toNat))))))))

/-- A running CRC-32C over bytes; the match takes the running value before the next byte. -/
def crcRun : Nat → List Byte → Nat
  | c, [] => c
  | c, b :: bs => match crcByte c b with
    | 0 => crcRun 0 bs
    | n + 1 => crcRun (n + 1) bs

/-- CRC-32C of bytes (R59). -/
def crc32c (bs : List Byte) : Nat := crcRun 0xFFFFFFFF bs ^^^ 0xFFFFFFFF

/-- One bit of CRC-16/CCITT. -/
def crc16Bit (c : Nat) : Nat := if c / 32768 == 1 then ((c * 2) % 65536) ^^^ 0x1021 else (c * 2) % 65536

/-- One byte into a running CRC-16/CCITT (R456). -/
def crc16Byte (c : Nat) (b : Byte) : Nat :=
  crc16Bit (crc16Bit (crc16Bit (crc16Bit (crc16Bit (crc16Bit (crc16Bit (crc16Bit (c ^^^ (b.toNat * 256)))))))))

/-- A running CRC-16/CCITT over bytes. -/
def crc16Run (c : Nat) (bs : List Byte) : Nat := bs.foldl crc16Byte c

/-- The AES substitution table, sixteen entries a row, the first of a row in its lowest byte. -/
def sbox : List Nat :=
  [ 0x76abd7fe2b670130c56f6bf27b777c63,
    0xc072a49cafa2d4adf04759fa7dc982ca,
    0x1531d871f1e5a534ccf73f362693fdb7,
    0x75b227ebe28012079a059618c323c704,
    0x842fe329b3d63b52a05a6e1b1a2c8309,
    0xcf584c4a39becb6a5bb1fc20ed00d153,
    0xa89f3c507f02f94585334d43fbaaefd0,
    0xd2f3ff1021dab6bcf5389d928f40a351,
    0x73195d643d7ea7c41744975fec130ccd,
    0xdb0b5ede14b8ee4688902a22dc4f8160,
    0x79e4959162acd3c25c2406490a3a32e0,
    0x08ae7a65eaf4566ca94ed58d6d37c8e7,
    0x8a8bbd4b1f74dde8c6b4a61c2e2578ba,
    0x9e1dc186b95735610ef6034866b53e70,
    0xdf2855cee9871e9b948ed9691198f8e1,
    0x16bb54b00f2d99416842e6bf0d89a18c ]

/-- Substitution of one byte. -/
def sub (b : Nat) : Nat := sbox.getD (b / 16) 0 / 256 ^ (b % 16) % 256

/-- Multiplication by x in the AES field. -/
def xtime (b : Nat) : Nat := if b < 128 then b * 2 else ((b * 2) ^^^ 0x11B) % 256

/-- Bytewise exclusive or. -/
def xorB (a b : List Nat) : List Nat := List.zipWith (· ^^^ ·) a b

/-- Row shift of a block held column by column. -/
def shiftRows (s : List Nat) : List Nat :=
  [0, 5, 10, 15, 4, 9, 14, 3, 8, 13, 2, 7, 12, 1, 6, 11].map fun i => s.getD i 0

/-- Column mixing of one column. -/
def mixCol (a b c d : Nat) : List Nat :=
  [xtime a ^^^ (xtime b ^^^ b) ^^^ c ^^^ d, a ^^^ xtime b ^^^ (xtime c ^^^ c) ^^^ d,
   a ^^^ b ^^^ xtime c ^^^ (xtime d ^^^ d), (xtime a ^^^ a) ^^^ b ^^^ c ^^^ xtime d]

/-- Column mixing of a block. -/
def mixColumns (s : List Nat) : List Nat :=
  let g := fun i => s.getD i 0
  mixCol (g 0) (g 1) (g 2) (g 3) ++ mixCol (g 4) (g 5) (g 6) (g 7) ++ mixCol (g 8) (g 9) (g 10) (g 11)
    ++ mixCol (g 12) (g 13) (g 14) (g 15)

/-- The key schedule, newest word first: `nk` words of key, word number `i`, `n` more words to make. -/
def expand (nk : Nat) : Nat → Nat → Nat → List (List Nat) → List (List Nat)
  | 0, _, _, ws => ws
  | n + 1, i, rcon, ws =>
    let prev := ws.headD []
    let old := ws.getD (nk - 1) []
    if i % nk == 0 then
      let rot := (prev.drop 1 ++ prev.take 1).map sub
      expand nk n (i + 1) (xtime rcon) (xorB old (xorB rot [rcon, 0, 0, 0]) :: ws)
    else if nk == 8 && i % 8 == 4 then expand nk n (i + 1) rcon (xorB old (prev.map sub) :: ws)
    else expand nk n (i + 1) rcon (xorB old prev :: ws)

/-- Four bytes at a time. -/
def words (k : List Nat) : Nat → List (List Nat)
  | 0 => []
  | n + 1 => k.take 4 :: words (k.drop 4) n

/-- The round keys of a key of 16 or 32 bytes. -/
def roundKeys (key : List Nat) : List (List Nat) :=
  let nk := key.length / 4
  let rounds := nk + 6
  let ws := (expand nk (4 * (rounds + 1) - nk) nk 1 (words key nk).reverse).reverse
  (List.range (rounds + 1)).map fun r => (ws.drop (4 * r)).take 4 |>.flatten

/-- The same bytes, each taken before it is used: a block that has been computed stays computed. -/
def settle : List Nat → List Nat
  | [] => []
  | 0 :: l => 0 :: settle l
  | (n + 1) :: l => (n + 1) :: settle l

/-- AES encryption of one block under round keys. -/
def encrypt (rks : List (List Nat)) (blk : List Nat) : List Nat :=
  match rks with
  | [] => blk
  | k0 :: rest =>
    let s := rest.dropLast.foldl (fun s k => settle (xorB (mixColumns (shiftRows (settle (s.map sub)))) k)) (settle (xorB blk k0))
    xorB (shiftRows (s.map sub)) (rest.getLastD [])

/-- Doubling of a 16-byte block, first byte most significant. -/
def double (b : List Nat) : List Nat :=
  let v := b.foldl (fun a x => a * 256 + x) 0
  let d := (v * 2) % 2 ^ 128
  let d := if v < 2 ^ 127 then d else d ^^^ 0x87
  (List.range 16).map fun i => d / 2 ^ (8 * (15 - i)) % 256

/-- CMAC over the blocks of a message: `n` blocks before the last. -/
def cmacRun (rks : List (List Nat)) (sub1 sub2 : List Nat) : Nat → List Nat → List Nat → List Nat
  | 0, x, m =>
    let last := if m.length == 16 then xorB m sub1
      else xorB (m ++ [128] ++ List.replicate (15 - m.length) 0) sub2
    encrypt rks (xorB x last)
  | n + 1, x, m => cmacRun rks sub1 sub2 n (encrypt rks (xorB x (m.take 16))) (m.drop 16)

/-- AES-CMAC of a message under a key of 16 or 32 bytes. -/
def cmac (key msg : List Byte) : List Byte :=
  let rks := roundKeys (key.map (·.toNat))
  let l := encrypt rks (List.replicate 16 0)
  let m := msg.map (·.toNat)
  let k1 := double l
  (cmacRun rks k1 (double k1) ((m.length - 1) / 16) (List.replicate 16 0) m).map (BitVec.ofNat 8)

/-- AES-CMAC under a 16-byte session key. -/
def cmac128 (key msg : List Byte) : List Byte := cmac key msg

end Crypto

end Sys2Proof.Machine
end

