-- ==== Sys2Proof/Machine/State/Basic.lean ====
section
/-! DEFINITION. The pieces of state that several chapters share: statuses, records, packets in flight. In the
docstrings of the state files `W` is the width in bits (`-` for internal structure), then the rule, then the reset value. -/
namespace Sys2Proof.Machine

/-- The status codes of R84. -/
inductive Status where
  | done | queued | superseded | held | badOpcode | badParam | badLength | badCrc | notOwner | wrongState
  | noResource | tagInUse | authFail | poisoned | hwFault | timeout | degraded | configRejected
deriving DecidableEq, Repr, Inhabited

/-- The quality states of R38. -/
inductive Quality where
  | valid | stale | disputed | masked | poisoned | substituted | noValue | outOfRange | forced
deriving DecidableEq, Repr, Inhabited

/-- One Ridgeline record (R36). Its reset is the NO_VALUE record (R38: not published since start-up). -/
structure Rec where
  /-- W=64 R36 reset 0 -/
  value : BitVec 64 := 0
  /-- W=64 R36 reset 0 -/
  stamp : Nat := 0
  /-- W=8 R36 reset 0 -/
  confidence : Nat := 0
  /-- W=4 R38 reset NO_VALUE -/
  quality : Quality := .noValue
  /-- W=4 R36 reset the declared type, 0 where none -/
  ty : Nat := 0
  /-- W=16 R36 reset 0 -/
  seq : Nat := 0
  /-- W=32 R36 reset the record's own handle -/
  source : Nat := 0
  /-- W=32 R36 reset 0 -/
  blockLen : Nat := 0
  /-- W=64 R36 reset all ones (none) -/
  staleAt : Option Nat := none
  /-- W=64 R36 reset 0 -/
  received : Nat := 0
  /-- W=1 R42 reset clear: the poison bit of the record's SRAM line -/
  linePoison : Bool := false
deriving DecidableEq, Repr, Inhabited

/-- A command with the port it came through and its accepted session counter (R63, R71). -/
structure Req where
  op : Op
  p : Packet := {}
  port : Nat := 0
  ctr : Option Nat := none
  /-- the received opcode where it is no command's (R62) -/
  raw : Option Nat := none
deriving DecidableEq, Repr, Inhabited

/-- How a command that waits for its predecessor in a chain (R83), or for an earlier one of its target (R82), may go on. -/
inductive ChainMark where
  | free | waiting | go | broken
deriving DecidableEq, Repr, Inhabited

/-- One command in flight (R79): it holds its tag and one credit until its final reply. -/
structure Flight where
  req : Req
  admitted : Nat := 0
  /-- started under R78: accepted by its target, a held state included -/
  started : Bool := false
  /-- the credit came from the shared pool (R76) -/
  sharedCredit : Bool := false
  chain : ChainMark := .free
  /-- tag of the preceding member of the chain while `chain` is `waiting` -/
  waitsFor : Nat := 0
  /-- held for the Col commit of this period of the sending partition (R81) -/
  colPeriod : Option Nat := none
  /-- replaced by a later command of the period (R80) -/
  replaced : Bool := false
  /-- waiting for the sample that starts it (R93, R192, R396): it has not started (R78) -/
  atSample : Bool := false
deriving DecidableEq, Repr, Inhabited

/-- A packet that the module sends: a reply, or a packet it originates (R61, R62). -/
structure OutPkt where
  time : Nat := 0
  port : Nat := 0
  isReply : Bool := false
  opcode : Nat := 0
  tag : Nat := 0
  /-- the status of a reply; the flags of an originated packet -/
  status : Nat := 0
  target : BitVec 32 := 0
  seq : BitVec 16 := 0
  session : BitVec 32 := 0
  payload : List Byte := []
  /-- the trailer (R59) -/
  crc : BitVec 32 := 0
  /-- the bytes as they leave on the transport: a datagram, a stuffed frame of `SVC` (R66), the frames of an ISO 15765-2 message (R67), or the
  whole lines of a mailbox slot (R64) -/
  wire : List (List Byte) := []
  /-- configured host address to which an originated packet goes as a datagram (R86); none on a port -/
  address : Option Nat := none
deriving DecidableEq, Repr, Inhabited

/-- A Cairn event as it is raised (R471 to R474). -/
structure CairnEv where
  code : Nat
  source : Nat := 0x70
  payload : List Byte := []
  moduleTime : Nat := 0
deriving DecidableEq, Repr, Inhabited

end Sys2Proof.Machine
end

