-- ==== Sys2Proof/Machine/State/Cam.lean ====
section
/-! DEFINITION. The state of chapter 15 (camera links, pipelines and the vision accelerator) and of R541's power over coax. -/
namespace Sys2Proof.Machine

/-- One route of a link (R344). -/
structure CamRoute where
  vc : Nat := 0
  pipe : Nat := 0xFF
  dt : Nat := 0
  dtShort : Nat := 0
  emb : Nat := 0
deriving DecidableEq, Repr, Inhabited

/-- Link states (R342). -/
inductive LinkSt where
  | off | training | up | down | excluded
deriving DecidableEq, Repr, Inhabited

/-- One camera link (R341, R342, R541). -/
structure CamLink where
  /-- W=3 R341 reset 0 (off) -/
  gear : Nat := 0
  /-- W=1 R541 reset 0 -/
  poc : Bool := false
  /-- W=- R344 reset none: two routes -/
  routes : List CamRoute := [{}, {}]
  /-- W=3 R342 reset OFF (0) -/
  st : LinkSt := .off
  /-- W=64 R342 reset none: no lock since -/
  noLock : Option Nat := none
  /-- W=64 R342 reset 0: last training -/
  trainedAt : Nat := 0
  /-- W=32 R343 reset 0: discarded packets -/
  discarded : Nat := 0
  /-- W=64 R541 reset none: power over coax switched off by overcurrent at -/
  pocTrip : Option Nat := none
deriving DecidableEq, Repr, Inhabited

/-- Parameters of a pipeline that a settings write can replace (R346, R352). -/
structure CamParams where
  black : List Nat := [0, 0, 0, 0]
  wb : List Nat := [1024, 1024, 1024, 1024]
  ratio : F32 := 0x3F800000
deriving DecidableEq, Repr, Inhabited

/-- `CAM_PIPE_SET`. -/
structure CamCfg where
  enable : Bool := false
  cfa : Nat := 0
  hdr : Nat := 0
  format : Nat := 0
  width : Nat := 64
  height : Nat := 64
  fsync : Nat := 0xFF
  delay : Nat := 1
  buffers : Nat := 3
  frame : Nat := 0
  fpsMax : F32 := 0x3F800000
  params : CamParams := {}
  defectThr : Nat := 0
  stampOffset : Int := 0
  bufBase : Nat := 0
  handle : Nat := 0
  knee : Nat := 0
  intrinsics : List F32 := []
  pwl : List (Nat × Nat) := []
  ldc : Bool := false
  owner : Nat := 0
deriving DecidableEq, Repr, Inhabited

/-- Pipeline states (R351). -/
inductive PipeSt where
  | off | waiting | running | faulted
deriving DecidableEq, Repr, Inhabited

/-- A frame in progress (R345, R346). -/
structure CamFrame where
  no : Nat := 0
  start : Nat := 0
  settings : Nat := 0
  lines : List (List Nat) := []
  shorts : List (List Nat) := []
  good : Nat := 0
  lineError : Bool := false
  truncated : Bool := false
  uncertain : Bool := false
  paired : Bool := false
  params : CamParams := {}
deriving DecidableEq, Repr, Inhabited

/-- One statistics buffer (R348, R362). -/
structure CamStats where
  /-- W=32 R362 reset 0 -/
  begin_ : Nat := 0
  /-- W=16 R362 reset 0 -/
  settings : Nat := 0
  /-- W=16 R362 reset 0 -/
  flags : Nat := 0
  /-- W=64 R362 reset 0 -/
  start : Nat := 0
  /-- W=32 R362 reset 0 -/
  defects : Nat := 0
  /-- W=32 R362 reset 0 -/
  saturated : Nat := 0
  /-- W=64 R362 reset 0 each: zone sums -/
  sums : List Nat := List.replicate 256 0
  /-- W=32 R362 reset 0 each: (256 × zone + bin, count) where a bin is not empty -/
  hist : List (Nat × Nat) := []
  /-- W=32 R362 reset 0 -/
  end_ : Nat := 0
deriving DecidableEq, Repr, Inhabited

/-- A settings write in flight (R352, R353). -/
structure CamWrite where
  req : Req
  link : Nat
  id : Nat
  params : Option CamParams := none
  regs : List (Nat × Nat) := []
  completed : Option Nat := none
  governs : Option Nat := none
deriving DecidableEq, Repr, Inhabited

/-- One pipeline (R346 to R353, R360, R361). -/
structure CamPipe where
  /-- W=- R346 reset the defaults of `CAM_PIPE_SET` -/
  cfg : CamCfg := {}
  /-- W=3 R360 reset OFF (0) -/
  st : PipeSt := .off
  /-- W=- R352 reset as configured: parameters in force -/
  params : CamParams := {}
  /-- W=- R345 reset none: frame in progress -/
  cur : Option CamFrame := none
  /-- W=32 R350 reset 0: number of the next frame -/
  nextNo : Nat := 0
  /-- W=32 R361 reset 0: `PIPE_FRAME` -/
  lastNo : Nat := 0
  /-- W=16 R361 reset 0: settings ID of the last frame -/
  lastSettings : Nat := 0
  /-- W=64 R361 reset 0: `PIPE_STAMP` -/
  lastStart : Nat := 0
  /-- W=16 R352 reset 0: settings ID in force -/
  settings : Nat := 0
  /-- W=1 R353 reset clear: `SETTINGS_UNCERTAIN` -/
  uncertain : Bool := false
  /-- W=- R352 reset empty: camera-head registers written, (address, value) -/
  regs : List (Nat × Nat) := []
  /-- W=4 R351 reset 0: consecutive frames in error -/
  bad : Nat := 0
  /-- W=4 R351 reset 0: consecutive clean frames -/
  clean : Nat := 0
  /-- W=1 R351 reset clear: the last frame was truncated -/
  lastTrunc : Bool := false
  /-- W=32 R361 reset 0: truncated or short frames -/
  errors : Nat := 0
  /-- W=32 R361 reset 0: skipped pairs and jobs -/
  skipped : Nat := 0
  /-- W=1 R360 reset 0: `TRUNC_SEEN` -/
  truncSeen : Bool := false
  /-- W=32 R361 reset 0: `PIPE_SKEW` -/
  skew : Int := 0
  /-- W=- R362 reset empty: the two statistics buffers -/
  stats : List CamStats := [{}, {}]
  /-- W=1 R360 reset 0: `STATS_BUF` -/
  statsBuf : Nat := 0
  /-- W=64 CAM_EVENT reset none: last event for truncation -/
  truncEvent : Option Nat := none
  /-- W=64 CAM_EVENT reset none: last event for a skip -/
  skipEvent : Option Nat := none
deriving DecidableEq, Repr, Inhabited

/-- One FSYNC output (R354). -/
structure CamFsync where
  /-- W=32 R354 reset 0 (off): µs -/
  period : Nat := 0
  /-- W=16 R354 reset 1 -/
  width : Nat := 1
  /-- W=8 R354 reset 0 -/
  polarity : Nat := 0
  /-- W=- R354 reset none: (instant, period, width, polarity) still to apply -/
  next : Option (Nat × Nat × Nat × Nat) := none
  /-- W=64 R355 reset 0: held inactive until -/
  heldUntil : Nat := 0
deriving DecidableEq, Repr, Inhabited

/-- One pair (R355). -/
structure CamPair where
  /-- W=8 R355 reset 0xFF (off) -/
  a : Nat := 0xFF
  /-- W=8 R355 reset 0xFF (off) -/
  b : Nat := 0xFF
  /-- W=16 R355 reset 100: µs -/
  tol : Nat := 100
  /-- W=32 R355 reset 0 -/
  handle : Nat := 0
  /-- W=2 R360 reset 0: 0 no pair, 1 SYNCHRONISED, 2 RESYNCING, 3 UNSYNCHRONISED -/
  st : Nat := 0
  /-- W=- R355 reset empty: frame starts not yet matched, (number, start), of A and of B -/
  qa : List (Nat × Nat) := []
  qb : List (Nat × Nat) := []
  /-- W=1 R355 reset clear: matching runs -/
  matching : Bool := false
  /-- W=2 R355 reset 0: consecutive matches -/
  hits : Nat := 0
  /-- W=64 R355 reset 0: release of the FSYNC output -/
  releaseAt : Nat := 0
  /-- W=64 R355 reset 0: next resynchronisation not before -/
  retryAt : Nat := 0
  /-- W=- R355 reset empty: descriptors of matched frames, (match, descriptor), of A and of B -/
  da : List (Nat × List Byte) := []
  db : List (Nat × List Byte) := []
  /-- W=- R355 reset empty: matched frames not yet closed, (number of A, number of B) -/
  matched : List (Nat × Nat) := []
deriving DecidableEq, Repr, Inhabited

/-- One accelerator job's configuration (R356, R357). -/
structure VaJob where
  /-- W=1 R357 reset 0 -/
  enable : Bool := false
  /-- W=2 R357 reset 2, 1, 3 by function -/
  prio : Nat := 2
  /-- W=4 R356 reset 1 -/
  decim : Nat := 1
  /-- W=8 R356 reset 128 -/
  minConf : Nat := 128
  /-- W=32 R356 reset 0 -/
  handle : Nat := 0
  /-- W=256 R356 reset 4, 8 … 32 m -/
  edge : List F32 := [0x40800000, 0x41000000, 0x41400000, 0x41800000, 0x41A00000, 0x41C00000, 0x41E00000, 0x42000000]
  /-- W=- R357 reset none: the waiting frame, (number, expose, buffer, bytes) -/
  waiting : Option (Nat × Nat × Nat × Nat) := none
deriving DecidableEq, Repr, Inhabited

/-- The cameras (chapter 15). -/
structure CamState where
  /-- W=- R341 reset off each: AL0-AL3 -/
  links : List CamLink := List.replicate 4 {}
  /-- W=- R346 reset OFF each: CAM0-CAM7 -/
  pipes : List CamPipe := List.replicate 8 {}
  /-- W=- R354 reset off each: FSYNC0-FSYNC7 -/
  fsync : List CamFsync := List.replicate 8 {}
  /-- W=- R355 reset off each: pairs 0-3 -/
  pairs : List CamPair := List.replicate 4 {}
  /-- W=- R352 reset empty: settings writes in flight, in admission order -/
  writes : List CamWrite := []
  /-- W=- R356 reset disabled each: jobs 8 × f + p -/
  jobs : List VaJob := List.replicate 8 ({} : VaJob) ++ List.replicate 8 { prio := 1 } ++ List.replicate 8 { prio := 3 }
  /-- W=- R357 reset none: the running job and its frame, (job, number, expose, buffer, bytes) -/
  running : Option (Nat × Nat × Nat × Nat × Nat) := none
  /-- W=1 R359 reset 0: `ACCESS_FAULT` -/
  accessFault : Bool := false
  /-- W=- (the model's own) reset empty: FSYNC edges, (output, time), newest first -/
  edges : List (Nat × Nat) := []
deriving DecidableEq, Repr, Inhabited

end Sys2Proof.Machine
end

