-- ==== Sys2Proof/Machine/State/Can.lean ====
section
/-! DEFINITION. The state of chapter 16 (CAN channels). -/
namespace Sys2Proof.Machine

/-- `CAN_CONFIG`. -/
structure CanCfg where
  enable : Bool := false
  mode : Nat := 0
  formats : Nat := 0
  recovery : Nat := 0
  standby : Nat := 0xFF
  mirrorBufs : Nat := 8
  aloneLimit : Nat := 64
  tdc : Nat := 0
  nbrp : Nat := 0
  ntseg1 : Nat := 0
  ntseg2 : Nat := 0
  nsjw : Nat := 0
  dbrp : Nat := 0
  dtseg1 : Nat := 0
  dtseg2 : Nat := 0
  dsjw : Nat := 0
  xbrp : Nat := 0
  xtseg1 : Nat := 0
  xtseg2 : Nat := 0
  xsjw : Nat := 0
  xlTms : Nat := 0
  pwm : List Nat := [0, 0, 0]
  recoveryDelay : Nat := 0
  corlith : Bool := false
  req : Nat := 0
  rsp : Nat := 0
deriving DecidableEq, Repr, Inhabited

/-- A message of ISO 15765-2 under reception on a channel (R67). -/
structure IsoRx where
  active : Bool := false
  /-- its length -/
  want : Nat := 0
  /-- the sequence number of the next consecutive frame -/
  sn : Nat := 0
  got : List Byte := []
  /-- consecutive frames before the next flow control frame; 0 none -/
  left : Nat := 0
deriving DecidableEq, Repr, Inhabited

/-- Channel states (R376). -/
inductive CanSt where
  | off | errorActive | errorPassive | busOff | recovering | sleep | excluded
deriving DecidableEq, Repr, Inhabited

/-- Transmit statuses (R371). -/
inductive TxSt where
  | idle | pending | active | sent | expired | aborted | failed | poisoned | stranded
deriving DecidableEq, Repr, Inhabited

/-- One message buffer (R366, R367, R390). -/
structure CanBuf where
  /-- W=2 R390 reset 0 (unused) -/
  dir : Nat := 0
  /-- W=7 R366 reset 0xFF (none) -/
  owner : Nat := 0xFF
  /-- W=64 R367 reset 0: XL payload address -/
  xlBase : Nat := 0
  /-- W=4 R390 reset IDLE -/
  tx : TxSt := .idle
  /-- W=1 R390 reset 0: `ONE_SHOT` -/
  oneShot : Bool := false
  /-- W=1 R390 reset 0: `MIRRORED` -/
  mirrored : Bool := false
  /-- W=8 R390 reset 0: `ATTEMPTS` -/
  attempts : Nat := 0
  /-- W=8 R390 reset 0: `SEQ` -/
  seq : Nat := 0
  /-- W=1 R390 reset 0: `SLOT` -/
  slot : Nat := 0
  /-- W=1 R390 reset 0: `OVERRUN` -/
  overrun : Bool := false
  /-- W=1 R389 reset 0: `CAN_NEW` -/
  new : Bool := false
  /-- W=1 R389 reset 0: `CAN_DONE` -/
  done : Bool := false
  /-- W=1 R374 reset clear: an abort waits for the attempt's end -/
  abort : Bool := false
  /-- W=8 R367 reset 0: the two slots, 256 bytes, as cells that differ from 0 -/
  cells : List Host.Cell := []
  /-- W=1 R375 reset none: the words of marked lines of the two slots that are still to be rewritten, 32 x slot + word -/
  poison : List Nat := []
  /-- W=1 R384 reset clear: a frame has reached the buffer since the previous check -/
  checked : Bool := false
deriving DecidableEq, Repr, Inhabited

/-- One receive filter (R368). -/
structure CanFilter where
  enable : Bool := false
  buffer : Nat := 0
  formats : Nat := 0
  vcid : Nat := 0
  id : Nat := 0
  mask : Nat := 0
deriving DecidableEq, Repr, Inhabited

/-- One trigger of the schedule (R384). -/
structure CanTrigger where
  kind : Nat
  buffer : Nat
  mark : Nat
  rep : Nat
  offset : Nat
deriving DecidableEq, Repr, Inhabited

/-- The time-triggered schedule (R383). -/
structure CanTt where
  refId : Nat
  ntu : Nat
  cycle : Nat
  watch : Nat
  cycles : Nat
  triggers : List CanTrigger := []
deriving DecidableEq, Repr, Inhabited

/-- One CAN channel (R363 to R390). -/
structure CanCh where
  /-- W=- R376 reset not configured -/
  cfg : CanCfg := {}
  /-- W=3 R388 reset OFF (0) -/
  st : CanSt := .off
  /-- W=1 R376 reset clear: enabled or woken, waits for 11 recessive bits -/
  joining : Bool := false
  /-- W=9 R388 reset 0 -/
  tec : Nat := 0
  /-- W=8 R388 reset 0 -/
  rec_ : Nat := 0
  /-- W=1 R388 reset 0: `ALONE` -/
  alone : Bool := false
  /-- W=64 R379 reset none: the last attempt made while ALONE -/
  aloneAt : Option Nat := none
  /-- W=8 R388 reset 0: `UNACKED` -/
  unacked : Nat := 0
  /-- W=1 R388 reset 0: `WAKE_SEEN` -/
  wakeSeen : Bool := false
  /-- W=2 R382 R502 reset 1: `wake`, the setting a channel without one sleeps with -/
  wake : Nat := 1
  /-- W=- R382 reset 0: `wuf_ide`, `wuf_dlc`, `wuf_id`, `wuf_mask`, `wuf_data` -/
  wuf : Nat × Nat × Nat × Nat × Nat := (0, 0, 0, 0, 0)
  /-- W=6 R382 reset 0: frame error counter of selective wake -/
  wufErr : Nat := 0
  /-- W=8 R385 reset 0xFF (none): claimed address -/
  address : Nat := 0xFF
  /-- W=64 R385 reset none: NAME, preferred, first, last -/
  claim : Option (Nat × Nat × Nat × Nat) := none
  /-- W=32 R368 reset 0 -/
  unmatched : Nat := 0
  /-- W=32 R377 reset 0 -/
  unmirrored : Nat := 0
  /-- W=32 R384 reset 0 -/
  ttMissed : Nat := 0
  /-- W=32 R376 reset 0 -/
  busOffs : Nat := 0
  /-- W=64 R376 reset 0: when BUS_OFF was entered -/
  busOffAt : Nat := 0
  /-- W=- R376 reset none: a `CAN_RECOVER` that has not ended -/
  recover : Option Req := none
  /-- W=- R67 reset none: the message under reception -/
  iso : IsoRx := {}
  /-- W=8 R67 reset 0: block size -/
  isoBlock : Nat := 0
  /-- W=7 R67 reset 0: STmin in ms -/
  isoStMin : Nat := 0
  /-- W=- R366 reset unused each: buffers 0-127 -/
  bufs : List CanBuf := List.replicate 128 {}
  /-- W=- R368 reset disabled each: filters 0-63 -/
  filters : List CanFilter := List.replicate 64 {}
  /-- W=- R383 reset none -/
  tt : Option CanTt := none
  /-- W=1 R383 reset clear: the schedule runs -/
  ttRun : Bool := false
  /-- W=6 R383 reset 0: Cycle_Count -/
  cycleCount : Nat := 0
  /-- W=64 R383 reset 0: start of the present basic cycle -/
  cycleAt : Nat := 0
  /-- W=7 R365 reset none: the transmitter loop delay last measured, in `BCLK` cycles -/
  loopDelay : Option Nat := none
  /-- W=8 R365 reset none: the secondary sample point, in `BCLK` cycles -/
  ssp : Option Nat := none
  /-- W=1 R318 reset clear: a master of higher priority is active -/
  otherMaster : Bool := false
deriving DecidableEq, Repr, Inhabited

/-- A frame that the module has put on a bus. -/
structure CanSent where
  time : Nat
  ch : Nat
  id : Nat
  ide : Bool
  data : List Byte
deriving DecidableEq, Repr, Inhabited

/-- The CAN channels (chapter 16). -/
structure CanState where
  /-- W=- R363 reset each at reset: CAN0-CAN11 -/
  ch : List CanCh := List.replicate 12 {}
  /-- W=1 R387 reset 0: `ACCESS_FAULT` -/
  accessFault : Bool := false
  /-- W=- (the model's own) reset empty: frames sent, newest first -/
  sent : List CanSent := []
  /-- W=- R67 (the model's own) reset empty: flow control frames sent, newest first: time, channel, data -/
  isoOut : List (Nat × Nat × List Byte) := []
deriving DecidableEq, Repr, Inhabited

end Sys2Proof.Machine
end

