-- ==== Sys2Proof/Machine/State/Col.lean ====
section
/-! DEFINITION. The state of chapters 18 (fail-operational core) and 23 (power). -/
namespace Sys2Proof.Machine

/-- State of a core pair (R404). -/
inductive PairSt where
  | active | spare | excluded
deriving DecidableEq, Repr, Inhabited

/-- Partition states of R429. -/
inductive PartSt where
  | free | stopped | running | restoring | standing | shed | faulted
deriving DecidableEq, Repr, Inhabited

/-- One entry of a reply journal (R414, R422). -/
structure JEntry where
  opcode : Nat
  target : BitVec 32
  params : List Byte
  reply : OutPkt
deriving DecidableEq, Repr, Inhabited

/-- A requested start or stop of a partition (R429), with its command. -/
structure RunReq where
  start : Bool
  req : Option Req := none
deriving DecidableEq, Repr, Inhabited

/-- One Merhan partition (R408 to R429). -/
structure Part where
  /-- W=- R408 reset none -/
  cfg : Option PartCfg := none
  /-- W=3 R429 reset FREE (0) -/
  st : PartSt := .free
  /-- W=1 R419 reset clear -/
  admitted : Bool := false
  /-- W=5 R419 reset 0xFF (none) -/
  pair : Option Nat := none
  /-- W=8 R419 reset 0 -/
  reason : Nat := 0
  /-- W=1 R427 reset 0 -/
  fOverrun : Bool := false
  /-- W=1 R427 reset 0 -/
  fUncovered : Bool := false
  /-- W=1 R422 reset 0 -/
  fDiverged : Bool := false
  /-- W=1 R427 reset 0 -/
  fResumed : Bool := false
  /-- W=1 R414 reset 0 -/
  fJournalFull : Bool := false
  /-- W=1 R427 reset 0 -/
  fReplaced : Bool := false
  /-- W=1 R427 reset 0 -/
  fShed : Bool := false
  /-- W=32 R419 reset 0: `resp`, µs -/
  resp : Rat := 0
  /-- W=32 R429 reset 0: `max_exec`, µs -/
  maxExec : Nat := 0
  /-- W=64 R415 reset 0: `period_no` -/
  periodNo : Nat := 0
  /-- W=1 R412 reset clear: period `periodNo` has started and its `done` has not been written -/
  inPeriod : Bool := false
  /-- W=1 R416 reset clear: the commit of period `periodNo` is in progress -/
  committing : Bool := false
  /-- W=1 R416 reset clear: period `periodNo` has a complete commit -/
  committed : Bool := false
  /-- W=1 R422 reset clear: the period is re-executed from its journal -/
  replaying : Bool := false
  /-- W=- R422 reset 0: next journal entry to compare -/
  journalPos : Nat := 0
  /-- W=- R414 reset empty: the period's reply journal -/
  journal : List JEntry := []
  /-- W=- R412 reset empty: the declared input list, by index -/
  inputs : List Nat := []
  /-- W=- R412 reset empty: the frozen snapshot -/
  snapshot : List (Nat × Rec) := []
  /-- W=- R409 reset empty: lines of the working image dirtied in the period -/
  dirty : List Nat := []
  /-- W=48 R415 reset 0: `state_base` -/
  stateBase : Nat := 0
  /-- W=48 R415 reset 0: `snapshot_base` -/
  snapshotBase : Nat := 0
  /-- W=48 R410 reset 0: addresses of the two committed images -/
  images : Nat × Nat := (0, 0)
  /-- W=64 R416 reset 0: generation of the newest complete commit -/
  generation : Nat := 0
  /-- W=2 R423 reset 0: consecutive overruns -/
  consecutive : Nat := 0
  /-- W=32 R423 reset 0 -/
  overruns : Nat := 0
  /-- W=32 R422 reset 0 -/
  reexecuted : Nat := 0
  /-- W=- R210 reset empty: bank swaps of the period that wait for its commit, (loop, bank, commands of the period held before it) -/
  swaps : List (Nat × Nat × Nat) := []
  /-- W=- R429 reset none: a start or stop that waits for its instant -/
  run : Option RunReq := none
  /-- W=64 R412 reset 0: when the current period started -/
  startedAt : Nat := 0
deriving DecidableEq, Repr, Inhabited

/-- A mirrored commit held by the deputy (R430). -/
structure Mirror where
  part : Nat
  period : Nat
  generation : Nat
  /-- the generation's dirty lines: (offset in the state region, 64 bytes) -/
  lines : List (Nat × List Byte)
  /-- the period's output record (R417): opcode, target and parameters of what its release would carry out -/
  outputs : List (Nat × BitVec 32 × List Byte) := []
  /-- the partition's critical functions (R103) -/
  fns : List FnMirror := []
  /-- Couloir's state, `k_cam` and mean grain flow of the last 10 s (R137) -/
  couloir : Option (Nat × F32 × F32) := none
  /-- the open field, if any (R174) -/
  field : Option FieldNote := none
  received : Nat
deriving DecidableEq, Repr, Inhabited

/-- A heartbeat or failure notice sent on ETH0 and ETH1 (R431). -/
structure HbOut where
  time : Nat
  notice : Bool
deriving DecidableEq, Repr, Inhabited

/-- The fail-operational core (chapter 18). -/
structure ColState where
  /-- W=2 R404 reset 16 active and 2 spare: core pairs 0-17 -/
  pairs : List PairSt := List.replicate 16 .active ++ List.replicate 2 .spare
  /-- W=- R408 reset FREE each: partitions that differ from a FREE one, by number, rising -/
  parts : List (Nat × Part) := []
  /-- W=1 R424 reset 0 -/
  singleMirror : Bool := false
  /-- W=1 R407 reset 0 -/
  noSpare : Bool := false
  /-- W=64 R425 reset none: the recovery window is open until then -/
  windowUntil : Option Nat := none
  /-- W=1 R431 reset 0: manager lost -/
  managerLost : Bool := false
  /-- W=1 R427 reset 0: `UNCOVERED` since start-up -/
  uncovered : Bool := false
  /-- W=32 R422 reset 0 -/
  recoveries : Nat := 0
  /-- W=32 R422 reset 0 -/
  reexecuted : Nat := 0
  /-- W=- R422 reset none: recoveries in progress, (spare pair, failed pair, partitions) -/
  restoring : List (Nat × Nat × List Nat) := []
  /-- W=- R430 reset empty: commits mirrored to this module -/
  mirrors : List Mirror := []
  /-- W=- R430 reset empty: commits sent to the deputy, newest first -/
  mirrorOut : List Mirror := []
  /-- W=64 R431 reset none: module time of the manager's last heartbeat -/
  lastHeartbeat : Option Nat := none
  /-- W=- R431 reset empty: heartbeats and failure notices sent, newest first -/
  hbOut : List HbOut := []
  /-- W=- R434 reset none: a role return that waits for its boundary -/
  roleReturn : Option Req := none
  /-- W=1 R434 reset clear: a displaced manager is present -/
  displacedPresent : Bool := false
  /-- W=- R511 reset empty: checkpoints in MRAM, (partition, bytes) -/
  checkpoints : List (Nat × List Byte) := []
  /-- W=- R427 reset none: partitions flagged to resume at the coming start -/
  toResume : List Nat := []
deriving DecidableEq, Repr, Inhabited

/-- Power states of R498. -/
inductive PwrSt where
  | off | sleep | standby | idle | run
deriving DecidableEq, Repr, Inhabited

/-- Logic path states of R496. -/
inductive PathSt where
  | ok | low | lost | overVolt | excluded
deriving DecidableEq, Repr, Inhabited

/-- One logic supply path (R496). A `since` field is the module time from which its condition has held. -/
structure LogicPath where
  /-- W=3 R496 reset OK -/
  st : PathSt := .ok
  /-- W=- R498 reset 0: measured volts -/
  volts : Rat := 0
  /-- W=- R496 reset none: 8.0-9.0 V -/
  lowSince : Option Nat := none
  /-- W=- R496 reset none: below 8.0 V -/
  lostSince : Option Nat := none
  /-- W=- R496 reset none: above 36.0 V -/
  overSince : Option Nat := none
  /-- W=- R496 reset none: reverse current above 0.5 A -/
  revSince : Option Nat := none
  /-- W=- R496 reset none: at or above 9.5 V -/
  lowEndSince : Option Nat := none
  /-- W=- R496 reset none: at or above 9.0 V -/
  lostEndSince : Option Nat := none
  /-- W=- R496 reset none: at or below 35.0 V -/
  overEndSince : Option Nat := none
deriving DecidableEq, Repr, Inhabited

/-- Hold-up bank states of R506. -/
inductive BankSt where
  | charging | ready | fault
deriving DecidableEq, Repr, Inhabited

/-- One configured host address (`PWR_CONFIG`). -/
structure HostAddr where
  eth : Nat
  ip : Nat
  udp : Nat
  address : List Byte
deriving DecidableEq, Repr, Inhabited

/-- A power-state move in progress (R502, R504). -/
structure PwrMove where
  target : PwrSt
  immediate : Bool := false
  /-- module time at which the drain ends at the latest -/
  drainUntil : Option Nat := none
  /-- past the point of no return of the step in progress -/
  pastPnr : Bool := false
  alarm : Nat := 0
  req : Option Req := none
  /-- drain time of this command, ms -/
  drainMs : Nat := 0
  /-- the actions of a step to SLEEP or OFF have been carried out -/
  acted : Bool := false
  /-- the CAN channels as they were before a step to SLEEP (R502) -/
  canBefore : Option CanState := none
deriving DecidableEq, Repr, Inhabited

/-- Power, start-up and hold-up (chapter 23). -/
structure PwrState where
  /-- W=3 R498 reset STANDBY (R512: reached by start-up) -/
  st : PwrSt := .standby
  /-- W=- R502 reset none -/
  move : Option PwrMove := none
  /-- W=- R504 reset none: a raise answered `HELD` -/
  heldMove : Option PwrMove := none
  /-- W=1 R512 reset 0: READY reached -/
  ready : Bool := false
  /-- W=1 R512 reset 0: the `MOD_READY` pin -/
  modReady : Bool := false
  /-- W=6 R86 reset 0: `selftest` -/
  selftest : Nat := 0
  /-- W=64 R501 reset 0: module time at the start of the start-up -/
  startedAt : Nat := 0
  /-- W=32 R86 reset 0: `startup` of `SYS_READY`, µs -/
  startupUs : Nat := 0
  /-- W=4 R512 reset 0: start-up stages completed -/
  stage : Nat := 0
  /-- W=- R496 reset OK each: `LGA`, `LGB` -/
  paths : List LogicPath := [{}, {}]
  /-- W=2 R506 reset CHARGING -/
  bank : BankSt := .charging
  /-- W=- R506 reset 0: bank volts -/
  bankV : Rat := 0
  /-- W=- R506 reset 0: last measured capacitance, mF -/
  bankMf : Rat := 0
  /-- W=1 R506 reset clear: the start-up measurement is complete -/
  bankMeasured : Bool := false
  /-- W=64 R506 reset 0: when charging began -/
  chargeStart : Nat := 0
  /-- W=- R514 reset 30,000 J -/
  budget : Rat := 30000
  /-- W=1 R514 reset 0 -/
  exhausted : Bool := false
  /-- W=- R514 reset 170 W -/
  cap : Rat := 170
  /-- W=- R514 reset 0: p, W -/
  power : Rat := 0
  /-- W=- R514 reset 0: baseplate temperature, °C -/
  baseplate : Rat := 0
  /-- W=1 R515 reset 0: `PERF_LIMIT` -/
  perfLimit : Bool := false
  /-- W=1 R515 reset clear: the scrubber is paused -/
  scrubPaused : Bool := false
  /-- W=1 R515 reset clear: the accelerator's rate is reduced -/
  vaReduced : Bool := false
  /-- W=64 R515 reset none: p has stayed above the cap with both measures in force since then -/
  overSince : Option Nat := none
  /-- W=1 R515 reset clear: `PWR_EVENT` cause 9 has been sent for this stay above the cap -/
  limitSent : Bool := false
  /-- W=1 R510 reset 0: `save_complete` -/
  saveComplete : Bool := false
  /-- W=1 R507 reset clear: a SAVE is in progress -/
  saving : Bool := false
  /-- W=1 R500 reset 0: level of `IGN` -/
  ign : Bool := false
  /-- W=1 R500 reset 0: level of `WAKE` -/
  wake : Bool := false
  /-- W=3 R498 reset 0: `last_wake` -/
  lastWake : Nat := 0
  /-- W=64 R500 reset none: the Summit alarm -/
  alarmAt : Option Nat := none
  /-- W=- R505 reset none: a wake that fired after the point of no return -/
  wakePending : Option Nat := none
  /-- W=3 R500 reset 0x07 -/
  hostBits : Nat := 7
  /-- W=8 R500 reset 0x01 -/
  hostSlots : Nat := 1
  /-- W=4 R500 reset 0x0F -/
  wakeEn : Nat := 15
  /-- W=16 R502 reset 10,000 ms -/
  drainDefault : Nat := 10000
  /-- W=- R86 reset none: host addresses, at most 4 -/
  addrs : List HostAddr := []
  /-- W=1 R502 reset up: the Ethernet links -/
  ethUp : Bool := true
  /-- W=1 R499 reset clear: DRAM in self-refresh -/
  selfRefresh : Bool := false
  /-- W=1 R501 reset clear: no path has been OK, LOW or OVER since the last start-up -/
  sawSupplyLost : Bool := false
  /-- W=65 R501 reset none: module time since which the higher logic input has been at or above 9.0 V -/
  highSince : Option Nat := none
  /-- W=1 R501 reset clear: `IGN` has risen in OFF with supply present -/
  ignStart : Bool := false
  /-- W=32 R507 reset 0: checkpoint bytes written by the last SAVE -/
  checkpointBytes : Nat := 0
deriving DecidableEq, Repr, Inhabited

end Sys2Proof.Machine
end

