-- ==== Sys2Proof/Machine/State/Cul.lean ====
section
/-! DEFINITION. The state of chapters 05 (Couloir), 06 (loss and grain sensing) and 07 (yield map). -/
namespace Sys2Proof.Machine

/-! ## Couloir -/

/-- `CUL_CONFIG`. -/
structure CulCfg where
  tick : Nat := 10
  sections : Nat := 8
  poseWait : Nat := 50
  cut : Nat := 0
  /-- none: the default, the module's own local 544 -/
  ground : Option Nat := none
  profile : Nat := 0
  hdrLoad : Nat := 0
  poseBase : Nat := 0
  sectionBase : Nat := 0
  minSpeed : F32 := 0x3E99999A
  kGain : F32 := 0x3C23D70A
  kInit : F32 := 0x3F800000
  maxAge : Nat := 120
  lateLimit : Nat := 500
deriving DecidableEq, Repr, Inhabited

/-- `CUL_STAGE_SET`. -/
structure CulStage where
  /-- W=32 R110 reset 0 -/
  handle : Nat := 0
  /-- W=32 R111 reset 0 -/
  coeff : F32 := 0
  /-- W=32 R112 reset 0: m -/
  length : F32 := 0
  /-- W=32 R111 reset 0: m/s; 0 until the stage has been set -/
  vMin : F32 := 0
  /-- W=32 R111 reset 0: m/s -/
  vFallback : F32 := 0
  /-- W=32 R114 reset 0: s -/
  disp : F32 := 0
  /-- W=16 R111 reset 200: ms -/
  hold : Nat := 200
  /-- W=32 R111 reset 0: stage 0, centre belt -/
  centre : Nat := 0
  /-- W=32 R111 reset 0: stage 0, centre belt -/
  centreCoeff : F32 := 0
  /-- W=256 R113 reset 0 each: stage 0, m -/
  side : List F32 := List.replicate 8 0
deriving DecidableEq, Repr, Inhabited

/-- `CUL_SENSOR_SET`. -/
structure CulSensor where
  handle : Nat := 0
  /-- 0 off, 1 AMOUNT, 2 RATE, 3 LEVEL -/
  kind : Nat := 0
  stage : Nat := 1
  slot : Nat := 0
  position : F32 := 0
  scale : F32 := 0x3F800000
deriving DecidableEq, Repr, Inhabited

/-- Odometers at a tick start (R112): the instant, distances and velocities of the belts 0-6, the centre belt (7) and the
ground (8). -/
structure OdoRec where
  t : Nat
  d : List Rat
  v : List Rat
deriving DecidableEq, Repr, Inhabited

/-- A belt's velocity (R111). -/
structure BeltV where
  /-- W=- R111 reset 0: last velocity, m/s -/
  v : Rat := 0
  /-- W=64 R111 reset none: unusable since -/
  badSince : Option Nat := none
  /-- W=1 R111 reset 0: runs on `v_fallback` -/
  fallback : Bool := false
deriving DecidableEq, Repr, Inhabited

/-- A section block (R117). -/
structure Section where
  east : Int := 0
  north : Int := 0
  predMass : Nat := 0
  conf : Nat := 0
  active : Bool := false
  fhStart : Option Nat := none
  fhEnd : Option Nat := none
  extrapolated : Bool := false
  fromLoad : Bool := false
  fromHistory : Bool := false
  /-- slots 0-6 as binary32: mass, rotor loss, shoe loss, fill, moisture sum, broken sum, MOG sum -/
  slots : List F32 := List.replicate 7 0
  moistW : F32 := 0
  camW : F32 := 0
deriving DecidableEq, Repr, Inhabited

/-- A ledger entry (R115, R116, R118). -/
structure Parcel where
  no : Nat := 0
  /-- 0 FREE, 1 OPEN, 2 CLOSED -/
  st : Nat := 0
  cut : Nat := 0
  rear : Nat := 0
  sections : Nat := 0
  flags : Nat := 0
  slotMask : Nat := 0
  tickUs : Nat := 0
  speed : F32 := 0
  closed : Nat := 0
  kCam : F32 := 0
  /-- slots 7-9 -/
  user : List F32 := [0, 0, 0]
  poseQ : Quality := .valid
  poseConf : Nat := 0
  /-- cut positions still to be written (R130) -/
  poseDue : Bool := true
  /-- the SRAM line reads as poisoned (R138) -/
  poison : Bool := false
  blocks : List Section := []
deriving DecidableEq, Repr, Inhabited

/-- States of Couloir (R136). -/
inductive CulSt where
  | unconfigured | stopped | running | draining
deriving DecidableEq, Repr, Inhabited

/-- A running calibration (R140). -/
structure CulCal where
  req : Req
  stage : Nat
  sensor : Nat
  start : Nat
  endAt : Nat
  /-- predicted flow into the feederhouse and sensor quantity, by tick of the window -/
  xs : List (Nat × Rat) := []
  ys : List (Nat × Rat) := []
  /-- modelled transits and velocities of the stage, one a tick -/
  transits : List Rat := []
  vels : List Rat := []
deriving DecidableEq, Repr, Inhabited

/-- Couloir (chapter 05). -/
structure CulState where
  /-- W=2 R136 reset UNCONFIGURED (0) -/
  st : CulSt := .unconfigured
  /-- W=1 R136 reset clear: `CUL_CONFIG` has been accepted -/
  configured : Bool := false
  /-- W=- R136 reset the defaults of `CUL_CONFIG` -/
  cfg : CulCfg := {}
  /-- W=- R110 reset not set each: stages 0-6 -/
  stages : List CulStage := List.replicate 7 {}
  /-- W=- R121 reset off each: sensor entries 0-31 -/
  sensors : List CulSensor := List.replicate 32 {}
  /-- W=64 R122 reset none each: stamp of each sensor's previous sample -/
  prev : List (Option Nat) := List.replicate 32 none
  /-- W=- R111 reset 0 each: belts 0-6, centre belt -/
  belts : List BeltV := List.replicate 8 {}
  /-- W=64 R112 reset empty: odometer history, newest first, at most 4,096 ticks -/
  odo : List OdoRec := []
  /-- W=4096 R115 reset empty: ledger entries that are not FREE, newest first -/
  ledger : List Parcel := []
  /-- W=32 R115 reset 0 -/
  nextNo : Nat := 0
  /-- W=32 R127 reset 1.0, DESIGN CHOICE log 4 -/
  kCam : F32 := 0x3F800000
  /-- W=1 R111 reset 0: `SLOW` -/
  slow : Bool := false
  /-- W=1 CUL_STATUS reset 0: `PROFILE_LOST` -/
  profileLost : Bool := false
  /-- W=1 CUL_STATUS reset 0: `HDR_LOAD_LOST` -/
  loadLost : Bool := false
  /-- W=- R137 reset none: refill until, mirrored mean flow -/
  refill : Option (Nat × F32) := none
  /-- W=32 CUL_STATUS reset 0 -/
  overruns : Nat := 0
  /-- W=32 CUL_STATUS reset 0 -/
  aged : Nat := 0
  /-- W=32 CUL_STATUS reset 0 -/
  lateLost : Nat := 0
  /-- W=32 CUL_STATUS reset 0 -/
  unattributed : Nat := 0
  /-- W=- R123 reset 0 each: unattributed totals of slots 0-9 -/
  unattr : List Rat := List.replicate 10 0
  /-- W=32 R135 reset 0: last closed `parcel_no` -/
  lastClosed : Nat := 0
  /-- W=- R129 reset empty: mass per metre and section of the last 100 closed parcels without flags -/
  history : List Rat := []
  /-- W=- R130 reset empty: publications of section positions, (section, stamp, east, north, quality, confidence), newest first -/
  poses : List (Nat × Nat × Int × Int × Quality × Nat) := []
  /-- W=- R126 reset none: forced-close causes already reported at this tick -/
  reported : List Nat := []
  /-- W=- R140 reset none -/
  cal : Option CulCal := none
  /-- W=- R137 reset none: mirrored state, `k_cam`, mean flow -/
  mirror : Option (Nat × F32 × F32) := none
  /-- W=- R137 reset none: Couloir runs from the next tick on with this `k_cam` and mirrored flow -/
  takeover : Option (F32 × F32) := none
  /-- W=64 R120 reset 0: the last tick start -/
  lastTick : Nat := 0
  /-- W=- R125 reset empty: parcels closed and still to be written into the map, oldest first -/
  toMap : List Parcel := []
deriving DecidableEq, Repr, Inhabited

/-! ## The yield map -/

/-- A cell (R163, R164). -/
structure Cell where
  mass : F32 := 0
  yieldArea : F32 := 0
  cover : F32 := 0
  remote : F32 := 0
  overlap : F32 := 0
  rotor : F32 := 0
  shoe : F32 := 0
  fill : F32 := 0
  moistX : F32 := 0
  moistM : F32 := 0
  brokenX : F32 := 0
  mogX : F32 := 0
  camM : F32 := 0
  firstUtc : Nat := 0
  lastUtc : Nat := 0
  conf : Nat := 255
  crop : Nat := 0
  flags : Nat := 0
  /-- the cell's line reads as poisoned (R172) -/
  poison : Bool := false
deriving DecidableEq, Repr, Inhabited

/-- A tile: its indices and its written cells by number. -/
structure Tile where
  te : Int
  tn : Int
  cells : List (Nat × Cell) := []
  /-- R173: first write that no flush has stored -/
  dirtySince : Option Nat := none
  /-- R170: order of the last write -/
  written : Nat := 0
  /-- R171: the cells in the snapshot of the latest completed tick -/
  snap : List (Nat × Cell) := []
  /-- R175: its first flush has been refused -/
  refused : Bool := false
deriving DecidableEq, Repr, Inhabited

/-- A tile as stored in flash: two generations with their numbers (R173). -/
structure StoredTile where
  te : Int
  tn : Int
  old : Option (Nat × List (Nat × Cell)) := none
  new : Nat × List (Nat × Cell)
deriving DecidableEq, Repr, Inhabited

/-- A field (R161, R175). -/
structure Field where
  id : Nat
  cell : Nat
  origin : F64 × F64 × F64
  tiles : List StoredTile := []
deriving DecidableEq, Repr, Inhabited

/-- A tile of a field as another module sends it (R169, R173, R177). -/
structure TileMsg where
  te : Int
  tn : Int
  generation : Nat
  cells : List (Nat × Cell)
deriving DecidableEq, Repr, Inhabited

/-- The yield map (chapter 07). -/
structure MapState where
  /-- W=256 MAP_CONFIG reset 1.7125 m each -/
  width : List F32 := List.replicate 8 0x3FDB3333
  /-- W=16 MAP_CONFIG reset 10: s -/
  flushPeriod : Nat := 10
  /-- W=- R175 reset empty: fields in managed flash -/
  fields : List Field := []
  /-- W=32 R160 reset 0: the open field's identifier -/
  open_ : Nat := 0
  /-- W=4 R168 reset 0: active crop profile -/
  crop : Nat := 0
  /-- W=- R170 reset empty: the cache -/
  cache : List Tile := []
  /-- W=- R170 reset 0: writes counted -/
  clock : Nat := 0
  /-- W=- R170 reset empty: tiles requested from flash -/
  loading : List (Int × Int) := []
  /-- W=- R171 reset empty: the holding queue, at most 256 parcels with their directions of travel -/
  queue : List (Parcel × (Rat × Rat)) := []
  /-- W=- R171 reset empty: remote tiles in order of arrival -/
  remote : List TileMsg := []
  /-- W=1 R162 reset 0: `OUT_OF_FIELD` -/
  outOfField : Bool := false
  /-- W=1 R175 reset 0: `STORE_FULL` -/
  storeFull : Bool := false
  /-- W=32 MAP_STATUS reset 0 -/
  written : Nat := 0
  /-- W=32 MAP_STATUS reset 0 -/
  noField : Nat := 0
  /-- W=32 MAP_STATUS reset 0 -/
  skipped : Nat := 0
  /-- W=32 MAP_STATUS reset 0 -/
  dropped : Nat := 0
  /-- W=- R176 reset none: a running export: its request, the field as flushed at its start and its format -/
  exporting : Option (Req × Field × Nat) := none
  /-- W=- R176 reset none: the export area -/
  export_ : Option (List Byte) := none
  /-- W=- R173 reset empty: tile copies sent to the deputy, (field, tile), newest first -/
  copies : List (Nat × TileMsg) := []
  /-- W=- R174 reset none: on the deputy, the open field as the manager's copies give it -/
  deputy : Option (Field × Nat) := none
  /-- W=- R165 reset none: number and section-0 position in mm of the last parcel that came to the map -/
  prevAt : Option (Nat × Int × Int) := none
deriving DecidableEq, Repr, Inhabited

/-! ## Loss and grain sensing -/

/-- `SEN_CHANNEL_SET`. -/
structure SenChCfg where
  group : Nat := 0
  bias : Bool := false
  window : Nat := 80
  hp : Nat := 5000
  thrOn : Nat := 600
  thrOff : Nat := 300
  retrig : Nat := 32
  zcMax : Nat := 24
  envTau : Nat := 20
  silent : Nat := 30
  cover : F32 := 0x3F800000
deriving DecidableEq, Repr, Inhabited

/-- Counts of a channel (R145): detections, kernels, non-kernels, unknown, rejected, merged, saturated. -/
abbrev SenCounts := List Nat

/-- A ring-down that is being measured (R146, R149): its age in samples, the peak of the envelope, the time found, and whether the impact has
been taken into the kernel phase. -/
structure SenRing where
  age : Nat := 0
  peak : Rat := 0
  found : Option Nat := none
  kept : Bool := false
deriving DecidableEq, Repr, Inhabited

/-- The detector of a channel (R143) and the features of the impact it captures (R144). -/
structure SenDet where
  /-- 0 idle, 1 capture, 2 tail -/
  phase : Nat := 0
  /-- the envelope -/
  e : Rat := 0
  /-- module time of the last sample taken -/
  at_ : Nat := 0
  /-- module time of the onset sample, and samples since it -/
  onset : Nat := 0
  idx : Nat := 0
  /-- the window of this capture -/
  window : Nat := 80
  merged : Nat := 0
  zc : Nat := 0
  peak : Nat := 0
  e1 : Nat := 0
  e2 : Nat := 0
  /-- whether the last sample was below 0 -/
  neg : Bool := false
  /-- the ring-downs not yet complete, the present capture's first -/
  rings : List SenRing := []
deriving DecidableEq, Repr, Inhabited

/-- A Chanter channel (R143 to R149). -/
structure SenCh where
  /-- W=- R143 reset the defaults of `SEN_CHANNEL_SET` -/
  cfg : SenChCfg := {}
  /-- W=- R142 reset none: a configuration that applies at the next boundary -/
  next : Option SenChCfg := none
  /-- W=512 R144 reset zeros: classifier table -/
  table : List Byte := zeros 64
  /-- W=1 R148 reset clear: a table has been installed -/
  trained : Bool := false
  /-- W=9 R146 reset 0: ring-down, samples -/
  ringdown : Nat := 0
  /-- W=- R149 reset none: a table and ring-down to be installed at the next boundary -/
  nextTable : Option (List Byte × Nat) := none
  /-- W=- R143 reset idle, envelope 0: the detector -/
  det : SenDet := {}
  /-- W=32 R145 reset 0 each: counts of the present interval -/
  counts : SenCounts := List.replicate 7 0
  /-- W=32 R145 reset 0 each: running totals -/
  totals : SenCounts := List.replicate 7 0
  /-- W=32 R147 reset 0: detections/s -/
  dr : Rat := 0
  /-- W=32 R150 reset 0: kernels/s -/
  kr : Rat := 0
  /-- W=32 R147 reset 0: corrected kernels of the last interval -/
  k : Rat := 0
  /-- W=3 R148 reset OFF (1) -/
  diag : Nat := 1
  /-- W=- R148 reset 0: consecutive intervals of SHORT and of OPEN -/
  short : Nat := 0
  open_ : Nat := 0
  /-- W=- R148 reset empty: (time, detections, rejected, saturated) of the intervals of the last second -/
  recent : List (Nat × Nat × Nat × Nat) := []
  /-- W=64 R148 reset 0: last detection -/
  lastHit : Nat := 0
  /-- W=64 R148 reset none: the condition of the present state is absent since -/
  clearSince : Option Nat := none
  /-- W=2 R149 reset none: training open: 0 kernel, 1 non-kernel, 2 neither -/
  training : Option Nat := none
  /-- W=- R149 reset empty: histograms H_k, H_n -/
  hk : List (Nat × Nat) := []
  hn : List (Nat × Nat) := []
  /-- W=- R149 reset empty: ring-down times of the kernel phase -/
  rings : List Nat := []
  /-- W=- R143 reset 0 each: counts of impacts whose onset lies beyond the next boundary -/
  ahead : SenCounts := List.replicate 7 0
deriving DecidableEq, Repr, Inhabited

/-- `SEN_CROP_SET`. -/
structure CropCfg where
  name : List Byte := zeros 16
  tkw : F32 := 0
  testWeight : F32 := 0
  stdMoist : F32 := 0
  m : List F32 := [0, 0, 0, 0]
  moistMin : F32 := 0x40A00000
  moistMax : F32 := 0x42200000
deriving DecidableEq, Repr, Inhabited

/-- `SEN_YIELD_CONFIG`. -/
structure YieldCfg where
  crop : Nat := 0
  sources : Nat := 0
  moistPeriod : Nat := 100
  kMf : F32 := 0
  kPitch : F32 := 0
  kRoll : F32 := 0
  pos : List F32 := [0, 0, 0, 0]
  h0 : F32 := 0
  aPad : F32 := 0
  kView : F32 := 0
  agreeTol : F32 := 0x3DCCCCCD
  persist : Nat := 5
  rejoin : Nat := 10
  flowMin : F32 := 0x40A00000
  lossTau : F32 := 0x40A00000
  /-- none: the default, local 331 of the manager -/
  elev : Option Nat := none
deriving DecidableEq, Repr, Inhabited

/-- A flow source (R155). -/
structure FlowSrc where
  /-- W=2 R157 reset 0: 0 off, 1 in use, 2 voted out, 3 masked -/
  st : Nat := 0
  /-- W=1 R155 reset clear: both of two sources are disputed -/
  disputed : Bool := false
  /-- W=64 R155 reset none: disagrees since -/
  since : Option Nat := none
  /-- W=64 R155 reset none: agrees since -/
  agree : Option Nat := none
  /-- W=1 R155 reset clear: its hardware has failed -/
  failed : Bool := false
  /-- W=64 R155 reset none: the last value out of range -/
  oorAt : Option Nat := none
  /-- W=- R154 reset empty: values on the plate's time axis, (stamp, value), newest first; t/h, or cm³ for the paddle -/
  vals : List (Nat × Rat) := []
deriving DecidableEq, Repr, Inhabited

/-- A calibration load (R158). -/
structure CalLoad where
  start : Nat := 0
  end_ : Option Nat := none
  measured : Rat := 0
  weighed : Option F32 := none
  outOfRange : Bool := false
  paddle : Rat := 0
  camera : Rat := 0
  paddleUsed : Bool := true
  cameraUsed : Bool := true
deriving DecidableEq, Repr, Inhabited

/-- Loss and grain sensing (chapter 06). -/
structure SenState where
  /-- W=- R143 reset the defaults each: LS00-LS15 -/
  ch : List SenCh := List.replicate 16 {}
  /-- W=- SEN_CROP_SET reset zeros each, DESIGN CHOICE log 4: crop profiles 0-15 -/
  crops : List CropCfg := List.replicate 16 {}
  /-- W=- R152 reset zeros and the defaults, DESIGN CHOICE log 4 -/
  cfg : YieldCfg := {}
  /-- W=- R142 reset none: a configuration that applies at the next boundary -/
  next : Option YieldCfg := none
  /-- W=1 R141 reset clear: this module is the yield module -/
  isYield : Bool := false
  /-- W=- R155 reset off each: plate, paddle, camera -/
  src : List FlowSrc := List.replicate 3 {}
  /-- W=1 R157 reset clear: the moisture cell has failed -/
  moistFailed : Bool := false
  /-- W=64 R152 reset none: the moisture cell has been above 1.5 times its empty capacitance since -/
  fullSince : Option Nat := none
  /-- W=65 R547 reset none: the plate's bridge has been open or shorted since -/
  plateBadSince : Option Nat := none
  /-- W=65 R547 reset none: the current of `YP_PWR` has lain outside its range since -/
  beamBadSince : Option Nat := none
  /-- W=65 R547 reset none: the elevator has run at 1.0 m/s or more since -/
  fastSince : Option Nat := none
  /-- W=- R155 reset 0: last fused value, t/h -/
  fused : Rat := 0
  /-- W=- R153 reset 0: mV/V -/
  tare : Rat := 0
  /-- W=1 R153 reset 0: `TARE_JUMP` -/
  tareJump : Bool := false
  /-- W=64 R153 reset none: empty and running since -/
  tareSince : Option Nat := none
  /-- W=- R158 reset empty (1.0 everywhere): correction table, (flow, factor) -/
  corr : List (Rat × Rat) := []
  /-- W=- R158 reset none each: loads 0-7 -/
  loads : List (Option CalLoad) := List.replicate 8 none
  /-- W=- R158 reset none: the running load -/
  running : Option Nat := none
  /-- W=- R152 reset 0: plate flow without correction, t/h -/
  plateRaw : Rat := 0
  /-- W=64 R152 reset 0: last plate block -/
  plateAt : Nat := 0
  /-- W=64 R152 reset none: last camera frame -/
  frameAt : Option Nat := none
  /-- W=- R157 reset empty: camera kernels not yet reported, (time, kernels) -/
  frameKernels : List (Nat × Rat) := []
  /-- W=64 R142 reset 0: last report boundary -/
  boundary : Nat := 0
  /-- W=64 R142 reset 10: report interval in force, ms -/
  interval : Nat := 10
  /-- W=- SEN_CROP_SET reset zeros: the active profile as the present interval uses it -/
  active : CropCfg := {}
  /-- W=- R156 reset 0: rule of the last decision: 0 none, 1 single, 2 mean, 3 nearer, 4 disputed, 5 median -/
  rule : Nat := 0
  /-- W=- R156 reset 0: the source that rules 1 and 3 take -/
  pick : Nat := 0
  /-- W=64 R148 reset none: grain flow usable and at or above `flow_min` since -/
  flowSince : Option Nat := none
  /-- W=1 R153 reset clear: the tare has been re-taken in this empty period -/
  tareDone : Bool := false
  /-- W=- R153 reset empty: plate readings of the 2 s of a new tare -/
  tareReads : List Rat := []
  /-- W=- R157 reset empty: paddle volumes not yet reported, (time, cm³) -/
  vol : List (Nat × Rat) := []
deriving DecidableEq, Repr, Inhabited

end Sys2Proof.Machine
end

