-- ==== Sys2Proof/Machine/State/Flt.lean ====
section
/-! DEFINITION. The state of chapter 17: the massif fleet link. -/
namespace Sys2Proof.Machine

/-- `FLT_CONFIG`. -/
structure FltCfg where
  enable : Bool := false
  gwPort : Nat := 0
  owner : Nat := 0
  massif : Nat := 0
  udpPort : Nat := 47400
  bw : Nat := 16
  linkTimeout : Nat := 500
  lostTime : Nat := 10
  lostHold : Nat := 5000
  grantTimeout : Nat := 5
  grace : Nat := 1000
  timeTol : F32 := 0x447A0000
  det : Nat := 0
  unl : Nat := 0
  unlState : Nat := 0
  fill : Nat := 0
deriving DecidableEq, Repr, Inhabited

/-- A member of the massif (R392, R403). -/
structure FltMember where
  /-- W=2 R392 reset 0 (absent) -/
  kind : Nat := 0
  /-- W=8 R392 reset 0 -/
  ip : Nat := 0
  /-- W=16 FLT_MEMBER_SET reset 0 -/
  port : Nat := 0
  /-- W=128 R392 reset 0 -/
  addr : List Byte := zeros 16
  /-- W=2 R403 reset 0: 0 absent, 1 ACTIVE, 2 SILENT, 3 LOST -/
  st : Nat := 0
  /-- W=64 R403 reset 0: last datagram -/
  heard : Nat := 0
  /-- W=1 R403 reset clear: a datagram of it has arrived since it was set -/
  seen : Bool := false
  /-- W=512 R397 reset empty: last status record -/
  status : List Byte := []
  /-- W=64 R398 reset none: the 100 ms interval of its last status record -/
  statusAt : Option Nat := none
  /-- W=1 R393 reset closed: a DTLS session stands -/
  session : Bool := false
  /-- W=32 R394 reset 1: next `seq` of the session -/
  seq : Nat := 1
deriving DecidableEq, Repr, Inhabited

/-- A hazard marker (R400): its parameters as `FLT_HAZARD_SET` lays them out. -/
structure Hazard where
  issuer : Nat
  number : Nat
  version : Nat
  params : List Byte
  /-- GPS time, ns -/
  expiry : Int
  /-- own markers: when last sent -/
  sent : Option Nat := none
deriving DecidableEq, Repr, Inhabited

/-- A line received (R399). -/
structure InboxLine where
  member : Nat
  no : Nat
  chunk : LineChunk
  verts : List (Int × Int)
  /-- order of completion -/
  complete : Option Nat := none
deriving DecidableEq, Repr, Inhabited

/-- States of unloading (R402). -/
inductive UnlSt where
  | idle | requested | granted | alongside | unloading | lost | ending
deriving DecidableEq, Repr, Inhabited

/-- A record that waits to be sent (R396). -/
structure FltOut where
  member : Nat
  type : Nat
  body : List Byte
  /-- the `FLT_LINE` that it belongs to -/
  job : Option Req := none
deriving DecidableEq, Repr, Inhabited

/-- A datagram sent, as plaintext (R394). -/
structure FltSent where
  time : Nat
  member : Nat
  bytes : List Byte
deriving DecidableEq, Repr, Inhabited

/-- The fleet link (chapter 17). -/
structure FltState where
  /-- W=- R392 reset the defaults of `FLT_CONFIG` -/
  cfg : FltCfg := {}
  /-- W=256 R393 reset none: the massif key, held by Summit -/
  key : Option (List Byte) := none
  /-- W=- R392 reset absent each: members 0-15 -/
  members : List FltMember := List.replicate 16 {}
  /-- W=- R396 reset empty: records received and not yet applied, (member, arrival, record), in arrival order -/
  received : List (Nat × Nat × FleetRecord) := []
  /-- W=64 R396 reset none: the instant whose records have been applied -/
  appliedAt : Option Nat := none
  /-- module time of the exchange instant that was carried out last (R396) -/
  doneAt : Option Nat := none
  /-- W=- R400 reset empty: the hazard table, at most 64 -/
  hazards : List Hazard := []
  /-- W=16 R400 reset 0: `version` of the module's last marker -/
  version : Nat := 0
  /-- W=- R399 reset empty: the inbox, at most 8 -/
  inbox : List InboxLine := []
  /-- W=- R399 reset 0: lines completed -/
  lineCount : Nat := 0
  /-- W=3 R402 reset IDLE (0) -/
  unl : UnlSt := .idle
  /-- W=5 R402 reset 16 (none): the cart named -/
  cart : Nat := 16
  /-- W=64 R402 reset 0: entry into the state -/
  since : Nat := 0
  /-- W=3 R402 reset none: the cart's last code, and its arrival -/
  cartCode : Option (Nat × Nat) := none
  /-- W=- R402 reset none: codes that the cart's records of this instant carry -/
  fresh : List Nat := []
  /-- W=64 R402 reset none: local 502 below 2 since -/
  awaySince : Option Nat := none
  /-- W=- R402 reset empty: carts whose late grant is answered with an end -/
  endTo : List Nat := []
  /-- W=- R396 reset empty: records that wait to be sent, in order -/
  queue : List FltOut := []
  /-- W=- R396 reset empty: datagrams sent, newest first (the model's own log of what leaves) -/
  sent : List FltSent := []
  /-- W=- R396 reset empty: by route entry, when a massif export was last sent and its record -/
  lastSignal : List (Nat × (Nat × Rec)) := []
  /-- W=- R396 reset 0: tile copies of the map already queued -/
  copiesSeen : Nat := 0
  /-- W=32 R392 reset 0: datagrams discarded -/
  discarded : Nat := 0
  /-- W=32 R399 reset 0: chunks discarded -/
  chunks : Nat := 0
  /-- W=32 R400 reset 0: hazards dropped -/
  drops : Nat := 0
  /-- W=4 R396 reset 0: by record type, the member last served -/
  lastServed : List (Nat × Nat) := []
deriving DecidableEq, Repr, Inhabited

end Sys2Proof.Machine
end

