-- ==== Sys2Proof/Machine/State/Fun.lean ====
section
/-! DEFINITION. The state of chapter 04: the thirty-two machine functions, the interlock bindings and automatic crop-flow
control. -/
namespace Sys2Proof.Machine

/-- `FUN_CONFIG`. -/
structure FunCfg where
  owner : Nat := 0
  source : Nat := 0
  dmFeedback : Nat := 1
  period : Nat := 0
  feedback : Nat := 0
  op : Nat := 0
  ext : Nat := 0
  limMin : F32 := 0
  limMax : F32 := 0
  rateUp : F32 := 0
  rateDown : F32 := 0
  rest : F32 := 0
  tol : F32 := 0
  fixed : F32 := 0
  redMin : F32 := 0
  redMax : F32 := 0
  ovDead : F32 := 0
  extRatio : F32 := 0x3F800000
  extOffset : F32 := 0
  extTau : F32 := 0x3DCCCCCD
  enableTimeout : Nat := 5000
  recoverHold : Nat := 2000
  ovHold : Nat := 100
  ilMask : Nat := 0
  ilShut : Nat := 0
  ilHold : Nat := 20
  autoResume : Bool := true
  autoRecover : Bool := true
  critical : Bool := false
  acts : List Nat := []
  lead : Nat := 1000
  stage : Nat := 0
  lossSrc : Nat := 0
  kLoss : F32 := 0
  trimLimit : F32 := 0
  /-- the used points: load, set-point -/
  map : List (F32 × F32) := []
deriving DecidableEq, Repr, Inhabited

/-- States of a function (R97). -/
inductive FunSt where
  | off | enabling | active | degraded | stopping | finishing | faulted
deriving DecidableEq, Repr, Inhabited

/-- One function (R87 to R106). -/
structure Fn where
  /-- W=- R89 reset none: its configuration, where this module hosts its owner -/
  cfg : Option FunCfg := none
  /-- W=1952 R89 reset empty: the parameters of its `FUN_CONFIG` as received -/
  params : List Byte := []
  /-- W=3 R97 reset OFF (0) -/
  st : FunSt := .off
  /-- W=2 R90 reset 0: the selected source -/
  source : Nat := 0
  /-- W=3 R101 reset none: the degraded mode applied -/
  dm : Option Nat := none
  /-- W=32 R94 reset 0: effective set-point -/
  eff : F32 := 0
  /-- W=32 R87 reset 0: actual value -/
  actual : F32 := 0
  /-- W=- R104 reset 0: exact -/
  trim : Rat := 0
  /-- W=1 R94 reset 0: `LIMITED` -/
  limited : Bool := false
  /-- W=1 R94 reset 0: `RATE_LIMITED` -/
  rateLimited : Bool := false
  /-- W=1 R106 reset 0: `OVERRIDE` -/
  override : Bool := false
  /-- W=1 R101 reset 0: `AUTO_INPUTS_LOST` -/
  autoLost : Bool := false
  /-- W=1 R101 reset 0: `OWNER_LOST` -/
  ownerLost : Bool := false
  /-- W=1 R96 reset 0: `IL_HOLD` -/
  ilHold : Bool := false
  /-- W=64 R97 reset 0: last state change -/
  since : Nat := 0
  /-- W=- R100 reset none: a pending enable (`ENABLE_HELD`) -/
  pending : Option Req := none
  /-- W=64 R96 reset none each: each class unsatisfied since -/
  unsat : List (Option Nat) := List.replicate 9 none
  /-- W=2 R101 reset 0: consecutive samples with feedback unusable -/
  fbBad : Nat := 0
  /-- W=1 R98 reset clear: `enable_timeout` elapsed and the target not reached since -/
  timedOut : Bool := false
  /-- W=64 R98 reset none: every trigger clear since -/
  clearSince : Option Nat := none
  /-- W=64 R99 reset none: the effective set-point equals `rest` since -/
  restAt : Option Nat := none
  /-- W=32 R94 reset 0: `ao_ref` -/
  aoRef : F32 := 0
  /-- W=1 R94 reset clear: `ao_released` -/
  aoReleased : Bool := false
  /-- W=1 R106 reset clear: AUTO is in control -/
  inAuto : Bool := false
  /-- W=32 R106 reset 0: the override reference, then the last operator value beyond the deadband -/
  ovRef : F32 := 0
  /-- W=64 R106 reset 0: the last operator change beyond the deadband -/
  ovAt : Nat := 0
  /-- W=32 R90 reset none: output of the EXTERNAL filter -/
  rf : Option F32 := none
  /-- W=64 R93 reset none: the sample whose interlocks and triggers have been evaluated -/
  seenAt : Option Nat := none
  /-- W=64 R93 reset none: the sample that has been conditioned -/
  doneAt : Option Nat := none
  /-- W=32 R93 reset none: an effective set-point not yet released, with its release time -/
  release : Option (Nat × F32) := none
deriving DecidableEq, Repr, Inhabited

/-- A function's configuration on a module that carries one of its points (R88). -/
structure FunCopy where
  /-- W=5 R88 -/
  fn : Nat
  /-- W=- R88: the copied configuration -/
  cfg : FunCfg
  /-- W=- R101 reset empty: own set-point locals whose route is STALE, each with the `seq` of its last record -/
  lost : List (Nat × Nat) := []
deriving DecidableEq, Repr, Inhabited

/-- The interlock bindings (R95). -/
structure IlCfg where
  /-- W=192 R95 reset none each: handles of classes 0-5 -/
  bind : List Nat := List.replicate 6 0
  /-- W=6 FUN_INTERLOCK_SET reset 0 -/
  polarity : Nat := 0
  /-- W=32 FUN_INTERLOCK_SET reset 80 degrees -/
  asw : F32 := 0x42A00000
deriving DecidableEq, Repr, Inhabited

/-- Crop-flow control (R105). -/
structure AutoCfg where
  /-- W=2 R105 reset OFF (0) -/
  mode : Nat := 0
  /-- W=32 FUN_AUTO_SET reset 60 t/h -/
  qTarget : F32 := 0x42700000
  /-- W=32 FUN_AUTO_SET reset 0.8 % -/
  rotor : F32 := 0x3F4CCCCD
  /-- W=32 FUN_AUTO_SET reset 0.8 % -/
  shoe : F32 := 0x3F4CCCCD
  /-- W=32 FUN_AUTO_SET reset 12.0 km/h -/
  speedMax : F32 := 0x41400000
deriving DecidableEq, Repr, Inhabited

/-- The machine functions (chapter 04). -/
structure FunState where
  /-- W=- R87 reset each at reset: F00-F31 -/
  fn : List Fn := List.replicate 32 {}
  /-- W=- R88 reset empty: copies of functions that other modules host -/
  copies : List FunCopy := []
  /-- W=- R95 reset unbound -/
  il : IlCfg := {}
  /-- W=- R105 reset the defaults -/
  auto_ : AutoCfg := {}
  /-- W=- FUN_AUTO_SET reset none: a setting that waits for the next 1 ms instant -/
  nextAuto : Option (Nat × AutoCfg) := none
  /-- W=- R105 reset 60 t/h: `q_eff` -/
  qEff : Rat := 60
  /-- W=64 R105 reset 0: when `q_eff` was last moved -/
  qAt : Nat := 0
deriving DecidableEq, Repr, Inhabited

end Sys2Proof.Machine
end

