-- ==== Sys2Proof/Machine/State/Fus.lean ====
section
/-! DEFINITION. The state of chapter 14 (fusion, alignment and tracks). -/
namespace Sys2Proof.Machine

/-- `FUS_CONFIG`. -/
structure FusCfg where
  /-- none: the default, 1 on index 0 and 0 elsewhere -/
  enable : Option Bool := none
  gnssModule : Nat := 0
  speedGroup : Nat := 0
  spout : Nat := 0xFF
  gap : Nat := 300
  drLimit : Nat := 10
  lagMax : Nat := 200
  persist : Nat := 50
  gyroTol : F32 := 0x3F000000
  accTol : F32 := 0x3E4CCCCD
  rejoin : Nat := 10
  nConfirm : Nat := 5
  mConfirm : Nat := 3
  maskFactor : F32 := 0x3F000000
  unlX : F32 := 0x3F800000
  unlY : F32 := 0x3F4CCCCD
  pathWidth : F32 := 0x41700000
  pathLen : F32 := 0x41F00000
  gate : F32 := 0x41135C29
  tDrop : Nat := 1500
deriving DecidableEq, Repr, Inhabited

/-- A member of a vote (R327, R329). -/
structure FusMember where
  /-- W=2 R340 reset 0: 0 in use, 1 voted out, 2 masked, 3 disputed -/
  st : Nat := 0
  /-- W=64 R327 reset none: departs from the median since -/
  depart : Option Nat := none
  /-- W=64 R327 reset none: agrees since, or masked without cause since -/
  agree : Option Nat := none
deriving DecidableEq, Repr, Inhabited

/-- `FUS_GROUP_SET`. -/
structure GroupCfg where
  treatment : Nat := 0
  count : Nat := 0
  persist : Nat := 500
  rejoin : Nat := 10
  members : List Nat := [0, 0, 0, 0]
  witness : Nat := 0
  tolAbs : F32 := 0
  tolRel : F32 := 0
  vMin : F32 := 0
  vMax : F32 := 0
  rateMax : F32 := 0
deriving DecidableEq, Repr, Inhabited

/-- A sensor group (R329). -/
structure FusGroup where
  /-- W=- R329 reset off -/
  cfg : GroupCfg := {}
  /-- W=- R329 reset none: a configuration that applies at the next 1 ms instant -/
  next : Option (Nat × GroupCfg) := none
  /-- W=- R329 reset in use each -/
  ms : List FusMember := [{}, {}, {}, {}]
  /-- W=64 R327 reset none: two members disagree since -/
  disagree : Option Nat := none
  /-- W=- R327 reset 0: last values -/
  last : Rat := 0
  /-- W=- R329 reset 0: `seq` of each member's record when last used -/
  seqs : List Nat := [0, 0, 0, 0]
  /-- W=- R329 reset none: stamp and value of a mask group's last update -/
  prev : Option (Nat × Rat) := none
deriving DecidableEq, Repr, Inhabited

/-- Pose modes (R332). -/
inductive PoseMode where
  | none | aligning | aided | deadReckoning
deriving DecidableEq, Repr, Inhabited

/-- A detection source (R335). -/
structure FusSource where
  /-- W=32 R335 reset 0 -/
  handle : Nat := 0
  /-- W=2 R335 reset 0 (off) -/
  kind : Nat := 0
  /-- W=8 R335 reset 0 -/
  frame : Nat := 0
deriving DecidableEq, Repr, Inhabited

/-- Track states (R337). -/
inductive TrackSt where
  | free | tentative | confirmed | coasting
deriving DecidableEq, Repr, Inhabited

/-- One track (R336 to R338). -/
structure Track where
  /-- W=2 R337 reset FREE (0) -/
  st : TrackSt := .free
  /-- W=3 R338 reset 0 -/
  cls : Nat := 0
  /-- W=8 R338 reset 0xFF (none) -/
  member : Nat := 0xFF
  /-- W=32 R338 reset 0 -/
  uid : Nat := 0
  /-- W=64 R338 reset 0: last hit -/
  stamp : Nat := 0
  /-- W=- R338 reset 0: position and velocity at `stamp` -/
  e : Rat := 0
  n : Rat := 0
  ve : Rat := 0
  vn : Rat := 0
  /-- W=- R336 reset empty: the filter's covariance -/
  cov : List Rat := []
  /-- W=8 R338 reset 0 -/
  conf : Nat := 0
  /-- W=8 R338 reset 0 -/
  sources : Nat := 0
  /-- W=16 R338 reset 0 -/
  hits : Nat := 0
  /-- W=- R337 reset 0: source updates since it was opened -/
  updates : Nat := 0
  /-- W=1 R337 reset clear: class 4, opened by a kind 2 source -/
  kept : Bool := false
deriving DecidableEq, Repr, Inhabited

/-- A block of detections that has come (R335, R336). -/
structure DetBlock where
  /-- W=64 R335 reset none -/
  stamp : Nat := 0
  /-- W=3 R336 reset none -/
  source : Nat := 0
  /-- W=- R335 reset none: the source as it was set when the block was published -/
  src : FusSource := {}
  /-- W=- R335 reset none -/
  dets : List Detection := []
deriving DecidableEq, Repr, Inhabited

/-- The fusion engine (chapter 14). -/
structure FusState where
  /-- W=- R320 reset the defaults of `FUS_CONFIG` -/
  cfg : FusCfg := {}
  /-- W=- R320 reset none: a configuration that applies at the next 1 ms instant -/
  next : Option (Nat × FusCfg) := none
  /-- W=512 R322 reset no frame used but frame 0, a fixed frame, DESIGN CHOICE log 88: frame records by number -/
  frames : List (Nat × List Byte) := []
  /-- W=- R325 reset empty: frame writes not yet in effect, (instant, frame, record) -/
  frameWrites : List (Nat × Nat × List Byte) := []
  /-- W=- R327 reset in use each: IU0-IU2 -/
  imu : List FusMember := [{}, {}, {}]
  /-- W=64 R327 reset none: two inertial sensors disagree since -/
  imuDisagree : Option Nat := none
  /-- W=- R327 reset 0: last combined rates and accelerations -/
  imuLast : List Rat := [0, 0, 0, 0, 0, 0]
  /-- W=- R329 reset off each: groups 0 (unused) to 15 -/
  groups : List FusGroup := List.replicate 16 {}
  /-- W=- R335 reset off each: detection sources 0-7 -/
  sources : List FusSource := List.replicate 8 {}
  /-- W=2 R332 reset NONE (0) -/
  mode : PoseMode := .none
  /-- W=4 R332 reset NO_VALUE: quality of ego-motion -/
  egoQ : Quality := .noValue
  /-- W=8 R332 reset 0: confidence of ego-motion -/
  egoConf : Nat := 0
  /-- W=1 R330 reset clear: a source is left out -/
  leftOut : Bool := false
  /-- W=- R328 reset 0: slip -/
  slip : Rat := 0
  /-- W=64 R331 reset none: stamp of the last GNSS update seen -/
  gnssSeen : Option Nat := none
  /-- W=64 R332 reset none: stamp of the last usable GNSS update -/
  gnssLast : Option Nat := none
  /-- W=64 R332 reset none: course at 1.0 m/s or above since -/
  courseSince : Option Nat := none
  /-- W=64 R332 reset none: DEAD_RECKONING since -/
  drSince : Option Nat := none
  /-- W=8 R332 reset 0: confidence of the pose while AIDED -/
  aidedConf : Nat := 0
  /-- W=32 R331 reset 0: `late` -/
  late : Nat := 0
  /-- W=1 R340 reset 0: `LATE_DISCARD` -/
  lateFlag : Bool := false
  /-- W=- R336 reset empty: blocks of detections not yet processed -/
  blocks : List DetBlock := []
  /-- W=- R336 reset empty: by source, the stamp last processed and the tracks that have taken a detection of it -/
  taken : List (Nat × Nat × List Nat) := []
  /-- W=32 R337 reset 0: `dropped` -/
  dropped : Nat := 0
  /-- W=64 R340 reset none: last event for a dropped detection -/
  dropEvent : Option Nat := none
  /-- W=- R333 reset none: the last pose published, with its stamp and its place in the map frame -/
  pose : Option (Nat × PoseEst × (Rat × Rat × Rat)) := none
  /-- W=192 R333 reset none: map-frame origin, latitude, longitude, height -/
  origin : Option (Rat × Rat × Rat) := none
  /-- W=- R337 reset FREE each: tracks 0-127 -/
  tracks : List Track := List.replicate 128 {}
  /-- W=32 R338 reset 0: next `uid` -/
  nextUid : Nat := 0
  /-- W=- R338 reset none: the latest published table -/
  table : List Byte := []
  /-- W=2 R339 reset 0: cart state -/
  cart : Nat := 0
  /-- W=8 R339 reset 0xFF: cart track -/
  cartTrack : Nat := 0xFF
deriving DecidableEq, Repr, Inhabited

end Sys2Proof.Machine
end

