-- ==== Sys2Proof/Machine/State/Gde.lean ====
section
/-! DEFINITION. The state of chapter 08: guidance and steering. -/
namespace Sys2Proof.Machine

/-- `GDE_CONFIG`. -/
structure GdeCfg where
  front : Bool := false
  owner : Nat := 0
  frame : Nat := 0
  wheelbase : F32 := 0x4079999A
  deltaMax : F32 := 0x42180000
  deltaRate : F32 := 0x41C80000
  tLook : F32 := 0x3F99999A
  laMin : F32 := 0x40400000
  laMax : F32 := 0x41400000
  kInt : F32 := 0x3B03126F
  intLimit : F32 := 0x3BA3D70A
  eAcq : F32 := 0x40000000
  psiAcq : F32 := 0x41F00000
  eMax : F32 := 0x40200000
  vMax : F32 := 0x41C80000
  accEngage : F32 := 0x3DCCCCCD
  accHold : F32 := 0x3E4CCCCD
  confEngage : Nat := 200
  confHold : Nat := 128
  coast : Nat := 2000
  coastDist : F32 := 0x41200000
  wasTol : F32 := 0x3F800000
  wasPersist : Nat := 200
  wasRejoin : Nat := 10
  witnessVmin : F32 := 0x40400000
  intRate : F32 := 0x41F00000
  intDev : F32 := 0x40800000
  intTime : Nat := 60
  intDevTime : Nat := 300
  ramp : Nat := 200
  stopHold : Nat := 60
  spoolTol : F32 := 0x3D4CCCCD
  endExt : F32 := 0x42480000
  actLead : F32 := 0x3DA3D70A
  /-- `was_a`, `was_b`, `hand_wheel`, `engage_sw`, `disengage_sw`, `en_a`, `en_b`, `alert` -/
  handles : List Nat := List.replicate 8 0
deriving DecidableEq, Repr, Inhabited

/-- States of guidance (R196). -/
inductive GdeSt where
  | off | standby | ready | engaged | coasting | releasing | finishing | faulted
deriving DecidableEq, Repr, Inhabited

/-- A line (R181). Vertices are east and north in mm. -/
structure GdeLine where
  type : Nat := 0
  spacing : F32 := 0
  radius : F32 := 0
  name : List Byte := []
  total : Nat := 0
  verts : List (Int × Int) := []
deriving DecidableEq, Repr, Inhabited

/-- A line of a field: field identifier, number, line. -/
structure FieldLine where
  field : Nat
  no : Nat
  line : GdeLine
deriving DecidableEq, Repr, Inhabited

/-- A selection of a pass of a line (R183). -/
structure GdeSel where
  field : Nat := 0
  line : Nat := 0
  pass : Int := 0
  shift : F32 := 0
deriving DecidableEq, Repr, Inhabited

/-- A wheel-angle sensor (R189). -/
structure WasSensor where
  /-- W=2 R189 reset masked (2): 0 in use, 1 voted out, 2 masked -/
  st : Nat := 2
  /-- W=64 R189 reset none: agrees with the fused angle since -/
  agree : Option Nat := none
  /-- W=32 R189 reset none: its angle in this sample, degrees -/
  angle : Option Rat := none
  /-- W=8 R36 reset 0: confidence of its record -/
  conf : Nat := 0
deriving DecidableEq, Repr, Inhabited

/-- A calibration point (R190): the true angle and the mean raw values of both sensors. -/
structure WasPoint where
  angle : F32
  rawA : Rat
  rawB : Rat
deriving DecidableEq, Repr, Inhabited

/-- A recording of a calibration point (R190). -/
structure WasRecording where
  req : Req
  op : Nat
  angle : F32
  start : Nat
  sumA : Rat := 0
  sumB : Rat := 0
  nA : Nat := 0
  nB : Nat := 0
deriving DecidableEq, Repr, Inhabited

/-- A pose that the law steers by: its instant, east, north in m, heading in degrees (R185). -/
structure GdePose where
  t : Nat := 0
  x : Rat := 0
  y : Rat := 0
  th : Rat := 0
deriving DecidableEq, Repr, Inhabited

/-- Guidance (chapter 08). -/
structure GdeState where
  /-- W=- R196 reset none: `GDE_CONFIG` -/
  cfg : Option GdeCfg := none
  /-- W=3 R196 reset OFF (0) -/
  st : GdeSt := .off
  /-- W=- R182 reset empty: lines in managed flash -/
  lines : List FieldLine := []
  /-- W=- GDE_LINE_WRITE reset empty: lines begun and not committed -/
  drafts : List FieldLine := []
  /-- W=- R183 reset none: the pass in use -/
  sel : Option GdeSel := none
  /-- W=- R183 reset none: a selection not yet in effect, with the instant of its command -/
  nextSel : Option (Nat × GdeSel) := none
  /-- W=2 R184 reset none: `dir` is +1 (true) or -1 -/
  dir : Option Bool := none
  /-- W=- R184 reset none: arc position of the last projection -/
  arc : Option Rat := none
  /-- W=- R184 reset none: cross-track error, m, and heading error, degrees -/
  e : Rat := 0
  psi : Rat := 0
  /-- W=1 R184 reset clear: e, psi and s of the last sample stand -/
  proj : Bool := false
  /-- W=- R186 reset 0: `ie` -/
  ie : Rat := 0
  /-- W=- R186 reset 0: curvature command, set-point (degrees), look-ahead distance -/
  kappa : Rat := 0
  deltaSet : Rat := 0
  la : Rat := 0
  /-- W=1 R186 reset 0: `CURVE_LIMITED`, `INT_LIMITED`, `STOPPED_HOLD` -/
  curveLimited : Bool := false
  intLimited : Bool := false
  stopped : Bool := false
  /-- W=- R179 reset none: a set-point not yet released, with its release time -/
  release : Option (Nat × F32) := none
  /-- W=32 R186 reset 0: the set-point that the wheel-angle loop moves towards -/
  target : F32 := 0
  /-- W=- R189 reset masked each: sensors A and B -/
  was : List WasSensor := [{}, {}]
  /-- W=64 R189 reset none: the sensors disagree since -/
  disagree : Option Nat := none
  /-- W=1 R189 reset 0: both sensors are disputed -/
  disputed : Bool := false
  /-- W=32 R189 reset none: fused angle -/
  fused : Option Rat := none
  /-- W=- R189 reset NO_VALUE, 0: its quality and confidence -/
  fusedQ : Quality := .noValue
  fusedConf : Nat := 0
  /-- W=1 R189 reset 0: `SINGLE_WAS` -/
  singleWas : Bool := false
  /-- W=32 R189 reset none: witness angle -/
  witness : Option Rat := none
  /-- W=- R190 reset none each: recorded points -/
  points : List (Option WasPoint) := [none, none, none]
  /-- W=- R190 reset none: the calibration applied -/
  cal : List WasPoint := []
  /-- W=- R190 reset none: a calibration to be installed at the next sample -/
  nextCal : Option (Nat × List WasPoint) := none
  /-- W=- R190 reset none -/
  recording : Option WasRecording := none
  /-- W=2 R187 reset 2: active path, 2 none -/
  path : Nat := 2
  /-- W=2 R187 reset 2 (none): path of the last engagement -/
  lastPath : Nat := 2
  /-- W=1 R188 reset 0: `SINGLE_PATH` -/
  singlePath : Bool := false
  /-- W=64 R188 reset none: the active spool differs from its set-point since -/
  spoolSince : Option Nat := none
  /-- W=64 R194 reset none each: conditions of causes 1, 2, 6 and 8 hold since -/
  handSince : Option Nat := none
  devSince : Option Nat := none
  revSince : Option Nat := none
  stopSince : Option Nat := none
  /-- W=2 R194 reset 0: consecutive samples with the operator classes unsatisfied -/
  opBad : Nat := 0
  /-- W=64 R193 reset none: COASTING since -/
  coastSince : Option Nat := none
  /-- W=- R193 reset 0: distance travelled in COASTING, m -/
  coastRun : Rat := 0
  /-- W=- R185 reset none: the last usable pose, moved on while COASTING -/
  base : Option GdePose := none
  /-- W=- R185 reset empty: ego-motion samples (instant, m/s, degrees/s) of the last 50 ms, oldest first -/
  ego : List (Nat × Rat × Rat) := []
  /-- W=- R195 reset none: start of the release ramp and the set-point there -/
  ramp : Option (Nat × F32) := none
  /-- W=64 R195 reset none: point of no return of a switch-off not yet complete -/
  pnrAt : Option Nat := none
  /-- W=- R195 reset none: a pending engage request, with its command where a command made it -/
  pending : Option (Option Req) := none
  /-- W=64 R191 reset 0: the sample in which it became pending -/
  pendingAt : Nat := 0
  /-- W=1 R191 reset false: the engage switch in the last sample -/
  swLevel : Bool := false
  /-- W=64 R194 reset 0: the alert is driven until -/
  alertUntil : Nat := 0
  /-- W=8 R194 reset 0: last release cause -/
  lastCause : Nat := 0
  /-- W=12 R191 reset 0: blockers of the last sample -/
  blockers : Nat := 0
  /-- W=64 R192 reset none: the sample whose steps 1 to 3 have been made -/
  seenAt : Option Nat := none
  /-- module time of the law sample that was carried out last (R192) -/
  doneAt : Option Nat := none
  /-- W=- R195 reset 0: last speed in m/s while the pose was usable -/
  speed : Rat := 0
deriving DecidableEq, Repr, Inhabited

end Sys2Proof.Machine
end

