-- ==== Sys2Proof/Machine/State/Gns.lean ====
section
/-! DEFINITION. The state of chapters 12 (GNSS) and 13 (time base). -/
namespace Sys2Proof.Machine

/-- `GNS_CONFIG`. -/
structure GnsCfg where
  bias : List Nat := [2, 2, 3]
  ga3Role : Nat := 0
  /-- 0-6 = 1, 2, 5, 10, 20, 50, 100 Hz -/
  epoch : Nat := 3
  solution : Nat := 3
  rawModes : Nat := 3
  navPart : Nat := 0xFF
  signals : Nat := 0x3FFFF
  elevMask : F32 := 0x41200000
  cn0Mask : F32 := 0x41F00000
  baseline : F32 := 0x40000000
  resThr : F32 := 0x40800000
  persist : Nat := 10
  rejoin : Nat := 50
  redTol : F32 := 0x3DCCCCCD
  insTol : F32 := 0x3F800000
  ageMax : Nat := 10
  rtcmUdp : Nat := 0
  pfa : F32 := 0x358637BD
  spacing : Nat := 10
  frames : List Nat := [0, 0, 0]
deriving DecidableEq, Repr, Inhabited

/-- Antenna port states (R282). -/
inductive PortSt where
  | ok | open_ | short | passive | excluded | unused
deriving DecidableEq, Repr, Inhabited

/-- One antenna port (R281 to R283). -/
structure GnsPort where
  /-- W=3 R282 reset OK -/
  st : PortSt := .ok
  /-- W=64 R282 reset none -/
  openSince : Option Nat := none
  /-- W=64 R282 reset none -/
  closedSince : Option Nat := none
  /-- W=64 R282 reset none -/
  shortSince : Option Nat := none
  /-- W=64 R282 reset none: bias switched off since -/
  biasOff : Option Nat := none
  /-- W=64 R283 reset none: converter reference out of range since -/
  refSince : Option Nat := none
  /-- W=4 R296 reset 0: interference flags L1, L2, L5, E6 -/
  interf : List Bool := [false, false, false, false]
  /-- W=64 R296 reset none: both conditions hold since, by band -/
  ifSince : List (Option Nat) := [none, none, none, none]
  /-- W=64 R296 reset none: neither condition holds since, by band -/
  ifClear : List (Option Nat) := [none, none, none, none]
deriving DecidableEq, Repr, Inhabited

/-- One tracking channel (R288, R289, R303). -/
structure GnsCh where
  /-- W=3 R289 reset IDLE (0) -/
  st : Nat := 0
  /-- W=8 R303 reset 0 -/
  signal : Nat := 0
  /-- W=6 R303 reset 0 -/
  svid : Nat := 0
  /-- W=6 R303 reset 0: GLONASS k + 7 -/
  fcn : Nat := 0
  /-- W=8 R303 reset 0 -/
  flags : Nat := 0
  /-- W=16 R303 reset 0 -/
  cn0 : Nat := 0
  /-- W=64 R303 reset 0 -/
  txTime : Nat := 0
  /-- W=64 R303 reset 0 -/
  carrier : Int := 0
  /-- W=32 R303 reset 0 -/
  doppler : Int := 0
  /-- W=16 R303 reset 0 -/
  lockMs : Nat := 0
  /-- W=16 R303 reset 0 -/
  mpEst : Int := 0
  /-- W=1 R286 reset clear: a first dwell exceeded the threshold -/
  dwell1 : Bool := false
  /-- W=- R297 reset empty: the C/N0 of the last 1 s, newest first, with their epochs -/
  hist : List (Nat × Nat) := []
  /-- W=16 R297 reset none: the C/N0 from which it rose by more than 6 dB within 1 s, until it falls back -/
  rose : Option Nat := none
  /-- W=1 R289 reset clear: cycle slip since the previous latch -/
  slip : Bool := false
  /-- W=- R294 reset 0: consecutive epochs above `res_thr` -/
  bad : Nat := 0
  /-- W=- R294 reset 0: consecutive epochs within `res_thr` while voted out -/
  good : Nat := 0
  /-- W=1 R294 reset clear -/
  votedOut : Bool := false
  /-- W=1 R303 reset clear: used in the solution -/
  used : Bool := false
deriving DecidableEq, Repr, Inhabited

/-- An RTCM byte stream (R298). -/
structure Rtcm where
  /-- 0 to 0x88 a Corlith port; 0x100 + n a UDP source -/
  source : Nat
  bytes : List Byte := []
deriving DecidableEq, Repr, Inhabited

/-- A raw latch held by the ring (R302). -/
structure RawLatch where
  no : Nat
  instant : Nat
  channels : List GnsCh
deriving DecidableEq, Repr, Inhabited

/-- The GNSS baseband (chapter 12). -/
structure GnsState where
  /-- W=- R281 reset the defaults of `GNS_CONFIG` -/
  cfg : GnsCfg := {}
  /-- W=- R281 reset none: a configuration that takes effect at the next epoch -/
  next : Option GnsCfg := none
  /-- W=- R282 reset OK, OK, UNUSED: GA1-GA3 under the default `bias` -/
  ports : List GnsPort := [{}, {}, { st := .unused }]
  /-- W=- R288 reset IDLE each: channels 0-383 -/
  ch : List GnsCh := List.replicate 384 {}
  /-- W=3 R291 reset 0: primary fix mode -/
  fix : Nat := 0
  /-- W=5 R297 reset 0: indicators S0-S4 -/
  indicators : List Bool := List.replicate 5 false
  /-- W=2 R297 reset CLEAR (0) -/
  spoof : Nat := 0
  /-- W=64 R297 reset none: no indicator since -/
  quietSince : Option Nat := none
  /-- W=1 R294 reset 0: `CONSISTENCY` -/
  consistency : Bool := false
  /-- W=1 R293 reset 0: GA1 voted out -/
  out1 : Bool := false
  /-- W=1 R293 reset 0: GA3 voted out -/
  out3 : Bool := false
  /-- W=- R293 reset 0: consecutive epochs in disagreement -/
  disagree : Nat := 0
  /-- W=- R293 reset 0: consecutive epochs in agreement while one is voted out -/
  agree : Nat := 0
  /-- W=1 R293 reset 0: DISPUTED reported -/
  disputed : Bool := false
  /-- W=- R295 reset empty: systems in disagreement, (system, epochs) -/
  sysBad : List (Nat × Nat) := []
  /-- W=- R295 reset empty: systems voted out, (system, epochs within) -/
  sysOut : List (Nat × Nat) := []
  /-- W=- R297 reset 0: consecutive epochs of the S2 condition -/
  posBad : Nat := 0
  /-- W=- R297 reset 0: consecutive epochs of the S3 condition -/
  sdBad : Nat := 0
  /-- W=16 R304 reset 0: signals used -/
  used : Nat := 0
  /-- W=32 R299 reset 0: correction age -/
  age : F32 := 0
  /-- W=- R299 reset none: epoch of the last observations applied, ms of the GPS week -/
  obsEpoch : Option Nat := none
  /-- W=- R299 reset none: epoch of the last SSR corrections applied, ms of the GPS week -/
  ssrEpoch : Option Nat := none
  /-- W=12 R291 reset none: base-station identity -/
  base : Option Nat := none
  /-- W=1 R291 reset clear: RTK restarts at RTK_FLOAT -/
  rtkRestart : Bool := false
  /-- W=- R298 reset empty: byte streams -/
  streams : List Rtcm := []
  /-- W=- R298 reset empty: (module time, station, type, epoch) applied in the last week, in which no epoch comes twice -/
  seen : List (Nat × Nat × Nat × Nat) := []
  /-- W=32 R298 reset 0 -/
  framesOk : Nat := 0
  /-- W=32 R298 reset 0 -/
  framesBad : Nat := 0
  /-- W=32 R302 reset 0: number of the next latch -/
  nextLatch : Nat := 0
  /-- W=- R302 reset empty: the ring of 4 latches, newest first -/
  ring : List RawLatch := []
  /-- W=1 R301 reset clear: test mode -/
  test : Bool := false
  /-- W=1 R301 reset clear: recovery condition -/
  recovery : Bool := false
  /-- W=64 R301 reset none: the primary solution has been VALID since -/
  validSince : Option Nat := none
  /-- W=1 R301 reset clear: the primary solution has been VALID since start-up -/
  firstValid : Bool := false
  /-- W=- R301 reset none: latch requests, with their admission times -/
  requests : List Req := []
  /-- W=- R300 reset none: ephemerides held, (system, svid) -/
  ephem : List (Nat × Nat) := []
  /-- W=- R286 reset none: almanac held -/
  almanac : Bool := false
  /-- W=- R286 reset none: last position (latitude, longitude, height) -/
  lastPos : Option (Rat × Rat × Rat) := none
deriving DecidableEq, Repr, Inhabited

/-- `TIM_CONFIG`. -/
structure TimCfg where
  ref : Nat := 1
  ppsWidth : Nat := 100
  ppsPol : Nat := 0
  ttcanPrio : Nat := 3
  delay0 : Int := 0
  delay1 : Int := 0
  inDelay : Int := 0
  slewMax : F32 := 0x40A00000
  slewTau : F32 := 0x42C80000
  ttcanCh : Nat := 0
  gptpPorts : Nat := 3
  prio1 : Nat := 246
  prio2 : Nat := 248
deriving DecidableEq, Repr, Inhabited

/-- Time states (R311). -/
inductive TimSt where
  | free | slewing | locked | holdover | untraceable
deriving DecidableEq, Repr, Inhabited

/-- A gPTP announce as the module sends it (R317). -/
structure Announce where
  time : Nat
  port : Nat
  prio1 : Nat
  clockClass : Nat
  accuracy : Nat
  prio2 : Nat
  source : Nat
  /-- the gPTP time, ns, signed -/
  gptpTime : Int
  /-- currentUtcOffset, s; none while L is unknown -/
  utcOffset : Option Int
  /-- timeBaseIndicator -/
  timeBase : Nat
  /-- lastGmPhaseChange, ns -/
  lastPhase : Int
deriving DecidableEq, Repr, Inhabited

/-- The time base (chapter 13). -/
structure TimState where
  /-- W=- R306 reset the defaults of `TIM_CONFIG` -/
  cfg : TimCfg := {}
  /-- W=- R306 reset none: a configuration that applies at the next whole second -/
  next : Option (Nat × TimCfg) := none
  /-- W=3 R311 reset FREE (0) -/
  st : TimSt := .free
  /-- W=64 R308 reset 0: O, ns -/
  o : Int := 0
  /-- W=1 R308 reset clear: a mapping has been set since start-up -/
  mapped : Bool := false
  /-- W=- R310 reset empty: the last 16 mappings, (from, O), newest first -/
  maps : List (Nat × Int) := []
  /-- W=- R313 reset 0: u, ns -/
  u : Rat := 0
  /-- W=- R311 reset 0: phase error, ns -/
  eps : Rat := 0
  /-- W=- R312 reset 0: slew offset, ppm -/
  slew : Rat := 0
  /-- W=- R305 reset 0: frequency correction without the slew, ppb -/
  corr : Rat := 0
  /-- W=1 R305 reset 0: `EFC_LIMIT` -/
  efcLimit : Bool := false
  /-- W=2 R307 reset 0: active reference: 0 none, 1 GNSS, 2 `PPS_IN`, 3 manager -/
  active : Nat := 0
  /-- W=4 R307 reset 0: consecutive usable GNSS epochs -/
  gnssCount : Nat := 0
  /-- W=4 R307 reset 0: consecutive usable `PPS_IN` edges -/
  ppsCount : Nat := 0
  /-- W=- R311 reset 0: uncertainty of the reference, ns -/
  refUnc : Rat := 0
  /-- W=9 R310 reset -1: L -/
  leap : Int := -1
  /-- W=- R310 reset none: an announced leap second, (GPS second, L from then on) -/
  leapNext : Option (Int × Int) := none
  /-- W=- R310 reset empty: leap seconds applied, (GPS second, L before, L after), newest first -/
  leaps : List (Int × Int × Int) := []
  /-- W=1 R312 reset 0: `STEPPED` -/
  stepped : Bool := false
  /-- W=32 R312 reset 0 -/
  steps : Nat := 0
  /-- W=- R312 reset none: a step that waits for its second, (module time, ns) -/
  step : Option (Nat × Int) := none
  /-- W=64 R313 reset none: holdover entry -/
  holdSince : Option Nat := none
  /-- W=- R313 reset 0 -/
  u0 : Rat := 0
  /-- W=- R313 reset 0: residual frequency error at entry, ppb -/
  yr : Rat := 0
  /-- W=- R313 reset 0: OCXO temperature at entry -/
  t0 : Rat := 0
  /-- W=- R313 reset 0: largest change since entry -/
  dtmax : Rat := 0
  /-- W=- R319 reset 0: OCXO temperature, °C -/
  temp : Rat := 0
  /-- W=64 R311 reset none -/
  smallSince : Option Nat := none
  /-- W=64 R311 reset none -/
  largeSince : Option Nat := none
  /-- W=64 R313 reset none: LOCKED since -/
  lockedSince : Option Nat := none
  /-- W=64 R316 reset none: stamp of the last `PPS_IN` edge -/
  ppsIn : Option Nat := none
  /-- W=1 R316 reset clear: `PPS_IN` has been declared lost -/
  ppsLost : Bool := false
  /-- W=1 R306 reset clear: the last `PPS_IN` edge was usable -/
  ppsUsable : Bool := false
  /-- W=- R309 reset none: the GPS second and the stamp of the named edge, its uncertainty and L -/
  named : Option (Int × Nat × F32 × Int) := none
  /-- W=- R309 reset empty: `TIM_EPOCH_SET` commands that wait for their edge -/
  epochReqs : List Req := []
  /-- W=64 R315 reset 0: the last edge instant of each PPS output, without its delay -/
  ppsLast : List Nat := [0, 0]
  /-- W=64 R315 reset 0: the mapping that each output's edges follow -/
  ppsO : List Int := [0, 0]
  /-- W=- R315 reset none: the mapping changed at this instant, and the edge after the one at its boundary is re-phased -/
  rephase : List (Option Nat) := [none, none]
  /-- W=- R315 reset empty: pulses that the outputs made, (output, edge, end), newest first -/
  ppsEdges : List (Nat × Nat × Nat) := []
  /-- W=64 R308 reset none: the manager's mapping as a worker last received it -/
  mgrO : Option Int := none
  /-- W=64 R317 reset 0: gPTP grandmaster identity -/
  gm : Nat := 0
  /-- W=16 R317 reset 0: timeBaseIndicator -/
  timeBase : Nat := 0
  /-- W=64 R317 reset 0: lastGmPhaseChange, ns -/
  lastPhase : Int := 0
  /-- W=- R317 reset empty: announces sent, newest first -/
  announces : List Announce := []
deriving DecidableEq, Repr, Inhabited

end Sys2Proof.Machine
end

