-- ==== Sys2Proof/Machine/State/Lpe.lean ====
section
/-! DEFINITION. The state of chapters 09 (loop engines), 10 (valve channels) and 11 (field I/O). -/
namespace Sys2Proof.Machine

/-- Loop states of R219. -/
inductive LoopSt where
  | free | idle | run | hold | failed
deriving DecidableEq, Repr, Inhabited

/-- A loop's configuration (R200, R201, `LPE_LOOP_CONFIG`). -/
structure LoopCfg where
  /-- 0 valve current, 1 valve position, 2 guidance, 3 function, 4 partition -/
  kind : Nat := 0xFF
  index : Nat := 0xFF
  /-- owner partition; 0xFF none -/
  owner : Nat := 0xFF
  classP : Bool := false
  /-- period index of R215 -/
  period : Nat := 0
  spSrc : Nat := 0
  spHandle : Nat := 0
  fbHandle : Nat := 0
  /-- destinations -/
  outs : List Nat := []
  ffHandle : Nat := 0
  repHandle : Nat := 0
  followRatio : F32 := 0
  followOffset : F32 := 0
  followTau : F32 := 0
  fbBank : Nat := 0
  fbRegion : Nat := 0
  failMode : Nat := 0
  safeOut : F32 := 0
  idleOut : F32 := 0
deriving DecidableEq, Repr, Inhabited

/-- The inputs of one sample (R202, R216): none where a record is unusable. -/
structure LoopIn where
  t : Nat := 0
  /-- source of the set-point -/
  sp : Option F32 := none
  fb : Option F32 := none
  /-- the region signals of bank A and of bank B -/
  zA : Option F32 := none
  zB : Option F32 := none
  ff : Option F32 := none
deriving DecidableEq, Repr, Inhabited

/-- The nodes of the last sample (R225). -/
structure LoopNodes where
  r : F32 := 0
  y : F32 := 0
  e : F32 := 0
  g : F32 := 0
  p : F32 := 0
  i : F32 := 0
  d : F32 := 0
  ff : F32 := 0
  q : F32 := 0
  v : F32 := 0
  u : F32 := 0
  region : F32 := 0
  z : F32 := 0
deriving DecidableEq, Repr, Inhabited

/-- One loop slot (R202 to R233). -/
structure Loop where
  /-- W=- R200 reset not allocated -/
  cfg : LoopCfg := {}
  /-- W=3 R219 reset FREE (0) -/
  st : LoopSt := .free
  /-- W=8 R209 reset unwritten (0): 8 KiB, as cells that differ from 0 -/
  bankA : List Host.Cell := []
  /-- W=8 R209 reset unwritten (0): 8 KiB, as cells that differ from 0 -/
  bankB : List Host.Cell := []
  /-- W=1 R212 reset none: the words of marked lines of the banks that are still to be rewritten, 2,048 x bank + word -/
  bankPoison : List Nat := []
  /-- W=1 R211 reset A: the selected bank -/
  selected : Nat := 0
  /-- W=1 R211 reset A: `BANK`, the effective bank -/
  effective : Nat := 0
  /-- W=1 R232 reset 0: `SWAP_PENDING`, the bank requested, and the command if one waits -/
  pendingSwap : Option (Nat × Option Req) := none
  /-- W=1 R232 reset 0: `FALLBACK` -/
  fallback : Bool := false
  /-- W=14 R207 reset 0: consecutive samples with z unusable -/
  badZ : Nat := 0
  /-- W=14 R207 reset 0: consecutive samples with z usable in FALLBACK -/
  goodZ : Nat := 0
  /-- W=1 R206 reset clear: a fresh choice of region is due -/
  freshDue : Bool := false
  /-- W=3 R232 reset 0: `REGION` -/
  region : Nat := 0
  /-- W=1 R202 reset clear: the next sample is the first after entering RUN -/
  first : Bool := false
  /-- W=32 R202 reset 0 -/
  i : F32 := 0
  /-- W=32 R202 reset 0 -/
  d : F32 := 0
  /-- W=32 R202 reset 0 -/
  yPrev : F32 := 0
  /-- W=32 R202 reset 0 -/
  rPrev : F32 := 0
  /-- W=32 R202 reset 0 -/
  uLast : F32 := 0
  /-- W=32 R214 reset 0 -/
  rf : F32 := 0
  /-- W=1 R214 reset clear: rf has started -/
  rfStarted : Bool := false
  /-- W=32 R202 reset 0: the last usable `x_ff` -/
  xff : F32 := 0
  /-- W=32 R204 reset 0: the last usable set-point -/
  lastR : F32 := 0
  /-- W=32 R179 reset 0: the set-point that a system loop's own chapter gives it -/
  spInt : F32 := 0
  /-- W=32 R178 reset none: the feedback that guidance gives the wheel-angle loop -/
  fbInt : Option F32 := none
  /-- W=1 R101 reset clear: OPEN_LOOP, feedback and integral terms are off -/
  openLoop : Bool := false
  /-- W=32 R218 reset 0: the output as it stood before the instant `wroteAt` -/
  outPrev : F32 := 0
  /-- W=64 R218 reset none: the last instant at which an output was written, releases apart -/
  wroteAt : Option Nat := none
  /-- W=1 R232 reset 0 -/
  ffHold : Bool := false
  /-- W=1 R232 reset 0 -/
  nonfinite : Bool := false
  /-- W=1 R232 reset 0: `POISON` -/
  fPoison : Bool := false
  /-- W=1 R232 reset 0 -/
  swapRejected : Bool := false
  /-- W=1 R232 reset 0 -/
  repLost : Bool := false
  /-- W=2 R213 reset 0: pulses seen since `REP_LOST` was set -/
  repLostPulses : Nat := 0
  /-- W=1 R232 reset 0 -/
  iLimited : Bool := false
  /-- W=1 R232 reset 0 -/
  uLimited : Bool := false
  /-- W=1 R213 reset clear: the last output was clamped by `u_min` or `u_max` -/
  uClamped : Bool := false
  /-- W=1 R232 reset 0 -/
  spHold : Bool := false
  /-- W=32 R233 reset 0: `LOOP_SP` -/
  loopSp : F32 := 0
  /-- W=32 R233 reset 0: `LOOP_OUT` -/
  out : F32 := 0
  /-- W=64 R233 reset 0: `LOOP_STAMP` -/
  stamp : Nat := 0
  /-- W=32 R225 reset 0: the nodes of the last sample; `e` is `LOOP_ERR` -/
  nodes : LoopNodes := {}
  /-- W=32 R213 reset empty (all 0): the repetitive memory -/
  rep : List F32 := []
  /-- W=64 R213 reset none: stamp of the last pulse -/
  tp : Option Nat := none
  /-- W=64 R213 reset none: interval between the last two pulses -/
  per : Option Nat := none
  /-- W=1 R213 reset clear: learning is suspended for this revolution -/
  noLearn : Bool := false
  /-- W=1 R219 reset clear: `idle_out` is written at the next sample instant -/
  idleDue : Bool := false
  /-- W=32 R217 reset none: an output not yet released, with its release time -/
  pendingOut : Option (Nat × F32) := none
  /-- W=- R221 reset none: the kept snapshot of a Class P sample that the engine did not finish -/
  kept : Option LoopIn := none
deriving DecidableEq, Repr, Inhabited

/-- One trace unit (R225 to R236). -/
structure Trace where
  /-- W=2 R234 reset 0: `MODE` -/
  mode : Nat := 0
  /-- W=13 R234 reset 0: `PRE` -/
  pre : Nat := 0
  /-- W=8 R234 reset 0: `DECIM` -/
  decim : Nat := 0
  /-- W=7 R234 reset 0: `CLOCK` -/
  clock : Nat := 0
  /-- W=3 R235 reset 0: `NODE` -/
  nodeSlot : Nat := 0
  /-- W=4 R235 reset 0: `KIND` -/
  kind : Nat := 0
  /-- W=32 R236 reset 0: `TRC_LEVEL` -/
  level : F32 := 0
  /-- W=15 R236 reset 0: `TRC_NODE0`-`TRC_NODE7` -/
  nodes : List Nat := List.replicate 8 0
  /-- W=64 R236 reset 0: `TRC_TSTAMP` -/
  tstamp : Nat := 0
  /-- W=48 R236 reset 0: `TRC_STREAM_BASE` -/
  base : Nat := 0
  /-- W=32 R236 reset 0: `TRC_STREAM_SIZE` -/
  size : Nat := 0
  /-- W=32 R236 reset 0: `TRC_STREAM_WR` -/
  wr : Nat := 0
  /-- W=2 R235 reset 0 (idle) -/
  st : Nat := 0
  /-- W=1 R235 reset 0 -/
  aborted : Bool := false
  /-- W=1 R235 reset 0 -/
  dropped : Bool := false
  /-- W=- R226 reset empty: samples recorded, oldest first, at most 8,192 -/
  ring : List (List F32) := []
  /-- W=13 R235 reset 0: `INDEX` -/
  index : Nat := 0
  /-- W=13 R226 reset 0: samples still to record after the trigger -/
  left : Nat := 0
  /-- W=8 R225 reset 0: samples skipped since the last one recorded -/
  skip : Nat := 0
  /-- W=32 R226 reset none: previous value of the trigger node -/
  prev : Option F32 := none
  /-- W=32 R226 reset none: present value of the trigger node -/
  cur : Option F32 := none
  /-- W=64 R225 reset none: instant of the last sample recorded -/
  lastT : Option Nat := none
  /-- W=1 R226 reset clear: the last sample brought a trigger that is no value of a node -/
  hit : Bool := false
  /-- W=- R227 reset none: the first sample of the pair last written -/
  mate : Option (List F32) := none
  /-- W=1 R226 reset clear: a software trigger waits for the next sample -/
  sw : Bool := false
  /-- W=- R227 reset empty: samples buffered for the stream -/
  buf : List (List F32) := []
  /-- W=8 R226 reset none: the port that holds the unit -/
  holder : Option Nat := none
deriving DecidableEq, Repr, Inhabited

/-- The loop engines (chapter 09). -/
structure LpeState where
  /-- W=- R199 reset FREE each: loops 0-127 -/
  loops : List Loop := List.replicate 128 {}
  /-- W=1 R229 reset 0: `LPE_STATUS.ACCESS_FAULT` -/
  accessFault : Bool := false
  /-- W=4 R229 reset 8: `SPARE`; none is 0xF -/
  spare : Option Nat := some 8
  /-- W=9 R229 reset 0: `EXCLUDED` -/
  excluded : List Bool := List.replicate 9 false
  /-- W=4 R230 reset n for logical n: `LPE_MAP` -/
  map : List Nat := [0, 1, 2, 3, 4, 5, 6, 7]
  /-- W=- R222 reset none: a takeover in progress, (logical, spare) -/
  loading : List (Nat × Nat) := []
  /-- W=32 R222 reset 0: `takeovers` -/
  takeovers : Nat := 0
  /-- W=- R225 reset each at reset: trace units 0-7 -/
  traces : List Trace := List.replicate 8 {}
  /-- W=64 R216 reset none: the last instant at which a loop wrote its output at once -/
  wroteAt : Option Nat := none
  /-- W=- R216 reset empty: the records written at that instant, by handle, as they stood before it -/
  wrote : List (Nat × Rec) := []
  /-- W=- R200 reset empty: partition loops in the order of their commands -/
  partLoops : List LoopCfg := []
deriving DecidableEq, Repr, Inhabited

/-- Driver states of a valve channel (R247). -/
inductive ValveSt where
  | unconfigured | deEnergised | testing | energised | demag | offTime | retryWait | latched
deriving DecidableEq, Repr, Inhabited

/-- A valve channel's configuration (`VLV_CONFIG`). -/
structure ValveCfg where
  mode : Nat := 0
  owner : Nat := 0
  posInput : Nat := 0
  lostMode : Nat := 1
  pwmFreq : Nat := 20000
  offTime : Nat := 200
  iMax : F32 := 0x40000000
  iPeak : F32 := 0x40800000
  tPeak : F32 := 0x40A00000
  iHold : F32 := 0x3F800000
  onLevel : F32 := 0x3F000000
  offLevel : F32 := 0x3E800000
  ditherAmp : F32 := 0
  ditherFreq : Nat := 100
  demagMax : Nat := 20
  posGain : F32 := 0x40000000
  posOffset : F32 := 0xBF800000
  posMin : F32 := 0xBF800000
  posMax : F32 := 0x3F800000
  sentTick : Nat := 30
  sentNibbles : Nat := 6
  sentCrc : Nat := 0
  rRef : F32 := 0x3F000000
  tRef : F32 := 0x41A00000
  rTh : F32 := 0x41000000
  tauTh : F32 := 0x44160000
  tIns : F32 := 0x431B0000
  derateBand : F32 := 0x41A00000
  ambHandle : Nat := 0
  ambDefault : F32 := 0x42B40000
deriving DecidableEq, Repr, Inhabited

/-- One valve channel (R237 to R266). -/
structure Valve where
  /-- W=- R247 reset the defaults of `VLV_CONFIG` -/
  cfg : ValveCfg := {}
  /-- W=2 R247 reset OFF (0): the mode in force -/
  mode : Nat := 0
  /-- W=5 R240 reset none: function bound to the channel -/
  fn : Option Nat := none
  /-- W=1 R240 reset clear: guidance drives the channel -/
  gde : Bool := false
  /-- W=7 R240 reset none: the partition that owns the bound function, or G, where this module hosts it -/
  bindPart : Option Nat := none
  /-- W=4 R265 reset 0 (UNCONFIGURED) -/
  st : ValveSt := .unconfigured
  /-- W=1 R242 reset off: the drive -/
  drive : Bool := false
  /-- W=1 R241 reset off: the level of PEAK_HOLD -/
  level : Bool := false
  /-- W=15 R254 reset none: conditions present, by code 1-14 -/
  present : List Nat := []
  /-- W=1 R265 reset 0: `TERMINAL` -/
  terminal : Nat := 0
  /-- W=2 R265 reset 0: `RETRIES` -/
  retries : Nat := 0
  /-- W=1 R265 reset 0: `HELD_ON` -/
  heldOn : Bool := false
  /-- W=1 R265 reset 0 -/
  spLimited : Bool := false
  /-- W=1 R265 reset 0 -/
  derated : Bool := false
  /-- W=1 R265 reset 0 -/
  peakLimited : Bool := false
  /-- W=1 R265 reset 0 -/
  headroom : Bool := false
  /-- W=- R247 reset none: a drive on that has not ended -/
  onReq : Option Req := none
  /-- W=- R247 reset none: a drive off that has not ended -/
  offReq : Option Req := none
  /-- W=64 R247 reset 0: when the state was entered -/
  since : Nat := 0
  /-- W=64 R247 reset none: when the demagnetisation ended -/
  demagEnd : Option Nat := none
  /-- W=64 R247 reset 0: when the last trip occurred -/
  tripAt : Nat := 0
  /-- W=64 R256 reset none: when the sense bias was applied -/
  biasAt : Option Nat := none
  /-- W=2 R256 reset empty: the last three classifications, newest first (0 ok, 2, 6, 7) -/
  offClasses : List Nat := []
  /-- W=64 R254 reset none: OPEN_ON's condition holds since -/
  openOnSince : Option Nat := none
  /-- W=64 R254 reset none: OPEN_ON's clearing condition holds since -/
  openOffSince : Option Nat := none
  /-- W=64 R254 reset none: coil current above the set-point with duty 0 since -/
  overSince : Option Nat := none
  /-- W=64 R254 reset none: SENSE_FAULT's condition holds since -/
  senseSince : Option Nat := none
  /-- W=64 R257 reset none: `HEADROOM`'s condition holds since -/
  headSince : Option Nat := none
  /-- W=64 R253 reset none: the raw position lies outside its range since -/
  posLowSince : Option Nat := none
  /-- W=64 R253 reset none: the sensor supply lies outside its range since -/
  posSupSince : Option Nat := none
  /-- W=64 R253 reset none: no position fault since -/
  posGoodSince : Option Nat := none
  /-- W=32 R266 reset 0: `CH_CURRENT` -/
  current : F32 := 0
  /-- W=64 R266 reset 0: `CH_STAMP` -/
  stamp : Nat := 0
  /-- W=32 R261 reset 0: mean current over the last 1 ms -/
  mean1ms : F32 := 0
  /-- W=32 R266 reset 0: the duty in force when one was last written -/
  duty : F32 := 0
  /-- W=32 R243 reset 0: the duty last written; it applies from the start of the next PWM period -/
  dutyNext : F32 := 0
  /-- W=64 R243 reset 0: when it was written -/
  dutyAt : Nat := 0
  /-- W=1 R244 reset clear: fast decay in the PWM period -/
  fastDecay : Bool := false
  /-- W=64 R244 reset none: the PWM period whose decay mode has been chosen -/
  decayPer : Option Nat := none
  /-- W=- R258, R261 reset empty: the coil-current samples of the last 1 ms in blocks of 20 µs: end, sum, sum of squares, number -/
  acc : List (Nat × Rat × Rat × Nat) := []
  /-- W=- R259 reset none: steady hold since, with the sums of duty and of current and the number of blocks -/
  steady : Option (Nat × Rat × Rat × Nat) := none
  /-- W=- R251 reset empty: raw values of the position sample in progress -/
  posAcc : List Rat := []
  /-- W=32 R266 reset 0: `CH_POSITION` -/
  position : F32 := 0
  /-- W=32 R251 reset none: raw position, 0-1 -/
  posRaw : Option Rat := none
  /-- W=64 R253 reset 0: when the last valid SENT frame arrived -/
  sentAt : Nat := 0
  /-- W=- R252 reset none: calibration pulse of the previous frame, ns -/
  sentCal : Option Nat := none
  /-- W=32 R266 reset 0: `CH_COIL_T`, tm -/
  tm : F32 := 0
  /-- W=32 R266 reset 0: `CH_R_COIL` -/
  rMeas : F32 := 0
  /-- W=1 R258 reset clear: a resistance measurement completed in this 1 ms -/
  measured : Bool := false
  /-- W=32 R260 reset 2.0 (`CH_BUCKET` reads 0 before the first refill, R266): junction budget, A2s -/
  bucket : Rat := 2
  /-- W=1 R266 reset clear: the bucket has been refilled once, so that `CH_BUCKET` shows it -/
  bucketSeen : Bool := false
  /-- W=32 R258 reset 2.0 A: i_allow -/
  iAllow : F32 := 0x40000000
  /-- W=32 R260 reset 0: peak current in force -/
  ip : F32 := 0
  /-- W=64 R260 reset 0: end of the peak -/
  peakEnd : Nat := 0
  /-- W=64 R266 reset none: when `PEAK_LIMITED` was last reported -/
  peakEventAt : Option Nat := none
  /-- W=32 R266 reset 0 -/
  switchOns : Nat := 0
  /-- W=32 R266 reset 0 -/
  trips : Nat := 0
  /-- W=32 R261 reset 0x0F: the status word last published -/
  lastStatus : Nat := 0x0F
  /-- W=64 R261 reset 0: when the status word was last published -/
  statusAt : Nat := 0
  /-- W=1 R513 reset clear: its current sense failed calibration at start-up -/
  calFailed : Bool := false
deriving DecidableEq, Repr, Inhabited

/-- States of a supply group (R257). -/
inductive GroupSt where
  | ok | low | absent | overVolt | excluded
deriving DecidableEq, Repr, Inhabited

/-- One valve supply group (R257). -/
structure Group where
  /-- W=3 R257 reset OK (0) -/
  st : GroupSt := .ok
  /-- W=1 R257 reset clear: the first measurement has been taken -/
  seen : Bool := false
  /-- W=- R257 reset 0: volts -/
  volts : Rat := 0
  /-- W=- R265 reset 0: mean current over 1 s, A -/
  amps : Rat := 0
  /-- W=- R257 reset empty: the input current of the last 1 s and its difference from the channels' sum, by instant -/
  hist : List (Nat × Rat × Rat) := []
  /-- W=64 R257 reset none: measured since -/
  since : Option Nat := none
  lowSince : Option Nat := none
  absentSince : Option Nat := none
  overSince : Option Nat := none
  lowEndSince : Option Nat := none
  absentEndSince : Option Nat := none
  overEndSince : Option Nat := none
deriving DecidableEq, Repr, Inhabited

/-- The valve channels (chapter 10). -/
structure VlvState where
  /-- W=- R237 reset each at reset: channels V00-V47 -/
  ch : List Valve := List.replicate 48 {}
  /-- W=- R237 reset each at reset: groups FSA-FSD -/
  groups : List Group := List.replicate 4 {}
  /-- W=1 R263 reset 0: `ACCESS_FAULT` -/
  accessFault : Bool := false
  /-- W=48 R264 reset 0: `VLV_CHANGED` -/
  changed : List Bool := List.replicate 48 false
deriving DecidableEq, Repr, Inhabited

/-- Configuration of a digital input (`FIO_DI_CONFIG`). -/
structure DiCfg where
  mode : Nat := 1
  itype : Nat := 3
  n : Nat := 300
  polarity : Nat := 0
  wb : Bool := false
  gate : Nat := 10
  rWb : F32 := 0x41B00000
  zeroTime : Nat := 1000
deriving DecidableEq, Repr, Inhabited

/-- One digital input (R268 to R272). -/
structure Di where
  /-- W=- R269 reset the defaults of `FIO_DI_CONFIG` -/
  cfg : DiCfg := {}
  /-- W=- R269 reset none: a configuration that takes effect at the next 1 ms instant -/
  next : Option (Nat × DiCfg) := none
  /-- W=1 R268 reset 0: comparator output -/
  raw : Bool := false
  /-- W=14 R269 reset 0: the integrating counter -/
  cnt : Nat := 0
  /-- W=1 R269 reset 0: integrated output -/
  out : Bool := false
  /-- W=64 R270 reset 0: stamp of the last edge of the output -/
  edgeAt : Nat := 0
  /-- W=64 R271 reset empty: stamps of counted edges, newest first -/
  edges : List Nat := []
  /-- W=32 R271 reset 0: counted edges since start-up -/
  count : Nat := 0
  /-- W=- R271 reset 0: last frequency -/
  freq : Rat := 0
  /-- W=1 R272 reset clear -/
  openWire : Bool := false
  /-- W=2 R272 reset 0 -/
  below : Nat := 0
  /-- W=4 R272 reset 0 -/
  above : Nat := 0
  /-- W=- R272 reset 0: u -/
  u : Rat := 0
  /-- W=1 R274 reset clear: OVER_TEMP -/
  overTemp : Bool := false
  /-- W=64 R274 reset none: the group's front end has not been above 150 °C since -/
  coolSince : Option Nat := none
  /-- W=3 R274 reset OK: the state last reported -/
  st : Nat := 0
deriving DecidableEq, Repr, Inhabited

/-- Configuration of an analogue input (`FIO_AI_CONFIG`). -/
structure AiCfg where
  mode : Nat := 1
  wb : Bool := false
  gain : F32 := 0x3F800000
  offset : F32 := 0
  tau : F32 := 0
deriving DecidableEq, Repr, Inhabited

/-- One analogue input (R273, R274). -/
structure Ai where
  /-- W=- R273 reset the defaults of `FIO_AI_CONFIG` -/
  cfg : AiCfg := {}
  /-- W=- R273 reset none: a configuration that takes effect at the next 1 ms instant -/
  next : Option (Nat × AiCfg) := none
  /-- W=32 R273 reset none: filter output; none until the first mean -/
  x : Option F32 := none
  /-- W=- R276 reset 0: the last mean, V or mA -/
  mean : Rat := 0
  /-- W=3 R274 reset OK -/
  st : Nat := 0
  /-- W=64 R274 reset none: the open-wire condition holds since -/
  openSince : Option Nat := none
  /-- W=64 R274 reset none: the state's condition has been absent since -/
  clearSince : Option Nat := none
  /-- W=64 R274 reset none: the shunt is disconnected since -/
  shuntOff : Option Nat := none
  /-- W=1 R513 reset clear: the front end failed its calibration -/
  calFailed : Bool := false
  /-- W=32 R273 reset 0: the value last published -/
  value : F32 := 0
deriving DecidableEq, Repr, Inhabited

/-- States of a digital output (R277). -/
inductive DoSt where
  | unconfigured | off | testing | on | demag | retryWait | latched
deriving DecidableEq, Repr, Inhabited

/-- One digital output (R275 to R279). -/
structure DigOut where
  /-- W=1 R277 reset 0: `enable` -/
  enable : Bool := false
  /-- W=7 R275 reset 0: `owner` -/
  owner : Nat := 0
  /-- W=1 R279 reset 0: `safe` -/
  safe : Nat := 0
  /-- W=1 R278 reset 1: `test` -/
  test : Nat := 1
  /-- W=5 R275 reset none: function bound to the output -/
  fn : Option Nat := none
  /-- W=1 R275 reset clear: guidance drives the output -/
  gde : Bool := false
  /-- W=7 R275 reset none: the partition that owns the bound function, or G, where this module hosts it -/
  bindPart : Option Nat := none
  /-- W=3 R277 reset UNCONFIGURED -/
  st : DoSt := .unconfigured
  /-- W=9 R276 reset none: codes present -/
  present : List Nat := []
  /-- W=2 R277 reset 0 -/
  retries : Nat := 0
  /-- W=1 R277 reset 0: `HELD_ON` -/
  heldOn : Bool := false
  /-- W=64 R277 reset 0: when the state was entered -/
  since : Nat := 0
  /-- W=64 R277 reset 0: when the last trip occurred -/
  tripAt : Nat := 0
  /-- W=64 R276 reset none: when demagnetisation ended -/
  demagEnd : Option Nat := none
  /-- W=- R276 reset 0: load current, A -/
  amps : Rat := 0
  /-- W=- R276 reset 0: pin volts -/
  volts : Rat := 0
  /-- W=- R276 reset empty: the load currents of the last 100 ms, newest first, with their instants -/
  hist : List (Nat × Rat) := []
  /-- W=64 R276 reset none: the load current is measured since -/
  histFrom : Option Nat := none
  /-- W=64 R276 reset none: in current limit since -/
  limitSince : Option Nat := none
  /-- W=64 R276 reset none -/
  openSince : Option Nat := none
  /-- W=64 R276 reset none -/
  openEndSince : Option Nat := none
  /-- W=2 R276 reset empty: last three classes, newest first -/
  offClasses : List Nat := []
  /-- W=32 R276 reset 0: switch-ons since start-up -/
  count : Nat := 0
  /-- W=1 R279 reset clear: the output has been driven to its safe state -/
  forcedSafe : Bool := false
deriving DecidableEq, Repr, Inhabited

/-- One of `S24A`, `S24B`, `DOSA`, `DOSB` (R267). -/
structure Supply where
  /-- W=1 R267 reset good: ABSENT or FAILED -/
  bad : Bool := false
  /-- W=1 R267 reset clear -/
  seen : Bool := false
  /-- W=- R267 reset 0 -/
  volts : Rat := 0
  badSince : Option Nat := none
  goodSince : Option Nat := none
  /-- W=64 R267 reset none: in current limit since -/
  limitSince : Option Nat := none
  /-- W=64 R267 reset none: switched off since -/
  offAt : Option Nat := none
deriving DecidableEq, Repr, Inhabited

/-- The field I/O (chapter 11). -/
structure FioState where
  /-- W=- R268 reset each at reset: DI00-DI63 -/
  di : List Di := List.replicate 64 {}
  /-- W=- R273 reset each at reset: AI00-AI15 -/
  ai : List Ai := List.replicate 16 {}
  /-- W=- R275 reset each at reset: DO00-DO31 -/
  dout : List DigOut := List.replicate 32 {}
  /-- W=- R267 reset good each: S24A, S24B, DOSA, DOSB -/
  supplies : List Supply := List.replicate 4 {}
deriving DecidableEq, Repr, Inhabited

end Sys2Proof.Machine
end

