-- ==== Sys2Proof/Machine/State/Mem.lean ====
section
/-! DEFINITION. The state of chapters 19 (memory), 20 (DMA) and 21 (Cairn). -/
namespace Sys2Proof.Machine

/-- Symbols in error of a stored code word, by device (R437, R438): (device, symbols in error). -/
abbrev ErrPat := List (Nat × Nat)

/-- A DRAM region with an owner (R447). -/
structure MemRegion where
  base : Nat := 0
  size : Nat := 0
  owner : Nat := 0xFF
deriving DecidableEq, Repr, Inhabited

/-- The result of the last load or store, as the requester sees it (R436, R443). -/
structure MemResult where
  data : List Byte := []
  poison : Bool := false
  /-- access fault under R436 -/
  fault : Bool := false
  /-- the poison exception of the Core Reference (R444) -/
  poisonException : Bool := false
deriving DecidableEq, Repr, Inhabited

/-- A stored code word in error (R438): what its next read meets. -/
structure LineError where
  line : Nat
  pat : ErrPat := []
  /-- injected by `MEM_INJECT`: counts toward no failure condition -/
  injected : Bool := false
deriving DecidableEq, Repr, Inhabited

/-- A remap entry (R448): the DRAM line and the spare line's content. -/
structure Remap where
  line : Nat
  data : List Byte := []
  poison : Bool := false
deriving DecidableEq, Repr, Inhabited

/-- Memory and error correction (chapter 19). -/
structure MemState where
  /-- W=8 R435 reset nothing listed (an unlisted byte reads 0): the bytes of DRAM, SRAM and MRAM, in canonical form -/
  bytes : List Host.Cell := []
  /-- W=1 R443 reset none: the marked lines, by line address, rising -/
  poison : List Nat := []
  /-- W=- R438 reset none: code words in error -/
  errors : List LineError := []
  /-- W=4 R439 reset 0xFF each: failed device of each subchannel, survives restarts -/
  failed : List (Option Nat) := [none, none, none, none]
  /-- W=1 R440 reset false each: excluded channels -/
  excluded : List Bool := [false, false]
  /-- W=1 R451 reset 0: self-test failed -/
  selfTestFailed : Bool := false
  /-- W=32 R440 reset 0 -/
  corrected : Nat := 0
  /-- W=32 R440 reset 0 -/
  uncorrectable : Nat := 0
  /-- W=32 R444 reset 0 -/
  consumed : Nat := 0
  /-- W=16 R436 reset 0: access faults -/
  faults : Nat := 0
  /-- W=- R439 reset none: corrected errors, (subchannel 0-3, device, line, time) -/
  devErrors : List (Nat × Nat × Nat × Nat) := []
  /-- W=- R440 reset none: uncorrectable lines found, (channel, time) -/
  ueTimes : List (Nat × Nat) := []
  /-- W=- R448 reset none: corrected lines written back, (line, time) -/
  writtenBack : List (Nat × Nat) := []
  /-- W=- R448 reset none: uncorrectable lines rewritten -/
  rewritten : List Nat := []
  /-- W=- R448 reset empty: lines whose uncorrectable error has been found and that have not been rewritten since -/
  ueFound : List Nat := []
  /-- W=- R448 reset empty (stored in MRAM): remap entries 0-31 -/
  remap : List (Option Remap) := List.replicate 32 none
  /-- W=1 R448 reset 0 -/
  remapFull : Bool := false
  /-- W=- R448 reset 0: candidates counted while full -/
  remapMissed : Nat := 0
  /-- W=1 R446 reset 0 -/
  scrubLate : Bool := false
  /-- W=- R446 reset 0: DRAM lines read in the current pass -/
  scrubLines : Nat := 0
  /-- W=64 R446 reset 0: when the current pass began -/
  passStart : Nat := 0
  /-- W=- R446 reset 0 each: lines of the current SRAM and MRAM passes -/
  chipLines : Nat × Nat := (0, 0)
  /-- W=64 R446 reset 0 each: start of the current SRAM and MRAM passes -/
  chipStart : Nat × Nat := (0, 0)
  /-- W=64 R446 reset 0: when the last pass ended -/
  lastPass : Nat := 0
  /-- W=16 R446 reset 24 h: `scrub_hours` of the current pass -/
  scrubHours : Nat := 24
  /-- W=16 R439 reset 16 -/
  devThresh : Nat := 16
  /-- W=16 R439 reset 24 h -/
  devWindow : Nat := 24
  /-- W=16 R440 reset 64 per s -/
  ueLimit : Nat := 64
  /-- W=16 R446 reset 60 s -/
  sramScrub : Nat := 60
  /-- W=- R446 reset none: parameters that apply from the next pass (scrub_hours, dev_thresh, dev_window, ue_limit, sram_scrub) -/
  nextParams : Option (Nat × Nat × Nat × Nat × Nat) := none
  /-- W=- R447 reset empty: regions 0-63 -/
  regions : List (Option MemRegion) := List.replicate 64 none
  /-- W=- R436 reset empty: the result of the last access -/
  last : MemResult := {}
  /-- W=- R444 reset none: poison events sent in a second, (agent, second, count) -/
  poisonRate : List (Nat × Nat × Nat) := []
  /-- W=- R10 reset none: the W1C bits that hardware has set lately, (register group, offset of the word, bit, time) -/
  justSet : List (Nat × Nat × Nat × Nat) := []
deriving DecidableEq, Repr, Inhabited

/-- Channel states of R461. -/
inductive DmaSt where
  | stopped | running | idleAtTail | error
deriving DecidableEq, Repr, Inhabited

/-- A descriptor as fetched (R452, R453). -/
structure Desc where
  ctrl : Nat := 0
  length : Nat := 0
  src : Nat := 0
  dst : Nat := 0
  next : Nat := 0
  rows : Nat := 0
  srcStride : Int := 0
  dstStride : Int := 0
  reserved : Nat := 0
  index : Nat := 0
  doneAddr : Nat := 0
deriving DecidableEq, Repr, Inhabited

/-- One DMA channel (R461 to R467). -/
structure DmaCh where
  /-- W=1 R464 reset 0: `ENABLED` -/
  enabled : Bool := false
  /-- W=7 R464 reset 0xFF (none) -/
  owner : Nat := 0xFF
  /-- W=2 R461 reset 0 (STOPPED) -/
  st : DmaSt := .stopped
  /-- W=8 R466 reset 0: `CAUSE` -/
  cause : Nat := 0
  /-- W=1 R466 reset 0 -/
  irqOverrun : Bool := false
  /-- W=1 R466 reset 0 -/
  poisonCarried : Bool := false
  /-- W=1 R466 reset 0 -/
  doorbellPending : Bool := false
  /-- W=42 R467 reset 0: `CH_HEAD` -/
  head : Nat := 0
  /-- W=64 R467 reset 0: `CH_CURRENT` -/
  current : Nat := 0
  /-- W=32 R467 reset 0: `CH_BYTES` -/
  bytes : Nat := 0
  /-- W=32 R467 reset 0: `CH_DONE` -/
  done : Nat := 0
  /-- W=32 R467 reset 0: `CH_CRC`, before the final XOR -/
  crc : Nat := 0
  /-- W=- R457 reset none: the descriptor in progress -/
  desc : Option Desc := none
  /-- W=2 R456 reset none: `crc` kind of the previous descriptor since `START` -/
  prevCrc : Option Nat := none
  /-- W=- R454 reset empty: the offset list of an index descriptor -/
  offs : List Nat := []
  /-- W=- R457 reset none: the last line written by the descriptor and whether it was written with the mark -/
  lastLine : Option (Nat × Bool) := none
  /-- W=1 R459 reset clear: half completion already signalled for this descriptor -/
  halfDone : Bool := false
  /-- W=- R460 reset 0: destination lines of the current descriptor written with the mark -/
  poisonLines : Nat := 0
deriving DecidableEq, Repr, Inhabited

/-- The DMA engine (chapter 20). -/
structure DmaState where
  /-- W=- R461 reset each channel at reset: channels 0-15 -/
  ch : List DmaCh := List.replicate 16 {}
  /-- W=1 R465 reset 0: `DMA_BLOCK.ACCESS_FAULT` -/
  accessFault : Bool := false
  /-- W=16 R465 reset 0: `FULL` -/
  full : List Bool := List.replicate 16 false
  /-- W=16 R465 reset 0: `HALF` -/
  half : List Bool := List.replicate 16 false
  /-- W=- R459 reset empty: interrupts raised to owner partitions, newest first -/
  irqs : List Nat := []
deriving DecidableEq, Repr, Inhabited

/-- One record of Cairn (R471). -/
structure CRec where
  opTime : Nat
  code : Nat
  powerCycle : Nat
  seq : Nat
  lines : Nat
  source : Nat
  moduleTime : Nat
  payload : List Byte
  /-- its first line in the recent ring -/
  start : Nat := 0
deriving DecidableEq, Repr, Inhabited

/-- A read cursor (R479, R480). -/
structure Cursor where
  port : Nat
  /-- 0 origin log, 1 recent ring -/
  part : Nat
  next : Nat
  group : Nat := 0
  lastRead : Nat := 0
  /-- its part was cleared since its last read (R481) -/
  cleared : Bool := false
deriving DecidableEq, Repr, Inhabited

/-- A record that Summit has accepted and not yet written (R475). The application's command that brought it, if any. -/
structure Queued where
  ev : CairnEv
  opTime : Nat := 0
deriving DecidableEq, Repr, Inhabited

/-- Cairn (chapter 21). -/
structure CrnState where
  /-- W=1 R478 reset 0 -/
  mounted : Bool := false
  /-- W=1 R470 reset 0: `ORIGIN_FULL` -/
  originFull : Bool := false
  /-- W=1 R478 reset 0: state rebuilt at the last mount -/
  rebuilt : Bool := false
  /-- W=48 R472 reset 0: operating time in ms -/
  opTime : Nat := 0
  /-- W=32 R472 reset 0: `seq` of the newest record (0 before the first) -/
  seq : Nat := 0
  /-- W=32 R501 reset 0: power-cycle count -/
  powerCycles : Nat := 0
  /-- W=- R470 reset empty: records held by the ring, oldest first -/
  ring : List CRec := []
  /-- W=17 R470 reset 0: line of the ring at which the next record is written -/
  ringPos : Nat := 0
  /-- W=- R470 reset empty: records of the origin log, oldest first -/
  origin : List CRec := []
  /-- W=20 R470 reset 0: lines of the origin log used -/
  originLines : Nat := 0
  /-- W=- R475 reset empty: Summit's queue, oldest first, at most 256 -/
  queue : List Queued := []
  /-- W=32 R475 reset 0: records dropped since start-up -/
  dropped : Nat := 0
  /-- W=32 R475 reset 0: records dropped and not yet reported -/
  dropsToReport : Nat := 0
  /-- W=- R473 reset empty: events raised and not yet accepted by Summit, oldest first -/
  raised : List CairnEv := []
  /-- W=- R479 reset none: cursors 0-7 -/
  cursors : List (Option Cursor) := List.replicate 8 none
  /-- W=5 R476 reset none: lines of the record marked pending in the control area -/
  pendingRec : Option Nat := none
  /-- W=- R475 reset empty: application records admitted in a second, (partition, second, count) -/
  appRate : List (Nat × Nat × Nat) := []
  /-- W=2 R478 reset none: parts cleared since a failed mount -/
  clearedUnmounted : List Nat := []
  /-- W=1 R477 reset clear: the record of a SAVE has been written and nothing more is recorded -/
  closed : Bool := false
  /-- W=64 R471 reset 0: module time since which operating time is counted -/
  opBase : Nat := 0
deriving DecidableEq, Repr, Inhabited

end Sys2Proof.Machine
end

