-- ==== Sys2Proof/Machine/State/Sys.lean ====
section
/-! DEFINITION. The state of chapters 01 (the module in the machine), 02 (Ridgeline signals) and 03 (the Corlith
protocol). -/
namespace Sys2Proof.Machine

/-- The role of the module (R1, R21 to R24). -/
inductive Role where
  | manager | worker | deputy | actingManager | displaced | none
deriving DecidableEq, Repr, Inhabited

/-- What another module of the machine has said of itself (R21). -/
structure Peer where
  index : Nat
  serial : BitVec 64
  machine : Nat := 0xFF
  hwIssue : Nat := 0
  power : Nat := 2
  image : Nat := 0
deriving DecidableEq, Repr, Inhabited

/-- The machine configuration in force (R17, R23): what no chapter's own command configures. -/
structure MachCfg where
  /-- W=1 R17 reset 0: `CONFIG_LOADED` -/
  loaded : Bool := false
  /-- W=3 R23 reset 0xFF (none): deputy index -/
  deputy : Option Nat := none
  /-- W=3 R141 reset none: index of the yield module -/
  yieldIndex : Option Nat := none
deriving DecidableEq, Repr, Inhabited

/-- What the module tells the others of itself on ETH0 and ETH1 (R21). -/
structure Said where
  time : Nat
  index : Nat
  serial : BitVec 64
  machine : Nat
  /-- the serial number of the module with the same index -/
  duplicate : Option (BitVec 64)
deriving DecidableEq, Repr, Inhabited

/-- Identity, role and clocks (chapter 01). -/
structure IdState where
  /-- W=3 R19 reset none (not latched) -/
  index : Option Nat := none
  /-- W=3 R20 reset none: the last strap reading -/
  straps : Option Nat := none
  /-- W=8 R1 reset none -/
  role : Role := .none
  /-- W=4 R17 reset 0xFF (not assigned) -/
  machine : Nat := 0xFF
  /-- W=1 R19 reset 0: `ROLE_UNLATCHED` -/
  roleUnlatched : Bool := false
  /-- W=1 R20 reset 0: `STRAP_CHANGED` -/
  strapChanged : Bool := false
  /-- W=1 R21 reset 0: `DUP_INDEX` -/
  dupIndex : Bool := false
  /-- W=64 R21 reset 0: the serial number reported for a duplicate index -/
  dupSerial : BitVec 64 := 0
  /-- W=1 R22 reset 0: `NO_MANAGER` -/
  noManager : Bool := false
  /-- W=1 R27 reset 0: `CLOCK_FAIL` -/
  clockFail : Bool := false
  /-- W=1 R19 R21 R22 R24 R27 reset clear: the outputs are held in their safe state -/
  outputsHeld : Bool := false
  /-- W=1 R22 R432 reset clear: a manager has been found since start-up -/
  managerSeen : Bool := false
  /-- W=- R26 reset 0: consecutive bad `LCLK` windows -/
  badWindows : Nat := 0
  /-- W=1 R518 reset 0: `SUMMIT_LOST`, Summit excluded -/
  summitLost : Bool := false
  /-- W=1 R30 reset 0: `TIME_LOCK` -/
  timeLock : Bool := false
  /-- W=3 R432 reset 0: index of the module that this one takes as manager -/
  managerIs : Nat := 0
  /-- W=64 R30 reset 0: manager module time minus own module time -/
  managerOffset : Int := 0
  /-- W=- R17 reset none loaded -/
  cfg : MachCfg := {}
  /-- W=8 R23 reset none: the status of the last machine configuration that was loaded -/
  cfgStatus : Option Status := none
  /-- W=- R17 reset empty: machine numbers sent to the workers, newest first: when, to which index, the number (the model's own log of what leaves) -/
  machineSent : List (Nat × Nat × Nat) := []
  /-- W=- R21 reset empty: what the module has told the others, newest first (the model's own log of what leaves) -/
  said : List Said := []
  /-- W=1 R24 reset 0: the modules of the machine have been looked for since start-up -/
  discovered : Bool := false
  /-- W=1 R89 R136 R180 R392 reset 0: a configuration command of the machine configuration is being applied (the model's own mark) -/
  holding : Bool := false
  /-- W=- R21 reset empty: the modules found -/
  peers : List Peer := []
deriving DecidableEq, Repr, Inhabited

/-- A declared signal of locals 1,024 to 8,191 (R45). -/
structure Decl where
  localNo : Nat
  /-- the port number of the producer -/
  producer : Nat
  ty : Nat
  unit : String := ""
  /-- freshness limit in µs; 0 none -/
  fresh : Nat := 0
deriving DecidableEq, Repr, Inhabited

/-- One route-table entry (R50). -/
structure Route where
  entry : Nat
  handle : Nat
  isImport : Bool
  modules : Nat := 0
  massif : Bool := false
  onChange : Bool := false
  prio : Nat := 0
  /-- µs -/
  period : Nat := 0
  /-- µs -/
  fresh : Nat := 0
  policy : Nat := 0
  default : BitVec 64 := 0
deriving DecidableEq, Repr, Inhabited

/-- A route change accepted and not yet in effect (R50). -/
structure RouteChange where
  effectiveAt : Nat
  remove : Bool
  route : Route
deriving DecidableEq, Repr, Inhabited

/-- A service override (R40). -/
structure Force where
  localNo : Nat
  value : BitVec 64
  confidence : Nat
  /-- s -/
  hold : Nat
  setAt : Nat
  lastPublished : Nat
  discarded : Nat := 0
  /-- the `handle` field of the set that established it -/
  handle : Nat
deriving DecidableEq, Repr, Inhabited

/-- A record sent on a route (R52, R53). -/
structure Export where
  time : Nat
  handle : Nat
  modules : Nat
  massif : Bool
  prio : Nat
  record : Rec
deriving DecidableEq, Repr, Inhabited

/-- The signal space (chapter 02). -/
structure SigState where
  /-- W=- R35 reset every own record NO_VALUE: own records that differ from it, by local number, rising -/
  own : List (Nat × Rec) := []
  /-- W=- R35 reset none: imported records by handle, rising -/
  imported : List (Nat × Rec) := []
  /-- W=- R45 reset none: signal declarations -/
  decls : List Decl := []
  /-- W=- R50 reset empty: the route table -/
  routes : List Route := []
  /-- W=- R50 reset empty: accepted route changes that wait for the next 1 ms instant -/
  routeChanges : List RouteChange := []
  /-- W=- R40 reset empty: the forces, at most 16 -/
  forces : List Force := []
  /-- W=- R49 R132 R338 reset empty: the blocks that the module's own units have published, by handle: address and contents, newest first, at
  most four -/
  blocks : List (Nat × List (BitVec 64 × List Byte)) := []
  /-- W=- R52 reset empty: records sent on routes, newest first (the model's own log of what leaves) -/
  exports : List Export := []
  /-- W=- R53 reset empty: when each export entry was last sent -/
  lastExport : List (Nat × Nat) := []
  /-- W=- R49 reset empty: when a later record of a block signal was last published -/
  blockAt : List (Nat × Nat) := []
  /-- W=- R123 reset none: handles whose publications Couloir takes as samples -/
  watch : List Nat := []
  /-- W=- R123 reset empty: publications of watched handles not yet taken by a tick, oldest first -/
  inbox : List (Nat × Rec) := []
  /-- W=8 R56 reset 0xFF: the last winner of each arbitrated resource and priority -/
  lastWinner : List ((Nat × Nat) × Nat) := []
deriving DecidableEq, Repr, Inhabited

/-- A port's credit values (R76). -/
structure Credit where
  reserved : Nat
  limit : Nat
deriving DecidableEq, Repr, Inhabited

/-- An authenticated session (R69 to R72). -/
structure Session where
  /-- the session's port number under R63 -/
  port : Nat
  ip : Nat := 0
  udp : Nat := 0
  slot : Nat := 0
  /-- the session key -/
  sk : List Byte := []
  halfOpen : Bool := true
  openedAt : Nat := 0
  /-- highest accepted host counter; the counter starts at 1 -/
  highest : Nat := 0
  /-- accepted counters of the window below the highest -/
  seen : List Nat := []
  /-- next counter of a packet that the module originates -/
  nextOut : Nat := 1
  /-- the command with counter 0xFFFF_FFFF has been accepted -/
  last : Bool := false
deriving DecidableEq, Repr, Inhabited

/-- The chain that a port has open (R83). -/
structure Chain where
  /-- tag of the last member while it is in flight -/
  prev : Option Nat := none
  broken : Bool := false
deriving DecidableEq, Repr, Inhabited

/-- Authentication failures of a port (R72). -/
structure AuthCount where
  port : Nat
  /-- whole second of module time to which `replies` belongs -/
  second : Nat := 0
  /-- `AUTH_FAIL` replies sent in that second -/
  replies : Nat := 0
  /-- failures since the last report -/
  failures : Nat := 0
deriving DecidableEq, Repr, Inhabited

/-- A partition's mailbox (R64, R413). -/
structure Mailbox where
  /-- W=- R64 reset empty: replies the partition can see, oldest first, at most 32 -/
  visible : List OutPkt := []
  /-- W=- R64 reset empty: replies held in the module while the queue is full -/
  overflow : List OutPkt := []
  /-- W=- R413 reset empty: packets that become visible at the next period start -/
  deferred : List OutPkt := []
  /-- W=5 R64 reset 0: slot of the next packet to be submitted -/
  submitIndex : Nat := 0
  /-- W=- R64 reset empty: what the submit slots hold, by slot, rising -/
  slots : List (Nat × List Byte) := []
deriving DecidableEq, Repr, Inhabited

/-- The command protocol (chapter 03). -/
structure SysState where
  /-- W=- R77 reset empty: packets of this instant that compete at the dispatcher, in the order of their arrival -/
  arrived : List (Op × Packet) := []
  /-- W=- R79 reset empty: the commands in flight, in admission order -/
  flights : List Flight := []
  /-- W=- R76 reset the defaults: credit values set by `SYS_CREDIT_SET`, by port -/
  credits : List (Nat × Credit) := []
  /-- W=- R69 reset empty: sessions -/
  sessions : List Session := []
  /-- W=- R83 reset empty: open chains by port -/
  chains : List (Nat × Chain) := []
  /-- W=32 R74 reset 0: `discarded` of `SYS_STATUS` -/
  discarded : Nat := 0
  /-- W=32 R72 reset 0: `auth_fail` of `SYS_STATUS` -/
  authFail : Nat := 0
  /-- W=- R72 reset empty: authentication failures by port -/
  authCounts : List AuthCount := []
  /-- W=- R75 reset empty: originated packets that await a reply: port, tag, counter on its session (0 where none) -/
  awaiting : List (Nat × Nat × Nat) := []
  /-- W=7 R62 reset 0: the module's next tag on each port -/
  nextTag : List (Nat × Nat) := []
  /-- W=- R64 reset empty: mailboxes by partition -/
  mailboxes : List (Nat × Mailbox) := []
  /-- W=16 R65 reset 47,301: the Corlith UDP port -/
  udpPort : Nat := 47301
  /-- W=16 R4 reset none (the factory image set): the identity that the last committed update has put in its place -/
  imageSet : Option Nat := none
deriving DecidableEq, Repr, Inhabited

end Sys2Proof.Machine
end

