-- ==== Sys2Proof/Machine/State/Upd.lean ====
section
/-! DEFINITION. The state of chapters 22 (field update) and 24 (Summit and the service window). -/
namespace Sys2Proof.Machine

/-! ## Field update -/

/-- A component entry of a manifest (R485). -/
structure UpdComp where
  kind : Nat
  order : Nat
  modules : Nat
  number : Nat
  version : Nat
  first : Nat
  count : Nat
  bytes : Nat
  digest : List Byte
  /-- (kind, number, least version) of the used entries -/
  needs : List (Nat × Nat × Nat)
deriving DecidableEq, Repr, Inhabited

/-- A manifest (R484). -/
structure Manifest where
  setId : Nat
  setVersion : Nat
  hwMin : Nat
  hwMax : Nat
  image : Nat
  pieces : Nat
  comps : List UpdComp
deriving DecidableEq, Repr, Inhabited

/-- A piece buffer (R487). -/
structure PieceBuf where
  index : Nat
  bytes : List (Option Byte)
  last : Nat
deriving DecidableEq, Repr, Inhabited

/-- Update states (R495). -/
inductive UpdSt where
  | idle | receiving | received | installing | staged | committing | failed
deriving DecidableEq, Repr, Inhabited

/-- What a component is, to whoever requires it: kind, number, version (R485). -/
abbrev CompVer := Nat × Nat × Nat

/-- An image set as a bank holds it. -/
structure ImageSet where
  /-- none: the factory set -/
  setId : Option Nat := none
  image : Nat := 0
  /-- this module's components; none: those of its factory set -/
  own : Option (List CompVer) := none
deriving DecidableEq, Repr, Inhabited

/-- Field update (chapter 22). -/
structure UpdState where
  /-- W=3 R495 reset IDLE (0) -/
  st : UpdSt := .idle
  /-- W=8 R489 reset 0 -/
  reason : Nat := 0
  /-- W=8 UPD_STATUS reset 0xFF (none) -/
  component : Nat := 0xFF
  /-- W=64 R486 reset 0 (none): the open transfer -/
  image : Nat := 0
  /-- W=19 R486 reset 0: N -/
  pieces : Nat := 0
  /-- W=8 R486 reset 0xFF (none) -/
  feeder : Nat := 0xFF
  /-- W=262144 R488 reset empty: the received-piece bitmap, as the numbers of the pieces held, rising -/
  held : List Nat := []
  /-- W=- R487 reset empty: the transfer area: pieces by number -/
  store : List (Nat × List Byte) := []
  /-- W=- R487 reset empty: piece buffers, at most 8 -/
  bufs : List PieceBuf := []
  /-- W=- R489 reset none: the manifest that has passed -/
  manifest : Option Manifest := none
  /-- W=- R490 reset empty: component writes still to be made, (entry, module), in order -/
  queue : List (Nat × Nat) := []
  /-- W=1 R490 reset clear: the write in progress has failed once -/
  retried : Bool := false
  /-- W=8 UPD_STATUS reset 0: modules STAGED -/
  staged : Nat := 0
  /-- W=32 R487 reset 0 -/
  tagFails : Nat := 0
  /-- W=32 R494 reset 0: rollback number -/
  rollback : Nat := 0
  /-- W=- R491 reset the factory set: the active bank -/
  active : ImageSet := {}
  /-- W=- R491 reset empty: the standby bank; the previous set once a commit has switched the banks -/
  standby : Option ImageSet := none
  /-- W=- R489 reset empty (factory sets): components installed, by module, where they differ from the factory set -/
  installed : List (Nat × List CompVer) := []
  /-- W=- R494 reset empty: the same before the last commit -/
  previous : List (Nat × List CompVer) := []
  /-- W=64 R492 reset 0: `pending` of a worker -/
  pending : Nat := 0
  /-- W=- UPD_INSTALL reset none -/
  req : Option Req := none
  /-- W=1 R495 reset clear: an abort waits for the component write in progress -/
  abortDue : Bool := false
  /-- W=1 R492 reset clear: the module restarts as soon as the reply has been sent -/
  restartDue : Bool := false
  /-- W=2 R493 reset 0: consecutive start-ups that have not reached READY -/
  failedStarts : Nat := 0
deriving DecidableEq, Repr, Inhabited

/-! ## Summit -/

/-- `SUM_CONFIG`. -/
structure SumCfg where
  shockThr : F32 := 0x41F00000
  rhLimit : F32 := 0x42700000
  /-- h -/
  rhTime : Nat := 1
  /-- s -/
  composeGap : Nat := 30
  /-- s -/
  stripGap : Nat := 5
  faultGroups : Nat := 0x00C68E00
deriving DecidableEq, Repr, Inhabited

/-- A temperature sensor (R519, R520). -/
structure SumSensor where
  /-- W=32 R523 reset 0: °C -/
  value : Rat := 0
  /-- W=1 R519 reset clear: MASKED -/
  masked : Bool := false
  /-- W=64 R519 reset none: within range since -/
  goodSince : Option Nat := none
  /-- W=1 R520 reset clear: voted out -/
  out : Bool := false
  /-- W=64 R520 reset none: departs from the median of the others since -/
  depart : Option Nat := none
  /-- W=64 R520 reset none: agrees since -/
  agree : Option Nat := none
deriving DecidableEq, Repr, Inhabited

/-- A request in a region's slot (R527): what it shows, and the command that brought it. -/
structure WinSlot where
  content : List Nat
  text : Option Req := none
  /-- module time at which the slot was taken -/
  since : Nat := 0
deriving DecidableEq, Repr, Inhabited

/-- A region of the window (R526 to R530). -/
structure WinRegion where
  /-- W=- R527 reset empty -/
  slot : Option WinSlot := none
  /-- W=- R530 reset empty: the last-completed record -/
  shown : List Nat := []
  /-- W=1 R530 reset clear: the journal flag -/
  flag : Bool := false
  /-- W=64 R526 reset none: start of its previous waveform -/
  started : Option Nat := none
  /-- W=- R526 reset empty: what was last composed for it -/
  composed : List Nat := []
deriving DecidableEq, Repr, Inhabited

/-- Summit and the service window (chapter 24). -/
structure SumState where
  /-- W=- R521 reset the defaults of `SUM_CONFIG` -/
  cfg : SumCfg := {}
  /-- W=- R519 reset each at reset: sensors 0-23 -/
  sensors : List SumSensor := List.replicate 24 {}
  /-- W=- R520 reset 0: tb, °C -/
  tb : Rat := 0
  /-- W=4 R520 reset NO_VALUE: quality of tb -/
  tbQ : Quality := .noValue
  /-- W=8 R520 reset 0: confidence of tb -/
  tbConf : Nat := 0
  /-- W=32 R521 reset 0 -/
  shocks : Nat := 0
  /-- W=32 R523 reset 0: peak of the last shock, g -/
  shockPeak : F32 := 0
  /-- W=32 R523 reset 0: humidity, %RH -/
  rh : Rat := 0
  /-- W=1 R522 reset clear -/
  rhAlert : Bool := false
  /-- W=64 R522 reset none: above the limit since -/
  rhHigh : Option Nat := none
  /-- W=64 R522 reset none: below the limit less 5 since -/
  rhLow : Option Nat := none
  /-- W=1 R525 reset clear: the random source has stopped -/
  randomFault : Bool := false
  /-- W=64 R517 reset 0: last heartbeat -/
  heartbeat : Nat := 0
  /-- W=2 R516 reset 0: consecutive windows beyond 200 ppm -/
  oscBad : Nat := 0
  /-- W=32 R523 reset 0: `LCLK` count of the last window -/
  lclk : Nat := 0
  /-- W=- R524 reset the commissioning key in slot 0: session keys with their group masks -/
  sessionKeys : List (Option (List Byte × Nat)) := some (Config.commissioningKey, 0x00FFFFFE) :: List.replicate 7 none
  /-- W=256 R524 reset the factory key: image key -/
  imageKey : Option (List Byte) := some Config.factoryImageKey
  /-- W=768 R524 reset the factory key in slot 0: signing keys -/
  signKeys : List (Option (List Byte)) := some Config.factorySignKey :: List.replicate 3 none
  /-- W=- R526 reset empty each: strip, status, faults, footer -/
  regions : List WinRegion := List.replicate 4 {}
  /-- W=2 R527 reset none: the region whose waveform runs, and whether it is a cleaning refresh -/
  busy : Option (Nat × Bool) := none
  /-- W=- R527 reset none: the request whose waveform runs -/
  running : Option WinSlot := none
  /-- W=64 R527 reset 0: the panel has been free since -/
  freeAt : Nat := 0
  /-- W=2 R528 reset 0: consecutive bias failures -/
  biasFails : Nat := 0
  /-- W=64 R528 reset none: no start before -/
  retryAt : Option Nat := none
  /-- W=1 R528 reset clear: `WINDOW_FAULT` -/
  windowFault : Bool := false
  /-- W=1 R528 reset clear: FAULTED -/
  faulted : Bool := false
  /-- W=1 R529 reset clear: TEMP_HOLD -/
  tempHold : Bool := false
  /-- W=- R526 reset none: the application text: colour and characters -/
  appText : List Nat := []
deriving DecidableEq, Repr, Inhabited

end Sys2Proof.Machine
end

