-- ==== Sys2Proof/Machine/State.lean ====
section
/-! DEFINITION. The state of the block: plain data, everything the spec gives the module, and the queue of commands. -/
namespace Sys2Proof.Machine

/-- Why the block stops. Closed, and empty: no rule of the spec leaves a command without an effect. -/
inductive Fault
deriving DecidableEq, Repr

/-- Why the block refuses a command. Closed. -/
inductive Refusal where
  /-- The command has no meaning in this model yet. Raised by an arm of `exec` only. Safe. -/
  | notModelled (mnemonic : String)
deriving DecidableEq, Repr, Inhabited

/-- The module. -/
structure State where
  /-- W=64 R28 reset 0: module time, ns -/
  time : Nat := 0
  /-- W=- (block form) reset empty: the commands that wait, first in, first out -/
  pending : List Instr := []
  /-- W=- R61 reset empty: packets sent on every port but the mailboxes, newest first -/
  out : List OutPkt := []
  /-- W=- (the model's own) reset 0, DESIGN CHOICE log 5: how many free values the run has met -/
  free : Nat := 0
  id : IdState := {}
  sys : SysState := {}
  sig : SigState := {}
  mem : MemState := {}
  dma : DmaState := {}
  crn : CrnState := {}
  col : ColState := {}
  pwr : PwrState := {}
  lpe : LpeState := {}
  vlv : VlvState := {}
  fio : FioState := {}
  gns : GnsState := {}
  tim : TimState := {}
  can : CanState := {}
  fus : FusState := {}
  cam : CamState := {}
  cul : CulState := {}
  map : MapState := {}
  sen : SenState := {}
  fun_ : FunState := {}
  gde : GdeState := {}
  flt : FltState := {}
  upd : UpdState := {}
  sum : SumState := {}
deriving DecidableEq, Repr, Inhabited

/-- The module right after reset (R11, R501): a supply-on start-up with nothing configured. -/
def State.reset : State := {}

end Sys2Proof.Machine
end

