-- ==== Sys2Proof/Machine/Operands.lean ====
section
/-! DEFINITION. Reading the fields of a packet: bytes at an offset (R13), unit numbers and handles (R60, R34), the opcode
and the parameter size of each command, and the port a packet comes through (R63). -/
namespace Sys2Proof.Machine

/-- Bytes `[o, o + n)` of a payload as an unsigned number; bytes beyond the payload read 0. -/
def field (b : List Byte) (o n : Nat) : Nat := ofLe ((b.drop o).take n)
/-- One byte of a payload. -/
def u8 (b : List Byte) (o : Nat) : Nat := field b o 1
/-- Two bytes of a payload. -/
def u16 (b : List Byte) (o : Nat) : Nat := field b o 2
/-- Four bytes of a payload. -/
def u32 (b : List Byte) (o : Nat) : Nat := field b o 4
/-- Eight bytes of a payload. -/
def u64 (b : List Byte) (o : Nat) : Nat := field b o 8
/-- One signed byte of a payload. -/
def i8 (b : List Byte) (o : Nat) : Int := sextN 8 (u8 b o)
/-- Two bytes of a payload as a signed number. -/
def i16 (b : List Byte) (o : Nat) : Int := sextN 16 (u16 b o)
/-- Four bytes of a payload as a signed number. -/
def i32 (b : List Byte) (o : Nat) : Int := sextN 32 (u32 b o)
/-- Eight bytes of a payload as a signed number. -/
def i64 (b : List Byte) (o : Nat) : Int := sextN 64 (u64 b o)
/-- The bits of a binary32 field. -/
def bits32 (b : List Byte) (o : Nat) : F32 := BitVec.ofNat 32 (u32 b o)
/-- The bits of a binary64 field. -/
def bits64 (b : List Byte) (o : Nat) : F64 := BitVec.ofNat 64 (u64 b o)

/-- Whether any byte of the listed reserved ranges (offset, size) is not 0 (R11, R13, R84). -/
def reservedSet (b : List Byte) (ranges : List (Nat × Nat)) : Bool :=
  ranges.any fun r => field b r.1 r.2 != 0

/-- The index of a unit target of a group; none for a handle or another group (R60). -/
def unitIndex (target : BitVec 32) (group : Nat) : Option Nat :=
  let t := target.toNat
  if t / 65536 == 0x8000 + group then some (t % 65536) else none

/-- Whether a handle is a valid one (R34). -/
def handleOk (h : Nat) : Bool := h < 0x100000

/-- Whether a target is a handle or a unit number of some group (R60, log entry 236). -/
def targetOk (target : BitVec 32) : Bool :=
  let t := target.toNat
  if t < 2 ^ 31 then handleOk t else t / 65536 / 256 == 0x80 && 1 ≤ t / 65536 % 256 && t / 65536 % 256 ≤ 0x17

/-- Machine field of a handle. -/
def hMachine (h : Nat) : Nat := fieldOf h 19 16
/-- Module field of a handle. -/
def hModule (h : Nat) : Nat := fieldOf h 15 13
/-- Local field of a handle. -/
def hLocal (h : Nat) : Nat := h % 8192

/-- The codes of R84. -/
def Status.code : Status → Nat
  | .done => 0x00 | .queued => 0x01 | .superseded => 0x02 | .held => 0x03 | .badOpcode => 0x10 | .badParam => 0x11
  | .badLength => 0x12 | .badCrc => 0x13 | .notOwner => 0x14 | .wrongState => 0x15 | .noResource => 0x16
  | .tagInUse => 0x17 | .authFail => 0x18 | .poisoned => 0x20 | .hwFault => 0x21 | .timeout => 0x22
  | .degraded => 0x23 | .configRejected => 0x30

/-- Success under R15: codes 0x00 to 0x03 and 0x23. -/
def Status.success (st : Status) : Bool := st.code < 0x10 || st == .degraded

/-- Interim statuses (R79). -/
def Status.interim (st : Status) : Bool := st == .queued || st == .held

/-- The codes of R38. -/
def Quality.code : Quality → Nat
  | .valid => 0 | .stale => 1 | .disputed => 2 | .masked => 3 | .poisoned => 4 | .substituted => 5 | .noValue => 6
  | .outOfRange => 7 | .forced => 8

/-- The quality of a code; none for a reserved one. -/
def Quality.ofCode : Nat → Option Quality
  | 0 => some .valid | 1 => some .stale | 2 => some .disputed | 3 => some .masked | 4 => some .poisoned
  | 5 => some .substituted | 6 => some .noValue | 7 => some .outOfRange | 8 => some .forced | _ => none

/-- The role codes of `SYS_IDENT`. -/
def Role.code : Role → Nat
  | .manager => 0 | .worker => 1 | .deputy => 2 | .actingManager => 3 | .displaced => 4 | .none => 0xFF

/-- The codes of R498. -/
def PwrSt.code : PwrSt → Nat
  | .off => 0 | .sleep => 1 | .standby => 2 | .idle => 3 | .run => 4

/-- The power state of a code. -/
def PwrSt.ofCode : Nat → Option PwrSt
  | 0 => some .off | 1 => some .sleep | 2 => some .standby | 3 => some .idle | 4 => some .run | _ => none

end Sys2Proof.Machine
end

