-- ==== Sys2Proof/Machine/Transport.lean ====
section
/-! DEFINITION. Chapter 03, the transports: the bytes of a packet (R58, R59), the byte stuffing of `SVC` (R66), the frames of ISO 15765-2
(R67) and the lines of a mailbox slot (R64). -/
namespace Sys2Proof.Machine

/-! ## Consistent Overhead Byte Stuffing (R66) -/

/-- The stuffed bytes, without the delimiter: `g` is the group so far, last byte first. -/
def cobsGo : List Byte → List Byte → List Byte
  | [], g => BitVec.ofNat 8 (g.length + 1) :: g.reverse
  | b :: bs, g =>
    if b == 0 then BitVec.ofNat 8 (g.length + 1) :: g.reverse ++ cobsGo bs []
    else if g.length == 253 then 0xFF :: (b :: g).reverse ++ cobsGo bs []
    else cobsGo bs (b :: g)

/-- A frame of `SVC`, with its delimiter. -/
def cobsEncode (b : List Byte) : List Byte := cobsGo b [] ++ [0]

/-- The bytes of a stuffed frame without its delimiter; none where it does not decode. -/
def cobsTake : Nat → List Byte → Option (List Byte)
  | 0, _ => none
  | _ + 1, [] => some []
  | k + 1, c :: rest =>
    let n := c.toNat - 1
    let g := rest.take n
    let more := rest.drop n
    if c == 0 || g.length != n || g.contains 0 then none
    else (cobsTake k more).map fun r => g ++ (if c == 0xFF || more.isEmpty then [] else [0]) ++ r

/-- The packet in a frame of `SVC`; a frame of no byte decodes to none. -/
def cobsDecode (frame : List Byte) : Option (List Byte) := if frame.isEmpty then none else cobsTake (frame.length + 1) frame

/-! ## ISO 15765-2 with normal addressing (R67, log entry 248) -/

/-- A data field lengthened with zeros to a length that a frame can have. -/
def isoPad (fd : Bool) (b : List Byte) : List Byte :=
  if !fd || b.length ≤ 8 then b else
  b ++ zeros ((([12, 16, 20, 24, 32, 48, 64].find? (b.length ≤ ·)).getD 64) - b.length)

/-- The consecutive frames of the rest of a message: the frames left, the sequence number, the bytes. -/
def isoRest (fd : Bool) : Nat → Nat → List Byte → List (List Byte)
  | 0, _, _ => []
  | k + 1, sn, b =>
    let n := if fd then 63 else 7
    if b.isEmpty then [] else isoPad fd (BitVec.ofNat 8 (0x20 + sn % 16) :: b.take n) :: isoRest fd k (sn + 1) (b.drop n)

/-- The data fields of the frames of a message; `fd` says that frames of 64 bytes are used. -/
def isoFrames (fd : Bool) (b : List Byte) : List (List Byte) :=
  let n := b.length
  if n ≤ 7 then [BitVec.ofNat 8 n :: b]
  else if fd && n ≤ 62 then [isoPad fd (0 :: BitVec.ofNat 8 n :: b)]
  else
    let first := if fd then 62 else 6
    (BitVec.ofNat 8 (0x10 + n / 256) :: BitVec.ofNat 8 n :: b.take first) :: isoRest fd n 1 (b.drop first)

/-- What a received frame makes of the message under reception. -/
inductive IsoStep where
  /-- nothing more yet; `fc` where a flow control frame is due, `error` where a reception before this one ended in error -/
  | wait (rx : IsoRx) (fc error : Bool)
  /-- a whole message; `error` where the one before it ended in error -/
  | whole (b : List Byte) (error : Bool)
  /-- the reception ends in error (R74) -/
  | error
  /-- a frame that is none of a reception -/
  | ignored
deriving DecidableEq, Repr, Inhabited

/-- One received frame of the request identifier (ISO 15765-2): single, first, consecutive. -/
def isoTake (rx : IsoRx) (block : Nat) (d : List Byte) : IsoStep :=
  let pci := u8 d 0
  match pci / 16 with
  | 0 =>
    let (n, at_) := if pci == 0 then (u8 d 1, 2) else (pci, 1)
    if n == 0 || d.length < at_ + n then .ignored else .whole ((d.drop at_).take n) rx.active
  | 1 =>
    let n := pci % 16 * 256 + u8 d 1
    if n < 8 || d.length < 8 then .ignored else .wait { active := true, want := n, sn := 1, got := d.drop 2, left := block } true rx.active
  | 2 =>
    if !rx.active then .ignored
    else if pci % 16 != rx.sn then .error
    else
      let got := (rx.got ++ d.drop 1).take rx.want
      if got.length == rx.want then .whole got false
      else .wait { rx with sn := (rx.sn + 1) % 16, got := got, left := if rx.left ≤ 1 then block else rx.left - 1 } (rx.left == 1) false
  | _ => .ignored

/-! ## The bytes of a packet (R58, R59) -/

/-- The bytes of a packet, trailer included. -/
def packetBytes (opcode b2 b3 : Nat) (target : BitVec 32) (seq : BitVec 16) (session : BitVec 32) (payload : List Byte) : List Byte :=
  let b := le 2 opcode ++ le 1 b2 ++ le 1 b3 ++ le 4 target.toNat ++ le 2 payload.length ++ le 2 seq.toNat ++ le 4 session.toNat ++ payload
  b ++ le 4 (Crypto.crc32c b)

/-- A packet that leaves: its trailer, and its bytes on its transport. -/
def sealPkt (o : OutPkt) (s : State) : OutPkt :=
  let b := packetBytes o.opcode (o.tag % 128 + 128 * b2n o.isReply) o.status o.target o.seq o.session o.payload
  let wire :=
    if o.address.isSome then [b]
    else if o.port < 128 then [b ++ zeros ((64 - b.length % 64) % 64)]
    else if o.port == 0x88 then [cobsEncode b]
    else if 0x90 ≤ o.port && o.port ≤ 0x9B then isoFrames (bitOf (s.can.ch.getD (o.port - 0x90) {}).cfg.formats 0) b
    else [b]
  { o with crc := BitVec.ofNat 32 (ofLe (b.drop (b.length - 4))), wire := wire }

end Sys2Proof.Machine
end

