-- ==== Sys2Proof/Machine/Ops.lean ====
section
/-! DEFINITION. The operations every chapter shares: keyed lists, replies, originated packets and Cairn events, signal
records and their publication, arbitration. -/
namespace Sys2Proof.Machine

/-- The value under a key of a keyed list. -/
def aget {α : Type} (l : List (Nat × α)) (k : Nat) : Option α := (l.find? fun e => e.1 == k).map (·.2)

/-- A keyed list, rising by key, with the value under one key set. -/
def aset {α : Type} : List (Nat × α) → Nat → α → List (Nat × α)
  | [], k, v => [(k, v)]
  | e :: l, k, v => if e.1 < k then e :: aset l k v else if e.1 == k then (k, v) :: l else (k, v) :: e :: l

/-- A keyed list without one key. -/
def adel {α : Type} (l : List (Nat × α)) (k : Nat) : List (Nat × α) := l.filter fun e => e.1 != k

/-- Insertion into a list sorted by a relation. -/
def insertBy {α : Type} (le : α → α → Bool) (x : α) : List α → List α
  | [] => [x]
  | y :: l => if le x y then x :: y :: l else y :: insertBy le x l

/-- A list sorted by a relation, equal elements in their order. -/
def sortBy {α : Type} (le : α → α → Bool) (l : List α) : List α := l.foldr (insertBy le) []

/-- Module time moves forward to the time of an event and never steps back (R28). -/
def tick (t : Nat) (s : State) : State := { s with time := max s.time t }

/-- A manager, the deputy in its place included (R18). A module of index 0 acts as manager once it has looked for the modules of the
machine: a deputy may act there (R24, log entry 249). -/
def State.acting (s : State) : Bool := (s.id.role == .manager && s.id.discovered) || s.id.role == .actingManager

/-- Whether a command that configures what only the acting manager runs is taken: there, and where the machine configuration brings it to a
module that holds it (R136, R137, R180, R392). -/
def State.configures (s : State) : Bool := s.acting || s.id.holding

/-- A worker, the deputy and a displaced manager included (R24, R306). -/
def State.follows (s : State) : Bool := s.id.role == .worker || s.id.role == .deputy || s.id.role == .displaced

/-- The time on which the module lays out its periodic grid: a worker takes the manager's once it has time lock (R29, R30). -/
def gridTime (s : State) : Nat :=
  if s.follows && s.id.timeLock then ((s.time : Int) + s.id.managerOffset).toNat else s.time

/-- The module time of the first instant after now on the grid of period `p` (R29). -/
def nextGrid (p : Nat) (s : State) : Nat := s.time + (p - gridTime s % p)

/-- Whether now lies on the grid of period `p` (R29). -/
def onGrid (p : Nat) (s : State) : Bool := gridTime s % p == 0

/-- One microsecond, in ns. -/
def us : Nat := 1000
/-- One millisecond, in ns. -/
def ms : Nat := 1000000
/-- One second, in ns. -/
def sec : Nat := 1000000000

/-- A fresh free value of 64 bits (log entry 5). -/
def takeFree (s : State) : BitVec 64 × State := (Config.freeValue s.free, { s with free := s.free + 1 })
/-- A fresh free truth value. -/
def takeFreeBool (s : State) : Bool × State := (Config.freeBool s.free, { s with free := s.free + 1 })
/-- A fresh free number. -/
def takeFreeRat (s : State) : Rat × State := (Config.freeRat s.free, { s with free := s.free + 1 })
/-- `n` fresh free bytes. -/
def takeFreeBytes (n : Nat) (s : State) : List Byte × State :=
  ((List.range n).map (Config.freeByte s.free), { s with free := s.free + 1 })

/-! ## Stamps (R28) -/

/-- The module time in ns at the first edge at or after `t` of a clock whose period is `n / d` ns and which has an edge at module time 0. -/
def firstEdge (n d t : Nat) : Nat := (t * d + n - 1) / n * n / d

/-- The stamp that `LCLK` gives: valve channels, loop engines, Couloir, camera pipelines. -/
def lclkStamp (t : Nat) : Nat := firstEdge 5 3 t
/-- The stamp that `PCLK` gives: Chanter and field I/O. -/
def pclkStamp (t : Nat) : Nat := firstEdge 10 3 t
/-- The stamp that `GCLK` gives: the GNSS baseband. -/
def gclkStamp (t : Nat) : Nat := firstEdge 5 1 t
/-- The stamp that `BCLK` gives: CAN channels. -/
def bclkStamp (t : Nat) : Nat := firstEdge 25 4 t

/-! ## W1C bits (R10) -/

/-- The cycle of the clock of a register block that an instant lies in: `BCLK` for the CAN channels, `LCLK` for the others. -/
def cycleOf (g t : Nat) : Nat := if g == 0x0F then t * 4 / 25 else t * 3 / 5

/-- Hardware sets a W1C bit of a register block: a write that clears it in the same clock cycle leaves it set. -/
def noteSet (g off bit : Nat) (s : State) : State :=
  { s with mem := { s.mem with justSet := (g, off, bit, s.time) :: s.mem.justSet.filter fun e => s.time < e.2.2.2 + 7 } }

/-- What a write to a word clears: the bits that hardware has set in this cycle count as written 0. -/
def clearing (g off v : Nat) (s : State) : Nat :=
  (s.mem.justSet.filter fun e => e.1 == g && e.2.1 == off && cycleOf g e.2.2.2 == cycleOf g s.time).foldl
    (fun v e => if bitOf v e.2.2.1 then v - 2 ^ e.2.2.1 else v) v

/-! ## Partitions -/

/-- Partition `n`, FREE where nothing has configured it. -/
def State.part (s : State) (n : Nat) : Part := (aget s.col.parts n).getD {}

/-- Replace partition `n`. -/
def State.setPart (s : State) (n : Nat) (p : Part) : State := { s with col := { s.col with parts := aset s.col.parts n p } }

/-- Change partition `n`. -/
def State.modPart (s : State) (n : Nat) (f : Part → Part) : State := s.setPart n (f (s.part n))

/-- A fault of a containment region: the recovery window opens, or a second fault falls into it and the partitions concerned are
`UNCOVERED` (R33, R425, R427). -/
def openWindow (parts : List Nat) (s : State) : State :=
  let second := s.col.windowUntil.any fun w => s.time < w
  let s := { s with col := { s.col with windowUntil := some (s.time + 50 * ms), uncovered := s.col.uncovered || second } }
  if second then parts.foldl (fun s n => s.modPart n fun p => { p with fUncovered := true }) s else s

/-- A fault of a region that carries no partition (R31, R425): it opens the window, or falls into the recovery of the partitions that
are RESTORING. -/
def regionFault (s : State) : State :=
  openWindow (s.col.parts.filterMap fun e => if e.2.st == .restoring then some e.1 else none) s

/-- The supervisory partition (R411). -/
def State.supervisory (s : State) : Option Nat :=
  (s.col.parts.find? fun e => (e.2.cfg.map (·.supervisory)).getD false).map (·.1)

/-- The partition whose mailbox a port is (R63). -/
def partOfPort (port : Nat) : Option Nat := if port < 128 then some port else none

/-! ## Sending -/

/-- The mailbox of a partition. -/
def State.mailbox (s : State) (n : Nat) : Mailbox := (aget s.sys.mailboxes n).getD {}

/-- Replace a mailbox. -/
def State.setMailbox (s : State) (n : Nat) (m : Mailbox) : State :=
  { s with sys := { s.sys with mailboxes := aset s.sys.mailboxes n m } }

/-- A packet enters a reply queue; a full queue keeps it in the module (R64). -/
def Mailbox.deliver (m : Mailbox) (o : OutPkt) : Mailbox :=
  if m.visible.length < 32 && m.overflow.isEmpty then { m with visible := m.visible ++ [o] }
  else { m with overflow := m.overflow ++ [o] }

/-- The partition takes its `k` oldest replies, and those that the module holds move up (R64). -/
def Mailbox.taken (m : Mailbox) (k : Nat) : Mailbox :=
  let v := m.visible.drop k
  { m with visible := v ++ m.overflow.take (32 - v.length), overflow := m.overflow.drop (32 - v.length) }

/-- A packet for a partition that becomes visible at its next period start (R413). -/
def Mailbox.defer (m : Mailbox) (o : OutPkt) : Mailbox := { m with deferred := m.deferred ++ [o] }

/-- The 16 header bytes of a packet with `session` 0 (R58, R70). -/
def headerBytes (opcode tag : Nat) (isReply : Bool) (b3 : Nat) (target : BitVec 32) (len : Nat) (seq : BitVec 16) : List Byte :=
  le 2 opcode ++ le 1 (tag % 128 + 128 * b2n isReply) ++ le 1 b3 ++ le 4 target.toNat ++ le 2 len ++ le 2 seq.toNat ++ zeros 4

/-- The session data of a packet (R70): the first four bytes of the MAC. -/
def sessionData (sk : List Byte) (dir counter : Nat) (hdr payload : List Byte) : BitVec 32 :=
  BitVec.ofNat 32 (ofLe ((Crypto.cmac128 sk (le 1 dir ++ le 4 counter ++ hdr ++ payload)).take 4))

/-- The session that has a port number. -/
def State.session (s : State) (port : Nat) : Option Session := s.sys.sessions.find? fun x => x.port == port

/-- A packet leaves the module on a port; to a mailbox it is deferred to the next period start (R413). -/
def sendOut (o : OutPkt) (s : State) : State :=
  let o := sealPkt o s
  match partOfPort o.port with
  | some n => if o.address.isNone then s.setMailbox n ((s.mailbox n).defer o) else { s with out := o :: s.out }
  | none => { s with out := o :: s.out }

/-- The tag of the next packet the module originates on a port, from its own tag space (R62). -/
def takeTag (port : Nat) (s : State) : Nat × State :=
  let t := (aget s.sys.nextTag port).getD 0
  (t, { s with sys := { s.sys with nextTag := aset s.sys.nextTag port ((t + 1) % 128) } })

/-- A packet that the module originates on a port, reply-required 0 (R62). On a session port it is sealed (R70). -/
def originate (port opcode : Nat) (target : BitVec 32) (payload : List Byte) (s : State) : State :=
  let (tag, s) := takeTag port s
  match s.session port with
  | some x =>
    let hdr := headerBytes opcode tag false 0 target payload.length (BitVec.ofNat 16 x.nextOut)
    let o : OutPkt := { time := s.time, port := port, opcode := opcode, tag := tag, target := target,
                        seq := BitVec.ofNat 16 x.nextOut, session := sessionData x.sk 2 x.nextOut hdr payload,
                        payload := payload }
    sendOut o { s with sys := { s.sys with sessions := s.sys.sessions.map fun y =>
      if y.port == port then { y with nextOut := y.nextOut + 1 } else y } }
  | none =>
    sendOut { time := s.time, port := port, opcode := opcode, tag := tag, target := target, payload := payload } s

/-- A datagram with `session` 0 to every address configured as host (R86, `PWR_CONFIG`), while the links are up (R502). -/
def toHosts (opcode : Nat) (target : BitVec 32) (payload : List Byte) (s : State) : State :=
  if !s.pwr.ethUp then s else
  (List.range s.pwr.addrs.length).foldl (fun s i =>
    let port := 0x80 + 4 * ((s.pwr.addrs.getD i ⟨2, 4, 0, []⟩).eth - 2)
    let (tag, s) := takeTag port s
    sendOut { time := s.time, port := port, opcode := opcode, tag := tag, target := target, payload := payload, address := some i } s) s

/-- Raise a Cairn event (R471, R475): it waits for Summit. After the record of a SAVE nothing is recorded (R477). -/
def cairn (code source : Nat) (payload : List Byte) (s : State) : State :=
  if s.crn.closed then s else
  { s with crn := { s.crn with raised := s.crn.raised ++ [{ code := code, source := source, payload := payload, moduleTime := s.time }] } }

/-- A packet that the module originates to the hosts and to some partitions, with its Cairn event. -/
def event (opcode : Nat) (target : Nat) (payload : List Byte) (parts : List Nat) (source : Nat) (s : State) : State :=
  let s := toHosts opcode (BitVec.ofNat 32 target) payload s
  let s := parts.foldl (fun s n => originate n opcode (BitVec.ofNat 32 target) payload s) s
  cairn opcode source payload s

/-- The Cairn source of a unit without a requester ID (R57, log entry 45). -/
def hwSource (code : Nat) : Nat := (Config.eventSource code).toNat

/-- The unit number of index `i` of a group (R60). -/
def unit (group i : Nat) : Nat := 0x80000000 + group * 65536 + i

/-! ## Results of a command -/

/-- What a command's own rules answer: a final status with its reply payload, an interim status (the command stays in
flight), or no answer yet. -/
inductive Res where
  | fin (st : Status) (payload : List Byte)
  | interim (st : Status)
  | silent
deriving DecidableEq, Repr, Inhabited

/-- The first violated condition of a list decides the status and the command has no effect (R15); otherwise it runs. -/
def check (s : State) (cs : List (Bool × Status)) (k : Unit → Res × State) : Res × State :=
  match cs.find? (·.1) with
  | some c => (.fin c.2 [], s)
  | none => k ()

/-- A command that ends `DONE` with no reply payload. -/
def done (s : State) : Res × State := (.fin .done [], s)

/-- A command that ends `DONE` with a reply and changes nothing. -/
def answer (payload : List Byte) (s : State) : Res × State := (.fin .done payload, s)

/-- Whether a port speaks for the host (`PWR_CONFIG`, R63). -/
def State.isHost (s : State) (port : Nat) : Bool :=
  match partOfPort port with
  | some n => bitOf s.pwr.hostBits 0 && s.supervisory == some n
  | none =>
    if 0x80 ≤ port && port ≤ 0x87 then
      bitOf s.pwr.hostBits 1 && ((s.session port).map fun x => bitOf s.pwr.hostSlots x.slot).getD false
    else port == 0x88 && bitOf s.pwr.hostBits 2

/-! ## Replies -/

/-- The opcode of each command (R62, R85). -/
def opCode : Op → Nat
  | .sysIdent => 0x0101 | .sysStatus => 0x0102 | .sysSessionOpen => 0x0103 | .sysSessionClose => 0x0104
  | .sysCreditSet => 0x0105 | .sigRead => 0x0201 | .sigWrite => 0x0202 | .sigRouteSet => 0x0203
  | .sigForce => 0x0204 | .funConfig => 0x0301 | .funEnable => 0x0302 | .funDisable => 0x0303
  | .funSourceSet => 0x0304 | .funState => 0x0305 | .funClear => 0x0306 | .funInterlockSet => 0x0307
  | .funAutoSet => 0x0308 | .culConfig => 0x0401 | .culStageSet => 0x0402 | .culSensorSet => 0x0403
  | .culStart => 0x0404 | .culStop => 0x0405 | .culStatus => 0x0406 | .culLedgerRead => 0x0407
  | .culCalRun => 0x0408 | .senChannelSet => 0x0501 | .senClassWrite => 0x0502 | .senTrain => 0x0503
  | .senChannelRead => 0x0504 | .senCropSet => 0x0505 | .senYieldConfig => 0x0506 | .senCalLoad => 0x0507
  | .senStatus => 0x0508 | .mapFieldOpen => 0x0601 | .mapFieldClose => 0x0602 | .mapConfig => 0x0603
  | .mapTileRead => 0x0604 | .mapStatus => 0x0605 | .mapExport => 0x0606 | .mapExportRead => 0x0607
  | .gdeConfig => 0x0701 | .gdeLineWrite => 0x0702 | .gdeLineSelect => 0x0703 | .gdeEngage => 0x0704
  | .gdeDisengage => 0x0705 | .gdeStatus => 0x0706 | .gdeWasCal => 0x0707 | .lpeLoopConfig => 0x0801
  | .lpeLoopRun => 0x0802 | .lpeBankWrite => 0x0803 | .lpeBankSwap => 0x0804 | .lpeLoopStatus => 0x0805
  | .lpeTraceSet => 0x0806 | .lpeTraceRead => 0x0807 | .lpeEngineStatus => 0x0808 | .vlvConfig => 0x0901
  | .vlvDrive => 0x0902 | .vlvStatus => 0x0903 | .vlvClear => 0x0904 | .vlvGroupStatus => 0x0905
  | .fioDiConfig => 0x0A01 | .fioAiConfig => 0x0A02 | .fioDoConfig => 0x0A03 | .fioDoClear => 0x0A04
  | .fioStatus => 0x0A05 | .gnsConfig => 0x0B01 | .gnsRtcmPut => 0x0B02 | .gnsRawLatch => 0x0B03
  | .gnsTest => 0x0B04 | .gnsRestart => 0x0B05 | .gnsStatus => 0x0B06 | .gnsChannelRead => 0x0B07
  | .timConfig => 0x0C01 | .timStatus => 0x0C02 | .timConvert => 0x0C03 | .timEpochSet => 0x0C04
  | .fusConfig => 0x0D01 | .fusFrameSet => 0x0D02 | .fusFrameRead => 0x0D03 | .fusGroupSet => 0x0D04
  | .fusSourceSet => 0x0D05 | .fusStatus => 0x0D06 | .fusTrackRead => 0x0D07 | .camLinkSet => 0x0E01
  | .camPipeSet => 0x0E02 | .camPairSet => 0x0E03 | .camFsyncSet => 0x0E04 | .camSensorWrite => 0x0E05
  | .camVaSet => 0x0E06 | .camStatus => 0x0E07 | .canConfig => 0x0F01 | .canBufferSet => 0x0F02
  | .canFilterSet => 0x0F03 | .canPower => 0x0F04 | .canRecover => 0x0F05 | .canTtSet => 0x0F06
  | .canClaim => 0x0F07 | .canStatus => 0x0F08 | .fltConfig => 0x1001 | .fltKeySet => 0x1002
  | .fltMemberSet => 0x1003 | .fltHazardSet => 0x1004 | .fltLine => 0x1005 | .fltUnload => 0x1006
  | .fltStatus => 0x1007 | .colPartitionConfig => 0x1101 | .colInputSet => 0x1102 | .colAdmit => 0x1103
  | .colPartitionRun => 0x1104 | .colStatus => 0x1105 | .colPartitionStatus => 0x1106 | .colRoleReturn => 0x1107
  | .colInject => 0x1108 | .memStatus => 0x1201 | .memScrubConfig => 0x1202 | .memRegionSet => 0x1203
  | .memDeviceFail => 0x1204 | .memRemapClear => 0x1205 | .memInject => 0x1206 | .dmaChannelSet => 0x1301
  | .dmaStatus => 0x1302 | .crnStatus => 0x1401 | .crnCursorOpen => 0x1402 | .crnRead => 0x1403
  | .crnCursorClose => 0x1404 | .crnClear => 0x1405 | .crnAppWrite => 0x1406 | .updBegin => 0x1501
  | .updPiece => 0x1502 | .updStatus => 0x1503 | .updMissing => 0x1504 | .updInstall => 0x1505
  | .updCommit => 0x1506 | .updAbort => 0x1507 | .pwrSet => 0x1601 | .pwrConfig => 0x1602 | .pwrStatus => 0x1603
  | .sumStatus => 0x1701 | .sumConfig => 0x1702 | .sumKeySet => 0x1703 | .sumWindowText => 0x1704

/-- The opcode of a request as received. -/
def Req.code (r : Req) : Nat := r.raw.getD (opCode r.op)

/-- The reply packet of a command (R61): no payload with a status of 0x10 or above other than `DEGRADED`; sealed on a
session once the counter has been accepted (R70, R72). -/
def replyPacket (r : Req) (st : Status) (payload : List Byte) (s : State) : OutPkt :=
  let pl := if st.success then payload else []
  let hdr := headerBytes r.code r.p.tag true st.code r.p.target pl.length r.p.seq
  let ctr := if r.op == .sysSessionOpen && st == .done then some 0 else r.ctr
  let sess : BitVec 32 := match ctr, s.session r.port with
    | some c, some x => sessionData x.sk 1 c hdr pl
    | _, _ => 0
  { time := s.time, port := r.port, isReply := true, opcode := r.code, tag := r.p.tag, status := st.code,
    target := r.p.target, seq := r.p.seq, session := sess, payload := pl }

/-- Whether the sender of a command wants this reply (R79); a command of a session that has closed since ends without one
(R71, `SUM_KEY_SET`). -/
def replyDue (r : Req) (st : Status) (s : State) : Bool :=
  (r.ctr.isNone || (s.session r.port).any fun x => decide (x.openedAt ≤ r.p.time)) &&
  (r.p.flags.getLsbD 2 || (!st.interim && (0x10 ≤ st.code)))

/-- Send a reply. A partition sees at once only a reply to a command of its current period, which is journalled (R413,
R414); `atOnce` says whether this is such a reply. -/
def sendReply (r : Req) (st : Status) (payload : List Byte) (atOnce : Bool) (s : State) : State :=
  if !replyDue r st s then s else
  let o := sealPkt (replyPacket r st payload s) s
  match partOfPort r.port with
  | none => { s with out := o :: s.out }
  | some n =>
    let q := s.part n
    if atOnce && q.inPeriod && r.p.time ≥ q.startedAt then
      let s := s.setMailbox n ((s.mailbox n).deliver o)
      let j : JEntry := { opcode := r.code, target := r.p.target, params := r.p.payload, reply := o }
      let size := ((q.journal ++ [j]).map fun e => 20 + e.reply.payload.length).sum
      if q.fJournalFull || (q.cfg.map (·.journal)).getD 0 * 1024 < size then s.setPart n { q with fJournalFull := true }
      else s.setPart n { q with journal := q.journal ++ [j] }
    else s.setMailbox n ((s.mailbox n).defer o)

/-- The members of a chain that wait for an ended member go on, or the chain is broken (R83). -/
def chainEnded (port tag : Nat) (bad : Bool) (s : State) : State :=
  let mark : ChainMark := if bad then .broken else .go
  { s with sys := { s.sys with
    flights := s.sys.flights.map fun f =>
      if f.req.port == port && f.chain == .waiting && f.waitsFor == tag then { f with chain := mark } else f
    chains := s.sys.chains.map fun e =>
      if e.1 == port && e.2.prev == some tag then (e.1, { prev := none, broken := bad }) else e } }

/-- A command leaves flight: its tag and its credit are free (R79). -/
def endFlight (port tag : Nat) (bad : Bool) (s : State) : State :=
  chainEnded port tag bad { s with sys := { s.sys with
    flights := s.sys.flights.filter fun f => !(f.req.port == port && f.req.p.tag == tag) } }

/-- The flight of a request. -/
def State.flight (s : State) (port tag : Nat) : Option Flight :=
  s.sys.flights.find? fun f => f.req.port == port && f.req.p.tag == tag

/-- A session whose last command has been accepted closes once nothing of it is in flight (R71). -/
def closeSpent (port : Nat) (s : State) : State :=
  if (s.session port).any (·.last) && !s.sys.flights.any (fun f => f.req.port == port) then
    { s with sys := { s.sys with sessions := s.sys.sessions.filter fun x => x.port != port }
             crn := { s.crn with cursors := s.crn.cursors.map fun c => if c.any (·.port == port) then none else c } }
  else s

/-- A command ends with a final status (R79): the reply is sent, tag and credit are released. -/
def finish (r : Req) (st : Status) (payload : List Byte) (s : State) : State :=
  let held := ((s.flight r.port r.p.tag).bind (·.colPeriod)).isSome
  let s := sendReply r st payload (!held) s
  closeSpent r.port (endFlight r.port r.p.tag (!st.success) s)

/-- The interim reply of a command that stays in flight (R79). -/
def interimReply (r : Req) (st : Status) (s : State) : State :=
  let s := sendReply r st [] true s
  { s with sys := { s.sys with flights := s.sys.flights.map fun f =>
      if f.req.port == r.port && f.req.p.tag == r.p.tag then { f with started := true } else f } }

/-- Carry out the result of a command's own rules. -/
def settle (r : Req) (x : Res × State) : State :=
  match x.1 with
  | .fin st payload => finish r st payload x.2
  | .interim st => interimReply r st x.2
  | .silent => { x.2 with sys := { x.2.sys with flights := x.2.sys.flights.map fun f =>
      if f.req.port == r.port && f.req.p.tag == r.p.tag then { f with started := true } else f } }

/-- A command waits for the sample or the instant that starts it (R93, R192, R396): it is in flight, has not started (R78), and no reply
is sent yet. -/
def awaitSample (r : Req) (s : State) : State :=
  { s with sys := { s.sys with flights := s.sys.flights.map fun f =>
    if f.req.port == r.port && f.req.p.tag == r.p.tag then { f with atSample := true } else f } }

/-- Whether a command that was admitted earlier to the same target has yet to start (R82): a held or queued one does not block. -/
def blocked (r : Req) (s : State) : Bool :=
  (s.sys.flights.takeWhile fun f => !(f.req.port == r.port && f.req.p.tag == r.p.tag)).any fun f =>
    f.req.p.target == r.p.target && !f.started && f.colPeriod.isNone

/-- The waiting commands that a sample starts, and those of the same targets that wait behind them, in admission order (R82): `n` bounds
their number, `on` says which targets the sample serves, `run` is a command's rules. -/
def startAwaitingN (on : Req → Bool) (run : Req → State → Res × State) : Nat → State → State
  | 0, s => s
  | n + 1, s =>
    match s.sys.flights.find? fun f => on f.req && (f.atSample || f.chain == .go) && f.colPeriod.isNone && !blocked f.req s with
    | none => s
    | some f =>
      let s := { s with sys := { s.sys with flights := s.sys.flights.map fun x =>
        if x.req.port == f.req.port && x.req.p.tag == f.req.p.tag then { x with atSample := false, chain := .free } else x } }
      startAwaitingN on run n (settle f.req (run f.req s))

/-- The waiting commands that a sample starts, in admission order (R82). -/
def startAwaiting (on : Req → Bool) (run : Req → State → Res × State) (s : State) : State := startAwaitingN on run 129 s

/-- Commands in flight that a chapter has accepted and not yet ended, of one opcode. -/
def State.waitingOf (s : State) (op : Op) : List Req :=
  (s.sys.flights.filter fun f => f.req.op == op && f.started).map (·.req)

/-! ## Arbitration (R56) -/

/-- A requester wins at a resource with a priority. -/
def grant (res prio win : Nat) (s : State) : State :=
  { s with sig := { s.sig with lastWinner := ((res, prio), win) :: s.sig.lastWinner.filter fun e => e.1 != (res, prio) } }

/-- The requester that wins at a resource: among those of the highest priority, the one whose ID comes next after the
last winner of that priority. -/
def arbitrate (res : Nat) (reqs : List (Nat × Nat)) (s : State) : Option Nat × State :=
  match reqs with
  | [] => (none, s)
  | _ =>
    let top := reqs.foldl (fun m r => max m r.2) 0
    let ids := sortBy (fun a b => decide (a ≤ b)) ((reqs.filter fun r => r.2 == top).map (·.1))
    let last := ((s.sig.lastWinner.find? fun e => e.1 == (res, top)).map (·.2)).getD 0xFF
    let win := (ids.find? fun i => last < i).getD (ids.headD 0)
    (some win, grant res top win s)

end Sys2Proof.Machine
end

