-- ==== Sys2Proof/Machine/Memory.lean ====
section
/-! DEFINITION. Chapter 19 below the commands: the byte memory in its canonical form, the address map, line decoding with
device failures and remapping, poison, and access faults. -/
namespace Sys2Proof.Machine

/-! ## Bytes -/

/-- What an unlisted address reads as (log entry 7). -/
def memDefault : Byte := 0

/-- One byte of memory. -/
def memRead (m : List Host.Cell) (a : Nat) : Byte := ((m.find? fun c => c.1 == a).map (·.2)).getD memDefault

/-- A write that keeps the canonical form: addresses strictly rising and no cell equal to the default. -/
def memWrite : List Host.Cell → Nat → Byte → List Host.Cell
  | [], a, b => if b == memDefault then [] else [(a, b)]
  | c :: m, a, b =>
    if c.1 < a then c :: memWrite m a b
    else if c.1 == a then (if b == memDefault then m else (a, b) :: m)
    else if b == memDefault then c :: m else (a, b) :: c :: m

/-- Write consecutive bytes. -/
def memWriteList (m : List Host.Cell) (a : Nat) : List Byte → List Host.Cell
  | [] => m
  | b :: bs => memWriteList (memWrite m a b) (a + 1) bs

/-- Read `n` consecutive bytes. -/
def memReadList (m : List Host.Cell) (a n : Nat) : List Byte := (List.range n).map fun i => memRead m (a + i)

/-- Cells of a list lie above `a`, rise strictly, and differ from the default. -/
def memWfFrom : Option Nat → List Host.Cell → Bool
  | _, [] => true
  | lo, c :: m => (match lo with | none => true | some l => decide (l < c.1)) && c.2 != memDefault && memWfFrom (some c.1) m

/-- The canonical form of memory. -/
def Memory.wf (m : List Host.Cell) : Bool := memWfFrom none m

/-! ## The address map (R435) -/

/-- The kinds of address. -/
inductive Area where
  | dram | mram | sram | regs (group : Nat) | unmapped
deriving DecidableEq, Repr, Inhabited

/-- Base of MRAM. -/
def mramBase : Nat := 0x00E000000000
/-- Base of on-chip SRAM. -/
def sramBase : Nat := 0x00E800000000
/-- Base of the register blocks. -/
def regBase : Nat := 0x00F000000000
/-- End of the Cairn area in MRAM (R468). -/
def cairnEnd : Nat := mramBase + 0x03001000

/-- The groups whose chapters define a register block. -/
def regGroups : List Nat := [0x08, 0x09, 0x0E, 0x0F, 0x13]

/-- The kind of an address (R435). -/
def areaOf (a : Nat) : Area :=
  if a < 0x000800000000 then .dram
  else if mramBase ≤ a && a < mramBase + 0x04000000 then .mram
  else if sramBase ≤ a && a < sramBase + 0x02000000 then .sram
  else if regBase ≤ a && regGroups.contains ((a - regBase) / 2 ^ 24) then .regs ((a - regBase) / 2 ^ 24)
  else .unmapped

/-- The DRAM channel of an address. -/
def channelOf (a : Nat) : Nat := a / 0x000400000000
/-- The subchannel 0-3 over both channels: address bit 6 selects within the channel. -/
def subOf (a : Nat) : Nat := 2 * channelOf a + a / 64 % 2
/-- The line of an address. -/
def lineOf (a : Nat) : Nat := a / 64 * 64

/-! ## Events -/

/-- The partition that a region names as owner of a line (R447). -/
def regionOwner (a : Nat) (s : State) : Option Nat :=
  (s.mem.regions.filterMap id).findSome? fun r =>
    if r.base ≤ a && a < r.base + r.size && r.owner < 128 then some r.owner else none

/-- Number of an optional value, 0xFF for none. -/
def orFF (o : Option Nat) : Nat := o.getD 0xFF

/-- `MEM_EVENT` (R436, R439, R440, R444 to R448): to the hosts, and for causes 0 to 2 to the owner of the line. -/
def memEvent (cause : Nat) (chan sub dev : Option Nat) (agent : Nat) (owner : Option Nat) (addr : Nat) (s : State) : State :=
  let pl := le 1 cause ++ le 1 (orFF chan) ++ le 1 (orFF sub) ++ le 1 (orFF dev) ++ le 1 agent ++ le 1 (orFF owner)
    ++ zeros 2 ++ le 8 addr ++ le 8 s.time
  let parts := if cause ≤ 2 then owner.toList else []
  event 0x1280 (unit 0x12 0) pl parts (if agent == 0xFE then 0x70 else agent) s

/-- Channel of a line for an event; none outside DRAM. -/
def evChan (a : Nat) : Option Nat := if areaOf a == .dram then some (channelOf a) else none
/-- Subchannel of a line for an event. -/
def evSub (a : Nat) : Option Nat := if areaOf a == .dram then some (a / 64 % 2) else none

/-- An access fault (R436): counted, reported with cause 8. -/
def accessFault (agent a : Nat) (s : State) : State :=
  memEvent 8 (evChan a) (evSub a) none agent none (lineOf a)
    { s with mem := { s.mem with faults := s.mem.faults + 1 } }

/-- An agent consumes a poisoned line (R444): counted; the Cairn event and `MEM_EVENT` are limited to 10 per second and
agent. -/
def consumePoison (agent a : Nat) (s : State) : State :=
  let now := s.time / sec
  let n : Nat := ((s.mem.poisonRate.find? fun e => e.1 == agent && e.2.1 == now).map fun e => e.2.2).getD 0
  let s := { s with mem := { s.mem with
    consumed := s.mem.consumed + 1
    poisonRate := (agent, now, n + 1) :: s.mem.poisonRate.filter fun e => e.1 != agent } }
  if n < 10 then memEvent 1 (evChan a) (evSub a) none agent (regionOwner a s) (lineOf a) s else s

/-! ## Lines -/

/-- Whether a line carries the poison mark. -/
def State.poisoned (s : State) (line : Nat) : Bool := s.mem.poison.contains line

/-- The remap entry of a line (R448). -/
def State.remapOf (s : State) (line : Nat) : Option (Nat × Remap) :=
  (s.mem.remap.zipIdx.findSome? fun e => e.1.bind fun r => if r.line == line then some (e.2, r) else none)

/-- Whether the channel of a DRAM line is excluded (R440). -/
def State.lineExcluded (s : State) (line : Nat) : Bool :=
  areaOf line == .dram && s.mem.excluded.getD (channelOf line) false

/-- Store a whole line with its mark where it lies: memory, a spare line, or nowhere in an excluded channel (R440, R443). -/
def storeLine (line : Nat) (data : List Byte) (mark : Bool) (s : State) : State :=
  if s.lineExcluded line then s else
  match s.remapOf line with
  | some (i, r) => { s with mem := { s.mem with remap := s.mem.remap.set i (some { r with data := data, poison := mark }) } }
  | none =>
    { s with mem := { s.mem with
      bytes := memWriteList s.mem.bytes line (if mark then zeros 64 else data)
      poison := if mark then line :: s.mem.poison.filter (· != line) else s.mem.poison.filter (· != line)
      rewritten := if s.mem.ueFound.contains line then line :: s.mem.rewritten.filter (· != line) else s.mem.rewritten
      ueFound := s.mem.ueFound.filter (· != line)
      errors := s.mem.errors.filter fun e => e.line != line } }

/-- The words of the lines that some words lie in. -/
def lineWords (ws : List Nat) : List Nat := ((ws.map (· / 16)).eraseDups).flatMap fun k => (List.range 16).map (16 * k + ·)

/-- Marked words after a write to some words: a marked source marks their lines, and a line is unmarked once all of it has been rewritten
(R212, R375, R443; log entry 255). -/
def remark (marked ws : List Nat) (mark : Bool) : List Nat :=
  if mark then (marked ++ lineWords ws).eraseDups else marked.filter fun x => !ws.contains x

/-- What decoding a DRAM code word finds (R438, R439). -/
inductive Decoded where
  | clean | corrected (device : Nat) | correctedMany | uncorrectable
deriving DecidableEq, Repr, Inhabited

/-- Decode an error pattern in normal mode or, with a failed device, in erasure mode (R438, R439). -/
def decodePat (failed : Option Nat) (pat : ErrPat) : Decoded :=
  let live := pat.filter fun e => e.2 != 0 && failed != some e.1
  match failed, live with
  | _, [] => .clean
  | none, [e] => .corrected e.1
  | none, _ => .uncorrectable
  | some _, l => if (l.map (·.2)).sum ≤ 2 then (match l with | [e] => .corrected e.1 | _ => .correctedMany) else .uncorrectable

/-- Two error patterns in one code word: the symbols in error of a device add up to at most its four. -/
def mergePat (a b : ErrPat) : ErrPat :=
  b.foldl (fun p e => if p.any (·.1 == e.1) then p.map fun x => if x.1 == e.1 then (x.1, min 4 (x.2 + e.2)) else x
    else p ++ [e]) a

/-- Whether a DRAM line cannot be read now: its channel is excluded, it is marked, or the errors that its code word holds are
beyond correction (R438 to R440). -/
def State.unreadable (s : State) (line : Nat) : Bool :=
  s.lineExcluded line || match s.remapOf line with
    | some (_, r) => r.poison
    | none => s.poisoned line || decodePat (s.mem.failed.getD (subOf line) none)
        ((s.mem.errors.filter fun e => e.line == line).foldl (fun p e => mergePat p e.pat) []) == .uncorrectable

/-- A line is redirected to a spare SRAM line with its present content (R448). -/
def remapLine (line : Nat) (data : List Byte) (mark : Bool) (agent : Nat) (s : State) : State :=
  match s.mem.remap.zipIdx.find? fun e => e.1.isNone with
  | some (_, i) =>
    let entries := s.mem.remap.set i (some { line := line, data := data, poison := mark })
    memEvent 3 (evChan line) (evSub line) none agent none line
      { s with mem := { s.mem with remap := entries, remapFull := entries.all (·.isSome) } }
  | none =>
    memEvent 4 (evChan line) (evSub line) none agent none line
      { s with mem := { s.mem with remapFull := true, remapMissed := s.mem.remapMissed + 1 } }

/-- A DRAM channel is marked excluded (R440); what partitions do then is R424. -/
def markExcluded (ch agent : Nat) (s : State) : State :=
  if s.mem.excluded.getD ch false then s else
  memEvent 6 (some ch) none none agent none 0 { s with mem := { s.mem with excluded := s.mem.excluded.set ch true } }

/-- Number of different elements of a list. -/
def distinct (l : List Nat) : Nat := l.eraseDups.length

/-- A corrected error confined to one device counts toward its failure (R439) or the channel's exclusion (R440). -/
def countDevice (line dev agent : Nat) (s : State) : State :=
  let sub := subOf line
  let from_ := s.time - s.mem.devWindow * 3600 * sec
  let errs := (sub, dev, line, s.time) :: s.mem.devErrors
  let s := { s with mem := { s.mem with devErrors := errs } }
  let lines := (errs.filter fun e => e.1 == sub && e.2.1 == dev && from_ ≤ e.2.2.2).map fun e => e.2.2.1
  if distinct lines < s.mem.devThresh then s else
  match s.mem.failed.getD sub none with
  | none => memEvent 5 (some (channelOf line)) (some (sub % 2)) (some dev) agent none 0
      { s with mem := { s.mem with failed := s.mem.failed.set sub (some dev) } }
  | some f => if f == dev then s else markExcluded (channelOf line) agent s

/-- An uncorrectable line counts toward the channel's exclusion (R440). -/
def countUe (line agent : Nat) (s : State) : State :=
  let ch := channelOf line
  let ts := (ch, s.time) :: s.mem.ueTimes.filter fun e => s.time < e.2 + sec
  let s := { s with mem := { s.mem with ueTimes := ts } }
  if s.mem.ueLimit < (ts.filter fun e => e.1 == ch).length then markExcluded ch agent s else s

/-- A decoded line: its bytes, its mark, and whether this read found an uncorrectable error. -/
structure LineRead where
  data : List Byte
  mark : Bool
  ue : Bool := false
deriving DecidableEq, Repr, Inhabited

/-- Read one whole DRAM line with the errors its code word carries and `pat` that this read meets besides (R438 to R443,
R448). A correction is written back, but for the symbols of a failed device; recurrence remaps the line. -/
def readDram (line agent : Nat) (pat : ErrPat) (s : State) : LineRead × State :=
  if s.lineExcluded line then ({ data := zeros 64, mark := true }, s) else
  match s.remapOf line with
  | some (_, r) => ({ data := if r.poison then zeros 64 else r.data, mark := r.poison }, s)
  | none =>
    if s.poisoned line then ({ data := zeros 64, mark := true }, s) else
    let stored := s.mem.errors.filter fun e => e.line == line
    let injected := pat.isEmpty && stored.all (·.injected)
    let all := mergePat (stored.foldl (fun p e => mergePat p e.pat) []) pat
    let data := memReadList s.mem.bytes line 64
    match decodePat (s.mem.failed.getD (subOf line) none) all with
    | .clean =>
      ({ data := data, mark := false },
        if all.any fun e => e.2 != 0 then { s with mem := { s.mem with corrected := s.mem.corrected + 1 } } else s)
    | .uncorrectable =>
      let s := { s with mem := { s.mem with uncorrectable := s.mem.uncorrectable + 1
                                            errors := if pat.isEmpty then s.mem.errors else { line := line, pat := pat } :: s.mem.errors } }
      let s := if injected then s else countUe line agent { s with mem := { s.mem with ueFound := line :: s.mem.ueFound.filter (· != line) } }
      let s := if !injected && s.mem.rewritten.contains line then remapLine line (zeros 64) true agent s else s
      ({ data := zeros 64, mark := true, ue := true }, s)
    | d =>
      let again := s.mem.writtenBack.any fun e => e.1 == line && s.time < e.2 + 24 * 3600 * sec
      let s := { s with mem := { s.mem with
        corrected := s.mem.corrected + 1
        errors := s.mem.errors.filterMap fun e => if e.line != line then some e else
          let kept := e.pat.filter fun x => some x.1 == s.mem.failed.getD (subOf line) none
          if kept.isEmpty then none else some { e with pat := kept }
        writtenBack := if injected then s.mem.writtenBack
          else (line, s.time) :: s.mem.writtenBack.filter fun e => e.1 != line } }
      let s := match d with | .corrected dev => if injected then s else countDevice line dev agent s | _ => s
      let s := if !injected && again then remapLine line data false agent s else s
      ({ data := data, mark := false }, s)

/-- Read one SRAM or MRAM line of which `bits` stored bits are in error in one code word (R449, R450). More errors than the
code is said to detect leave a free outcome. -/
def readChip (line bits : Nat) (s : State) : LineRead × State :=
  let data := memReadList s.mem.bytes line 64
  if s.poisoned line then ({ data := zeros 64, mark := true }, s) else
  let correct := if areaOf line == .sram then 1 else 6
  if bits == 0 then ({ data := data, mark := false }, s)
  else if bits ≤ correct then ({ data := data, mark := false }, { s with mem := { s.mem with corrected := s.mem.corrected + 1 } })
  else
    let (caught, s) := if bits == correct + 1 then (true, s) else takeFreeBool s
    if caught then
      ({ data := zeros 64, mark := true, ue := true },
        storeLine line (zeros 64) true { s with mem := { s.mem with uncorrectable := s.mem.uncorrectable + 1 } })
    else
      let (d, s) := takeFreeBytes 64 s
      ({ data := d, mark := false }, s)

/-- Read the line of an address in DRAM, SRAM or MRAM. -/
def readLine (line agent : Nat) (pat : ErrPat) (bits : Nat) (s : State) : LineRead × State :=
  if areaOf line == .dram then readDram line agent pat s else readChip line bits s

/-- Whether an agent may reach an address at all (R436, R469). -/
def reachable (agent a : Nat) : Bool :=
  match areaOf a with
  | .unmapped => false
  | .mram => agent == 0x70 || cairnEnd ≤ a
  | _ => true

/-- Whether a write of `n` bytes at `a` has a size and an alignment that the memory accepts (R441). -/
def writeShapeOk (a n : Nat) : Bool :=
  match areaOf a with
  | .dram => n == 64 && a % 64 == 0
  | .sram => (n == 4 || n == 8 || n == 64) && a % n == 0
  | .mram => (n == 8 || n == 64) && a % n == 0
  | _ => false

/-- Whether a read of `n` bytes at `a` is naturally aligned within a line. -/
def readShapeOk (a n : Nat) : Bool := [1, 2, 4, 8, 16, 32, 64].contains n && a % n == 0

/-- A write to SRAM or MRAM narrower than a line: performed, and a poisoned line stays poisoned (R443). -/
def storePart (a : Nat) (data : List Byte) (s : State) : State :=
  { s with mem := { s.mem with bytes := memWriteList s.mem.bytes a data } }

end Sys2Proof.Machine
end

