-- ==== Sys2Proof/Machine/Signals.lean ====
section
/-! DEFINITION. Chapter 02: records, their publication, forces, routes, and the rules of the SIG commands. -/
namespace Sys2Proof.Machine

/-- The module's own handle for a local (R17); an unassigned machine number or index counts as 0 (log entry 8). -/
def State.handle (s : State) (loc : Nat) : Nat :=
  (if s.id.machine < 16 then s.id.machine else 0) * 65536 + (s.id.index.getD 0) * 8192 + loc

/-- Whether a handle names a signal that this module originates. -/
def State.isOwn (s : State) (h : Nat) : Bool := handleOk h && h / 8192 == s.handle 0 / 8192

/-- Locals for which every module holds a record (R35). -/
def localHeld (loc : Nat) : Bool := loc < 768 || (1024 ≤ loc && loc < 8192)

/-- The declaration of a local of 1,024 to 8,191 (R45). -/
def State.decl (s : State) (loc : Nat) : Option Decl := s.sig.decls.find? fun d => d.localNo == loc

/-- The encodings of the reserved locals (R36, R43 and the chapter of each signal): 0 unsigned, 1 signed, 2 binary64,
3 binary32, 4 Boolean, 5 block. -/
def reservedType (loc : Nat) : Nat :=
  let run := fun (l : List (Nat × Nat)) => ((l.find? fun e => loc < e.1).map (·.2)).getD 0
  if loc < 384 then run [(144, 3), (192, 0), (288, 4), (320, 3), (327, 5), (342, 3), (344, 0), (346, 3), (352, 0), (369, 3)]
  else if loc < 448 then
    run [(385, 0), (388, 2), (396, 3), (397, 0), (400, 2), (401, 0), (402, 3), (404, 0), (405, 1), (411, 3), (416, 5), (417, 0), (421, 3),
      (423, 1), (426, 0), (448, 3)]
  else if loc < 512 then
    run [(449, 0), (454, 2), (467, 3), (470, 2), (481, 0), (496, 3), (497, 0), (498, 5), (499, 0), (502, 3), (503, 0), (512, 3)]
  else run [(576, 3), (577, 0), (585, 3), (586, 0), (587, 1), (590, 3), (595, 0), (640, 0), (684, 3)]

/-- The declared encoding of a local; a digital input in pulse mode publishes a number (R271). -/
def State.typeOf (s : State) (loc : Nat) : Nat :=
  if 192 ≤ loc && loc < 256 && (s.fio.di.getD (loc - 192) {}).cfg.mode == 2 then 3
  else if loc < 1024 then reservedType loc else ((s.decl loc).map (·.ty)).getD 0

/-- The stored record of an own local: its default is the NO_VALUE record under its own handle (R35, R38). -/
def State.ownRec (s : State) (loc : Nat) : Rec :=
  (aget s.sig.own loc).getD { source := s.handle loc, ty := s.typeOf loc }

/-- Replace the stored record of an own local. -/
def State.setOwn (s : State) (loc : Nat) (r : Rec) : State := { s with sig := { s.sig with own := aset s.sig.own loc r } }

/-- Whether a point of another module is driven by a function that this module hosts (R88). -/
def State.drivesPoint (s : State) (h : Nat) : Bool := !s.isOwn h && s.fun_.fn.any fun x => x.cfg.any fun c => c.acts.contains h

/-- Whether a point of this module is driven by a function of another module (R88): its set-point comes over a route. -/
def State.copyPoint (s : State) (h : Nat) : Bool := s.isOwn h && s.fun_.copies.any fun k => k.cfg.acts.contains h

/-- Whether a handle has a record here (R35, R44). -/
def State.holds (s : State) (h : Nat) : Bool :=
  handleOk h && !(768 ≤ hLocal h && hLocal h < 1024) &&
    ((s.isOwn h && localHeld (hLocal h)) || (aget s.sig.imported h).isSome)

/-- The stored record of a handle. -/
def State.stored (s : State) (h : Nat) : Rec :=
  if s.isOwn h then s.ownRec (hLocal h) else (aget s.sig.imported h).getD {}

/-- The import route of a handle. -/
def State.importRoute (s : State) (h : Nat) : Option Route := s.sig.routes.find? fun r => r.isImport && r.handle == h

/-- A record past its `stale_at` is marked, or takes its route's default (R55). -/
def expired (h : Nat) (r : Rec) (s : State) : Rec :=
  if r.staleAt.any (· ≤ s.time) && r.quality != .stale then
    match s.importRoute h with
    | some x => if x.policy == 1 then { r with value := x.default, quality := .substituted, confidence := 0 } else { r with quality := .stale }
    | none => { r with quality := .stale }
  else r

/-- A record as a reader sees it now: STALE from `stale_at` on, or the route's default (R55); POISONED where its line
is poisoned (R42). -/
def Rec.seen (r : Rec) (h : Nat) (s : State) : Rec :=
  if r.linePoison then { r with quality := .poisoned, confidence := 0, value := 0 } else expired h r s

/-- The record of a handle as a reader sees it now. -/
def State.view (s : State) (h : Nat) : Rec := (s.stored h).seen h s

/-- The record of a handle as it stood at this instant: what a loop writes at the instant itself comes after it (R216). -/
def State.viewAt (s : State) (h : Nat) : Rec :=
  ((if s.lpe.wroteAt == some s.time then aget s.lpe.wrote h else none).getD (s.stored h)).seen h s

/-- The marked line that a record lies in, as its mark was noted (R42, R444): 0 where none is marked. -/
def recLine (h : Nat) (s : State) : Nat :=
  (s.mem.poison.find? fun l => if s.isOwn h then Config.holds l 0 (hLocal h) 0 else Config.holds l 1 h 0).getD 0

/-- An agent reads the record of a handle: a marked line is consumed (R444). -/
def consumeRec (agent h : Nat) (s : State) : State :=
  if (s.stored h).linePoison then consumePoison agent (recLine h s) s else s

/-- The record of an own local as a reader sees it now. -/
def State.sig1 (s : State) (loc : Nat) : Rec := s.view (s.handle loc)

/-- The 64-byte layout of a record (R36). -/
def Rec.bytes (r : Rec) : List Byte :=
  le 8 r.value.toNat ++ le 8 r.stamp ++ le 1 r.confidence ++ le 1 (r.quality.code + 16 * r.ty) ++ le 2 r.seq ++ le 4 r.source
    ++ le 4 r.blockLen ++ zeros 4 ++ le 8 (r.staleAt.getD (2 ^ 64 - 1)) ++ le 8 r.received ++ zeros 16

/-- A quality under which the stored confidence is always 0 (R38, R39). -/
def Quality.zeroConf (q : Quality) : Bool :=
  match q with | .disputed | .masked | .poisoned | .noValue => true | _ => false

/-- The order of R41. -/
def Quality.rank : Quality → Nat
  | .poisoned => 0 | .noValue => 1 | .masked => 2 | .disputed => 3 | .stale => 4 | .outOfRange => 5 | .forced => 6
  | .substituted => 7 | .valid => 8

/-- The derived quality of several inputs (R41). -/
def deriveQuality (qs : List Quality) : Quality := qs.foldl (fun a q => if q.rank < a.rank then q else a) .valid

/-- The highest confidence that several inputs allow (R41). -/
def deriveConf (cs : List Nat) : Nat := cs.foldl min 255

/-- Records sent at once because the signal changed (R50: also send on change). -/
def exportOnChange (h : Nat) (old new : Rec) (s : State) : State :=
  if old.value == new.value && old.quality == new.quality && old.confidence == new.confidence then s else
  { s with sig := { s.sig with exports :=
      ((s.sig.routes.filter fun r => !r.isImport && r.handle == h && (r.onChange || r.period == 0)).map fun r =>
        ({ time := s.time, handle := h, modules := r.modules, massif := r.massif, prio := r.prio, record := new } : Export))
      ++ s.sig.exports } }

/-- Locals that the module no longer publishes read NO_VALUE (R38). -/
def clearLocals (first count : Nat) (s : State) : State :=
  { s with sig := { s.sig with own := s.sig.own.filter fun e => !(first ≤ e.1 && e.1 < first + count) } }

/-- Whether the module publishes: a worker does once the machine number has reached it (R17). -/
def State.mayPublish (s : State) : Bool := !(s.follows && s.id.machine == 0xFF)

/-- A record enters the store of an own local with the next `seq` (R36). -/
def storeOwn (loc : Nat) (r : Rec) (s : State) : State :=
  if !s.mayPublish then s else
  let old := s.ownRec loc
  let conf := if r.quality.zeroConf then 0 else r.confidence
  let new := { r with seq := (old.seq + 1) % 65536, received := s.time, confidence := conf, linePoison := false }
  let s := s.setOwn loc new
  let s := if s.sig.watch.contains (s.handle loc) then
      { s with sig := { s.sig with inbox := s.sig.inbox ++ [(s.handle loc, new)] } } else s
  exportOnChange (s.handle loc) old new s

/-- The forced record of a force (R40). -/
def forcedRec (f : Force) (s : State) : Rec :=
  { value := f.value, stamp := s.time, confidence := f.confidence, quality := .forced, ty := s.typeOf f.localNo
    source := s.handle f.localNo, staleAt := none }

/-- The force on a local. -/
def State.force (s : State) (loc : Nat) : Option Force := s.sig.forces.find? fun f => f.localNo == loc

/-- A publication with its source as given (R36, R46, R49): a forced signal publishes the forced value in its place (R40). `fresh` is the
declared freshness limit in µs, 0 for none (R54). A stamp of 0 is the time of publication. -/
def publishAs (loc : Nat) (r : Rec) (fresh : Nat) (s : State) : State :=
  match s.force loc with
  | some f =>
    storeOwn loc (forcedRec f s) { s with sig := { s.sig with forces := s.sig.forces.map fun g =>
      if g.localNo == loc then { g with discarded := g.discarded + 1, lastPublished := s.time } else g } }
  | none =>
    storeOwn loc { r with stamp := if r.stamp == 0 then s.time else r.stamp
                          staleAt := if fresh == 0 then none else some (s.time + fresh * us) } s

/-- A publication of an original value: its source is the record's own handle (R36). -/
def publish (loc : Nat) (r : Rec) (fresh : Nat) (s : State) : State := publishAs loc { r with source := s.handle loc } fresh s

/-- Publish a value of a scalar signal of the module's own units. -/
def pubVal (loc ty : Nat) (value : BitVec 64) (q : Quality) (conf stamp : Nat) (s : State) : State :=
  publish loc { value := value, quality := q, confidence := conf, ty := ty, stamp := stamp } 0 s

/-- Publish a measurement of the module's hardware, with its freshness limit in µs (R54); its confidence is free (log
entry 36), and 0 where the quality says so. -/
def pubHw (loc ty : Nat) (value : BitVec 64) (q : Quality) (stamp fresh : Nat) (s : State) : State :=
  publish loc { value := value, quality := q, confidence := (Config.hwConfidence loc).toNat, ty := ty, stamp := stamp } fresh s

/-- Publish a Boolean. -/
def pubBool (loc : Nat) (b : Bool) (q : Quality) (conf stamp : Nat) (s : State) : State :=
  pubVal loc 4 (if b then 1 else 0) q conf stamp s

/-- Publish a block of the module's own units at an address (R49): the record refers to it, and its contents are kept beside those of the
`keep` - 1 blocks before it. -/
def pubBlockAt (keep : Nat) (a : BitVec 64) (loc : Nat) (bytes : List Byte) (q : Quality) (conf stamp : Nat) (s : State) : State :=
  let pad := bytes ++ zeros ((64 - bytes.length % 64) % 64)
  let h := s.handle loc
  let s := { s with sig := { s.sig with blocks := aset s.sig.blocks h (((a, pad) :: (aget s.sig.blocks h).getD []).take keep) } }
  publish loc { value := a, quality := q, confidence := conf, ty := 5, stamp := stamp, blockLen := pad.length } 0 s

/-- Publish a block at an address that the spec leaves open. -/
def pubBlock (loc : Nat) (bytes : List Byte) (q : Quality) (conf stamp : Nat) (s : State) : State :=
  let (a, s) := takeFree s
  pubBlockAt 4 a loc bytes q conf stamp s

/-- Publish a block through a ring of four (R132, R338): each takes the place of the fourth before it. -/
def pubRing (loc : Nat) (bytes : List Byte) (q : Quality) (conf stamp : Nat) (s : State) : State :=
  pubBlockAt 4 (Config.ringAddr loc (((s.ownRec loc).seq + 1) % 4)) loc bytes q conf stamp s

/-- Whether a record is usable as a measured value by the common rule: VALID, OUT_OF_RANGE, FORCED or SUBSTITUTED. -/
def Rec.fresh (r : Rec) : Bool :=
  match r.quality with | .valid | .outOfRange | .forced | .substituted => true | _ => false

/-- A function's output for a point of another module (R88): the record that the set-point route carries there. -/
def publishRemote (h ty : Nat) (value : BitVec 64) (q : Quality) (conf : Nat) (s : State) : State :=
  if !s.mayPublish then s else
  let old := (aget s.sig.imported h).getD {}
  let new : Rec := { value := value, stamp := s.time, confidence := if q.zeroConf then 0 else conf, quality := q, ty := ty
                     seq := (old.seq + 1) % 65536, source := h, received := s.time }
  exportOnChange h old new { s with sig := { s.sig with imported := aset s.sig.imported h new } }

/-! ## Forces (R40) -/

/-- The payload of the Cairn event `0x0280`: the parameters of the command, then the cause. -/
def forceEvent (params : List Byte) (cause : Nat) (s : State) : State := cairn 0x0280 0x70 (params ++ le 1 cause) s

/-- The parameters of the set that established a force, with `op` 0. -/
def forceParams (f : Force) : List Byte := le 4 f.handle ++ le 1 0 ++ le 1 f.confidence ++ le 2 f.hold ++ le 8 f.value.toNat

/-- A force ends: until the producer's next publication the record carries STALE (R40). -/
def endForce (loc : Nat) (s : State) : State :=
  let s := { s with sig := { s.sig with forces := s.sig.forces.filter fun f => f.localNo != loc } }
  s.setOwn loc { s.ownRec loc with quality := .stale }

/-- Every force ends with SAVE or a restart (R40, cause 3). -/
def endAllForces (s : State) : State :=
  s.sig.forces.foldl (fun s f => endForce f.localNo (forceEvent (forceParams f) 3 s)) s

/-- Locals that cannot be forced (R40). -/
def unforceable (loc ty : Nat) : Bool :=
  (96 ≤ loc && loc < 144) || (256 ≤ loc && loc < 288) || (512 ≤ loc && loc < 544) || (768 ≤ loc && loc < 1024) || ty == 5

/-- Whether a 64-bit value fits an encoding (R36). -/
def valueFits (ty : Nat) (v : BitVec 64) : Bool :=
  if ty == 3 then v.toNat < 2 ^ 32 else if ty == 4 then v.toNat < 2 else ty < 6

/-- FORCED_PUBLISH (R40): every force not published for 10 ms is published again. -/
def doForcedPublish (s : State) : State :=
  s.sig.forces.foldl (fun s f =>
    if f.lastPublished + 10 * ms ≤ s.time then
      storeOwn f.localNo (forcedRec f s) { s with sig := { s.sig with forces := s.sig.forces.map fun g =>
        if g.localNo == f.localNo then { g with lastPublished := s.time } else g } }
    else s) s

/-- FORCE_HOLD_ELAPSED (R40): every force whose hold has elapsed ends with cause 2. -/
def doForceHold (s : State) : State :=
  (s.sig.forces.filter fun f => f.setAt + f.hold * sec ≤ s.time).foldl
    (fun s f => endForce f.localNo (forceEvent (forceParams f) 2 s)) s

/-! ## SIG commands -/

/-- What refuses `SIG_READ`, in its order (step 8 of R73). -/
def chkSigRead (r : Req) (s : State) : List (Bool × Status) :=
  let h := u32 r.p.payload 0
  [(!targetOk r.p.target, .badParam), (!handleOk h || !s.holds h, .badParam)]

/-- `SIG_READ` (R35, R37, R42, R55): a declared input of a period is read from the snapshot (R412). -/
def effSigRead (r : Req) (s : State) : Res × State :=
  let h := u32 r.p.payload 0
  check s (chkSigRead r s) fun _ =>
    let kept := (partOfPort r.port).bind fun n => if (s.part n).inPeriod then aget (s.part n).snapshot h else none
    let agent := ((partOfPort r.port).map fun n => (s.part n).pair.getD 0).getD r.port
    match kept with
    | some x => answer x.bytes s
    | none => answer (s.view h).bytes (consumeRec agent h s)

/-- `SIG_WRITE` for an own declared local (R46, R48, R49): the checks of the command and the publication. Set-point locals
command a point or a function and are handled by `ownerOf`. -/
def writeChecks (r : Req) (owner : Nat → State → Option Nat) (s : State) : List (Bool × Status) :=
  let b := r.p.payload
  let h := u32 b 0
  let loc := hLocal h
  let q := Quality.ofCode (u8 b 5 % 16)
  let ty := u8 b 5 / 16
  let bl := u32 b 28
  [ (!targetOk r.p.target || !handleOk h, .badParam),
    (!s.isOwn h || owner loc s != some r.port, .notOwner),
    (6 ≤ ty || ty != s.typeOf loc || q.isNone, .badParam),
    (q == some .poisoned || q == some .noValue || q == some .forced, .badParam),
    ((q == some .disputed || q == some .masked) && u8 b 4 != 0, .badParam),
    ((bl != 0 && (bl < 64 || 65536 < bl || bl % 64 != 0)) || ((ty == 5) != (bl != 0)), .badParam),
    (!handleOk (u32 b 24) || reservedSet b [(6, 2)], .badParam) ]

/-- The publication that an accepted `SIG_WRITE` makes, with the source as written (log entry 21). -/
def writePublish (r : Req) (s : State) : State :=
  let b := r.p.payload
  let loc := hLocal (u32 b 0)
  let rec_ : Rec := { value := BitVec.ofNat 64 (u64 b 8), stamp := u64 b 16, confidence := u8 b 4
                      quality := (Quality.ofCode (u8 b 5 % 16)).getD .valid, ty := u8 b 5 / 16, source := u32 b 24, blockLen := u32 b 28 }
  publishAs loc rec_ (((s.decl loc).map (·.fresh)).getD 0) s

/-- Entry of a route request (R50). -/
def routeOf (b : List Byte) (entry : Nat) : Route :=
  { entry := entry, handle := u32 b 0, isImport := u8 b 5 == 1, modules := u8 b 6, massif := bitOf (u8 b 7) 0
    onChange := bitOf (u8 b 7) 1, prio := fieldOf (u8 b 7) 3 2, period := u32 b 8, fresh := u32 b 12, policy := u8 b 16
    default := BitVec.ofNat 64 (u64 b 24) }

/-- The routes as they will be once every accepted change is in effect. -/
def State.routesToCome (s : State) : List Route :=
  s.sig.routeChanges.foldl (fun l c =>
    let l' := l.filter fun r => r.entry != c.route.entry
    if c.remove then l' else l' ++ [c.route]) s.sig.routes

/-- The lowest free route entry. -/
def freeEntry (l : List Route) : Option Nat := (List.range 4096).find? fun e => !l.any (·.entry == e)

/-- What refuses `SIG_ROUTE_SET`, in its order (step 8 of R73). -/
def chkSigRouteSet (r : Req) (s : State) : List (Bool × Status) :=
  let b := r.p.payload
  let h := u32 b 0
  let op := u8 b 4
  let isImp := u8 b 5 == 1
  let massif := bitOf (u8 b 7) 0
  let cur := s.routesToCome
  let same := cur.find? fun x => x.handle == h && x.isImport == isImp
  let own := (s.isOwn h && localHeld (hLocal h)) || s.drivesPoint h
  let imported := cur.any fun x => x.isImport && x.handle == h
  let per := u32 b 8
  let fr := u32 b 12
  [ (!targetOk r.p.target || !handleOk h || (768 ≤ hLocal h && hLocal h < 1024), .badParam),
    (2 < op || 1 < u8 b 5 || 1 < u8 b 16 || 15 < u8 b 7 || reservedSet b [(17, 7)], .badParam),
    (per != 0 && (per < 1000 || 10000000 < per), .badParam),
    (fr != 0 && (fr < 100 || 60000000 < fr), .badParam),
    (isImp && s.isOwn h && !s.copyPoint h, .badParam),
    (!isImp && op != 2 && !own && !imported, .badParam),
    (!isImp && op != 2 && !own && !massif, .badParam),
    (op == 0 && same.isSome, .badParam),
    (op != 0 && same.isNone, .badParam),
    (!isImp && massif && !s.acting, .wrongState),
    (op == 0 && (freeEntry cur).isNone, .noResource) ]

/-- `SIG_ROUTE_SET` (R50, R51). -/
def effSigRouteSet (r : Req) (s : State) : Res × State :=
  let b := r.p.payload
  let h := u32 b 0
  let op := u8 b 4
  let isImp := u8 b 5 == 1
  let cur := s.routesToCome
  let same := cur.find? fun x => x.handle == h && x.isImport == isImp
  check s (chkSigRouteSet r s) fun _ =>
    let entry := (same.map (·.entry)).getD ((freeEntry cur).getD 0)
    let c : RouteChange := { effectiveAt := nextGrid ms s, remove := op == 2, route := routeOf b entry }
    let s := { s with sig := { s.sig with routeChanges := s.sig.routeChanges ++ [c] } }
    (.fin .done (le 2 entry ++ le 2 (4096 - s.routesToCome.length)), s)

/-- One route change comes into effect; an added import holds a NO_VALUE record, a removed one leaves its record STALE. -/
def applyRoute (c : RouteChange) (s : State) : State :=
  let rest := s.sig.routes.filter fun r => r.entry != c.route.entry
  let h := c.route.handle
  let s := { s with sig := { s.sig with routes := if c.remove then rest else rest ++ [c.route] } }
  if !c.route.isImport then s
  else if s.isOwn h then (if c.remove then s.setOwn (hLocal h) { s.ownRec (hLocal h) with quality := .stale, staleAt := none } else s)
  else if c.remove then
    match aget s.sig.imported h with
    | some r => { s with sig := { s.sig with imported := aset s.sig.imported h { r with quality := .stale } } }
    | none => s
  else if (aget s.sig.imported h).isSome then s
  else { s with sig := { s.sig with imported := aset s.sig.imported h { source := h } } }

/-- ROUTE_EFFECTIVE (R50): every accepted change whose instant has come is made. -/
def doRouteEffective (s : State) : State :=
  let due := s.sig.routeChanges.filter fun c => c.effectiveAt ≤ s.time
  due.foldl (fun s c => applyRoute c s)
    { s with sig := { s.sig with routeChanges := s.sig.routeChanges.filter fun c => s.time < c.effectiveAt } }

/-- ROUTE_EXPORT (R29, R52, R53, R56): every export entry on whose grid the instant lies is sent on ETH0 and ETH1, those of the highest
priority first. -/
def doRouteExport (s : State) : State :=
  (sortBy (fun a b => decide (b.prio ≤ a.prio)) (s.sig.routes.filter fun r => !r.isImport && r.period != 0)).foldl (fun s r =>
    if onGrid (r.period * us) s && aget s.sig.lastExport r.entry != some s.time then
      { s with sig := { s.sig with
          exports := if (s.stored r.handle).linePoison then s.sig.exports
                     else { time := s.time, handle := r.handle, modules := r.modules, massif := r.massif, prio := r.prio,
                            record := s.view r.handle } :: s.sig.exports
          lastExport := aset s.sig.lastExport r.entry s.time } } |> consumeRec 0x60 r.handle
    else s) s

/-- A time of the sender in this module's time (R30, R54). -/
def convertTime (t : Nat) (offset : Int) : Nat := ((t : Int) - offset).toNat

/-- ROUTE_RECORD_RECEIVED (R52, R54, R55): a newer record is converted and stored. `offset` is the sender's module time
minus this module's; `published` is the sender's `received`. -/
def doRecordReceived (h : Nat) (value stamp conf qual ty seq source blockLen published : Nat) (offset : Int) (s : State) : State :=
  match s.importRoute h, (if s.copyPoint h then some (s.ownRec (hLocal h)) else aget s.sig.imported h) with
  | some route, some old =>
    let d := (seq + 65536 - old.seq) % 65536
    if old.quality != .noValue && !(1 ≤ d && d ≤ 32767) then s else
    let pub := convertTime published offset
    let sa := if route.fresh == 0 then none else some (pub + route.fresh * us)
    let q := (Quality.ofCode qual).getD .noValue
    let r : Rec := { value := BitVec.ofNat 64 value, stamp := convertTime stamp offset, confidence := if q.zeroConf then 0 else conf
                     quality := q, ty := ty, seq := seq, source := source, blockLen := blockLen, staleAt := sa, received := s.time }
    let r := if sa.any (· ≤ s.time) then
        (if route.policy == 1 then { r with value := route.default, quality := .substituted, confidence := 0 }
         else { r with quality := .stale }) else r
    let s := if s.copyPoint h then s.setOwn (hLocal h) r else { s with sig := { s.sig with imported := aset s.sig.imported h r } }
    let s := if s.sig.watch.contains h then { s with sig := { s.sig with inbox := s.sig.inbox ++ [(h, r)] } } else s
    exportOnChange h old r s
  | _, _ => s

/-- STALE_AT_REACHED (R55): every record past its `stale_at` is marked. It is not sent for that on an on-change route: the receiver finds it
STALE by its own time (log entry 254). -/
def doStaleAt (s : State) : State :=
  { s with sig := { s.sig with
      own := s.sig.own.map fun e => (e.1, expired (s.handle e.1) e.2 s)
      imported := s.sig.imported.map fun e => (e.1, expired e.1 e.2 s) } }

/-- What refuses `SIG_FORCE`, in its order (step 8 of R73). -/
def chkSigForce (r : Req) (s : State) : List (Bool × Status) :=
  let b := r.p.payload
  let h := u32 b 0
  let loc := hLocal h
  let op := u8 b 4
  let set := op == 0
  let v := BitVec.ofNat 64 (u64 b 8)
  [ (!targetOk r.p.target, .badParam), (!s.isHost r.port, .notOwner),
    (!s.isOwn h || !localHeld loc || 1 < op, .badParam),
    (unforceable loc (s.typeOf loc), .badParam),
    (set && (u16 b 6 < 1 || 3600 < u16 b 6 || !valueFits (s.typeOf loc) v), .badParam),
    (!set && (s.force loc).isNone, .badParam),
    (set && (s.force loc).isNone && 16 ≤ s.sig.forces.length, .noResource) ]

/-- `SIG_FORCE` (R40). -/
def effSigForce (r : Req) (s : State) : Res × State :=
  let b := r.p.payload
  let h := u32 b 0
  let loc := hLocal h
  let op := u8 b 4
  let set := op == 0
  let v := BitVec.ofNat 64 (u64 b 8)
  check s (chkSigForce r s) fun _ =>
    if set then
      let old := s.force loc
      let f : Force := { localNo := loc, value := v, confidence := u8 b 5, hold := u16 b 6, setAt := s.time
                         lastPublished := s.time, discarded := (old.map (·.discarded)).getD 0, handle := h }
      let s := { s with sig := { s.sig with forces := s.sig.forces.filter (fun g => g.localNo != loc) ++ [f] } }
      let s := storeOwn loc (forcedRec f s) s
      let s := forceEvent (b.take 16) 0 s
      (.fin .done (le 4 0 ++ le 1 s.sig.forces.length ++ zeros 3), s)
    else
      let d := ((s.force loc).map (·.discarded)).getD 0
      let s := endForce loc (forceEvent (b.take 16) 1 s)
      (.fin .done (le 4 d ++ le 1 s.sig.forces.length ++ zeros 3), s)

end Sys2Proof.Machine
end

