-- ==== Sys2Proof/Machine/Col.lean ====
section
/-! DEFINITION. Chapter 18: core pairs, admission, Col periods, commits, discarding and re-execution, and the rules of the
COL commands that concern no other chapter. -/
namespace Sys2Proof.Machine

/-- The Col period of a partition in ns (R408). -/
def periodNs (c : PartCfg) : Nat := ([1, 2, 5, 10, 20, 50, 100].getD c.period 1) * ms

/-- The configuration of a partition, or the default one. -/
def Part.conf (p : Part) : PartCfg := p.cfg.getD {}

/-- The codes of R429. -/
def PartSt.code : PartSt → Nat
  | .free => 0 | .stopped => 1 | .running => 2 | .restoring => 3 | .standing => 4 | .shed => 5 | .faulted => 6

/-- `COL_EVENT`: to the hosts and the supervisory partition, with its Cairn event. -/
def colEvent (cause : Nat) (pair part spare : Option Nat) (target : Nat) (s : State) : State :=
  event 0x1180 target (le 1 cause ++ le 1 (orFF pair) ++ le 1 (orFF part) ++ le 1 (orFF spare) ++ zeros 4 ++ le 8 s.time)
    s.supervisory.toList 0x70 s

/-- The module as a target of `COL_EVENT`. -/
def colUnit : Nat := unit 0x11 0x100
/-- The unit of a pair. -/
def pairUnit (q : Nat) : Nat := unit 0x11 (0x200 + q)
/-- The unit of a partition. -/
def partUnit (n : Nat) : Nat := unit 0x11 n

/-! ## Admission (R419, R420) -/

/-- Priority order of R411: shorter period first, then the lower number. -/
def prioLe (a b : Nat × PartCfg) : Bool := periodNs a.2 < periodNs b.2 || (periodNs a.2 == periodNs b.2 && a.1 ≤ b.1)

/-- Cost of a partition in µs, commit included (R419). -/
def costUs (c : PartCfg) : Rat := (c.wcet : Rat) + 2 + (c.dirtyMax : Rat) * 5 / 1000

/-- Period in µs. -/
def periodUs (c : PartCfg) : Rat := ((periodNs c / 1000 : Nat) : Rat)

/-- Smallest integer not below a rational number. -/
def ceilRat (q : Rat) : Int := q.ceil

/-- The response-time recurrence of R419 for one partition under those before it; the fuel bounds the iterations, each of
which adds at least the cheapest cost. -/
def respIter : Nat → Rat → List PartCfg → PartCfg → Option Rat
  | 0, _, _, _ => none
  | n + 1, r, before, c =>
    let rn := costUs c + (before.map fun j => (ceilRat (r / periodUs j) : Rat) * costUs j).sum
    if periodUs c * 45 / 100 < rn then none else if rn == r then some r else respIter n rn before c

/-- The test of R419 over the partitions of one pair in priority order: the refusal reason, or the response times. -/
def admitOrder : List (Nat × PartCfg) → List PartCfg → Except Nat (List (Nat × Rat))
  | [], _ => .ok []
  | x :: l, before =>
    if periodUs x.2 * 45 / 100 < costUs x.2 then .error 1 else
    match respIter 5000 (costUs x.2 + (before.map costUs).sum) before x.2 with
    | none => .error 2
    | some r => match admitOrder l (before ++ [x.2]) with
      | .ok rest => .ok ((x.1, r) :: rest)
      | .error e => .error e

/-- The whole test of R419 over the partitions placed on one pair. -/
def admitTest (ps : List (Nat × PartCfg)) : Except Nat (List (Nat × Rat)) :=
  let order := sortBy prioLe ps
  match admitOrder order [] with
  | .error e => .error e
  | .ok r =>
    let restore : Rat := 10 + ((order.map fun x => (x.2.dirtyMax : Rat)).sum) * 5 / 1000
    if order.any fun x => periodUs x.2 / 10 < restore then .error 3 else .ok r

/-- Whether the test succeeds. -/
def admitOk (ps : List (Nat × PartCfg)) : Bool := match admitTest ps with | .ok _ => true | .error _ => false

/-- The partitions placed on a pair: admitted and not FREE. -/
def State.placedOn (s : State) (q : Nat) : List (Nat × PartCfg) :=
  s.col.parts.filterMap fun e => if e.2.pair == some q && e.2.admitted then some (e.1, e.2.conf) else none

/-- Placements in progress: pair of each partition. -/
abbrev Placing := List (Nat × Nat × PartCfg)

/-- The partitions on a pair, those being placed included. -/
def onPair (s : State) (pl : Placing) (q : Nat) : List (Nat × PartCfg) :=
  s.placedOn q ++ pl.filterMap fun e => if e.2.1 == q then some (e.1, e.2.2) else none

/-- The active pairs, rising. -/
def State.activePairs (s : State) : List Nat :=
  (List.range 18).filter fun q => s.col.pairs.getD q .excluded == .active

/-- Place one partition (R420): on its own pair, or on the lowest-numbered active pair where the test holds. -/
def placeOne (s : State) (pl : Placing) (n : Nat) (c : PartCfg) : Except Nat Placing :=
  if c.pair == 0xFF then
    match s.activePairs.find? fun q => admitOk ((n, c) :: onPair s pl q) with
    | some q => .ok (pl ++ [(n, q, c)])
    | none => .error 4
  else if !s.activePairs.contains c.pair then .error 4
  else match admitTest ((n, c) :: onPair s pl c.pair) with
    | .ok _ => .ok (pl ++ [(n, c.pair, c)])
    | .error e =>
      let standing := fun m => (s.part m).st == .standing
      if admitOk ((n, c) :: (onPair s pl c.pair).filter fun x => !standing x.1) then .error 5 else .error e

/-- Place all offered partitions, fixed pairs first, then the others in priority order; refusals with their reasons. -/
def placeAll (s : State) : List (Nat × PartCfg) → Placing → List (Nat × Nat) → Placing × List (Nat × Nat)
  | [], pl, bad => (pl, bad)
  | x :: l, pl, bad =>
    match placeOne s pl x.1 x.2 with
    | .ok pl' => placeAll s l pl' bad
    | .error e => placeAll s l pl (bad ++ [(x.1, e)])

/-- Bytes that partitions occupy in a channel's partition area (R410). -/
def areaUse (ch : Nat) (ps : List (Nat × PartCfg)) : Nat :=
  (ps.map fun x => (x.2.stateSize * 1024) * (if x.1 % 2 == ch then 2 else 1) + x.2.journal * 1024).sum

/-- Whether the offered partitions fit the partition areas with those admitted already. -/
def areaFits (s : State) (ps : List (Nat × PartCfg)) : Bool :=
  let all := ps ++ s.col.parts.filterMap fun e => if e.2.admitted then some (e.1, e.2.conf) else none
  areaUse 0 all ≤ 8 * 2 ^ 30 && areaUse 1 all ≤ 8 * 2 ^ 30

/-- Mirror traffic of the critical partitions in bit/s (R430). -/
def mirrorLoad (ps : List PartCfg) : Rat :=
  ((ps.filter (·.critical)).map fun c => (c.dirtyMax : Rat) * 64 * 8 * 1000000 / periodUs c).sum

/-- Whether the mirror traffic stays within 2.0 Gbit/s when a deputy is configured on a manager. -/
def mirrorFits (s : State) (ps : List (Nat × PartCfg)) : Bool :=
  s.id.cfg.deputy.isNone || s.id.role == .deputy ||
    mirrorLoad (ps.map (·.2) ++ (s.col.parts.filter fun e => e.2.admitted).map fun e => e.2.conf) ≤ 2000000000

/-- Response times of every partition of a pair after admission. -/
def refreshResp (q : Nat) (s : State) : State :=
  match admitTest (s.placedOn q) with
  | .ok rs => rs.foldl (fun s x => s.modPart x.1 fun p => { p with resp := x.2 }) s
  | .error _ => s

/-- A saved checkpoint comes back into a partition's state region and its committed images, and `RESUMED` is set (R427). -/
def restoreCheckpoint (n : Nat) (s : State) : State :=
  match aget s.col.checkpoints n with
  | none => s
  | some b =>
    let p := s.part n
    let s := (List.range (b.length / 64)).foldl (fun s i =>
      let d := (b.drop (64 * i)).take 64
      storeLine (p.images.2 + 64 * i) d false (storeLine (p.images.1 + 64 * i) d false (storeLine (p.stateBase + 64 * i) d false s))) s
    let s := s.modPart n fun p => { p with fResumed := true }
    { s with col := { s.col with toResume := s.col.toResume.filter (· != n) } }

/-- A place for an image in the partition area of a channel (R410): where in the area is free. -/
def placeImage (ch bytes : Nat) (s : State) : Nat × State :=
  let (a, s) := takeFree s
  (0x000200000000 + ch * 0x000400000000 + 64 * (a.toNat % ((2 ^ 33 - bytes) / 64 + 1)), s)

/-- The channel of a partition's working image (R410): that of its parity, or the other one where that is excluded (R424). -/
def workChannel (n : Nat) (s : State) : Nat := if s.mem.excluded.getD (n % 2) false then 1 - n % 2 else n % 2

/-- A partition is admitted to a pair: the module places its images (R410), and a checkpoint that waits for it is restored. -/
def admitPart (n q : Nat) (s : State) : State :=
  let size := (s.part n).conf.stateSize * 1024
  let (a, s) := placeImage (workChannel n s) size s
  let (b, s) := placeImage 0 size s
  let (c, s) := placeImage 1 size s
  let s := s.modPart n fun p => { p with admitted := true, pair := some q, reason := 0, stateBase := a, images := (b, c) }
  let s := if s.col.toResume.contains n then restoreCheckpoint n s else s
  refreshResp q s

/-- The partitions that an admission offers: STOPPED and not admitted (R419). -/
def offered (s : State) : List (Nat × PartCfg) :=
  s.col.parts.filterMap fun e => if e.2.st == .stopped && !e.2.admitted then some (e.1, e.2.conf) else none

/-- Their order: those with a fixed pair first, each in priority order (R419). -/
def offerOrder (s : State) : List (Nat × PartCfg) :=
  sortBy prioLe ((offered s).filter fun x => x.2.pair != 0xFF) ++ sortBy prioLe ((offered s).filter fun x => x.2.pair == 0xFF)

/-- What refuses `COL_ADMIT`, in its order (step 8 of R73). -/
def chkColAdmit (r : Req) (s : State) : List (Bool × Status) :=
  [(r.p.target.toNat != colUnit, .badParam), (!s.isHost r.port, .notOwner)]

/-- `COL_ADMIT` (R419, R420, R430). -/
def effColAdmit (r : Req) (s : State) : Res × State :=
  check s (chkColAdmit r s) fun _ =>
    let off := offered s
    let (pl, bad) := placeAll s (offerOrder s) [] []
    let bad := if areaFits s off then bad else bad ++ (off.filter fun x => !bad.any (·.1 == x.1)).map fun x => (x.1, 7)
    let bad := if mirrorFits s off then bad
      else bad ++ (off.filter fun x => x.2.critical && !bad.any (·.1 == x.1)).map fun x => (x.1, 6)
    if bad.isEmpty then
      (.fin .done (le 2 pl.length ++ zeros 2), pl.foldl (fun s x => admitPart x.1 x.2.1 s) s)
    else
      (.fin .configRejected [], bad.foldl (fun s x => s.modPart x.1 fun p => { p with reason := x.2 }) s)

/-! ## Discarding and restoring -/

/-- Copy one line between two addresses, its mark with it (R444); an unreadable source line is a marked one. -/
def copyLine (src dst : Nat) (s : State) : State :=
  let (l, s) := readLine src 0xFE [] 0 s
  storeLine dst l.data l.mark s

/-- The committed image to restore from: one in a channel that is not excluded and whose line is not poisoned (R424). -/
def goodImage (p : Part) (off : Nat) (s : State) : Option Nat :=
  [p.images.1 + off, p.images.2 + off].find? fun a => !s.unreadable (lineOf a)

/-- Rewrite one line of the working image from the newest committed image, and repair the other image where it is poisoned (R424). -/
def restoreLine (n off : Nat) (s : State) : State :=
  let p := s.part n
  match goodImage p off s with
  | some a =>
    let bad := [p.images.1 + off, p.images.2 + off].filter fun b => s.unreadable (lineOf b)
    copyLine a (p.stateBase + off) (bad.foldl (fun s b => copyLine a b s) s)
  | none => s

/-- The held commands of a partition's period end without a reply (R81): tags and credits are free. -/
def dropHeld (n : Nat) (s : State) : State :=
  let gone := s.sys.flights.filter fun f => f.req.port == n && f.colPeriod.isSome
  gone.foldl (fun s f => endFlight n f.req.p.tag false s) s

/-- The uncommitted period of a partition is discarded (R422): nothing of it is released and its working image is the
newest committed generation again. -/
def discardPeriod (n : Nat) (s : State) : State :=
  let p := s.part n
  let s := p.dirty.foldl (fun s line => restoreLine n (line - p.stateBase) s) s
  dropHeld n (s.modPart n fun p => { p with inPeriod := false, committing := false, committed := false, dirty := []
                                            swaps := [], replaying := false })

/-- A partition becomes FAULTED (R429). -/
def faultPart (n : Nat) (s : State) : State :=
  colEvent 4 none (some n) none (partUnit n) ((if (s.part n).inPeriod then discardPeriod n s else s).modPart n fun p =>
    { p with st := .faulted })

/-- Whether some line cannot be restored: both committed copies of it are poisoned or lost (R424). -/
def unrestorable (n : Nat) (offs : List Nat) (s : State) : Bool := offs.any fun o => (goodImage (s.part n) o s).isNone

/-- The offsets of the lines that the current period has dirtied. -/
def Part.dirtyOffs (p : Part) : List Nat := p.dirty.map (· - p.stateBase)

/-- A partition's uncommitted period is discarded and will be re-executed: RESTORING under R422; FAULTED where a line cannot be
restored (R424). -/
def toRestoring (n : Nat) (s : State) : State :=
  let p := s.part n
  if p.st != .running then s
  else if p.inPeriod && unrestorable n p.dirtyOffs s then faultPart n s
  else
  let again := p.inPeriod
  let s := if again then discardPeriod n s else s
  s.modPart n fun p => { p with st := .restoring, replaying := again }

/-- The partitions on a pair. -/
def State.partsOn (s : State) (q : Nat) : List Nat :=
  s.col.parts.filterMap fun e => if e.2.pair == some q then some e.1 else none

/-- The lowest-numbered spare pair. -/
def State.spare (s : State) : Option Nat := (List.range 18).find? fun q => s.col.pairs.getD q .excluded == .spare

/-- Set the state of a pair. -/
def setPair (q : Nat) (x : PairSt) (s : State) : State := { s with col := { s.col with pairs := s.col.pairs.set q x } }

/-- A partition that fits nowhere after a pair fault is SHED (R427); one that does not run loses its admission (R429, log
entry 219). -/
def shedPart (n : Nat) (s : State) : State :=
  if (s.part n).st == .stopped || (s.part n).st == .faulted then s else
  colEvent 5 none (some n) none (partUnit n) (s.modPart n fun p =>
    { p with st := .shed, fShed := true, admitted := false, pair := none, replaying := false })

/-- A recovery begins: restoring on a pair, after the fault of a pair, of some partitions. -/
def addRestoring (e : Nat × Nat × List Nat) (s : State) : State :=
  { s with col := { s.col with restoring := s.col.restoring ++ [e] } }

/-- A partition is placed again on a surviving pair (R427): its lost period releases nothing. -/
def replacePart (n q : Nat) (s : State) : State :=
  colEvent 6 (some q) (some n) none (partUnit n) (addRestoring (q, q, [n])
    (s.modPart n fun p => { p with fReplaced := true, pair := some q, admitted := true, replaying := false }))

/-- Higher `shed_rank` is considered first (R427: the lowest is considered last and shed first). -/
def shedLe (a b : Nat × PartCfg) : Bool := b.2.shedRank < a.2.shedRank || (b.2.shedRank == a.2.shedRank && prioLe a b)

/-- Replacement after a pair fault with no spare (R427). -/
def replaceAll (ns : List Nat) (s : State) : State :=
  let order := sortBy shedLe (ns.map fun n => (n, (s.part n).conf))
  let s := ns.foldl (fun s n => s.modPart n fun p => { p with admitted := false, pair := none }) s
  order.foldl (fun s x =>
    match placeOne s [] x.1 { x.2 with pair := 0xFF } with
    | .ok pl => replacePart x.1 ((pl.head?.map fun e => e.2.1).getD 0) s
    | .error _ => shedPart x.1 s) s

/-- A partition whose pair is lost within the recovery window with no spare left is FAULTED (R427). -/
def faultLost (n : Nat) (s : State) : State := (faultPart n s).modPart n fun p => { p with admitted := false, pair := none, replaying := false }

/-- One faulted pair (R405 to R407, R422, R427). -/
def pairFault (q : Nat) (s : State) : State :=
  match s.col.pairs.getD q .excluded with
  | .excluded => s
  | .spare => colEvent 2 (some q) none none (pairUnit q) (setPair q .excluded (regionFault s))
  | .active =>
    let ns := s.partsOn q
    let run := ns.filter fun n => (s.part n).st == .running || (s.part n).st == .restoring
    let second := s.col.windowUntil.any fun w => s.time < w
    let s := openWindow run (setPair q .excluded s)
    let s := { s with col := { s.col with restoring := s.col.restoring.filter fun e => e.1 != q } }
    let sp := s.spare
    let s := colEvent 0 (some q) none sp (pairUnit q) s
    let s := run.foldl (fun s n => toRestoring n s) s
    match sp with
    | some x =>
      let s := ns.foldl (fun s n => s.modPart n fun p => { p with pair := some x }) (setPair x .active s)
      { s with col := { s.col with restoring := s.col.restoring ++ [(x, q, run)], noSpare := s.col.noSpare || s.spare.isNone } }
    | none =>
      let s : State := { s with col := { s.col with noSpare := true } }
      if second then replaceAll (ns.filter fun n => !run.contains n) (run.foldl (fun s n => faultLost n s) s) else replaceAll ns s

/-- PAIR_FAULT (R406): pairs that fault in one cycle are served in ascending order. -/
def doPairFault (pairs : List Nat) (s : State) : State :=
  (sortBy (fun a b => decide (a ≤ b)) pairs).foldl (fun s q => pairFault q s) s

/-- RESTORE_COMPLETE (R422): the partitions of a restored pair run again; a discarded period is re-executed from the
retained snapshot and its journal. -/
def doRestoreComplete (pair : Nat) (s : State) : State :=
  match s.col.restoring.find? fun e => e.1 == pair with
  | none => s
  | some (x, q, ns) =>
    let live := ns.filter fun n => (s.part n).st == .restoring
    let s := live.foldl (fun s n => s.modPart n fun p =>
      if p.replaying then
        { p with st := .running, inPeriod := true, journalPos := 0, reexecuted := p.reexecuted + 1, replaying := !p.fJournalFull
                 fDiverged := p.fDiverged || p.fJournalFull }
      else { p with st := .running }) s
    let again := (live.filter fun n => (s.part n).inPeriod).length
    let s := (live.filter fun n => (s.part n).inPeriod && (s.part n).fJournalFull).foldl (fun s n => colEvent 8 none (some n) none (partUnit n) s) s
    colEvent 1 (some q) none (some x) (pairUnit q) { s with col := { s.col with
      restoring := s.col.restoring.filter (fun e => e.1 != pair)
      recoveries := s.col.recoveries + 1, reexecuted := s.col.reexecuted + again } }

/-- SPARE_CHECK (R407): a spare with a wrong result is excluded. -/
def doSpareCheck (pair : Nat) (good : Bool) (s : State) : State :=
  if good || s.col.pairs.getD pair .excluded != .spare then s else pairFault pair s

/-- An overrun (R423): the period is discarded and not re-executed; the third in a row faults the partition. -/
def overrun (n : Nat) (s : State) : State :=
  let lost := unrestorable n (s.part n).dirtyOffs s
  let s := discardPeriod n s
  let s := s.modPart n fun p => { p with overruns := p.overruns + 1, consecutive := p.consecutive + 1, fOverrun := true }
  let s := colEvent 3 none (some n) none (partUnit n) s
  if lost || 3 ≤ (s.part n).consecutive then faultPart n s else s

/-- WCET_EXPIRY (R421): `done` has not been written. -/
def doWcetExpiry (n : Nat) (s : State) : State := if (s.part n).inPeriod then overrun n s else s

/-- A DRAM channel is excluded (R424): partitions whose working image lay there go on from the other channel's image. -/
def channelLost (ch : Nat) (s : State) : State :=
  let ns := s.col.parts.filterMap fun e =>
    if e.2.admitted && channelOf e.2.stateBase == ch then some e.1 else none
  let run := ns.filter fun n => (s.part n).st == .running || (s.part n).st == .restoring
  let s := openWindow run { s with col := { s.col with singleMirror := true } }
  let s := ns.foldl (fun s n =>
    let again := (s.part n).inPeriod
    let s := if again then discardPeriod n s else s
    let (a, s) := placeImage (1 - ch) ((s.part n).conf.stateSize * 1024) s
    let p := s.part n
    let s := s.setPart n { p with stateBase := a }
    if run.contains n && unrestorable n ((List.range (p.conf.stateSize * 16)).map (64 * ·)) s then faultPart n s else
    let s := (List.range (p.conf.stateSize * 16)).foldl (fun s i => restoreLine n (64 * i) s) s
    if p.st == .running then
      addRestoring (p.pair.getD 0xFF, p.pair.getD 0xFF, [n]) (s.modPart n fun p => { p with st := .restoring, replaying := again })
    else s) s
  colEvent 7 none none none colUnit s

/-- Apply R424 to every channel whose exclusion has not been handled. -/
def handleChannels (before after : List Bool) (s : State) : State :=
  let new := (List.range 2).filter fun ch => after.getD ch false && !before.getD ch false
  new.foldl (fun s ch => channelLost ch s) s

/-! ## The period -/

/-- The partition whose state region or committed image holds a line, with the offset and which copy: 0 working image,
1 and 2 the committed images. -/
def State.regionOf (s : State) (line : Nat) : Option (Nat × Nat × Nat) :=
  s.col.parts.findSome? fun e =>
    if !e.2.admitted then none else
    let size := e.2.conf.stateSize * 1024
    let hit := fun base => decide (base ≤ line ∧ line < base + size)
    if hit e.2.stateBase then some (e.1, line - e.2.stateBase, 0)
    else if hit e.2.images.1 then some (e.1, line - e.2.images.1, 1)
    else if hit e.2.images.2 then some (e.1, line - e.2.images.2, 2)
    else none

/-- An uncorrectable line of a partition's state region (R445). -/
def repairRegion (n off copy line agent : Nat) (s : State) : State :=
  let p := s.part n
  let s := openWindow [n] s
  match goodImage p off s with
  | none => faultPart n s
  | some a =>
    let s :=
      if copy != 0 then copyLine a line s
      else if !p.dirty.contains line then copyLine a line s
      else
        let s := discardPeriod n s
        addRestoring (p.pair.getD 0xFF, p.pair.getD 0xFF, [n]) (s.modPart n fun p => { p with st := .restoring, replaying := true })
    memEvent 2 (evChan line) (evSub line) none agent (some n) line s

/-- Whether the module lets partitions run: IDLE or RUN (R408), the clock good (R27), a role without a duplicate (R19, R21), not displaced
(R24), and on a worker a manager that has been found (R22, R432) and time lock (R30). -/
def State.mayRun (s : State) : Bool :=
  (s.pwr.st == .idle || s.pwr.st == .run) && !s.id.clockFail && !s.id.roleUnlatched && !s.id.dupIndex && s.id.role != .displaced &&
    (s.acting || (s.follows && s.id.managerSeen && s.id.timeLock))

/-- Deferred packets become visible, oldest first, and overflow moves up (R64, R413). -/
def openMailbox (n : Nat) (s : State) : State :=
  let m := s.mailbox n
  let all := m.overflow ++ m.deferred
  s.setMailbox n (all.foldl Mailbox.deliver { m with overflow := [], deferred := [] })

/-- Whether a partition that is to start does so at this period start (R429). -/
def startsNow (n : Nat) (s : State) : Bool :=
  let p := s.part n
  p.st == .stopped && p.run.any (·.start) && p.admitted && s.mayRun && onGrid (periodNs p.conf) s

/-- PERIOD_START (R412, R415, R429): on the grid of the partition's period the snapshot is frozen and the period begins. -/
def doPeriodStart (n : Nat) (s : State) : State :=
  let p := s.part n
  let starting := startsNow n s
  if !(p.st == .running || starting) || !s.mayRun || !onGrid (periodNs p.conf) s then s else
  let s := if p.inPeriod || p.committing then discardPeriod n s else s
  let s := if starting then
      match p.run.bind (·.req) with
      | some r => finish r .done [] (s.modPart n fun p => { p with st := .running, run := none })
      | none => s.modPart n fun p => { p with st := .running, run := none }
    else s
  let (a, s) := takeFree s
  let snap := p.inputs.map fun h => (h, s.view h)
  openMailbox n (s.modPart n fun p => { p with
    periodNo := gridTime s / (periodNs p.conf), startedAt := s.time, inPeriod := true, committing := false, committed := false
    snapshot := snap, snapshotBase := a.toNat, journal := [], journalPos := 0, replaying := false, fJournalFull := false
    dirty := [], fResumed := p.fResumed })

/-- DONE_WRITE (R415, R416, R421): k ends period k; any other value is ignored. -/
def doDoneWrite (n value execUs : Nat) (s : State) : State :=
  let p := s.part n
  if p.st == .running && p.inPeriod && value == p.periodNo then
    s.setPart n { p with inPeriod := false, committing := true, maxExec := max p.maxExec execUs }
  else s

/-- The mean grain flow of the last 10 s in t/h, as Couloir has predicted it at the cut (R137, log entry 269). -/
def meanGrainFlow (s : State) : F32 :=
  let g := (s.cul.ledger.filter fun p => s.time < p.cut + 10 * sec).map fun p => (p.blocks.map fun b => b.predMass).sum
  qf32 ((g.sum : Rat) / 10 / 10 * (36 / 10000))

/-- What a commit mirrors of Couloir (R137): the state's code, `k_cam` and the mean flow. -/
def mirrorCouloir (s : State) : Nat × F32 × F32 :=
  ((match s.cul.st with | .unconfigured => 0 | .stopped => 1 | .running => 2 | .draining => 3), s.cul.kCam, meanGrainFlow s)

/-- What a commit mirrors of the map and of guidance (R174, R180): the open field and its lines. -/
def mirrorField (s : State) : Option FieldNote :=
  (s.map.fields.find? fun f => f.id == s.map.open_ && s.map.open_ != 0).map fun f =>
    { fieldId := f.id, cell := f.cell, origin := f.origin, crop := s.map.crop
      lines := (s.gde.lines.filter fun l => l.field == f.id).map fun l =>
        { no := l.no, type := l.line.type, verts := l.line.verts, spacing := l.line.spacing, radius := l.line.radius, name := l.line.name } }

/-- The codes of R97. -/
def FunSt.code : FunSt → Nat
  | .off => 0 | .enabling => 1 | .active => 2 | .degraded => 3 | .stopping => 4 | .finishing => 5 | .faulted => 6

/-- The critical functions of a partition as its commit mirrors them (R103). -/
def criticalFns (part : Nat) (s : State) : List FnMirror :=
  (s.fun_.fn.zipIdx.filter fun e => e.1.cfg.any fun c => c.critical && c.owner == part).map fun e =>
    { fn := e.2, params := e.1.params, st := e.1.st.code, source := e.1.source, dm := e.1.dm, eff := e.1.eff, trim := e.1.trim }

/-- The output record of a period (R417): what it holds for the release, in issue order. -/
def heldOutputs (n period : Nat) (s : State) : List (Nat × BitVec 32 × List Byte) :=
  (s.sys.flights.filter fun f => f.req.port == n && f.colPeriod == some period).map fun f => (opCode f.req.op, f.req.p.target, f.req.p.payload)

/-- COMMIT_COMPLETE (R416, R430): every dirty line is in both committed images; a critical partition's commit is mirrored
to the deputy. -/
def doCommitComplete (n : Nat) (s : State) : State :=
  let p := s.part n
  if !p.committing then s else
  let lines := p.dirty.map fun l => (l - p.stateBase, memReadList s.mem.bytes l 64)
  let s := p.dirty.foldl (fun s l => copyLine l (p.images.2 + (l - p.stateBase)) (copyLine l (p.images.1 + (l - p.stateBase)) s)) s
  let s := s.modPart n fun p => { p with committing := false, committed := true, dirty := [], generation := p.generation + 1
                                         consecutive := 0, replaying := false }
  if p.conf.critical && ((s.id.role == .manager && s.id.cfg.deputy.isSome) || (s.id.role == .actingManager && s.col.displacedPresent)) then
    { s with col := { s.col with mirrorOut :=
      { part := n, period := p.periodNo, generation := p.generation + 1, lines := lines, outputs := heldOutputs n p.periodNo s, fns := criticalFns n s, couloir := some (mirrorCouloir s), field := mirrorField s
        received := s.time } :: s.col.mirrorOut } }
  else s

/-- One more line dirtied by a partition in its working image (R409); none where `dirty_max` is reached. -/
def dirtyLine (n line : Nat) (s : State) : Option State :=
  let p := s.part n
  if p.dirty.contains line then some s
  else if p.conf.dirtyMax ≤ p.dirty.length then none
  else some (s.setPart n { p with dirty := p.dirty ++ [line] })

/-- COMMIT_MIRROR_RECEIVED (R430): the deputy, or a displaced manager, holds the newest commits. -/
def doMirrorReceived (m : MirrorRecord) (s : State) : State :=
  if !(s.id.role == .deputy || s.id.role == .displaced) then s else
  let old := (s.col.mirrors.find? fun x => x.part == m.partition)
  let lines := m.lines.foldl (fun l e => aset l e.1 e.2) ((old.map (·.lines)).getD [])
  let x : Mirror := { part := m.partition, period := m.period, generation := m.generation, lines := lines, fns := m.fns, received := s.time }
  let kept := s.col.mirrors.filter fun y => y.part != m.partition
  { s with col := { s.col with mirrors := kept ++ [x] } }

/-- `DEPUTY_READY` (R430, R434): a deputy, or a displaced manager, holds a commit of every critical partition that is not older than
two of its periods. -/
def deputyReady (s : State) : Bool :=
  let crit := s.col.parts.filter fun e => (s.id.role == .deputy && e.2.st == .standing) || (s.id.role == .displaced && e.2.conf.critical)
  (s.id.role == .deputy || s.id.role == .displaced) && crit.all fun e => s.col.mirrors.any fun y =>
    y.part == e.1 && gridTime s / periodNs e.2.conf ≤ y.period + 3

/-- HEARTBEAT_SEND (R431): a module that acts as manager sends on ETH0 and ETH1; on another module the row is the arrival
of its manager's heartbeat (log entry 10). -/
def doHeartbeat (s : State) : State :=
  if s.acting then
    if s.id.clockFail || s.pwr.saving || s.pwr.st == .off || s.pwr.st == .sleep then s
    else { s with col := { s.col with hbOut := { time := s.time, notice := false } :: s.col.hbOut } }
  else { s with col := { s.col with lastHeartbeat := some s.time } }

/-- A failure notice is sent on both ports (R431). -/
def sendNotice (s : State) : State :=
  if s.acting then
    { s with col := { s.col with hbOut := { time := s.time, notice := true } :: s.col.hbOut } }
  else s

/-- A mirrored commit is mapped as a partition's working and committed state (R432). -/
def mapMirror (m : Mirror) (s : State) : State :=
  let p := s.part m.part
  m.lines.foldl (fun s l => storeLine (p.stateBase + l.1) l.2 false (storeLine (p.images.1 + l.1) l.2 false
    (storeLine (p.images.2 + l.1) l.2 false s))) s

/-- The part of a deputy takeover that chapter 18 gives (R432): the role, and the critical partitions RUNNING from the
newest mirrored commit; they start at their next period start. -/
def takeOverCol (s : State) : State :=
  let s := colEvent 9 none none none colUnit { s with id := { s.id with role := .actingManager, timeLock := true }
                                                      col := { s.col with managerLost := true } }
  let s := s.col.mirrors.foldl (fun s m => mapMirror m s) s
  let s := (s.col.parts.filter fun e => e.2.st == .standing).foldl (fun s e =>
    s.modPart e.1 fun p => { p with st := .running, generation := ((s.col.mirrors.find? fun m => m.part == e.1).map (·.generation)).getD 0 }) s
  colEvent 10 none none none colUnit s

/-! ## Commands -/

/-- The sum of `checkpoint` over the configured partitions other than one. -/
def checkpointSum (s : State) (but : Nat) : Nat := ((s.col.parts.filter fun e => e.1 != but).map fun e => e.2.conf.checkpoint).sum

/-- A start or stop that still waits gives way to a later command for the partition (log entry 274). -/
def endRun (n : Nat) (s : State) : State :=
  match (s.part n).run.bind (·.req) with
  | some r => finish r .superseded [] (s.modPart n fun p => { p with run := none })
  | none => s.modPart n fun p => { p with run := none }

/-- What refuses `COL_PARTITION_CONFIG`, in its order (step 8 of R73). -/
def chkColPartitionConfig (r : Req) (s : State) : List (Bool × Status) :=
  let b := r.p.payload
  let n := (unitIndex r.p.target 0x11).getD 0xFFFF
  let c : PartCfg := { period := u8 b 0, pair := u8 b 1, critical := bitOf (u8 b 2) 0, supervisory := bitOf (u8 b 2) 1
                       shedRank := u8 b 3, wcet := u32 b 4, dirtyMax := u32 b 8, stateSize := u32 b 12, journal := u32 b 16
                       checkpoint := u32 b 20, image := u32 b 24 }
  let p := s.part n
  [ (128 ≤ n, .badParam), (!s.isHost r.port, .notOwner),
    (6 < c.period || (17 < c.pair && c.pair != 0xFF) || 3 < u8 b 2 || reservedSet b [(28, 4)], .badParam),
    (c.wcet < 10 || 45000 < c.wcet || c.dirtyMax < 64 || 65536 < c.dirtyMax, .badParam),
    (c.stateSize < 64 || 262144 < c.stateSize || c.stateSize % 64 != 0 || c.journal < 4 || 4096 < c.journal, .badParam),
    (65536 < c.checkpoint || c.checkpoint % 64 != 0 || c.stateSize * 1024 < c.checkpoint, .badParam),
    (p.st != .free && p.st != .stopped, .wrongState),
    (c.supervisory && s.supervisory.any (· != n), .configRejected),
    (4 * 2 ^ 20 < checkpointSum s n + c.checkpoint, .configRejected) ]

/-- `COL_PARTITION_CONFIG` (R408, R411). -/
def effColPartitionConfig (r : Req) (s : State) : Res × State :=
  let b := r.p.payload
  let n := (unitIndex r.p.target 0x11).getD 0xFFFF
  let c : PartCfg := { period := u8 b 0, pair := u8 b 1, critical := bitOf (u8 b 2) 0, supervisory := bitOf (u8 b 2) 1
                       shedRank := u8 b 3, wcet := u32 b 4, dirtyMax := u32 b 8, stateSize := u32 b 12, journal := u32 b 16
                       checkpoint := u32 b 20, image := u32 b 24 }
  let p := s.part n
  check s (chkColPartitionConfig r s) fun _ =>
    let s := endRun n s
    let s := s.setPart n { p with cfg := some c, st := .stopped, admitted := false, pair := none, reason := 0, resp := 0, run := none }
    done (match p.pair with | some q => refreshResp q s | none => s)

/-- What refuses `COL_INPUT_SET`, in its order (step 8 of R73). -/
def chkColInputSet (r : Req) (s : State) : List (Bool × Status) :=
  let b := r.p.payload
  let n := (unitIndex r.p.target 0x11).getD 0xFFFF
  let first := u16 b 0
  let count := u16 b 2
  let total := u16 b 4
  let hs := (List.range count).map fun i => u32 b (8 + 4 * i)
  let p := s.part n
  [ (128 ≤ n, .badParam), (!s.isHost r.port, .notOwner),
    (count == 0 || 1000 < count || 1024 < first + count || 1024 < total || reservedSet b [(6, 2)], .badParam),
    (hs.any fun h => !s.holds h, .badParam),
    (p.st != .stopped, .wrongState) ]

/-- `COL_INPUT_SET` (R412). -/
def effColInputSet (r : Req) (s : State) : Res × State :=
  let b := r.p.payload
  let n := (unitIndex r.p.target 0x11).getD 0xFFFF
  let first := u16 b 0
  let count := u16 b 2
  let total := u16 b 4
  let hs := (List.range count).map fun i => u32 b (8 + 4 * i)
  let p := s.part n
  let l := p.inputs ++ List.replicate (max total (first + count) - p.inputs.length) 0
  let l := (l.take first ++ hs ++ l.drop (first + count)).take total
  check s (chkColInputSet r s) fun _ =>
    done (s.setPart n { p with inputs := l })

/-- What refuses `COL_PARTITION_RUN`, in its order (step 8 of R73). -/
def chkColPartitionRun (r : Req) (s : State) : List (Bool × Status) :=
  let b := r.p.payload
  let n := (unitIndex r.p.target 0x11).getD 0xFFFF
  let op := u8 b 0
  [(128 ≤ n, .badParam), (!s.isHost r.port, .notOwner), (1 < op || reservedSet b [(1, 3)], .badParam)]

/-- `COL_PARTITION_RUN` (R429): answered `QUEUED`, and ended at the period start or the release. -/
def effColPartitionRun (r : Req) (s : State) : Res × State :=
  let b := r.p.payload
  let n := (unitIndex r.p.target 0x11).getD 0xFFFF
  let p := s.part n
  let op := u8 b 0
  check s (chkColPartitionRun r s) fun _ =>
    if op == 1 then
      match p.st with
      | .running | .restoring => done (endRun n s)
      | .stopped =>
        if p.admitted && s.mayRun && s.pwr.selftest / 32 % 2 == 0 then
          (.interim .queued, (endRun n s).modPart n fun p => { p with run := some { start := true, req := some r } })
        else (.fin .wrongState [], s)
      | _ => (.fin .wrongState [], s)
    else
      match p.st with
      | .running | .restoring => (.interim .queued, (endRun n s).modPart n fun p => { p with run := some { start := false, req := some r } })
      | .shed | .faulted =>
        done ((endRun n s).modPart n fun p =>
          { p with st := .stopped, fOverrun := false, fUncovered := false, fDiverged := false, fResumed := false
                   fJournalFull := false, fReplaced := false, fShed := false, consecutive := 0, run := none })
      | .stopped => done (endRun n s)
      | _ => (.fin .wrongState [], s)

/-- Bits of the pairs in a state. -/
def pairBits (s : State) (x : PairSt) : Nat := bitsN (s.col.pairs.map (· == x))

/-- What refuses `COL_STATUS`, in its order (step 8 of R73). -/
def chkColStatus (r : Req) (s : State) : List (Bool × Status) :=
  [(r.p.target.toNat != colUnit, .badParam)]

/-- `COL_STATUS`. -/
def effColStatus (r : Req) (s : State) : Res × State :=
  check s (chkColStatus r s) fun _ =>
    let flags := bitsN [s.col.singleMirror, s.col.noSpare, s.col.windowUntil.any fun w => s.time < w, deputyReady s,
                        s.col.managerLost, s.col.uncovered]
    answer (le 4 (pairBits s .active) ++ le 4 (pairBits s .spare) ++ le 4 (pairBits s .excluded)
      ++ le 1 (orFF s.id.cfg.deputy) ++ zeros 1 ++ le 2 flags ++ le 4 s.col.recoveries ++ le 4 s.col.reexecuted ++ le 8 s.time) s

/-- What refuses `COL_PARTITION_STATUS`, in its order (step 8 of R73). -/
def chkColPartitionStatus (r : Req) (s : State) : List (Bool × Status) :=
  let n := (unitIndex r.p.target 0x11).getD 0xFFFF
  [(128 ≤ n, .badParam)]

/-- `COL_PARTITION_STATUS`. -/
def effColPartitionStatus (r : Req) (s : State) : Res × State :=
  let n := (unitIndex r.p.target 0x11).getD 0xFFFF
  let p := s.part n
  check s (chkColPartitionStatus r s) fun _ =>
    let flags := bitsN [p.fOverrun, p.fUncovered, p.fDiverged, p.fResumed, p.fJournalFull, p.fReplaced, p.fShed]
    answer (le 1 p.st.code ++ le 1 (orFF p.pair) ++ le 1 p.reason ++ zeros 1 ++ le 2 flags ++ zeros 2
      ++ leInt 4 (ceilRat p.resp) ++ le 4 p.maxExec ++ le 8 p.periodNo ++ le 4 p.overruns ++ le 4 p.reexecuted ++ le 8 s.time) s

/-- What refuses `COL_INJECT`, in its order (step 8 of R73). -/
def chkColInject (r : Req) (s : State) : List (Bool × Status) :=
  let i := (unitIndex r.p.target 0x11).getD 0xFFFF
  let q := i - 0x200
  [ (i < 0x200 || 0x211 < i, .badParam), (!s.isHost r.port, .notOwner),
    (s.col.pairs.getD q .excluded == .excluded, .wrongState) ]

/-- `COL_INJECT` (R405): a lockstep mismatch in the pair. -/
def effColInject (r : Req) (s : State) : Res × State :=
  let i := (unitIndex r.p.target 0x11).getD 0xFFFF
  let q := i - 0x200
  check s (chkColInject r s) fun _ => done (pairFault q s)

end Sys2Proof.Machine
end

