-- ==== Sys2Proof/Machine/MemCmd.lean ====
section
/-! DEFINITION. Chapter 19: accesses, the scrubber, and the rules of the MEM commands. -/
namespace Sys2Proof.Machine

/-- The result that the requester of an access sees. -/
def setLast (r : MemResult) (s : State) : State := { s with mem := { s.mem with last := r } }

/-- An access that is not performed: a read returns 0 (R436). -/
def refuseAccess (a : MemAccess) (s : State) : State :=
  setLast { data := zeros a.size, fault := true } (accessFault a.agent a.addr s)

/-- An agent's read of a line, with the repair of a partition's state region (R445) and the partitions' part of a channel
exclusion (R424). -/
def agentRead (line agent : Nat) (pat : ErrPat) (bits : Nat) (s : State) : LineRead × State :=
  let before := s.mem.excluded
  let (l, s) := readLine line agent pat bits s
  let s := handleChannels before s.mem.excluded s
  -- a line of MRAM that cannot be repaired is reported (R450)
  let s := if l.ue && areaOf line == .mram then memEvent 0 none none none agent (regionOwner line s) line s else s
  match s.regionOf line with
  | some (n, off, copy) =>
    if l.ue || (l.mark && agent ≤ 0x11) then
      let s := repairRegion n off copy line agent s
      readLine line agent [] 0 s
    else (l, s)
  | none => (l, s)

/-- A load from DRAM, SRAM or MRAM (R441 to R445). -/
def loadMem (a : MemAccess) (s : State) : State :=
  let line := lineOf a.addr
  let (l, s) := agentRead line a.agent a.pat a.bits s
  let data := (l.data.drop (a.addr - line)).take a.size
  if l.mark && a.agent ≤ 0x11 then
    setLast { data := data, poison := true, poisonException := true } (consumePoison a.agent line s)
  else setLast { data := data, poison := l.mark } s

/-- A store to DRAM, SRAM or MRAM (R409, R441, R443, R449). -/
def storeMem (a : MemAccess) (data : List Byte) (s : State) : State :=
  let line := lineOf a.addr
  let mine := match a.partition, s.regionOf line with
    | some n, some (m, _, 0) => if n == m then some n else none
    | _, _ => none
  let allowed := match mine with
    | some n => dirtyLine n line s
    | none => some s
  match allowed, mine with
  | none, some n => setLast {} (overrun n s)
  | none, none => s
  | some s, _ =>
    if a.size == 64 then setLast {} (storeLine line data a.mark s)
    else
      let s := storePart a.addr data s
      let worst := if areaOf line == .sram then 2 else 7
      let count := fun (s : State) =>
        if s.poisoned line || a.bits == 0 then s
        else if worst ≤ a.bits then { s with mem := { s.mem with uncorrectable := s.mem.uncorrectable + 1 } }
        else { s with mem := { s.mem with corrected := s.mem.corrected + 1 } }
      setLast {} (if worst ≤ a.bits && !s.poisoned line then storeLine line (zeros 64) true (count s) else count s)

/-- An access to DRAM, SRAM or MRAM. -/
def accessMem (a : MemAccess) (s : State) : State :=
  match a.store with
  | none => if reachable a.agent a.addr && readShapeOk a.addr a.size then loadMem a s else refuseAccess a s
  | some d =>
    if reachable a.agent a.addr && writeShapeOk a.addr a.size && d.length == a.size then storeMem a d s else refuseAccess a s

/-! ## The scrubber (R446, R447) -/

/-- DRAM lines of a pass. -/
def passLines : Nat := 2 ^ 29

/-- Whether a pass of DRAM, SRAM or MRAM has not ended by its due time (R446). -/
def passOverdue (s : State) : Bool :=
  s.mem.passStart + s.mem.scrubHours * 3600 * sec ≤ s.time || s.mem.chipStart.1 + s.mem.sramScrub * sec ≤ s.time
    || s.mem.chipStart.2 + 24 * 3600 * sec ≤ s.time

/-- `SCRUB_LATE` ends once no pass is late. -/
def clearLate (s : State) : State := { s with mem := { s.mem with scrubLate := s.mem.scrubLate && passOverdue s } }

/-- The end of a DRAM pass: parameters set meanwhile apply from the next one. -/
def endPass (s : State) : State :=
  let m := { s.mem with scrubLines := 0, lastPass := s.time, passStart := s.time, nextParams := none }
  clearLate (match s.mem.nextParams with
    | some (a, b, c, d, e) =>
      { s with mem := { m with scrubHours := a, devThresh := b, devWindow := c, ueLimit := d, sramScrub := e } }
    | none => { s with mem := m })

/-- The end of an SRAM pass, whose period may have been set meanwhile. -/
def endSramPass (s : State) : State :=
  clearLate { s with mem := { s.mem with chipLines := (0, s.mem.chipLines.2), chipStart := (s.time, s.mem.chipStart.2)
                                         sramScrub := (s.mem.nextParams.map fun p => p.2.2.2.2).getD s.mem.sramScrub } }

/-- The end of an MRAM pass. -/
def endMramPass (s : State) : State :=
  clearLate { s with mem := { s.mem with chipLines := (s.mem.chipLines.1, 0), chipStart := (s.mem.chipStart.1, s.time) } }

/-- One line counted in the current pass of its memory: 32 GiB of DRAM, 32 MiB of SRAM, 64 MiB of MRAM. -/
def countScrub (line : Nat) (s : State) : State :=
  match areaOf line with
  | .dram =>
    let s := { s with mem := { s.mem with scrubLines := s.mem.scrubLines + 1 } }
    if passLines ≤ s.mem.scrubLines then endPass s else s
  | .sram =>
    let s := { s with mem := { s.mem with chipLines := (s.mem.chipLines.1 + 1, s.mem.chipLines.2) } }
    if 2 ^ 19 ≤ s.mem.chipLines.1 then endSramPass s else s
  | .mram =>
    let s := { s with mem := { s.mem with chipLines := (s.mem.chipLines.1, s.mem.chipLines.2 + 1) } }
    if 2 ^ 20 ≤ s.mem.chipLines.2 then endMramPass s else s
  | _ => s

/-- SCRUB_READ (R442, R445 to R448): the scrubber reads one line. An uncorrectable line outside every state region is
rewritten as poisoned and reported. -/
def doScrubRead (line0 : Nat) (pat : ErrPat) (bits : Nat) (s : State) : State :=
  let line := lineOf line0
  match areaOf line with
  | .dram | .sram | .mram =>
    if s.pwr.scrubPaused && areaOf line == .dram then s else
    let before := s.mem.excluded
    let (l, s) := readLine line 0xFE pat bits s
    let s := handleChannels before s.mem.excluded s
    let s :=
      if !l.ue then s else
      match s.regionOf line with
      | some (n, off, copy) => repairRegion n off copy line 0xFE s
      | none =>
        let s := storeLine line (zeros 64) true s
        memEvent 0 (evChan line) (evSub line) none 0xFE (regionOwner line s) line s
    countScrub line s
  | _ => s

/-- SCRUB_DUE (R446): a pass not finished by its due time. -/
def doScrubDue (s : State) : State :=
  if !s.mem.scrubLate && passOverdue s then
    memEvent 7 none none none 0xFE none 0 { s with mem := { s.mem with scrubLate := true } }
  else s

/-! ## Commands -/

/-- The memory system as a target. -/
def memUnit : Nat := unit 0x12 0

/-- State of a DRAM channel in `MEM_STATUS`. -/
def channelCode (ch : Nat) (s : State) : Nat :=
  if s.mem.excluded.getD ch false then 2
  else b2n ((s.mem.failed.getD (2 * ch) none).isSome || (s.mem.failed.getD (2 * ch + 1) none).isSome)

/-- What refuses `MEM_STATUS`, in its order (step 8 of R73). -/
def chkMemStatus (r : Req) (s : State) : List (Bool × Status) :=
  [(r.p.target.toNat != memUnit, .badParam)]

/-- `MEM_STATUS`. -/
def effMemStatus (r : Req) (s : State) : Res × State :=
  check s (chkMemStatus r s) fun _ =>
    answer (le 1 (channelCode 0 s + 4 * channelCode 1 s)
      ++ le 1 (bitsN [s.mem.remapFull, s.mem.scrubLate, s.mem.selfTestFailed]) ++ zeros 2
      ++ (s.mem.failed.flatMap fun d => le 1 (orFF d)) ++ le 4 s.mem.corrected ++ le 4 s.mem.uncorrectable ++ le 4 s.mem.consumed
      ++ le 1 (s.mem.remap.filter (·.isSome)).length ++ le 1 (s.mem.scrubLines * 100 / passLines) ++ le 2 s.mem.faults
      ++ le 8 s.mem.lastPass ++ le 8 s.time) s

/-- What refuses `MEM_SCRUB_CONFIG`, in its order (step 8 of R73). -/
def chkMemScrubConfig (r : Req) (s : State) : List (Bool × Status) :=
  let b := r.p.payload
  let bad := fun (v lo hi : Nat) => v < lo || hi < v
  [ (r.p.target.toNat != memUnit, .badParam), (!s.isHost r.port, .notOwner),
    (bad (u16 b 0) 1 168 || bad (u16 b 2) 2 1024 || bad (u16 b 4) 1 168 || bad (u16 b 6) 1 1000 || bad (u16 b 8) 10 3600
      || reservedSet b [(10, 2)], .badParam) ]

/-- `MEM_SCRUB_CONFIG` (R439, R440, R446). -/
def effMemScrubConfig (r : Req) (s : State) : Res × State :=
  let b := r.p.payload
  check s (chkMemScrubConfig r s) fun _ =>
    done { s with mem := { s.mem with nextParams := some (u16 b 0, u16 b 2, u16 b 4, u16 b 6, u16 b 8) } }

/-- Whether two ranges overlap. -/
def overlaps (a n b m : Nat) : Bool := a < b + m && b < a + n

/-- The partition areas of R410. -/
def partitionAreas : List (Nat × Nat) := [(0x000200000000, 2 ^ 33), (0x000600000000, 2 ^ 33)]

/-- What refuses `MEM_REGION_SET`, in its order (step 8 of R73). -/
def chkMemRegionSet (r : Req) (s : State) : List (Bool × Status) :=
  let b := r.p.payload
  let i := (unitIndex r.p.target 0x12).getD 0
  let k := i - 0x100
  let base := u64 b 0
  let size := u64 b 8
  let owner := u8 b 16
  let others := (s.mem.regions.zipIdx.filterMap fun e => if e.2 == k then none else e.1)
  [ (i < 0x100 || 0x13F < i, .badParam), (!s.isHost r.port, .notOwner),
    ((127 < owner && owner != 0xFF) || reservedSet b [(17, 7)], .badParam),
    (size != 0 && (base % 64 != 0 || size % 64 != 0 || 0x000800000000 < base + size), .badParam),
    (size != 0 && (others.any fun x => overlaps base size x.base x.size), .badParam),
    (size != 0 && (partitionAreas.any fun x => overlaps base size x.1 x.2), .badParam) ]

/-- `MEM_REGION_SET` (R447). -/
def effMemRegionSet (r : Req) (s : State) : Res × State :=
  let b := r.p.payload
  let i := (unitIndex r.p.target 0x12).getD 0
  let k := i - 0x100
  let base := u64 b 0
  let size := u64 b 8
  let owner := u8 b 16
  check s (chkMemRegionSet r s) fun _ =>
    let x : Option MemRegion := if size == 0 then none else some { base := base, size := size, owner := owner }
    done { s with mem := { s.mem with regions := s.mem.regions.set k x } }

/-- What refuses `MEM_DEVICE_FAIL`, in its order (step 8 of R73). -/
def chkMemDeviceFail (r : Req) (s : State) : List (Bool × Status) :=
  let b := r.p.payload
  let op := u8 b 0
  let ch := u8 b 1
  let sub := 2 * ch + u8 b 2
  let cur := s.mem.failed.getD sub none
  [ (r.p.target.toNat != memUnit, .badParam), (!s.isHost r.port, .notOwner),
    (1 < op || 1 < ch || 1 < u8 b 2 || 9 < u8 b 3, .badParam),
    (s.mem.excluded.getD ch false, .wrongState),
    (op == 0 && cur.isSome, .wrongState),
    (op == 1 && s.pwr.st == .run, .wrongState) ]

/-- `MEM_DEVICE_FAIL` (R439). -/
def effMemDeviceFail (r : Req) (s : State) : Res × State :=
  let b := r.p.payload
  let op := u8 b 0
  let ch := u8 b 1
  let sub := 2 * ch + u8 b 2
  let cur := s.mem.failed.getD sub none
  check s (chkMemDeviceFail r s) fun _ =>
    if op == 0 then
      done (memEvent 5 (some ch) (some (u8 b 2)) (some (u8 b 3)) 0xFF none 0
        { s with mem := { s.mem with failed := s.mem.failed.set sub (some (u8 b 3)) } })
    else done { s with mem := { s.mem with failed := s.mem.failed.set sub (if cur == some (u8 b 3) then none else cur) } }

/-- One remap entry is written back and freed (R448). -/
def clearRemap (i : Nat) (s : State) : State :=
  match s.mem.remap.getD i none with
  | none => s
  | some e =>
    let s : State := { s with mem := { s.mem with remap := s.mem.remap.set i none, remapFull := false } }
    storeLine e.line e.data e.poison s

/-- What refuses `MEM_REMAP_CLEAR`, in its order (step 8 of R73). -/
def chkMemRemapClear (r : Req) (s : State) : List (Bool × Status) :=
  let b := r.p.payload
  let e := u8 b 0
  [ (r.p.target.toNat != memUnit, .badParam), (!s.isHost r.port, .notOwner),
    ((31 < e && e != 0xFF) || reservedSet b [(1, 3)], .badParam), (s.pwr.st == .run, .wrongState) ]

/-- `MEM_REMAP_CLEAR` (R448). -/
def effMemRemapClear (r : Req) (s : State) : Res × State :=
  let b := r.p.payload
  let e := u8 b 0
  check s (chkMemRemapClear r s) fun _ =>
    done (if e == 0xFF then (List.range 32).foldl (fun s i => clearRemap i s) s else clearRemap e s)

/-- The error pattern of an injection. -/
def injectPat (kind d d2 : Nat) : ErrPat :=
  if kind == 0 then [(d, 1)] else if kind == 1 then [(d, 4)] else [(d, 1), (d2, 1)]

/-- What refuses `MEM_INJECT`, in its order (step 8 of R73). -/
def chkMemInject (r : Req) (s : State) : List (Bool × Status) :=
  let b := r.p.payload
  let a := u64 b 0
  let kind := u8 b 8
  [ (r.p.target.toNat != memUnit, .badParam), (!s.isHost r.port, .notOwner),
    (areaOf a != .dram || a % 64 != 0 || 3 < kind || reservedSet b [(11, 5)], .badParam),
    (kind ≤ 2 && 9 < u8 b 9, .badParam), (kind == 2 && (9 < u8 b 10 || u8 b 10 == u8 b 9), .badParam),
    (s.pwr.st != .idle, .wrongState) ]

/-- `MEM_INJECT` (R438): the stored code word of the line is corrupted. -/
def effMemInject (r : Req) (s : State) : Res × State :=
  let b := r.p.payload
  let a := u64 b 0
  let kind := u8 b 8
  check s (chkMemInject r s) fun _ =>
    if kind == 3 then done (storeLine a (zeros 64) true s)
    else done { s with mem := { s.mem with
      errors := s.mem.errors ++ [{ line := a, pat := injectPat kind (u8 b 9) (u8 b 10), injected := true }] } }

end Sys2Proof.Machine
end

