-- ==== Sys2Proof/Machine/Dma.lean ====
section
/-! DEFINITION. Chapter 20: descriptors, transfers, completion, the channel states and the register block. -/
namespace Sys2Proof.Machine

/-- A DMA channel. -/
def State.dch (s : State) (c : Nat) : DmaCh := s.dma.ch.getD c {}

/-- Change a DMA channel. -/
def modCh (c : Nat) (f : DmaCh → DmaCh) (s : State) : State := { s with dma := { s.dma with ch := updAt s.dma.ch c f } }

/-- The requester ID of a channel (R57). -/
def dmaId (c : Nat) : Nat := 0x40 + c

/-- A channel enters ERROR (R461): no further write, `DMA_EVENT` to the owner and the hosts. -/
def dmaError (c cause : Nat) (s : State) : State :=
  let s := modCh c (fun x => { x with st := .error, cause := cause, desc := none }) s
  let x := s.dch c
  event 0x1380 (unit 0x13 c) (le 1 cause ++ le 1 c ++ zeros 6 ++ le 8 x.current ++ le 8 s.time)
    (if x.owner < 128 then [x.owner] else []) (dmaId c) s

/-- `DMA_BLOCK.ACCESS_FAULT` is raised (R465). -/
def dmaAccessFault (s : State) : State := noteSet 0x13 0 31 { s with dma := { s.dma with accessFault := true } }

/-- A W1C bit of `CH_STATUS` is set (R10, R466). -/
def noteCh (c bit : Nat) (s : State) : State := noteSet 0x13 (0x1000 + 0x40 * c + 8) bit s

/-- A descriptor line (R452). -/
def parseDesc (b : List Byte) : Desc :=
  { ctrl := u32 b 0, length := u32 b 4, src := u64 b 8, dst := u64 b 16, next := u64 b 24, rows := u32 b 32
    srcStride := i32 b 36, dstStride := i32 b 40, reserved := u32 b 44, index := u64 b 48, doneAddr := u64 b 56 }

/-- `mode` of R453. -/
def Desc.mode (d : Desc) : Nat := d.ctrl % 4
/-- `crc` of R453. -/
def Desc.crc (d : Desc) : Nat := fieldOf d.ctrl 3 2
/-- `prio` of R453. -/
def Desc.prio (d : Desc) : Nat := fieldOf d.ctrl 8 7

/-- Bytes that a descriptor transfers (R454). -/
def Desc.total (d : Desc) : Nat := if d.mode == 0 then d.length else d.rows * d.length

/-- Whether `n` bytes from `a` lie within one of DRAM, SRAM and MRAM (R455). -/
def inMemory (a n : Nat) : Bool :=
  match areaOf a, areaOf (a + n - 1) with
  | .dram, .dram | .sram, .sram | .mram, .mram => true
  | _, _ => false

/-- Row addresses of a range with a stride; none where one is negative. -/
def rowAddrs (base : Nat) (stride : Int) (rows : Nat) : List (Option Nat) :=
  (List.range rows).map fun (r : Nat) =>
    let a : Int := (base : Int) + (r : Int) * stride
    if a < 0 then none else some a.toNat

/-- Source ranges of a linear or 2-D descriptor, (address, length). -/
def Desc.srcRanges (d : Desc) : List (Option Nat) := if d.mode == 0 then [some d.src] else rowAddrs d.src d.srcStride d.rows
/-- Destination ranges of a descriptor with their length. -/
def Desc.dstRanges (d : Desc) : List (Option Nat) × Nat :=
  if d.mode == 0 then ([some d.dst], d.length)
  else if d.mode == 1 then (rowAddrs d.dst d.dstStride d.rows, d.length)
  else ([some d.dst], d.rows * d.length)

/-- Whether every range lies in memory. -/
def rangesOk (l : List (Option Nat)) (n : Nat) : Bool := l.all fun a => a.any fun x => inMemory x n

/-- Fields out of range under R452 and R453. -/
def Desc.fieldsBad (d : Desc) : Bool :=
  let m := d.mode
  d.ctrl / 512 != 0 || d.crc == 3 || m == 3 || d.reserved != 0 || d.next % 64 != 0 || d.doneAddr % 64 != 0
  || (if m == 0 then d.length == 0 || 16777216 < d.length || d.rows != 0
      else d.length == 0 || 65536 < d.length || d.rows == 0 || 65536 < d.rows)
  || (m != 1 && (d.srcStride != 0 || d.dstStride != 0))
  || (if m == 2 then d.index % 4 != 0 else d.index != 0)

/-- Alignment of the destination (R455): whole lines in DRAM, multiples of 8 in SRAM and MRAM. -/
def Desc.alignBad (d : Desc) : Bool :=
  let a := if areaOf d.dst == .dram then 64 else 8
  d.dst % a != 0 ||
    (if d.mode == 0 then d.length % a != 0
     else if d.mode == 1 then d.length % a != 0 || d.dstStride % (a : Int) != 0
     else (d.rows * d.length) % a != 0)

/-- Overlap of source and destination in linear and 2-D mode (R455). -/
def Desc.overlapBad (d : Desc) : Bool :=
  d.mode != 2 && (d.srcRanges.any fun a => d.dstRanges.1.any fun b =>
    match a, b with | some x, some y => overlaps x d.length y d.length | _, _ => false)

/-- The checks of R455 that need no offset list; `prev` is the `crc` of the channel's previous descriptor (R456). -/
def Desc.bad (d : Desc) (prev : Option Nat) : Bool :=
  d.fieldsBad || d.alignBad || d.overlapBad
  || (d.mode != 2 && !rangesOk d.srcRanges d.length) || !rangesOk d.dstRanges.1 d.dstRanges.2
  || (d.mode == 2 && !inMemory d.index (4 * d.rows)) || (d.doneAddr != 0 && !inMemory d.doneAddr 64)
  || (bitOf d.ctrl 4 && prev != some d.crc)

/-- The offset list of an index descriptor, line by line: none where a line is marked, with its address (R460). -/
def readOffsets (c : Nat) : Nat → Nat → State → (Except Nat (List Nat)) × State
  | 0, _, s => (.ok [], s)
  | n + 1, a, s =>
    let (l, s) := agentRead (lineOf a) (dmaId c) [] 0 s
    if l.mark then (.error (lineOf a), s) else
    match readOffsets c n (a + 4) s with
    | (.ok rest, s) => (.ok (ofLe ((l.data.drop (a % 64)).take 4) :: rest), s)
    | (.error e, s) => (.error e, s)

/-- A descriptor is taken up (R455): it becomes the channel's current one, or the channel enters ERROR. -/
def takeDesc (c : Nat) (d : Desc) (s : State) : State :=
  let x := s.dch c
  if d.bad x.prevCrc then dmaError c 1 s else
  let start := if bitOf d.ctrl 4 then x.crc else if d.crc == 1 then 0xFFFFFFFF else if d.crc == 2 then 0xFFFF else 0
  let run := fun (offs : List Nat) (s : State) => modCh c (fun x => { x with
    desc := some d, bytes := 0, crc := start, offs := offs, lastLine := none, halfDone := false, poisonLines := 0 }) s
  if d.mode != 2 then run [] s else
  match readOffsets c d.rows d.index s with
  | (.error line, s) => dmaError c 3 (consumePoison (dmaId c) line s)
  | (.ok offs, s) => if offs.all fun o => inMemory (d.src + o) d.length then run offs s else dmaError c 1 s

/-- Fetch the descriptor at an address (R461). -/
def fetchDesc (c a : Nat) (s : State) : State :=
  let s := modCh c (fun x => { x with current := a, st := .running }) s
  if !(reachable (dmaId c) a && inMemory a 64) then dmaError c 4 (accessFault (dmaId c) a s) else
  let (l, s) := agentRead (lineOf a) (dmaId c) [] 0 s
  if l.mark then dmaError c 2 (consumePoison (dmaId c) a s) else takeDesc c (parseDesc l.data) s

/-- Source address of byte `k` in destination order (R454). -/
def Desc.srcAt (d : Desc) (offs : List Nat) (k : Nat) : Nat :=
  if d.mode == 0 then d.src + k
  else if d.mode == 1 then ((d.src : Int) + (k / d.length : Nat) * d.srcStride + (k % d.length : Nat)).toNat
  else d.src + offs.getD (k / d.length) 0 + k % d.length

/-- Destination address of byte `k`. -/
def Desc.dstAt (d : Desc) (k : Nat) : Nat :=
  if d.mode == 1 then ((d.dst : Int) + (k / d.length : Nat) * d.dstStride + (k % d.length : Nat)).toNat else d.dst + k

/-- Bytes of the piece that starts at byte `k`: it ends at the destination line's end or with its row. -/
def Desc.pieceLen (d : Desc) (k : Nat) : Nat :=
  min (64 - d.dstAt k % 64) (if d.mode == 1 then d.length - k % d.length else d.total - k)

/-- Read the source lines of a piece, each once: their bytes by line, and whether every line could be read. -/
def readLines (c : Nat) : List Nat → State → List (Nat × LineRead) × Bool × State
  | [], s => ([], true, s)
  | a :: l, s =>
    if !reachable (dmaId c) a then ([], false, accessFault (dmaId c) a s) else
    let (x, s) := agentRead a (dmaId c) [] 0 s
    let (rest, ok, s) := readLines c l s
    ((a, x) :: rest, ok, s)

/-- Write one destination piece, marked if any source line was (R460). -/
def writePiece (c a : Nat) (data : List Byte) (mark : Bool) (s : State) : State :=
  if !reachable (dmaId c) a then accessFault (dmaId c) a s
  else if data.length == 64 || mark then storeLine (lineOf a) (if data.length == 64 then data else zeros 64) mark s
  else storePart a data s

/-- A running CRC over bytes by kind (R456). -/
def crcStep (kind c : Nat) (bs : List Byte) : Nat :=
  if kind == 1 then Crypto.crcRun c bs else if kind == 2 then Crypto.crc16Run c bs else c

/-- Transfer pieces until `target` bytes of the descriptor are done; stops where the channel is no longer running. -/
def transfer (c target : Nat) : Nat → State → State
  | 0, s => s
  | fuel + 1, s =>
    let x := s.dch c
    match x.desc with
    | none => s
    | some d =>
      if x.st != .running || target ≤ x.bytes then s else
      let n := d.pieceLen x.bytes
      let srcs := (List.range n).map fun i => d.srcAt x.offs (x.bytes + i)
      let (ls, ok, s) := readLines c (srcs.map lineOf).eraseDups s
      if !ok then dmaError c 4 s else
      let data := srcs.map fun a => (((aget ls (lineOf a)).map (·.data)).getD []).getD (a % 64) 0
      let mark := ls.any fun e => e.2.mark
      let dst := d.dstAt x.bytes
      let before := x.lastLine == some (lineOf dst, true)
      let s := writePiece c dst data mark s
      let s := modCh c (fun x => { x with
        bytes := x.bytes + n, crc := crcStep d.crc x.crc data, lastLine := some (lineOf dst, mark || before)
        poisonCarried := x.poisonCarried || mark, poisonLines := x.poisonLines + b2n (mark && !before) }) (if mark then noteCh c 5 s else s)
      transfer c target fuel s

/-- The owner partition's interrupt (R459): a bit set again before it is cleared sets `IRQ_OVERRUN`. -/
def raiseIrq (c : Nat) (isFull : Bool) (s : State) : State :=
  let was := if isFull then s.dma.full.getD c false else s.dma.half.getD c false
  let s := if was then noteCh c 6 (modCh c (fun x => { x with irqOverrun := true }) s) else s
  let s := noteSet 0x13 8 (if isFull then 16 + c else c) s
  let o := (s.dch c).owner
  if isFull then { s with dma := { s.dma with full := s.dma.full.set c true, irqs := o :: s.dma.irqs } }
  else { s with dma := { s.dma with half := s.dma.half.set c true, irqs := o :: s.dma.irqs } }

/-- Read back the last line written (R457); whether it met an access fault or a mark the data did not carry. -/
def readBack (c line : Nat) (mark : Bool) (s : State) : Bool × State :=
  if !reachable (dmaId c) line then (true, accessFault (dmaId c) line s) else
  let (l, s) := agentRead line (dmaId c) [] 0 s
  (l.mark && !mark, s)

/-- The tail is read again and only its `next` is used (R462). -/
def tailReread (c : Nat) (s : State) : State :=
  let a := (s.dch c).current
  if !reachable (dmaId c) a then dmaError c 4 (accessFault (dmaId c) a s) else
  let (l, s) := agentRead (lineOf a) (dmaId c) [] 0 s
  if l.mark then dmaError c 2 (consumePoison (dmaId c) a s) else
  let next := u64 l.data 24
  if next == 0 then modCh c (fun x => { x with st := .idleAtTail }) s
  else if next % 64 != 0 then dmaError c 1 s
  else fetchDesc c next s

/-- The completion record (R458). -/
def completionRecord (x : DmaCh) (d : Desc) (t : Nat) : List Byte :=
  let crc := if d.crc == 1 then x.crc ^^^ 0xFFFFFFFF else if d.crc == 2 then x.crc else 0
  le 8 x.current ++ le 8 t ++ le 4 x.bytes ++ le 4 crc ++ le 2 (b2n (x.poisonLines != 0)) ++ le 2 (min 65535 x.poisonLines)
    ++ le 4 ((x.done + 1) % 2 ^ 32) ++ zeros 32

/-- HALF_COMPLETION (R459): the bytes reach half the total for the first time. -/
def doHalf (c : Nat) (s : State) : State :=
  let x := s.dch c
  match x.desc with
  | none => s
  | some d =>
    if x.st != .running || x.halfDone then s else
    let s := transfer c ((d.total + 1) / 2) (d.total + 1) s
    let x := s.dch c
    if x.st != .running then s else
    match x.lastLine with
    | none => s
    | some (line, mark) =>
      let (bad, s) := readBack c line mark s
      if bad then dmaError c 5 s else
      let s := modCh c (fun x => { x with halfDone := true }) s
      if bitOf d.ctrl 5 then raiseIrq c false s else s

/-- DESCRIPTOR_COMPLETE (R457, R461): the data writes, the record, the read-back, the count and interrupt, then the next
descriptor, the tail, or the end of the chain. -/
def doDescriptorComplete (c : Nat) (s : State) : State :=
  let x := s.dch c
  match x.desc with
  | none => s
  | some d =>
    if x.st != .running then s else
    let s := transfer c d.total (d.total + 1) (if bitOf d.ctrl 5 then doHalf c s else s)
    let x := s.dch c
    if x.st != .running then s else
    let s := if d.doneAddr == 0 then s else
      modCh c (fun y => { y with lastLine := some (d.doneAddr, false) })
        (if reachable (dmaId c) d.doneAddr then storeLine d.doneAddr (completionRecord x d s.time) false s
         else accessFault (dmaId c) d.doneAddr s)
    match (s.dch c).lastLine with
    | none => s
    | some (line, mark) =>
      let (bad, s) := readBack c line mark s
      if bad then dmaError c 5 s else
      let s := modCh c (fun x => { x with done := (x.done + 1) % 2 ^ 32, prevCrc := some d.crc, desc := none }) s
      let s := if bitOf d.ctrl 6 then raiseIrq c true s else s
      if d.next != 0 then fetchDesc c d.next s
      else if (s.dch c).doorbellPending then tailReread c (modCh c (fun x => { x with doorbellPending := false }) s)
      else modCh c (fun x => { x with st := .idleAtTail }) s

/-- Whether a partition may write a channel's page (R464). -/
def ownsCh (c n : Nat) (s : State) : Bool := (s.dch c).owner == n

/-- DMA_START (R461, R464, R466). -/
def doDmaStart (c n : Nat) (s : State) : State :=
  if !ownsCh c n s then dmaAccessFault s else
  let x := s.dch c
  match x.st with
  | .running | .idleAtTail => dmaAccessFault s
  | _ =>
    if !x.enabled then s
    else fetchDesc c x.head (modCh c (fun x => { x with cause := 0, prevCrc := none }) s)

/-- DMA_ABORT (R461): no further write, record or interrupt. -/
def doDmaAbort (c n : Nat) (s : State) : State :=
  if !ownsCh c n s then dmaAccessFault s else
  match (s.dch c).st with
  | .running | .idleAtTail => modCh c (fun x => { x with st := .stopped, desc := none }) s
  | _ => s

/-- CH_DOORBELL (R461 to R463). -/
def doDoorbell (c n : Nat) (s : State) : State :=
  if !ownsCh c n s then dmaAccessFault s else
  match (s.dch c).st with
  | .running => modCh c (fun x => { x with doorbellPending := true }) s
  | .idleAtTail => tailReread c s
  | _ => s

/-! ## Registers (R464 to R467) -/

/-- The state codes of R461. -/
def DmaSt.code : DmaSt → Nat
  | .stopped => 0 | .running => 1 | .idleAtTail => 2 | .error => 3

/-- `CH_STATUS` (R466). -/
def chStatus (x : DmaCh) : Nat :=
  x.st.code + 16 * b2n x.doorbellPending + 32 * b2n x.poisonCarried + 64 * b2n x.irqOverrun + 128 * b2n x.enabled + 256 * x.cause

/-- One 32-bit word of the DMA register block; none at an unused offset. -/
def dmaReadWord (off : Nat) (s : State) : Option Nat :=
  if off == 0 then some (b2n s.dma.accessFault * 2 ^ 31 + bitsN (s.dma.ch.map fun x => x.st == .error))
  else if off == 8 then some (bitsN s.dma.half + 65536 * bitsN s.dma.full)
  else if 0x1000 ≤ off && off < 0x1400 then
    let x := s.dch ((off - 0x1000) / 0x40)
    match (off - 0x1000) % 0x40 with
    | 0x00 => some 0 | 0x04 => some 0 | 0x08 => some (chStatus x)
    | 0x10 => some (x.head % 2 ^ 32) | 0x14 => some (x.head / 2 ^ 32)
    | 0x18 => some (x.current % 2 ^ 32) | 0x1C => some (x.current / 2 ^ 32)
    | 0x20 => some x.bytes | 0x24 => some x.done | 0x28 => some x.crc | _ => none
  else none

/-- A write of one 32-bit word by a partition; none at an unused offset (R436). -/
def dmaWriteWord (n off v : Nat) (s : State) : Option State :=
  if off == 0 then
    some (if s.supervisory == some n then
      (if bitOf v 31 then { s with dma := { s.dma with accessFault := false } } else s) else dmaAccessFault s)
  else if off == 8 then
    let touched := (List.range 16).filter fun c => bitOf v c || bitOf v (16 + c)
    some (if touched.all fun c => ownsCh c n s then
      { s with dma := { s.dma with
        half := s.dma.half.zipIdx.map (fun e => e.1 && !bitOf v e.2)
        full := s.dma.full.zipIdx.map (fun e => e.1 && !bitOf v (16 + e.2)) } } else dmaAccessFault s)
  else if 0x1000 ≤ off && off < 0x1400 then
    let c := (off - 0x1000) / 0x40
    let own := fun (f : State) => if ownsCh c n s then some f else some (dmaAccessFault s)
    match (off - 0x1000) % 0x40 with
    | 0x00 =>
      let s1 := if bitOf v 1 then doDmaAbort c n s else s
      own (if bitOf v 0 then doDmaStart c n s1 else s1)
    | 0x04 => own (doDoorbell c n s)
    | 0x08 => own (modCh c (fun x => { x with irqOverrun := x.irqOverrun && !bitOf v 6
                                              poisonCarried := x.poisonCarried && !bitOf v 5 }) s)
    | 0x10 => own (modCh c (fun x => { x with head := x.head / 2 ^ 32 * 2 ^ 32 + v % 2 ^ 32 / 64 * 64 }) s)
    | 0x14 => own (modCh c (fun x => { x with head := x.head % 2 ^ 32 + v % 2 ^ 16 * 2 ^ 32 }) s)
    | 0x18 | 0x1C | 0x20 | 0x24 | 0x28 => own s
    | _ => none
  else none

/-! ## Commands -/

/-- What refuses `DMA_CHANNEL_SET`, in its order (step 8 of R73). -/
def chkDmaChannelSet (r : Req) (s : State) : List (Bool × Status) :=
  let b := r.p.payload
  let c := (unitIndex r.p.target 0x13).getD 0xFFFF
  let x := s.dch c
  [ (15 < c, .badParam), (!s.isHost r.port, .notOwner),
    (1 < u8 b 0 || 127 < u8 b 1 || reservedSet b [(2, 2)], .badParam),
    (x.st != .stopped && x.st != .error, .wrongState) ]

/-- `DMA_CHANNEL_SET` (R464). -/
def effDmaChannelSet (r : Req) (s : State) : Res × State :=
  let b := r.p.payload
  let c := (unitIndex r.p.target 0x13).getD 0xFFFF
  let x := s.dch c
  check s (chkDmaChannelSet r s) fun _ =>
    done (modCh c (fun x => { x with enabled := u8 b 0 == 1, owner := u8 b 1 }) s)

/-- What refuses `DMA_STATUS`, in its order (step 8 of R73). -/
def chkDmaStatus (r : Req) (s : State) : List (Bool × Status) :=
  let c := (unitIndex r.p.target 0x13).getD 0xFFFF
  [(15 < c, .badParam)]

/-- `DMA_STATUS`. -/
def effDmaStatus (r : Req) (s : State) : Res × State :=
  let c := (unitIndex r.p.target 0x13).getD 0xFFFF
  let x := s.dch c
  check s (chkDmaStatus r s) fun _ =>
    answer (le 4 (chStatus x) ++ le 1 x.owner ++ zeros 3 ++ le 8 x.current ++ le 4 x.bytes ++ le 4 x.done ++ le 8 s.time) s

end Sys2Proof.Machine
end

