-- ==== Sys2Proof/Machine/Lpe.lean ====
section
/-! DEFINITION. Chapter 09: banks, the control law, region scheduling, swaps, the states of a loop, engines, trace units,
registers and the rules of the LPE commands. -/
namespace Sys2Proof.Machine

/-! ## Loops -/

/-- A loop slot. -/
def State.loop (s : State) (n : Nat) : Loop := s.lpe.loops.getD n {}

/-- Change a loop slot. -/
def modLoop (n : Nat) (f : Loop → Loop) (s : State) : State := { s with lpe := { s.lpe with loops := updAt s.lpe.loops n f } }

/-- The period of a loop in ns (R215). -/
def LoopCfg.ns (c : LoopCfg) : Nat :=
  if c.classP then ([1, 2, 5, 10, 20, 50, 100].getD c.period 1) * ms else ([20, 25, 50, 100, 200, 1000].getD c.period 20) * us

/-- The state codes of R219. -/
def LoopSt.code : LoopSt → Nat
  | .free => 0 | .idle => 1 | .run => 2 | .hold => 3 | .failed => 4

/-- The loop of an owner: kind and index (R200). -/
def State.findLoop (s : State) (kind index : Nat) : Option Nat :=
  (s.lpe.loops.zipIdx.find? fun e => e.1.st != .free && e.1.cfg.kind == kind && e.1.cfg.index == index).map (·.2)

/-- `LPE_EVENT`: to the owner's mailbox and the hosts, with its Cairn event. -/
def lpeEvent (cause : Nat) (phys logi loop : Option Nat) (target owner : Nat) (s : State) : State :=
  event 0x0880 target (le 1 cause ++ le 1 (orFF phys) ++ le 1 (orFF logi) ++ le 1 (orFF loop) ++ zeros 4 ++ le 8 s.time)
    (if owner < 128 then [owner] else []) (0x20 + (logi.bind fun l => s.lpe.map[l]?).getD 0) s

/-- `LPE_EVENT` about a loop. -/
def loopEvent (cause n : Nat) (s : State) : State :=
  lpeEvent cause none (some (n / 16)) (some n) (unit 0x08 n) (s.loop n).cfg.owner s

/-! ## Banks (R209) -/

/-- The cells of a bank. -/
def Loop.bank (l : Loop) (b : Nat) : List Host.Cell := if b == 0 then l.bankA else l.bankB

/-- A 32-bit field of a bank. -/
def Loop.b32 (l : Loop) (b off : Nat) : F32 := BitVec.ofNat 32 (ofLe (memReadList (l.bank b) off 4))
/-- A 16-bit field of a bank. -/
def Loop.b16 (l : Loop) (b off : Nat) : Nat := ofLe (memReadList (l.bank b) off 2)
/-- A byte of a bank. -/
def Loop.b8 (l : Loop) (b off : Nat) : Nat := (memRead (l.bank b) off).toNat

/-- `regions`. -/
def Loop.regions (l : Loop) (b : Nat) : Nat := l.b8 b 0
/-- `z_hold`. -/
def Loop.zHold (l : Loop) (b : Nat) : Nat := l.b16 b 2
/-- `z_handle`. -/
def Loop.zHandle (l : Loop) (b : Nat) : Nat := (l.b32 b 4).toNat
/-- `rep_bins`. -/
def Loop.repBins (l : Loop) (b : Nat) : Nat := l.b16 b 96
/-- Threshold k. -/
def Loop.zTh (l : Loop) (b k : Nat) : F32 := l.b32 b (8 + 4 * k)
/-- Error breakpoint k of a region's table (R205). -/
def Loop.tabE (l : Loop) (b r k : Nat) : F32 := l.b32 b (128 + 520 * r + 4 * k)
/-- Gain k of a region's table (R205). -/
def Loop.tabG (l : Loop) (b r k : Nat) : F32 := l.b32 b (128 + 520 * r + 260 + 4 * k)

/-- Strictly ascending finite values. -/
def ascending : List F32 → Bool
  | a :: b :: l => f32Ok a && f32Ok b && f32Lt a b && ascending (b :: l)
  | [a] => f32Ok a
  | [] => true

/-- The ranges and orders that a bank must meet (R205, R209, R211). -/
def Loop.bankValid (l : Loop) (b : Nat) : Bool :=
  let m := l.regions b
  let zero := fun (from_ n : Nat) => (memReadList (l.bank b) from_ n).all (· == 0)
  1 ≤ m && m ≤ 8 && l.b8 b 1 < 4 && 1 ≤ l.zHold b && l.zHold b ≤ 10000
  && (if m == 1 then l.zHandle b == 0 else handleOk (l.zHandle b))
  && ascending ((List.range (m - 1)).map (l.zTh b)) && f32Ok (l.b32 b 36) && !f32Lt (l.b32 b 36) 0
  && f32Ok (l.b32 b 40) && f32Ok (l.b32 b 44) && f32In (l.b32 b 48) 0 1
  && f32Ok (l.b32 b 52) && f32Ok (l.b32 b 56) && f32Ok (l.b32 b 60)
  && f32Ok (l.b32 b 64) && f32Ok (l.b32 b 68) && f32Lt (l.b32 b 64) (l.b32 b 68) && f32Ok (l.b32 b 72) && !f32Lt (l.b32 b 72) 0
  && f32Ok (l.b32 b 76) && f32Ok (l.b32 b 80) && f32Le (l.b32 b 76) 0 && f32Le 0 (l.b32 b 80)
  && f32In (l.b32 b 84) 0 1 && f32In (l.b32 b 88) (9 / 10) 1 && f32Ok (l.b32 b 92) && f32Lt 0 (l.b32 b 92)
  && 16 ≤ l.repBins b && l.repBins b ≤ 512 && l.b16 b 98 < l.repBins b && f32In (l.b32 b 100) (1 / 100) (1 / 2)
  && zero 104 24 && zero 4288 3904
  && ((List.range m).all fun r => ascending ((List.range 65).map (l.tabE b r)) && f32IsZero (l.tabE b r 32)
        && (List.range 65).all fun k => f32Ok (l.tabG b r k))

/-- Whether a bank holds a marked line (R212). -/
def Loop.bankPoisoned (l : Loop) (b : Nat) : Bool := l.bankPoison.any fun x => x / 2048 == b

/-- Whether a bank may be written (R211): the standby bank of a loop in RUN or HOLD, either bank of a loop in IDLE. -/
def Loop.writable (l : Loop) (b : Nat) : Bool :=
  match l.st with
  | .idle => true
  | .run | .hold => b != l.selected && b != l.effective
  | _ => false

/-- Bytes written to a bank; a marked source leaves its mark, and rewriting a whole line clears it (R212, R443). -/
def writeBank (n b off : Nat) (data : List Byte) (mark : Bool) (s : State) : State :=
  modLoop n (fun l =>
    let l := { l with bankPoison := remark l.bankPoison ((List.range (data.length / 4)).map fun i => 2048 * b + off / 4 + i) mark }
    if b == 0 then { l with bankA := memWriteList l.bankA off data } else { l with bankB := memWriteList l.bankB off data }) s

/-! ## Arithmetic of the law (R203) -/

/-- A finite value; a non-finite intermediate value ends the sample. -/
def fin32 (x : F32) : Option F32 := if f32Special x then none else some x
/-- Sum. -/
def fA (a b : F32) : Option F32 := fin32 (f32Add a b)
/-- Difference. -/
def fS (a b : F32) : Option F32 := fin32 (f32Sub a b)
/-- Product. -/
def fM (a b : F32) : Option F32 := fin32 (f32Mul a b)
/-- Quotient. -/
def fD (a b : F32) : Option F32 := fin32 (f32Div a b)
/-- A value limited to a range. -/
def clampF (v lo hi : F32) : F32 := if f32Lt v lo then lo else if f32Lt hi v then hi else v

/-- The gain of a table at an error (R205). -/
def gainAt (l : Loop) (b r : Nat) (e : F32) : Option F32 :=
  if f32Le e (l.tabE b r 0) then some (l.tabG b r 0)
  else if f32Le (l.tabE b r 64) e then some (l.tabG b r 64)
  else do
    let j := ((List.range 64).filter fun j => f32Le (l.tabE b r j) e).getLastD 0
    let f ← fD (← fS e (l.tabE b r j)) (← fS (l.tabE b r (j + 1)) (l.tabE b r j))
    fA (l.tabG b r j) (← fM f (← fS (l.tabG b r (j + 1)) (l.tabG b r j)))

/-- Region selection without a fresh choice (R206); the fuel bounds the steps by the number of regions. -/
def stepRegion (l : Loop) (b : Nat) (z : F32) : Nat → Nat → Option Nat
  | 0, r => some r
  | fuel + 1, r => do
    let m := l.regions b
    let h := l.b32 b 36
    if r < m - 1 then
      if f32Le (← fA (l.zTh b r) h) z then return ← stepRegion l b z fuel (r + 1)
    if 0 < r then
      if f32Lt z (← fS (l.zTh b (r - 1)) h) then return ← stepRegion l b z fuel (r - 1)
    return r

/-- A fresh choice of region (R206): the number of thresholds at most z. -/
def freshRegion (l : Loop) (b : Nat) (z : F32) : Nat :=
  ((List.range (l.regions b - 1)).filter fun k => f32Le (l.zTh b k) z).length

/-- The repetitive term (R213): its output, and the memory after learning. -/
def repTerm (l : Loop) (t : Nat) (e : F32) : Option (F32 × Loop) :=
  let b := l.effective
  if !bitOf (l.b8 b 1) 1 then some (0, l) else
  match l.tp, l.per with
  | some tp, some per =>
    if 2 * per < t - tp then some (0, { l with repLost := true, repLostPulses := if l.repLost then l.repLostPulses else 0 }) else do
    let n := l.repBins b
    let x ← fM (← fD (qf32 ((t - tp : Nat) : Rat)) (qf32 ((per : Nat) : Rat))) (qf32 ((n : Nat) : Rat))
    let bin := (f32d x).floor.toNat % n
    let out := l.rep.getD ((bin + l.b16 b 98) % n) 0
    if l.noLearn || l.uClamped then return (out, l)
    let m ← fA (← fM (l.b32 b 88) (l.rep.getD bin 0)) (← fM (l.b32 b 84) e)
    let m := clampF m (f32Neg (l.b32 b 92)) (l.b32 b 92)
    let mem := l.rep ++ List.replicate (n - l.rep.length) 0
    return (out, { l with rep := mem.set bin m })
  | _, _ => some (0, l)

/-- The set-point of a sample (R204, R214): the source's value, filtered where it is followed, held where it is unusable. -/
def lawSetPoint (l : Loop) (inp : LoopIn) (tSec : F32) : Option (F32 × Loop) :=
  match inp.sp with
  | none => some (l.lastR, { l with spHold := true })
  | some x =>
    if l.cfg.spSrc == 3 && l.cfg.kind == 4 then do
      let tgt ← fA (← fM l.cfg.followRatio x) l.cfg.followOffset
      if !l.rfStarted then return (tgt, { l with rf := tgt, rfStarted := true, lastR := tgt, spHold := false })
      let rf ← if f32IsZero l.cfg.followTau then some tgt
        else fA l.rf (← fM (← fD tSec (← fA l.cfg.followTau tSec)) (← fS tgt l.rf))
      return (rf, { l with rf := rf, lastR := rf, spHold := false })
    else some (x, { l with lastR := x, spHold := false })

/-- The bank whose region signal counts (R206, R207): the effective one, and in FALLBACK the selected one, whose signal was lost
(log entry 220). -/
def Loop.zBank (l : Loop) : Nat := if l.fallback then l.selected else l.effective

/-- The region signal of a sample: none where it is unusable or none is read. -/
def Loop.zOf (l : Loop) (inp : LoopIn) : Option F32 :=
  if l.regions l.zBank ≤ 1 then none else if l.zBank == 0 then inp.zA else inp.zB

/-- The law of R202 from the error on, in binary32 (R203). `old` is the bank and region before this sample (R208). -/
def lawStep (l : Loop) (inp : LoopIn) (y : F32) (old : Nat × Nat) : Option Loop := do
  let b := l.effective
  let tSec := qf32 (((l.cfg.ns : Nat) : Rat) / 1000000000)
  let xff := inp.ff.getD l.xff
  let (r, l) ← lawSetPoint l inp tSec
  let e ← fS r y
  let g ← gainAt l b l.region e
  let bump := bitOf (l.b8 b 1) 0 && old != (b, l.region)
  let go ← if bump then gainAt l old.1 old.2 e else some g
  let iMin := l.b32 b 76
  let iMax := l.b32 b 80
  let i0 ← if bump then do
      let a ← fA l.i (← fM go e)
      let c ← fS a (← fM g e)
      pure (clampF c iMin iMax)
    else some l.i
  let yPrev := if l.first || l.st == .hold then y else l.yPrev
  let rPrev := if l.first then r else l.rPrev
  let d0 := if l.first then 0 else l.d
  let p ← fM g e
  let slope ← fD (← fS y yPrev) tSec
  let d ← fA d0 (← fM (l.b32 b 48) (← fS (← fM (f32Neg (l.b32 b 44)) slope) d0))
  let rs ← fD (← fS r rPrev) tSec
  let ff ← fA (← fA (← fM (l.b32 b 52) r) (← fM (l.b32 b 56) rs)) (← fM (l.b32 b 60) xff)
  let (q, l) ← repTerm l inp.t e
  let v ← fA (← fA (← fA (← fA p i0) d) ff) q
  let u1 := clampF v (l.b32 b 64) (l.b32 b 68)
  let rate := l.b32 b 72
  let u ← if f32Lt 0 rate then do
      let step ← fM rate tSec
      pure (clampF u1 (← fS l.uLast step) (← fA l.uLast step))
    else some u1
  let wind := (f32Lt u v && f32Lt 0 e) || (f32Lt v u && f32Lt e 0)
  let i ← if wind then some i0 else do
      let x ← fA i0 (← fM (← fM (l.b32 b 40) e) tSec)
      pure (clampF x iMin iMax)
  return { l with
    st := .run, first := false, i := i, d := d, yPrev := y, rPrev := r, uLast := u, out := u, stamp := inp.t
    xff := xff, ffHold := inp.ff.isNone && l.cfg.ffHandle != 0
    iLimited := i == iMin || i == iMax, uLimited := u != v, uClamped := u1 != v
    nodes := { r := r, y := y, e := e, g := g, p := p, i := i, d := d, ff := ff, q := q, v := v, u := u
               region := qf32 ((l.region : Nat) : Rat), z := (l.zOf inp).getD 0 } }

/-! ## Swaps and FALLBACK -/

/-- What stops a bank from becoming effective (R211, R212). -/
def Loop.refuses (l : Loop) (b : Nat) : Option Status :=
  if l.bankPoisoned b then some .poisoned else if !l.bankValid b then some .configRejected else none

/-- A W1C bit of `LOOP_STATUS` is set (R10, R232). -/
def noteLoop (n bit : Nat) (s : State) : State := noteSet 0x08 (0x10000 + 0x100 * n + 4) bit s

/-- A W1C bit of `TRC_STATUS` is set (R10, R235). -/
def noteTrace (u bit : Nat) (s : State) : State := noteSet 0x08 (0x20000 + 0x80 * u + 0x0C) bit s

/-- A bank is refused: `POISON` or `SWAP_REJECTED` is set and `LPE_EVENT` sent (R211, R212). -/
def refuseBank (n : Nat) (st : Status) (s : State) : State :=
  if st == .poisoned then
    loopEvent 4 n (consumePoison (0x20 + s.lpe.map.getD (n / 16) 0) (regBase + 0x08000000 + 0x200000 + 0x4000 * n)
      (noteLoop n 14 (modLoop n (fun l => { l with fPoison := true }) s)))
  else loopEvent 5 n (noteLoop n 13 (modLoop n (fun l => { l with swapRejected := true }) s))

/-- A swap takes effect or is refused (R210, R211). -/
def applySwap (n b : Nat) (s : State) : Status × State :=
  let l := s.loop n
  if b == l.selected then (.done, s) else
  match (if l.fallback then none else l.refuses b) with
  | some st => (st, refuseBank n st s)
  | none =>
    (.done, modLoop n (fun l =>
      let l' := { l with selected := b, effective := if l.fallback then l.effective else b, freshDue := true }
      if !l.fallback && l.repBins 0 != l.repBins 1 then { l' with rep := [] } else l') s)

/-- The swap that waits for a loop's boundary is carried out; its command ends. -/
def takeSwap (n : Nat) (s : State) : State :=
  match (s.loop n).pendingSwap with
  | none => s
  | some (b, r) =>
    let (st, s) := applySwap n b (modLoop n (fun l => { l with pendingSwap := none }) s)
    match r with
    | some r => finish r st [] s
    | none => s

/-- A swap request reaches a loop (R210): the last one before a boundary decides; on an IDLE loop it takes effect at once. -/
def requestSwap (n b : Nat) (r : Option Req) (s : State) : State :=
  let l := s.loop n
  let s := match l.pendingSwap with
    | some (_, some old) => finish old .superseded [] s
    | _ => s
  let s := modLoop n (fun l => { l with pendingSwap := some (b, r) }) s
  if l.st == .idle then takeSwap n s else s

/-- The bank that FALLBACK uses becomes effective, or the one in use stays (R207). -/
def enterFallback (n : Nat) (s : State) : State :=
  let l := s.loop n
  let fb := l.cfg.fbBank
  let s := modLoop n (fun l => { l with fallback := true, goodZ := 0 }) s
  let s := match (if fb == l.effective then none else l.refuses fb) with
    | some st => refuseBank n st s
    | none => modLoop n (fun l => { l with effective := fb, freshDue := false
                                           region := if l.cfg.fbRegion < l.regions fb then l.cfg.fbRegion else 0 }) s
  loopEvent 6 n s

/-- FALLBACK ends: the selected bank becomes effective again with a fresh choice of region (R207). -/
def leaveFallback (n : Nat) (s : State) : State :=
  let l := s.loop n
  let s := modLoop n (fun l => { l with fallback := false, badZ := 0 }) s
  let s := match (if l.selected == l.effective then none else l.refuses l.selected) with
    | some st => refuseBank n st s
    | none => modLoop n (fun l => { l with effective := l.selected, freshDue := true }) s
  loopEvent 7 n s

/-- FALLBACK counting of one sample (R207). -/
def fallbackStep (n : Nat) (z : Option F32) (s : State) : State :=
  let l := s.loop n
  let b := l.zBank
  if l.fallback && l.regions b ≤ 1 then leaveFallback n s
  else if l.fallback then
    match z with
    | some _ =>
      let s := modLoop n (fun l => { l with goodZ := l.goodZ + 1 }) s
      if l.zHold b ≤ l.goodZ + 1 then leaveFallback n s else s
    | none => modLoop n (fun l => { l with goodZ := 0 }) s
  else if l.regions b ≤ 1 then s
  else match z with
    | some _ => modLoop n (fun l => { l with badZ := 0 }) s
    | none =>
      let s := modLoop n (fun l => { l with badZ := l.badZ + 1 }) s
      if l.zHold b ≤ l.badZ + 1 then enterFallback n s else s

/-- Region of this sample (R206); none where the selection meets a non-finite value. `stays` says that FALLBACK has ended in this sample
on a bank that is refused: the one in use stays at the region it held (R207). -/
def chooseRegion (stays : Bool) (l : Loop) (z : Option F32) : Option Loop :=
  let m := l.regions l.effective
  if l.fallback || stays then some l
  else if m ≤ 1 then some { l with region := 0, freshDue := false }
  else match z with
    | none => some { l with region := min l.region (m - 1) }
    | some z =>
      if l.freshDue then some { l with region := freshRegion l l.effective z, freshDue := false }
      else (stepRegion l l.effective z 16 l.region).map fun r => { l with region := r }

/-! ## Run and stop (R219) -/

/-- A loop enters RUN from IDLE (R211, R212, R219); `yOut` is what its destination holds (R202). -/
def runLoop (n : Nat) (yOut : F32) (s : State) : Status × State :=
  let l := s.loop n
  match l.st with
  | .run | .hold => (.done, s)
  | .failed => (.hwFault, s)
  | .free => (.wrongState, s)
  | .idle =>
    match l.refuses l.effective with
    | some st => (st, refuseBank n st s)
    | none =>
      (.done, modLoop n (fun l => { l with st := .run, first := true, freshDue := true, uLast := yOut, rep := [], rfStarted := false,
                                           idleDue := false, kept := none, pendingOut := none }) s)

/-- A loop is stopped: IDLE, with `idle_out` due at the next sample instant (R219); a swap that waits takes effect at once (R210). -/
def stopLoop (n : Nat) (s : State) : State :=
  match (s.loop n).st with
  | .run | .hold => modLoop n (fun l => { l with st := .idle, idleDue := true, pendingOut := none, kept := none, fallback := false,
                                                 effective := l.selected, badZ := 0, goodZ := 0 }) s |> takeSwap n
  | _ => s

/-- Stop the loop of an owner, if it has one. -/
def stopOwned (kind index : Nat) (s : State) : State :=
  match s.findLoop kind index with | some n => stopLoop n s | none => s

/-- Run the loop of an owner, if it has one. -/
def runOwned (kind index : Nat) (yOut : F32) (s : State) : Status × State :=
  match s.findLoop kind index with | some n => runLoop n yOut s | none => (.hwFault, s)

/-- A loop goes to HOLD (R203, R204). -/
def holdLoop (n : Nat) (s : State) : State :=
  if (s.loop n).st == .hold then s else loopEvent 8 n (modLoop n (fun l => { l with st := .hold }) s)

/-! ## Trace units (R225 to R227) -/

/-- A trace unit. -/
def State.trace (s : State) (u : Nat) : Trace := s.lpe.traces.getD u {}
/-- Change a trace unit. -/
def modTrace (u : Nat) (f : Trace → Trace) (s : State) : State := { s with lpe := { s.lpe with traces := updAt s.lpe.traces u f } }

/-- The value of a node of a loop (R225). -/
def nodeValue (x : LoopNodes) (code : Nat) : F32 :=
  match code with
  | 0 => x.r | 1 => x.y | 2 => x.e | 3 => x.g | 4 => x.p | 5 => x.i | 6 => x.d | 7 => x.ff | 8 => x.q | 9 => x.v | 10 => x.u
  | 11 => x.region | 12 => x.z | _ => 0

/-- The eight nodes of a unit as they stand. -/
def traceSample (t : Trace) (s : State) : List F32 := t.nodes.map fun w => nodeValue (s.loop (fieldOf w 14 8)).nodes (w % 16)

/-- `LPE_EVENT` about a trace unit. -/
def traceEvent (cause u : Nat) (s : State) : State :=
  lpeEvent cause none (some u) none (unit 0x08 (0x100 + u)) (s.supervisory.getD 0xFF) s

/-- What happened to the clock loop in a sample, for trigger kinds 4 to 6. -/
structure ClockFlags where
  region : Bool := false
  swap : Bool := false
  fault : Bool := false
deriving DecidableEq, Repr, Inhabited

/-- Whether the value of the named node triggers an armed unit (R226). -/
def nodeTriggers (t : Trace) : Bool :=
  let rising := match t.prev, t.cur with | some a, some b => f32Lt a t.level && f32Le t.level b | _, _ => false
  let falling := match t.prev, t.cur with | some a, some b => f32Le t.level a && f32Lt b t.level | _, _ => false
  match t.kind with | 1 => rising | 2 => falling | 3 => rising || falling | _ => false

/-- Whether software or what happened to the clock loop triggers an armed unit (R226). -/
def clockTriggers (t : Trace) (c : ClockFlags) : Bool :=
  t.sw || (match t.kind with | 4 => c.region | 5 => c.swap | 6 => c.fault | _ => false)

/-- An armed unit after the sample of an instant: triggered, or still armed. -/
def Trace.judge (t : Trace) (at_ : Nat) : Trace :=
  if t.hit || nodeTriggers t then { t with st := 2, tstamp := at_, left := 8192 - t.pre, sw := false } else { t with st := 1 }

/-- A pair of samples as a 64-byte line. -/
def traceLine (a b : List F32) : List Byte := (a ++ b).flatMap fun x => le 4 x.toNat

/-- Buffered samples leave in pairs as whole lines (R227). -/
def traceDrain (u : Nat) (s : State) : State :=
  let t := s.trace u
  match t.buf with
  | a :: b :: rest =>
    let s := storeLine (t.base + 64 * t.wr) (traceLine a b) false s
    modTrace u (fun t => { t with buf := rest, mate := some a, wr := if t.wr + 1 < t.size then t.wr + 1 else 0 }) s
  | _ => s

/-- A unit takes a sample of its clock loop's instant, or renews it as other loops of that instant are sampled. -/
def traceTake (u at_ : Nat) (c : ClockFlags) (s : State) : State :=
  let t := s.trace u
  let x := traceSample t s
  let cur := x.getD t.nodeSlot 0
  if t.lastT == some at_ then
    if t.mode == 2 then
      if !t.buf.isEmpty then modTrace u (fun t => { t with buf := t.buf.dropLast ++ [x] }) s
      else match t.mate with
        | some a => storeLine (t.base + 64 * (if t.wr == 0 then t.size - 1 else t.wr - 1)) (traceLine a x) false s
        | none => s
    else
      let t := { t with ring := t.ring.dropLast ++ [x], cur := some cur }
      modTrace u (fun _ => if t.st == 1 || (t.st == 2 && t.tstamp == at_) then t.judge at_ else t) s
  else if t.skip != 0 then modTrace u (fun t => { t with skip := t.skip - 1 }) s
  else
    let ring := t.ring ++ [x]
    let ring := if 8192 < ring.length then ring.drop 1 else ring
    let t := { t with lastT := some at_, prev := t.cur, cur := some cur, skip := t.decim, index := (t.index + 1) % 8192 }
    if t.mode == 2 then
      let full := 64 ≤ t.buf.length
      let s := modTrace u (fun _ => { t with buf := if full then t.buf else t.buf ++ [x], dropped := t.dropped || full }) s
      traceDrain u (if full then noteTrace u 2 s else s)
    else if t.st == 1 then
      modTrace u (fun _ => ({ t with ring := ring, hit := clockTriggers t c } : Trace).judge at_) s
    else if t.st == 2 then
      let t := { t with ring := ring, left := t.left - 1 }
      if t.left == 0 then traceEvent 9 u (modTrace u (fun _ => { t with st := 3 }) s) else modTrace u (fun _ => t) s
    else s

/-- Whether a unit records now: armed, triggered, or streaming. -/
def Trace.active (t : Trace) : Bool := (t.mode == 1 && (t.st == 1 || t.st == 2)) || (t.mode == 2 && t.st == 3)

/-- Every active unit whose clock loop was sampled at this instant takes its sample; `n` is the loop just sampled. -/
def traceAll (n at_ : Nat) (c : ClockFlags) (s : State) : State :=
  (List.range 8).foldl (fun s u =>
    let t := s.trace u
    if (t.active && t.clock == n) || t.lastT == some at_ then traceTake u at_ (if t.clock == n then c else {}) s else s) s

/-- Arm a unit, or start its stream (R226, R234). -/
def armTrace (u : Nat) (s : State) : State :=
  modTrace u (fun t =>
    let t' := { t with ring := [], index := 0, left := 0, skip := 0, prev := none, cur := none, sw := false, buf := [], wr := 0, lastT := none, hit := false, mate := none }
    if t.mode == 1 then { t' with st := 1 } else if t.mode == 2 then { t' with st := 3 } else t) s

/-- A takeover of the unit's logical engine aborts what it does (R227). -/
def abortTrace (u : Nat) (s : State) : State :=
  if (s.trace u).active then traceEvent 10 u (noteTrace u 3 <| modTrace u (fun t => { t with st := 0, aborted := true, buf := [], lastT := none }) s) else s

/-! ## Engines (R199, R220 to R224) -/

/-- `LPE_STATUS.ACCESS_FAULT` is raised (R229). -/
def lpeAccessFault (s : State) : State := noteSet 0x08 0 24 { s with lpe := { s.lpe with accessFault := true } }

/-- Whether a logical engine is running: its physical engine is not excluded and no takeover is in progress. -/
def State.engineUp (s : State) (logi : Nat) : Bool := !s.lpe.excluded.getD (s.lpe.map.getD logi 0xF) true

/-- `SPARE_REFERENCE_CHECK` and a fault of the spare (R224): it is excluded. -/
def loseSpare (phys : Nat) (s : State) : State :=
  lpeEvent 2 (some phys) none none (unit 0x08 0x200) 0xFF
    (regionFault { s with lpe := { s.lpe with spare := none, excluded := s.lpe.excluded.set phys true } })

/-! ## Commands -/

/-- `LOOP_STATUS` (R232). -/
def loopStatus (n : Nat) (s : State) : Nat :=
  let l := s.loop n
  let waits := l.pendingSwap.isSome || (s.col.parts.any fun e => e.2.swaps.any (·.1 == n))
  l.st.code + 8 * l.effective + 16 * l.region + 128 * b2n l.fallback + 256 * b2n waits + 512 * b2n l.spHold
    + 1024 * b2n l.uLimited + 2048 * b2n l.iLimited + 4096 * b2n l.repLost + 8192 * b2n l.swapRejected + 16384 * b2n l.fPoison
    + 32768 * b2n l.nonfinite + 65536 * b2n l.ffHold

/-- Whether a port may command a loop: its owner partition or the host. -/
def loopOwner (n port : Nat) (s : State) : Bool := s.isHost port || (partOfPort port).any (· == (s.loop n).cfg.owner)

/-- The loop that a target names. -/
def loopTarget (r : Req) : Nat := (unitIndex r.p.target 0x08).getD 0xFFFF

/-- What refuses `LPE_LOOP_RUN`, in its order (step 8 of R73). -/
def chkLpeLoopRun (yOut : Nat → State → F32) (r : Req) (s : State) : List (Bool × Status) :=
  let n := loopTarget r
  let l := s.loop n
  let op := u8 r.p.payload 0
  [ (127 < n, .badParam), (1 < op || reservedSet r.p.payload [(1, 3)], .badParam), (l.st == .free, .wrongState),
    (l.cfg.kind != 4 || !loopOwner n r.port s, .notOwner), (l.st == .failed, .hwFault) ]

/-- `LPE_LOOP_RUN` (R219); `yOut` gives what the destination holds. -/
def effLpeLoopRun (yOut : Nat → State → F32) (r : Req) (s : State) : Res × State :=
  let n := loopTarget r
  let op := u8 r.p.payload 0
  check s (chkLpeLoopRun yOut r s) fun _ =>
    if op == 0 then done (stopLoop n s)
    else
      let (st, s) := runLoop n (yOut n s) s
      (.fin st [], s)

/-- What refuses `LPE_BANK_WRITE`, in its order (step 8 of R73). -/
def chkLpeBankWrite (r : Req) (s : State) : List (Bool × Status) :=
  let b := r.p.payload
  let n := loopTarget r
  let off := u16 b 2
  let len := u16 b 4
  [ (127 < n, .badParam), ((s.loop n).st == .free, .wrongState), (!loopOwner n r.port s, .notOwner),
    (1 < u8 b 0 || off % 4 != 0 || 8188 < off || len < 4 || 4032 < len || len % 4 != 0 || 8192 < off + len
      || reservedSet b [(1, 1), (6, 2)], .badParam),
    (!(s.loop n).writable (u8 b 0), .wrongState) ]

/-- `LPE_BANK_WRITE` (R211). -/
def effLpeBankWrite (r : Req) (s : State) : Res × State :=
  let b := r.p.payload
  let n := loopTarget r
  let off := u16 b 2
  let len := u16 b 4
  check s (chkLpeBankWrite r s) fun _ =>
    done (writeBank n (u8 b 0) off ((b.drop 8).take len) false s)

/-- What refuses `LPE_BANK_SWAP`, in its order (step 8 of R73). -/
def chkLpeBankSwap (r : Req) (s : State) : List (Bool × Status) :=
  let n := loopTarget r
  let l := s.loop n
  let b := u8 r.p.payload 0
  [ (127 < n, .badParam), (l.st == .free || l.st == .failed, .wrongState), (!loopOwner n r.port s, .notOwner),
    (1 < b || reservedSet r.p.payload [(1, 3)], .badParam) ]

/-- `LPE_BANK_SWAP` (R210): ends at the boundary where the swap takes effect or is refused. -/
def effLpeBankSwap (r : Req) (s : State) : Res × State :=
  let n := loopTarget r
  let l := s.loop n
  let b := u8 r.p.payload 0
  check s (chkLpeBankSwap r s) fun _ =>
    if l.st == .idle then
      let (st, s) := applySwap n b s
      (.fin st [], s)
    else if b == l.selected && l.pendingSwap.isNone then done s
    else ((if (partOfPort r.port).isSome then .silent else .interim .queued), requestSwap n b (some r) s)

/-- What refuses `LPE_LOOP_STATUS`, in its order (step 8 of R73). -/
def chkLpeLoopStatus (r : Req) (s : State) : List (Bool × Status) :=
  let n := loopTarget r
  [(127 < n, .badParam)]

/-- `LPE_LOOP_STATUS`. -/
def effLpeLoopStatus (r : Req) (s : State) : Res × State :=
  let n := loopTarget r
  let l := s.loop n
  let free := l.st == .free
  check s (chkLpeLoopStatus r s) fun _ =>
    answer (le 4 (loopStatus n s) ++ le 1 (if free then 0xFF else l.cfg.kind) ++ le 1 (if free then 0xFF else l.cfg.index)
      ++ le 1 (if free then 0 else 128 * b2n l.cfg.classP + l.cfg.period) ++ le 1 (n / 16) ++ le 4 l.nodes.r.toNat
      ++ le 4 l.nodes.y.toNat ++ le 4 l.nodes.e.toNat ++ le 4 l.nodes.u.toNat ++ le 4 l.i.toNat ++ zeros 4 ++ le 8 l.stamp) s

/-- The configuration that `LPE_LOOP_CONFIG` gives. -/
def parseLoopCfg (b : List Byte) : LoopCfg :=
  { kind := 4, index := u8 b 0, owner := u8 b 0, classP := u8 b 1 == 1, period := u8 b 2, spSrc := u8 b 3, spHandle := u32 b 4
    fbHandle := u32 b 8, outs := [u32 b 12], ffHandle := u32 b 16, repHandle := u32 b 20, followRatio := bits32 b 24
    followOffset := bits32 b 28, followTau := bits32 b 32, fbBank := u8 b 36, fbRegion := u8 b 37, failMode := u8 b 38
    safeOut := bits32 b 40, idleOut := bits32 b 44 }

/-- The lowest free loop number (R200). -/
def freeLoop (s : State) : Option Nat := (List.range 128).find? fun n => (s.loop n).st == .free

/-- A loop is allocated in IDLE (R200, R219): bank A selected, i = 0, `idle_out` due as on every entry. -/
def allocLoop (n : Nat) (c : LoopCfg) (s : State) : State := modLoop n (fun _ => { cfg := c, st := .idle, idleDue := true }) s

/-- What refuses `LPE_LOOP_CONFIG`, in its order (step 8 of R73). -/
def chkLpeLoopConfig (produces : Nat → Nat → State → Bool) (r : Req) (s : State) : List (Bool × Status) :=
  let b := r.p.payload
  let c := parseLoopCfg b
  let out := u32 b 12
  let valve := s.isOwn out && 96 ≤ hLocal out && hLocal out < 142
  let isDi := fun (h : Nat) => s.isOwn h && 192 ≤ hLocal h && hLocal h < 208
  [ (r.p.target.toNat != unit 0x08 0, .badParam), (127 < u8 b 0, .badParam),
    (!s.isHost r.port && !(partOfPort r.port).any (· == u8 b 0), .notOwner),
    (1 < u8 b 1 || (if c.classP then 6 else 5) < c.period || 3 < c.spSrc || 1 < u8 b 36 || 7 < u8 b 37 || 1 < u8 b 38
      || reservedSet b [(39, 1)], .badParam),
    (!f32Ok c.followRatio || !f32Ok c.followOffset || !f32In c.followTau 0 10 || !f32Ok c.safeOut || !f32Ok c.idleOut, .badParam),
    ((c.spSrc == 1 || c.spSrc == 3) && !handleOk c.spHandle, .badParam), (!handleOk c.fbHandle || !handleOk out, .badParam),
    (!handleOk c.ffHandle || (c.repHandle != 0 && !isDi c.repHandle), .badParam),
    (c.spSrc == 2 && (127 < c.spHandle || (s.loop c.spHandle).st == .free), .badParam),
    (!c.classP && !valve, .badParam),
    (!s.isOwn out || !produces (hLocal out) c.owner s, .badParam),
    (s.lpe.loops.any (fun l => l.st != .free && l.cfg.outs.contains out), .badParam),
    ((freeLoop s).isNone, .configRejected) ]

/-- `LPE_LOOP_CONFIG` (R200, R215). `produces` says which local a partition produces (R46, R240). -/
def effLpeLoopConfig (produces : Nat → Nat → State → Bool) (r : Req) (s : State) : Res × State :=
  let b := r.p.payload
  let c := parseLoopCfg b
  check s (chkLpeLoopConfig produces r s) fun _ =>
    let n := (freeLoop s).getD 0
    let s := allocLoop n c s
    (.fin .done (le 2 n), { s with lpe := { s.lpe with partLoops := s.lpe.partLoops ++ [c] } })

/-- What refuses `LPE_TRACE_SET`, in its order (step 8 of R73). -/
def chkLpeTraceSet (r : Req) (s : State) : List (Bool × Status) :=
  let b := r.p.payload
  let u := loopTarget r - 0x100
  let t := s.trace u
  let op := u8 b 0
  let mode := u8 b 1
  let nodes := (List.range 8).map fun i => u16 b (12 + 2 * i)
  let sup := s.isHost r.port || (partOfPort r.port).any fun n => s.supervisory == some n
  [ (loopTarget r < 0x100 || 0x107 < loopTarget r, .badParam), (!sup, .notOwner), (2 < op, .badParam),
    (op == 0 && (mode == 0 || 2 < mode || 8191 < u16 b 2 || 127 < u8 b 5 || 6 < u8 b 6 || 7 < u8 b 7 || !f32Ok (bits32 b 8)), .badParam),
    (op == 0 && nodes.any (fun w => bitOf w 15 || fieldOf w 7 4 != 0), .badParam),
    (op == 0 && mode == 2 && (u64 b 32 % 64 != 0 || areaOf (u64 b 32) != .dram || u32 b 28 < 2 || 2 ^ 26 < u32 b 28), .badParam),
    (t.holder.any (· != r.port), .noResource) ]

/-- `LPE_TRACE_SET` (R226, R227). -/
def effLpeTraceSet (r : Req) (s : State) : Res × State :=
  let b := r.p.payload
  let u := loopTarget r - 0x100
  let t := s.trace u
  let op := u8 b 0
  let mode := u8 b 1
  let nodes := (List.range 8).map fun i => u16 b (12 + 2 * i)
  check s (chkLpeTraceSet r s) fun _ =>
    if op == 0 then
      done (armTrace u (modTrace u (fun t => { t with
        mode := mode, pre := u16 b 2, decim := u8 b 4, clock := u8 b 5, kind := u8 b 6, nodeSlot := u8 b 7, level := bits32 b 8
        nodes := nodes, size := u32 b 28, base := u64 b 32, holder := some r.port }) s))
    else if op == 1 then done (modTrace u (fun t => { t with mode := 0, st := 0, holder := none, buf := [], lastT := none }) s)
    else done (modTrace u (fun t => { t with sw := t.sw || t.st == 1 }) s)

/-- What refuses `LPE_TRACE_READ`, in its order (step 8 of R73). -/
def chkLpeTraceRead (r : Req) (s : State) : List (Bool × Status) :=
  let b := r.p.payload
  let u := loopTarget r - 0x100
  let t := s.trace u
  [ (loopTarget r < 0x100 || 0x107 < loopTarget r, .badParam),
    (8191 < u16 b 0 || u8 b 2 == 0 || 126 < u8 b 2 || reservedSet b [(3, 1)], .badParam),
    (!(t.mode == 1 && t.st == 3), .wrongState) ]

/-- `LPE_TRACE_READ` (R226). -/
def effLpeTraceRead (r : Req) (s : State) : Res × State :=
  let b := r.p.payload
  let u := loopTarget r - 0x100
  let t := s.trace u
  check s (chkLpeTraceRead r s) fun _ =>
    let got := (t.ring.drop (u16 b 0)).take (u8 b 2)
    answer (le 2 got.length ++ zeros 6 ++ got.flatMap fun x => x.flatMap fun v => le 4 v.toNat) s

/-- `LPE_STATUS` (R229). -/
def lpeStatusWord (s : State) : Nat :=
  bitsN (s.lpe.excluded.map (!·)) + 512 * bitsN s.lpe.excluded + 2 ^ 18 * s.lpe.spare.getD 0xF + 2 ^ 24 * b2n s.lpe.accessFault

/-- `LPE_MAP` (R230). -/
def lpeMapWord (s : State) : Nat := s.lpe.map.foldr (fun p a => a * 16 + p % 16) 0

/-- What refuses `LPE_ENGINE_STATUS`, in its order (step 8 of R73). -/
def chkLpeEngineStatus (r : Req) (s : State) : List (Bool × Status) :=
  [(r.p.target.toNat != unit 0x08 0x200, .badParam)]

/-- `LPE_ENGINE_STATUS`. -/
def effLpeEngineStatus (r : Req) (s : State) : Res × State :=
  check s (chkLpeEngineStatus r s) fun _ =>
    let used := (List.range 8).flatMap fun g => le 1 (((s.lpe.loops.drop (16 * g)).take 16).filter fun l => l.st != .free).length
    answer (le 4 (lpeStatusWord s) ++ le 4 (lpeMapWord s) ++ used ++ le 4 s.lpe.takeovers ++ zeros 4 ++ le 8 s.time) s

/-! ## Registers (R228 to R236) -/

/-- LOOP_CTRL_SWAP (R210, R231): the owner's write belongs to its Col period and waits for the commit. -/
def doLoopCtrlSwap (n part v : Nat) (s : State) : State :=
  let l := s.loop n
  if l.st == .free || l.cfg.owner != part || v == 3 || 3 < v then lpeAccessFault s
  else if v == 0 then s
  else if !(s.part part).inPeriod then s
  else
    let p := s.part part
    let held := (s.sys.flights.filter fun f => f.req.port == part && f.colPeriod == some p.periodNo).length
    s.setPart part { p with swaps := p.swaps ++ [(n, v - 1, held)] }

/-- TRC_ARM (R226, R234): from the supervisory partition. -/
def doTrcArm (u part : Nat) (s : State) : State :=
  if s.supervisory != some part || 7 < u then lpeAccessFault s else armTrace u s

/-- TRC_SWTRIG (R226, R234). -/
def doTrcSwtrig (u part : Nat) (s : State) : State :=
  if s.supervisory != some part || 7 < u then lpeAccessFault s
  else modTrace u (fun t => { t with sw := t.sw || t.st == 1 }) s

/-- `TRC_CTRL` as read. -/
def trcCtrl (t : Trace) : Nat := t.clock + 256 * t.decim + 2 ^ 16 * t.pre + 2 ^ 30 * t.mode

/-- `TRC_STATUS`. -/
def trcStatus (t : Trace) : Nat := t.st + 4 * b2n t.dropped + 8 * b2n t.aborted + 2 ^ 16 * t.index

/-- One 32-bit word of the LPE block; none at an unused offset. -/
def lpeReadWord (off : Nat) (s : State) : Option Nat :=
  if off == 0 then some (lpeStatusWord s)
  else if off == 4 then some (lpeMapWord s)
  else if 0x10000 ≤ off && off < 0x18000 then
    let n := (off - 0x10000) / 0x100
    let l := s.loop n
    match (off - 0x10000) % 0x100 with
    | 0x00 => some 0 | 0x04 => some (loopStatus n s) | 0x08 => some l.loopSp.toNat | 0x0C => some l.out.toNat
    | 0x10 => some l.nodes.e.toNat | 0x18 => some (l.stamp % 2 ^ 32) | 0x1C => some (l.stamp / 2 ^ 32) | _ => none
  else if 0x20000 ≤ off && off < 0x20400 then
    let t := s.trace ((off - 0x20000) / 0x80)
    let o := (off - 0x20000) % 0x80
    match o with
    | 0x00 => some (trcCtrl t) | 0x04 => some (t.kind + 16 * t.nodeSlot) | 0x08 => some t.level.toNat | 0x0C => some (trcStatus t)
    | 0x30 => some (t.tstamp % 2 ^ 32) | 0x34 => some (t.tstamp / 2 ^ 32) | 0x38 => some (t.base % 2 ^ 32)
    | 0x3C => some (t.base / 2 ^ 32) | 0x40 => some t.size | 0x44 => some t.wr
    | _ => if 0x10 ≤ o && o < 0x30 then some (t.nodes.getD ((o - 0x10) / 4) 0) else none
  else if 0x200000 ≤ off && off < 0x400000 then
    let l := s.loop ((off - 0x200000) / 0x4000)
    some (l.b32 ((off - 0x200000) / 0x2000 % 2) ((off - 0x200000) % 0x2000)).toNat
  else if 0x400000 ≤ off && off < 0x600000 then
    let t := s.trace ((off - 0x400000) / 0x40000)
    let o := (off - 0x400000) % 0x40000
    some (((t.ring.getD (o / 32) []).getD (o % 32 / 4) 0).toNat)
  else none

/-- A write of one word of a trace unit by the supervisory partition. -/
def trcWrite (u o v : Nat) (s : State) : Option State :=
  match o with
  | 0x00 =>
    if fieldOf v 31 30 == 3 then some (lpeAccessFault s)
    else
      let s := modTrace u (fun t => { t with mode := fieldOf v 31 30, pre := fieldOf v 28 16, decim := fieldOf v 15 8, clock := v % 128
                                             sw := t.sw || (bitOf v 7 && t.st == 1) }) s
      some (if bitOf v 29 then armTrace u s else s)
  | 0x04 => some (if 6 < v % 16 then lpeAccessFault s else modTrace u (fun t => { t with kind := v % 16, nodeSlot := fieldOf v 6 4 }) s)
  | 0x08 => some (modTrace u (fun t => { t with level := BitVec.ofNat 32 v }) s)
  | 0x0C => some (modTrace u (fun t => { t with aborted := t.aborted && !bitOf v 3, dropped := t.dropped && !bitOf v 2 }) s)
  | 0x30 | 0x34 | 0x44 => some s
  | 0x38 => some (modTrace u (fun t => { t with base := t.base / 2 ^ 32 * 2 ^ 32 + v / 64 * 64 }) s)
  | 0x3C => some (modTrace u (fun t => { t with base := t.base % 2 ^ 32 + v % 2 ^ 16 * 2 ^ 32 }) s)
  | 0x40 => some (if v < 2 || 2 ^ 26 < v then lpeAccessFault s else modTrace u (fun t => { t with size := v }) s)
  | _ => if 0x10 ≤ o && o < 0x30 then
      some (modTrace u (fun t => { t with nodes := t.nodes.set ((o - 0x10) / 4) (v % 16 + 256 * fieldOf v 14 8) }) s)
    else none

/-- A write of one 32-bit word by a partition; none at an unused offset (R436). -/
def lpeWriteWord (part off v : Nat) (mark : Bool) (s : State) : Option State :=
  let sup := s.supervisory == some part
  if off == 0 then some (if sup && bitOf v 24 then { s with lpe := { s.lpe with accessFault := false } } else lpeAccessFault s)
  else if off == 4 then some (lpeAccessFault s)
  else if 0x10000 ≤ off && off < 0x18000 then
    let n := (off - 0x10000) / 0x100
    let own := (s.loop n).st != .free && (s.loop n).cfg.owner == part
    let by_ := fun (f : State) => some (if own then f else lpeAccessFault s)
    match (off - 0x10000) % 0x100 with
    | 0x00 => some (doLoopCtrlSwap n part (v % 4) s)
    | 0x04 => by_ (modLoop n (fun l => { l with nonfinite := l.nonfinite && !bitOf v 15, fPoison := l.fPoison && !bitOf v 14,
                                                swapRejected := l.swapRejected && !bitOf v 13 }) s)
    | 0x08 => by_ (modLoop n (fun l => { l with loopSp := BitVec.ofNat 32 v }) s)
    | 0x0C | 0x10 | 0x18 | 0x1C => by_ s
    | _ => none
  else if 0x20000 ≤ off && off < 0x20400 then
    if sup then trcWrite ((off - 0x20000) / 0x80) ((off - 0x20000) % 0x80) v s
    else if (lpeReadWord off s).isSome then some (lpeAccessFault s) else none
  else if 0x200000 ≤ off && off < 0x400000 then
    let n := (off - 0x200000) / 0x4000
    let b := (off - 0x200000) / 0x2000 % 2
    let l := s.loop n
    some (if l.st != .free && l.cfg.owner == part && l.writable b then writeBank n b ((off - 0x200000) % 0x2000) (le 4 v) mark s
      else lpeAccessFault s)
  else if 0x400000 ≤ off && off < 0x600000 then some (if sup then s else lpeAccessFault s)
  else none

end Sys2Proof.Machine
end

