-- ==== Sys2Proof/Machine/Vlv.lean ====
section
/-! DEFINITION. Chapter 10: the driver states of a valve channel, its diagnostics, its thermal limits, the supply groups,
the registers and the rules of the VLV commands. -/
namespace Sys2Proof.Machine

/-- A valve channel. -/
def State.valve (s : State) (n : Nat) : Valve := s.vlv.ch.getD n {}
/-- Change a valve channel. -/
def modValve (n : Nat) (f : Valve → Valve) (s : State) : State := { s with vlv := { s.vlv with ch := updAt s.vlv.ch n f } }
/-- A supply group. -/
def State.group (s : State) (g : Nat) : Group := s.vlv.groups.getD g {}

/-- The instant since which a condition holds, given the one before. -/
def sinceIf (c : Bool) (t : Nat) (o : Option Nat) : Option Nat := if c then some (o.getD t) else none
/-- Whether a condition has held for a time. -/
def heldFor (o : Option Nat) (t d : Nat) : Bool := o.any (· + d ≤ t)

/-- The state codes of R247. -/
def ValveSt.code : ValveSt → Nat
  | .unconfigured => 0 | .deEnergised => 1 | .testing => 2 | .energised => 3 | .demag => 4 | .offTime => 5 | .retryWait => 6
  | .latched => 7

/-- The state codes of R257. -/
def GroupSt.code : GroupSt → Nat
  | .ok => 0 | .low => 1 | .absent => 2 | .overVolt => 3 | .excluded => 4

/-! ## Conditions (R254, R255) -/

/-- Set or clear a present condition. -/
def Valve.setCode (v : Valve) (k : Nat) (b : Bool) : Valve :=
  { v with present := if b then (if v.present.contains k then v.present else k :: v.present) else v.present.filter (· != k) }

/-- The diagnostic code (R254): UNCONFIGURED while the mode in force is OFF, otherwise the highest present condition. -/
def Valve.diag (v : Valve) : Nat := if v.mode == 0 then 15 else v.present.foldl max 0

/-- Faulted under R255. -/
def Valve.faulted (v : Valve) : Bool := 2 ≤ v.diag && v.diag ≤ 14

/-- An actuator trigger of R101 under R255: a fault that is not latched. -/
def Valve.trigger (v : Valve) : Bool := v.faulted && v.st != .latched

/-- A blocking diagnostic is present (R254). -/
def Valve.blocked (v : Valve) : Bool := v.present.any fun k => k == 5 || k == 6 || k == 7 || k == 13

/-- A latching diagnostic is present: what R247 latches at once. -/
def Valve.mustLatch (v : Valve) : Bool :=
  v.present.any fun k => k == 11 || k == 12 || k == 14 || (k == 4 && v.cfg.lostMode == 1)

/-- A stop condition of R247. -/
def Valve.mustStop (v : Valve) : Bool := v.present.any fun k => k == 5 || k == 13

/-- `CH_STATUS` (R265). -/
def Valve.word (v : Valve) : Nat :=
  v.diag + 256 * (if 8 ≤ v.diag && v.diag ≤ 10 then v.terminal else 0) + 512 * v.retries + 2048 * b2n (v.st == .latched) + 4096 * b2n v.heldOn + 8192 * b2n v.peakLimited
    + 16384 * b2n v.derated + 32768 * b2n v.spLimited + 65536 * v.st.code + 2 ^ 20 * b2n v.headroom

/-- The partition whose mailbox is the driver's (R240). -/
def Valve.driverPart (v : Valve) : Option Nat := if v.fn.isSome || v.gde then v.bindPart else some v.cfg.owner

/-- `VLV_EVENT` about a channel. -/
def valveEvent (cause n : Nat) (s : State) : State :=
  let v := s.valve n
  event 0x0980 (unit 0x09 n) (le 1 cause ++ le 1 n ++ le 1 (n / 12) ++ le 1 (s.group (n / 12)).st.code ++ le 4 v.word ++ le 8 s.time)
    (if v.mode == 0 then [] else v.driverPart.toList) (hwSource 0x0980) s

/-- The status word of a channel changed: `VLV_CHANGED`, the status signal (R261, R264) and the events of `VLV_EVENT`. -/
def vlvSync (n : Nat) (s : State) : State :=
  let v := s.valve n
  let w := v.word
  let old := v.lastStatus
  if w == old then s else
  let s := modValve n (fun v => { v with lastStatus := w, statusAt := s.time }) s
  let s := noteSet 0x09 (0x20 + n / 32 * 4) (n % 32) { s with vlv := { s.vlv with changed := s.vlv.changed.set n true } }
  let s := pubHw (144 + n) 0 (BitVec.ofNat 64 w) .valid 0 300000 s
  let s := if w % 256 != old % 256 then valveEvent 0 n s else s
  let s := if bitOf w 11 && !bitOf old 11 then valveEvent 1 n s else s
  let s := if bitOf w 14 && !bitOf old 14 then valveEvent 5 n s else s
  if bitOf old 14 && !bitOf w 14 then valveEvent 6 n s else s

/-! ## The duty in force (R243, R244) -/

/-- The PWM period that an instant lies in (R29, R243). -/
def Valve.pwm (v : Valve) (t : Nat) : Nat := t * v.cfg.pwmFreq / 1000000000

/-- The duty in force: one that is written applies from the start of the next PWM period. -/
def Valve.dutyNow (v : Valve) (t : Nat) : F32 := if v.pwm v.dutyAt < v.pwm t then v.dutyNext else v.duty

/-- The current loop writes a duty. -/
def Valve.writeDuty (v : Valve) (u : F32) (t : Nat) : Valve := { v with duty := v.dutyNow t, dutyNext := u, dutyAt := t }

/-- The switches open: no duty is in force. -/
def Valve.noDuty (v : Valve) : Valve := { v with duty := 0, dutyNext := 0, fastDecay := false, decayPer := none, steady := none }

/-- The decay mode is chosen once in each PWM period, at its first instant (R244, log entry 270): slow while the duty is above 0, or while
the current exceeds the set-point by at most the larger of 10 % and 0.05 A. -/
def Valve.decay (v : Valve) (t : Nat) (i r : Rat) : Valve :=
  if v.st != .energised || v.decayPer == some (v.pwm t) then v
  else { v with decayPer := some (v.pwm t), fastDecay := !(0 < f32d (v.dutyNow t) || i - r ≤ maxR (r / 10) (1 / 20)) }

/-- Whether the low-side and the high-side switch are driven (R244, R247): the high side is on in the test pulse and modulated while
ENERGISED. -/
def Valve.switches (v : Valve) : Bool × Bool :=
  match v.st with
  | .testing => (false, true)
  | .energised => (!v.fastDecay, !v.fastDecay)
  | _ => (false, false)

/-! ## Moves of the driver (R247 to R249) -/

/-- The pending drive on ends. -/
def endOn (n : Nat) (st : Status) (s : State) : State :=
  match (s.valve n).onReq with
  | some r => finish r st [] (modValve n (fun v => { v with onReq := none }) s)
  | none => s

/-- The pending drive off ends. -/
def endOff (n : Nat) (st : Status) (s : State) : State :=
  match (s.valve n).offReq with
  | some r => finish r st [] (modValve n (fun v => { v with offReq := none }) s)
  | none => s

/-- Both switches open: the loops go to IDLE and a pending drive off ends `DONE` (R247). -/
def openSwitches (n : Nat) (s : State) : State :=
  let driven := fun (v : Valve) => v.st == .testing || v.st == .energised
  endOff n .done (modValve n (fun v => { v.noDuty with demagEnd := if driven v then none else v.demagEnd })
    (stopOwned 1 n (stopOwned 0 n s)))

/-- DEMAG begins: the point of no return of a switch-off (R248). -/
def enterDemag (n : Nat) (s : State) : State :=
  modValve n (fun v => { v with st := .demag, since := s.time, demagEnd := none }) (openSwitches n s)

/-- LATCHED begins (R247): both switches open and the drive is off. -/
def enterLatched (n : Nat) (s : State) : State :=
  let s := openSwitches n s
  let s := modValve n (fun v => { v with st := .latched, since := s.time, drive := false, heldOn := false }) s
  endOn n .hwFault s

/-- A latching condition of a channel that is neither UNCONFIGURED nor LATCHED latches it (R247). -/
def valveLatchCheck (n : Nat) (s : State) : State :=
  let v := s.valve n
  if v.mustLatch && v.st != .unconfigured && v.st != .latched then enterLatched n s else s

/-- The loop numbers of a channel. -/
def valveLoops (n : Nat) (s : State) : List Nat :=
  (s.findLoop 0 n).toList ++ (if (s.valve n).mode == 2 then (s.findLoop 1 n).toList else [])

/-- What stops a switch-on at the banks of the channel's loops (R243). -/
def valveBanks (n : Nat) (s : State) : Option (Nat × Status) :=
  (valveLoops n s).findSome? fun k => ((s.loop k).refuses (s.loop k).effective).map fun st => (k, st)

/-- A switch-on refused at a bank leaves the channel DE_ENERGISED and its drive off (R243, log entry 34). -/
def refuseOn (n k : Nat) (st : Status) (s : State) : State :=
  let s := refuseBank k st s
  endOn n st (modValve n (fun v => { v with st := .deEnergised, since := s.time, drive := false, heldOn := false }) s)

/-- TESTING begins (R247, R250): the sense bias is removed. -/
def enterTesting (n : Nat) (s : State) : State :=
  match valveBanks n s with
  | some (k, st) => refuseOn n k st s
  | none => modValve n (fun v => { v with st := .testing, since := s.time, heldOn := false, biasAt := none, offClasses := [] }) s

/-- Temperature coefficient of copper in R258. -/
def alphaCu : F32 := qf32 (393 / 100000)

/-- The binary32 square root of a binary32 value at least 0. -/
def f32Sqrt (x : F32) : F32 := sqrt32 (f32d x)
/-- The smaller of two binary32 values. -/
def f32Min (a b : F32) : F32 := if f32Lt b a then b else a
/-- The larger of two binary32 values. -/
def f32Max (a b : F32) : F32 := if f32Lt a b then b else a

/-- The coil resistance of the model at its temperature (R258). -/
def Valve.rModel (v : Valve) : F32 :=
  f32Mul v.cfg.rRef (f32Add 0x3F800000 (f32Mul alphaCu (f32Sub v.tm v.cfg.tRef)))

/-- A peak starts (R260): its current is limited by the coil model and by the junction budget, exactly (R16) but for its own encoding. -/
def peakStart (n : Nat) (s : State) : State :=
  let v := s.valve n
  let c := v.cfg
  let sq := fun (x : F32) => f32d x * f32d x
  let tp := f32d c.tPeak / 1000
  let cth := f32d c.tauTh / f32d c.rTh
  let r := f32d c.rRef * (1 + 393 / 100000 * (f32d v.tm - f32d c.tRef))
  let limC := maxR 0 ((f32d c.tIns - 5 - f32d v.tm) * cth / (r * tp))
  let ip2 := maxR (sq c.iHold) (minR (sq c.iPeak) (minR limC (v.bucket / tp)))
  let lim := decide (ip2 < sq c.iPeak)
  let dur := (f32d c.tPeak * 1000000).floor.toNat
  let s := modValve n (fun v => { v with ip := sqrt32 ip2, peakLimited := lim, peakEnd := s.time + dur, bucket := maxR 0 (v.bucket - ip2 * tp) }) s
  if lim && !(v.peakEventAt.any fun t => s.time < t + sec) then
    valveEvent 4 n (modValve n (fun v => { v with peakEventAt := some s.time }) s)
  else s

/-- ENERGISED begins (R247): the loops run, PEAK_HOLD begins its peak, and a drive on ends `DONE`. -/
def enterEnergised (n : Nat) (s : State) : State :=
  let go := (valveLoops n s).foldl (fun (a : Option (Nat × Status) × State) k =>
    match a.1 with
    | some _ => a
    | none =>
      let (st, s') := runLoop k 0 a.2
      (if st == .done then none else some (k, st), s')) (none, s)
  match go.1 with
  | some (_, st) =>
    let s := stopOwned 1 n (stopOwned 0 n go.2)
    endOn n st (modValve n (fun v => { v with st := .deEnergised, since := s.time, drive := false, heldOn := false }) s)
  | none =>
    let s := modValve n (fun v => { v with st := .energised, since := s.time, heldOn := false, switchOns := v.switchOns + 1
                                           openOnSince := none, openOffSince := none, overSince := none }) go.2
    let s := if (s.valve n).mode == 3 then peakStart n s else s
    endOn n .done s

/-- A trip (R254): both switches open; kind R is retried three times and then latched. -/
def tripValve (n code terminal : Nat) (s : State) : State :=
  let s := openSwitches n s
  let s := modValve n (fun v => { (((v.setCode 8 false).setCode 9 false).setCode 10 false).setCode code true with
    terminal := terminal, trips := v.trips + 1, tripAt := s.time, demagEnd := none }) s
  if (s.valve n).retries < 3 then modValve n (fun v => { v with st := .retryWait, since := s.time }) s
  else enterLatched n s

/-! ## Set-points (R241, R242, R245) -/

/-- The set-point record of a channel. -/
def State.valveSp (s : State) (n : Nat) : Rec := s.viewAt (s.handle (96 + n))

/-- The dither at an instant (R245). -/
def dither (c : ValveCfg) (t : Nat) : Rat :=
  let per : Rat := (1000000000 : Rat) / (c.ditherFreq : Rat)
  let k := ((t : Rat) / per).floor
  f32d c.ditherAmp * clampR (Config.triangle ((t : Rat) / per - (k : Rat))) (-1) 1

/-- The set-point of a channel's current loop at an instant (R241, R245, R258), and whether the driver's set-point was
clamped. `pos` is the position loop's output. None where the set-point source is unusable (R204). -/
def currentSp (v : Valve) (sp : Rec) (pos : F32) (t : Nat) : Option F32 × Bool :=
  let iMax := f32d v.cfg.iMax
  let allow := fun (x : Rat) => f32Min (qf32 x) v.iAllow
  if v.mode == 1 then
    match (if sp.fresh then valueQ sp.ty sp.value else none) with
    | some x =>
      let y := clampR x 0 iMax
      (some (allow (clampR (y + dither v.cfg t) 0 iMax)), y != x)
    | none => (none, v.spLimited)
  else if v.mode == 2 then (some (allow (clampR (clampR (f32d pos) 0 iMax + dither v.cfg t) 0 iMax)), v.spLimited)
  else if t < v.peakEnd then (some v.ip, false)
  else (some (f32Min v.cfg.iHold v.iAllow), false)

/-- The set-point of a channel's position loop (R241). -/
def positionSp (v : Valve) (sp : Rec) : Option F32 × Bool :=
  match (if sp.fresh then valueQ sp.ty sp.value else none) with
  | some x =>
    let y := clampR x (f32d v.cfg.posMin) (f32d v.cfg.posMax)
    (some (qf32 y), y != x)
  | none => (none, v.spLimited)

/-- The level of PEAK_HOLD (R241): an unusable set-point counts as off. -/
def levelOf (v : Valve) (sp : Rec) : Bool :=
  match (if sp.fresh then valueQ sp.ty sp.value else none) with
  | some x => if f32d v.cfg.onLevel ≤ x then true else if x < f32d v.cfg.offLevel then false else v.level
  | none => false

/-- Whether the channel wants to be energised (R242). -/
def Valve.want (v : Valve) : Bool := v.drive && (v.mode != 3 || v.level)

/-! ## The 20 µs instant (R242) -/

/-- Position from a raw value (R251). -/
def positionOf (c : ValveCfg) (raw : Rat) : F32 := qf32 (f32d c.posGain * raw + f32d c.posOffset)

/-- The raw value of a reading of a ratiometric input (R251): input and sensor supply. -/
def ratioRaw (x : Rat × Rat) : Rat := if x.2 == 0 then 0 else x.1 / x.2

/-- Readings of a ratiometric input (R251): ten make a sample, their mean. -/
def takeReadings (xs : List (Rat × Rat)) (v : Valve) : Valve :=
  xs.foldl (fun v x =>
    let l := v.posAcc ++ [ratioRaw x]
    if l.length == 10 then { v with posAcc := [], posRaw := some (l.sum / 10) } else { v with posAcc := l }) v

/-- Position input and POSITION_FAULT (R251, R253). -/
def sensePosition (m : ValveMeas) (t : Nat) (v : Valve) : Valve :=
  let ratio := v.cfg.posInput == 1
  let v := if ratio then takeReadings m.pos v else v
  let raw := v.posRaw
  let low := ratio && raw.any fun x => decide (x < 2 / 100) || decide (98 / 100 < x)
  let sup := ratio && !m.pos.isEmpty && m.pos.all fun x => decide (x.2 < 475 / 100) || decide (525 / 100 < x.2)
  let lost := v.cfg.posInput == 2 && v.sentAt + 3 * ms ≤ t
  let v := { v with posLowSince := sinceIf low t v.posLowSince, posSupSince := sinceIf sup t v.posSupSince }
  let bad := heldFor v.posLowSince t ms || heldFor v.posSupSince t ms || lost
  let v := { v with posGoodSince := sinceIf (!bad) t v.posGoodSince }
  let present := v.cfg.posInput != 0 && (bad || (v.present.contains 1 && !heldFor v.posGoodSince t (10 * ms)))
  let v := v.setCode 1 present
  { v with posRaw := if v.cfg.posInput == 0 then none else raw
           position := if v.cfg.posInput == 0 then v.position else ((raw.map (positionOf v.cfg)).getD v.position) }

/-- Steady hold at an instant (R259): the current within 2 % of its set-point and at or above 0.3 A. A window takes the instants after the
one at which it began. -/
def Valve.holdStep (v : Valve) (t : Nat) (duty i r : Rat) : Valve :=
  if v.st == .energised && decide (absR (i - r) ≤ r / 50) && decide (3 / 10 ≤ i) then
    match v.steady with
    | some (t0, d, a, n) => if t ≤ t0 then v else { v with steady := some (t0, d + duty, a + i, n + 1) }
    | none => { v with steady := some (t, 0, 0, 0) }
  else { v with steady := none }

/-- Coil-current samples of an instant: its time, their sum, the sum of their squares and their number. -/
def accOf (t : Nat) (l : List Rat) : Nat × Rat × Rat × Nat := (t, l.sum, (l.map fun x => x * x).sum, l.length)

/-- The coil-current samples of the 1 ms that ends now: their sum, the sum of their squares and their number; the latest 20 µs sample where
there are none. `last` are those of this instant, where its VALVE_INSTANT row has not brought them. -/
def Valve.lastMs (v : Valve) (t : Nat) (last : List Rat) : Rat × Rat × Rat :=
  let h := if v.acc.any (·.1 == t) then v.acc else accOf t last :: v.acc
  let l := h.filter fun e => t < e.1 + ms
  let n := (l.map fun e => e.2.2.2).sum
  if n == 0 then (f32d v.current, f32d v.current * f32d v.current, 1)
  else ((l.map fun e => e.2.1).sum, (l.map fun e => e.2.2.1).sum, (n : Rat))

/-- The conditions that the current sense and the junction sensors show (R254, R257). `sp` is the set-point of the current
loop's last sample, `grp` the state of the channel's group. -/
def senseValve (m : ValveMeas) (t : Nat) (sp : F32) (grp : GroupSt) (lost : Bool) (v : Valve) : Valve :=
  let n := m.samples.length
  let sum := m.samples.sum
  let i := if n == 0 then f32d v.current else sum / (n : Rat)
  let r := f32d sp
  let duty := v.dutyNow t
  let duty1 := duty == 0x3F800000
  let on := v.st == .energised
  let v := { v with current := qf32 i, stamp := t
                    acc := accOf t m.samples :: v.acc.filter fun e => t < e.1 + ms }
  let v := (v.decay t i r).holdStep t (f32d duty) i r
  let v := { v with openOnSince := sinceIf (on && 1 / 10 ≤ r && duty1 && i < r / 10) t v.openOnSince
                    openOffSince := sinceIf (absR (i - r) ≤ r / 5) t v.openOffSince
                    overSince := sinceIf (on && f32IsZero duty && r + maxR (1 / 2) (r / 5) < i) t v.overSince
                    senseSince := sinceIf ((v.st == ValveSt.deEnergised || (v.st == ValveSt.latched && v.present.contains 11)) && 5 / 100 < absR i) t v.senseSince
                    headSince := sinceIf (on && grp == GroupSt.low && duty1 && i < 95 / 100 * r) t v.headSince }
  let v := v.setCode 3 (on && (heldFor v.openOnSince t ms || (v.present.contains 3 && !heldFor v.openOffSince t (10 * ms))))
  let v := v.setCode 4 lost
  let v := v.setCode 5 (170 < m.junction || (v.present.contains 5 && 140 ≤ m.junction))
  let v := v.setCode 11 (v.calFailed || heldFor v.senseSince t ms || (v.present.contains 11 && v.senseSince.isSome))
  let v := v.setCode 13 (grp == GroupSt.absent)
  let v := v.setCode 14 (grp == GroupSt.excluded)
  { v with headroom := heldFor v.headSince t ms }

/-- The set-point of the last sample of a channel's current loop. -/
def valveSetPoint (n : Nat) (s : State) : F32 := ((s.findLoop 0 n).map fun k => (s.loop k).nodes.r).getD 0

/-- Whether a loop of the channel has FAILED (R223, LOOP_LOST). -/
def loopLost (n : Nat) (s : State) : Bool :=
  (valveLoops n s).any fun k => (s.loop k).st == .failed

/-- The move of a channel at its instant (R247). -/
def moveValve (n : Nat) (s : State) : State :=
  let v := s.valve n
  let want := v.want
  let on := heldFor v.overSince s.time (200 * us)
  match v.st with
  | .unconfigured | .latched => s
  | .deEnergised =>
    if want && s.pwr.st == .run && !s.id.outputsHeld && !v.blocked && !v.mustLatch then enterTesting n s
    else if want && (v.blocked || v.mustLatch) then endOn n .hwFault s else s
  | .testing | .energised =>
    if v.mustStop then endOn n .hwFault (enterDemag n s)
    else if v.st == .energised && on then tripValve n 9 0 s
    else if !want then endOn n .superseded (enterDemag n s)
    else endOff n .superseded s
  | .retryWait =>
    if v.mustStop then endOn n .hwFault (enterDemag n s)
    else if !want then
      endOn n .superseded (modValve n (fun v => { v with st := .offTime, since := s.time }) s)
    else s
  | .demag | .offTime =>
    if want then modValve n (fun v => { v with heldOn := true }) s
    else if v.heldOn then endOn n .superseded (modValve n (fun v => { v with heldOn := false }) s)
    else s

/-- VALVE_INSTANT (R242): on the 20 µs grid the channel takes its measurements, evaluates its conditions and its want, and
moves. -/
def doValveInstant (n : Nat) (m : ValveMeas) (s : State) : State :=
  if !onGrid (20 * us) s || 48 ≤ n then s else
  let sp := valveSetPoint n s
  let grp := (s.group (n / 12)).st
  let lost := loopLost n s
  let t := s.time
  let rec_ := s.valveSp n
  let s := modValve n (fun v =>
    let v := sensePosition m t (senseValve m t sp grp lost v)
    if v.mode == 3 then { v with level := levelOf v rec_ } else v) s
  vlvSync n (moveValve n (valveLatchCheck n s))

/-- TEST_PULSE_END (R250): `seen` are the other channels' terminals, as (channel, highest volts in the pulse, highest
volts before it). -/
def doTestPulseEnd (n : Nat) (seen : List (Nat × Rat × Rat)) (s : State) : State :=
  let v := s.valve n
  if v.st != .testing || s.time < v.since + 50 * us then s else
  let partners := ((seen.filter fun e => e.1 != n && e.1 < 48 && 5 < e.2.1 && e.2.2 < 29 / 10
    && ((s.valve e.1).st == .deEnergised || (s.valve e.1).st == .offTime || (s.valve e.1).st == .latched)).map (·.1)).eraseDups
  if partners.isEmpty then vlvSync n (enterEnergised n s)
  else (n :: partners).foldl (fun s k =>
    vlvSync k (valveLatchCheck k (modValve k (fun v => v.setCode 12 true) s))) s

/-- SHORT_TRIP (R254): which of the two switch currents is above the trip level. -/
def doShortTrip (n : Nat) (high low : Bool) (s : State) : State :=
  let v := s.valve n
  if (v.st != .testing && v.st != .energised) || (!high && !low) then s
  else vlvSync n (tripValve n (if high && low then 10 else if high then 8 else 9) (b2n (low && !high)) s)

/-- RETRY_WAIT_EXPIRY (R247): 10 ms after the trip the channel is energised again without a test pulse. -/
def doRetryWait (n : Nat) (s : State) : State :=
  let v := s.valve n
  if v.st != .retryWait || s.time < v.tripAt + 10 * ms || !v.want then s
  else vlvSync n (enterEnergised n (modValve n (fun v => { v with retries := v.retries + 1 }) s))

/-- RETRY_RESET (R247): after 100 ms without a trip the retries are 0 and the short diagnostic is cleared. -/
def doRetryReset (n : Nat) (s : State) : State :=
  let v := s.valve n
  if v.st != .energised || v.retries == 0 || s.time < max v.since v.tripAt + 100 * ms then s
  else vlvSync n (modValve n (fun v => { ((v.setCode 8 false).setCode 9 false).setCode 10 false with retries := 0 }) s)

/-- DEMAG_COMPLETE (R247, R249): the coil current is below 20 mA; the sense bias is applied and the off-time starts. -/
def doDemagComplete (n : Nat) (current : Rat) (s : State) : State :=
  let v := s.valve n
  if 2 / 100 ≤ current then s else
  match v.st with
  | .demag => vlvSync n (modValve n (fun v => { v with st := .offTime, since := s.time, demagEnd := some s.time, biasAt := some s.time }) s)
  | .offTime | .retryWait | .latched =>
    if v.demagEnd.isNone then modValve n (fun v => { v with demagEnd := some s.time, biasAt := some s.time }) s else s
  | _ => s

/-- DEMAG_TIMEOUT (R247): SHORT_GND_ON at terminal L latches the channel. -/
def doDemagTimeout (n : Nat) (s : State) : State :=
  let v := s.valve n
  if v.st != .demag || s.time < v.since + v.cfg.demagMax * ms then s
  else vlvSync n (enterLatched n (modValve n (fun v => { v.setCode 8 true with terminal := 1 }) s))

/-- OFF_TIME_END (R247, R248): a held switch-on runs, or the channel becomes DE_ENERGISED. -/
def doOffTimeEnd (n : Nat) (s : State) : State :=
  let v := s.valve n
  if v.st != .offTime || !heldFor v.demagEnd s.time (v.cfg.offTime * us) then s else
  let s := modValve n (fun v => ((v.setCode 8 false).setCode 9 false).setCode 10 false) s
  let free := s.pwr.st == .run && !v.blocked && !v.mustLatch
  if v.want && free && !s.id.outputsHeld then vlvSync n (enterTesting n s)
  else
    let s := modValve n (fun v => { v with st := .deEnergised, since := s.time, heldOn := false }) s
    vlvSync n (if v.want && free then s else endOn n (if !v.want then .superseded else if s.pwr.st != .run then .wrongState else .hwFault) s)

/-- The class of one off-state check (R256): 0 is ok. -/
def offClass (hMax hMin hMean lMean : Rat) : Nat :=
  if 5 < hMax then 7
  else if hMin < 1 / 2 then 6
  else if 29 / 10 < hMean && lMean < 1 / 2 then 2
  else if 15 / 10 ≤ hMean && hMean ≤ 29 / 10 && absR (hMean - lMean) < 3 / 10 then 0
  else if hMean < 15 / 10 then 6
  else 7

/-- OFF_STATE_CHECK (R256), from the samples of both terminals over the last 1 ms and the extremes of terminal H, which count even between
two samples: a class is taken after three equal results. -/
def doOffStateCheck (n : Nat) (hMax hMin : Rat) (hi lo : List Rat) (s : State) : State :=
  let v := s.valve n
  let off := v.st == .deEnergised || v.st == .offTime || v.st == .latched || v.st == .retryWait
  if !off || !heldFor v.biasAt s.time (2 * ms) || hi.isEmpty then s else
  let c := offClass (hi.foldl maxR hMax) (hi.foldl minR hMin) (meanOf hi) (meanOf lo)
  let l := (c :: v.offClasses).take 3
  let s := modValve n (fun v =>
    let v := { v with offClasses := l }
    if l.length == 3 && l.all (· == c) then
      ((v.setCode 2 (c == 2)).setCode 6 (c == 6)).setCode 7 (c == 7)
    else v) s
  vlvSync n s

/-! ## Groups (R257) -/

/-- The readings of the last `d` ns. -/
def lastOf (d t : Nat) (l : List (Nat × Rat × Rat)) : List (Nat × Rat × Rat) := l.filter fun e => t < e.1 + d

/-- What a group's input current should be: Σ (duty × coil current) of its channels. -/
def groupSum (k : Nat) (s : State) : Rat :=
  ((((s.vlv.ch.drop (12 * k)).take 12).filter fun v => v.st == .energised).map fun v => f32d (v.dutyNow s.time) * f32d v.current).sum

/-- A measurement of the input current enters the group's history. -/
def Group.note (g : Group) (m : GroupMeas) (t : Nat) (sum : Rat) : Group :=
  let h := (t, m.amps, m.amps - sum) :: lastOf sec t g.hist
  { g with hist := h, since := some (g.since.getD t), volts := m.volts, amps := meanOf (h.map fun e => e.2.1) }

/-- What the measurements say of EXCLUDED: means over 100 ms count once the group has been measured that long. -/
def groupExclude (m : GroupMeas) (t : Nat) (g : Group) : Bool :=
  let l := lastOf (100 * ms) t g.hist
  m.refFailed || 100 < m.amps ||
    heldFor g.since t (100 * ms) && (32 < meanOf (l.map fun e => e.2.1) || 3 / 2 < absR (meanOf (l.map fun e => e.2.2)))

/-- `VLV_EVENT` about a group. -/
def groupEvent (g : Nat) (s : State) : State :=
  event 0x0980 (unit 0x09 (0x100 + g)) (le 1 3 ++ le 1 0xFF ++ le 1 g ++ le 1 (s.group g).st.code ++ zeros 4 ++ le 8 s.time) [] (hwSource 0x0980) s

/-- The next state of a group (R257). -/
def groupNext (m : GroupMeas) (t : Nat) (g : Group) : Group :=
  let v := m.volts
  let g := { g with
    lowSince := sinceIf (decide (v < 9)) t g.lowSince, absentSince := sinceIf (decide (v < 6)) t g.absentSince
    overSince := sinceIf (decide (34 < v)) t g.overSince, lowEndSince := sinceIf (decide (19 / 2 ≤ v)) t g.lowEndSince
    absentEndSince := sinceIf (decide (17 / 2 ≤ v)) t g.absentEndSince, overEndSince := sinceIf (decide (v ≤ 33)) t g.overEndSince }
  let fresh : GroupSt :=
    if heldFor g.absentSince t ms then .absent else if heldFor g.lowSince t ms then .low
    else if heldFor g.overSince t ms then .overVolt else .ok
  if g.st == .excluded then g
  else if !g.seen then
    { g with seen := true, st := if m.refFailed then .excluded else if v < 6 then .absent else if v < 9 then .low
                                 else if 34 < v then .overVolt else .ok }
  else if groupExclude m t g then { g with st := .excluded }
  else match g.st with
    | .ok => { g with st := fresh }
    | .low => if heldFor g.absentSince t ms then { g with st := .absent }
        else if heldFor g.lowEndSince t (10 * ms) then { g with st := fresh } else g
    | .absent => if heldFor g.absentEndSince t (10 * ms) then { g with st := fresh } else g
    | .overVolt => if heldFor g.overEndSince t (10 * ms) then { g with st := fresh } else g
    | .excluded => g

/-- GROUP_STATE_EVAL (R257): every 10 µs the state of a group; its channels see SUPPLY_LOST and GROUP_EXCLUDED. -/
def doGroupEval (g : Nat) (m : GroupMeas) (s : State) : State :=
  if !onGrid (10 * us) s || 4 ≤ g then s else
  let old := (s.group g).st
  let t := s.time
  let s := { s with vlv := { s.vlv with groups := updAt s.vlv.groups g fun x => groupNext m t (x.note m t (groupSum g s)) } }
  let st := (s.group g).st
  if st == old then s else
  let s := groupEvent g (if st == .excluded then regionFault s else s)
  (List.range 12).foldl (fun s k =>
    let n := 12 * g + k
    let s := modValve n (fun v => (v.setCode 13 (st == .absent)).setCode 14 (st == .excluded)) s
    let s := valveLatchCheck n s
    let v := s.valve n
    let s := if v.mustStop && (v.st == .testing || v.st == .energised || v.st == .retryWait) then endOn n .hwFault (enterDemag n s) else s
    vlvSync n s) s

/-! ## Thermal limits (R258 to R260) -/

/-- The ambient temperature of a channel (R258). -/
def ambOf (c : ValveCfg) (s : State) : F32 :=
  let r := s.view c.ambHandle
  if c.ambHandle != 0 && r.fresh then ((valueQ r.ty r.value).map qf32).getD c.ambDefault else c.ambDefault

/-- The factor of the allowed current at a winding temperature (R258). -/
def derateOf (c : ValveCfg) (tm : F32) : F32 := f32Sqrt (clampF (f32Div (f32Sub c.tIns tm) c.derateBand) 0 0x3F800000)

/-- COIL_THERMAL_UPDATE (R258, R260): every 1 ms, in binary32, with the coil-current samples of this instant. -/
def doCoilThermal (n : Nat) (samples : List Rat) (s : State) : State :=
  let v := s.valve n
  if v.mode == 0 || !onGrid ms s then s else
  let c := v.cfg
  let amb := ambOf c s
  let i := sqrt32 ((v.lastMs s.time samples).2.1 / (v.lastMs s.time samples).2.2)
  let heat := f32Mul (f32Mul (f32Mul c.rTh i) i) v.rModel
  let tm := f32Add v.tm (f32Mul (f32Div (qf32 (1 / 1000)) c.tauTh) (f32Sub (f32Add amb heat) v.tm))
  let tm := if v.measured then
      let tr := f32Add c.tRef (f32Div (f32Sub (f32Div v.rMeas c.rRef) 0x3F800000) alphaCu)
      f32Add tm (f32Mul (qf32 (1 / 5)) (f32Sub tr tm))
    else tm
  let f := derateOf c tm
  let s := modValve n (fun v => { v with
    tm := tm, measured := false, iAllow := f32Mul f c.iMax, derated := f32Lt f 0x3F800000
    bucket := minR 2 (v.bucket + 1 / 100), bucketSeen := true }) s
  vlvSync n s

/-- The window of a resistance measurement in ns (R259): 10 ms, or with dither the fewest whole dither periods that last as long. -/
def windowNs (c : ValveCfg) : Rat :=
  if f32IsZero c.ditherAmp then 10000000 else (((c.ditherFreq + 99) / 100 : Nat) : Rat) * 1000000000 / (c.ditherFreq : Rat)

/-- The window in which a channel is in steady hold, with this instant where its VALVE_INSTANT row has not brought it. -/
def steadyNow (n : Nat) (duty : Rat) (samples : List Rat) (s : State) : Option (Nat × Rat × Rat × Nat) :=
  let v := s.valve n
  if samples.isEmpty || v.acc.any (·.1 == s.time) then v.steady
  else (v.holdStep s.time duty (meanOf samples) (f32d (valveSetPoint n s))).steady

/-- RESISTANCE_MEASUREMENT (R259): a window throughout which the channel has been in steady hold ends, and the next one begins.
`duty` and `samples` are the duty and the coil-current samples of this instant, where its VALVE_INSTANT row has not brought them, and
`vGroup` is the voltage of the channel's group. -/
def doResistance (n : Nat) (duty : Rat) (samples : List Rat) (vGroup : Rat) (s : State) : State :=
  match steadyNow n duty samples s with
  | none => s
  | some (t0, d, a, k) =>
    if k == 0 || decide (((s.time - t0 : Nat) : Rat) < windowNs (s.valve n).cfg) then s else
    let duty := d / (k : Rat)
    let i := a / (k : Rat)
    let vc := duty * vGroup - (1 - duty) * (7 / 10) - i * (6 / 100)
    modValve n (fun v => { v with rMeas := qf32 (vc / i), measured := true, steady := some (s.time, 0, 0, 0) }) s

/-! ## SENT frames (R252) -/

/-- One step of the 4-bit CRC of SAE J2716 (PRESUMED, log entry 31): x^4 + x^3 + x^2 + 1. -/
def crc4Step (c d : Nat) : Nat :=
  let t := [0, 13, 7, 10, 14, 3, 9, 4, 1, 12, 6, 11, 15, 2, 8, 5]
  Nat.xor (t.getD c 0) d

/-- The SENT CRC of the data nibbles; the recommended form ends with a zero nibble. -/
def sentCrc (legacy : Bool) (ds : List Nat) : Nat :=
  let c := ds.foldl crc4Step 5
  if legacy then c else crc4Step c 0

/-- SENT_FRAME (R251, R252): the calibration pulse and the nibble pulses (status, data, CRC) in ns. -/
def doSentFrame (n cal : Nat) (nibs : List Nat) (s : State) : State :=
  let v := s.valve n
  let c := v.cfg
  if c.posInput != 2 then s else
  let nominal : Rat := 56 * (c.sentTick : Rat) * 100
  let ticks := nibs.map fun (x : Nat) => roundHalfUp ((x : Rat) * 56 / (cal : Rat))
  let vals := ticks.map fun x => (x - 12).toNat
  let data := (vals.drop 1).take c.sentNibbles
  let calOk := decide (nominal * (8 / 10) ≤ (cal : Rat)) && decide ((cal : Rat) ≤ nominal * (12 / 10))
  let stepOk := v.sentCal.all fun p => decide (absR ((cal : Rat) - (p : Rat)) * 64 ≤ (p : Rat))
  let nibOk := nibs.length == c.sentNibbles + 2 && ticks.all fun x => 12 ≤ x && x ≤ 27
  let crcOk := vals.getD (c.sentNibbles + 1) 16 == sentCrc (c.sentCrc == 1) data
  let s := modValve n (fun v => { v with sentCal := some cal }) s
  if calOk && stepOk && nibOk && crcOk then
    let raw : Rat := ((data.getD 0 0 * 256 + data.getD 1 0 * 16 + data.getD 2 0 : Nat) : Rat) / 4095
    modValve n (fun v => { v with posRaw := some raw, position := positionOf c raw, sentAt := s.time }) s
  else s

/-- VALVE_PUBLISH (R261): every 1 ms the current and the position, and the status word every 100 ms. `samples` are the coil-current
samples of this instant. -/
def doValvePublish (n : Nat) (samples : List Rat) (s : State) : State :=
  if !onGrid ms s || 48 ≤ n then s else
  let v := s.valve n
  let mean := (v.lastMs s.time samples).1 / (v.lastMs s.time samples).2.2
  let exc := decide (12 < mean)
  let s := modValve n (fun v => { v with mean1ms := qf32 mean }) s
  let s := pubHw n 3 (q32v (if exc then 12 else mean)) (if exc then .outOfRange else .valid) s.time 5000 s
  let s :=
    if v.cfg.posInput == 0 then pubHw (48 + n) 3 0 .noValue s.time 5000 s
    else if v.present.contains 1 then pubHw (48 + n) 3 (f32v v.position) .masked s.time 5000 s
    else pubHw (48 + n) 3 (f32v v.position) .valid s.time 5000 s
  if v.statusAt + 100 * ms ≤ s.time then
    pubHw (144 + n) 0 (BitVec.ofNat 64 v.word) .valid 0 300000 (modValve n (fun v => { v with statusAt := s.time }) s)
  else s

/-! ## Commands -/

/-- The channel that a target names. -/
def valveTarget (r : Req) : Nat := (unitIndex r.p.target 0x09).getD 0xFFFF

/-- The configuration that `VLV_CONFIG` gives. -/
def parseValveCfg (b : List Byte) : ValveCfg :=
  { mode := u8 b 0, owner := u8 b 1, posInput := u8 b 2, lostMode := u8 b 3, pwmFreq := u16 b 4, offTime := u32 b 8
    iMax := bits32 b 12, iPeak := bits32 b 16, tPeak := bits32 b 20, iHold := bits32 b 24, onLevel := bits32 b 28
    offLevel := bits32 b 32, ditherAmp := bits32 b 36, ditherFreq := u16 b 40, demagMax := u16 b 42, posGain := bits32 b 44
    posOffset := bits32 b 48, posMin := bits32 b 52, posMax := bits32 b 56, sentTick := u8 b 60, sentNibbles := u8 b 61
    sentCrc := u8 b 62, rRef := bits32 b 64, tRef := bits32 b 68, rTh := bits32 b 72, tauTh := bits32 b 76, tIns := bits32 b 80
    derateBand := bits32 b 84, ambHandle := u32 b 88, ambDefault := bits32 b 92 }

/-- Fields out of range or order (`VLV_CONFIG`). -/
def valveCfgBad (c : ValveCfg) (b : List Byte) : Bool :=
  3 < c.mode || 127 < c.owner || 2 < c.posInput || 1 < c.lostMode || c.pwmFreq < 18000 || 40000 < c.pwmFreq
  || reservedSet b [(6, 2), (63, 1)] || c.offTime < 20 || 100000 < c.offTime
  || !f32In c.iMax (1 / 10) (7 / 2) || !f32In c.iPeak (1 / 2) 10 || !f32In c.tPeak (1 / 10) 20 || !f32In c.iHold (1 / 10) (7 / 2)
  || f32Lt c.iPeak c.iHold || !f32Ok c.onLevel || !f32Ok c.offLevel || !f32Lt c.offLevel c.onLevel
  || !f32In c.ditherAmp 0 (1 / 2) || c.ditherFreq < 50 || 400 < c.ditherFreq || c.demagMax < 1 || 100 < c.demagMax
  || !f32Ok c.posGain || f32IsZero c.posGain || !f32Ok c.posOffset || !f32Ok c.posMin || !f32Ok c.posMax || !f32Lt c.posMin c.posMax
  || c.sentTick < 30 || 100 < c.sentTick || c.sentNibbles < 3 || 6 < c.sentNibbles || 1 < c.sentCrc
  || !f32In c.rRef (1 / 2) 200 || !f32In c.tRef (-40) 60 || !f32In c.rTh (1 / 2) 50 || !f32In c.tauTh 10 3600
  || !f32In c.tIns 105 200 || !f32In c.derateBand 5 50 || !handleOk c.ambHandle || !f32In c.ambDefault (-40) 125
  || (c.mode == 2 && c.posInput == 0)

/-- The two sums of R239 for a group whose channel configurations are given: whether they hold. -/
def sumsOk (cs : List ValveCfg) : Bool :=
  let first := (cs.map fun c => if c.mode == 1 || c.mode == 2 then f32d c.iMax else if c.mode == 3 then f32d c.iHold else 0).sum
  let second := (cs.map fun c => if c.mode == 0 then 0 else maxR (f32d c.iMax) (f32d c.iPeak)).sum
  first ≤ 30 && second ≤ 90

/-- The accepted configurations of a group. -/
def groupCfgs (g : Nat) (s : State) : List ValveCfg := ((s.vlv.ch.drop (12 * g)).take 12).map (·.cfg)

/-- What refuses `VLV_CONFIG`, in its order (step 8 of R73). -/
def chkVlvConfig (r : Req) (s : State) : List (Bool × Status) :=
  let b := r.p.payload
  let n := valveTarget r
  let v := s.valve n
  let c := parseValveCfg b
  [ (47 < n, .badParam), (!s.isHost r.port, .notOwner), (valveCfgBad c b, .badParam),
    (v.gde && !(c.mode == 2 && c.posInput != 0), .badParam),
    (v.st != .unconfigured && v.st != .deEnergised && v.st != .latched, .wrongState),
    (!sumsOk ((groupCfgs (n / 12) s).set (n % 12) c), .configRejected) ]

/-- `VLV_CONFIG` (R239, R241, R247). -/
def effVlvConfig (r : Req) (s : State) : Res × State :=
  let b := r.p.payload
  let n := valveTarget r
  let v := s.valve n
  let c := parseValveCfg b
  check s (chkVlvConfig r s) fun _ =>
    done (vlvSync n (modValve n (fun v => { v with cfg := c, sentCal := if c.posInput == 2 then v.sentCal else none }) s))

/-- What refuses `VLV_DRIVE`, in its order (step 8 of R73). -/
def chkVlvDrive (r : Req) (s : State) : List (Bool × Status) :=
  let n := valveTarget r
  let v := s.valve n
  let op := u8 r.p.payload 0
  let mine := v.fn.isNone && !v.gde && (partOfPort r.port).any (· == v.cfg.owner)
  [ (47 < n, .badParam), (!mine, .notOwner), (1 < op || reservedSet r.p.payload [(1, 3)], .badParam),
    (op == 1 && (s.pwr.st != .run || v.mode == 0), .wrongState),
    (op == 1 && v.st == .latched, .hwFault),
    (op == 1 && v.st == .deEnergised && v.want == false && (v.blocked || v.mustLatch) && (v.mode != 3 || v.level), .hwFault) ]

/-- `VLV_DRIVE` (R242, R247, R248). -/
def effVlvDrive (r : Req) (s : State) : Res × State :=
  let n := valveTarget r
  let v := s.valve n
  let op := u8 r.p.payload 0
  check s (chkVlvDrive r s) fun _ =>
    if op == 0 then
      let s := endOn n .superseded (modValve n (fun v => { v with drive := false, heldOn := false }) s)
      match v.st with
      | .testing | .energised => (.silent, modValve n (fun v => { v with offReq := some r }) (endOff n .superseded s))
      | _ => done (vlvSync n s)
    else
      let s := endOn n .superseded (modValve n (fun v => { v with drive := true }) s)
      let v := s.valve n
      if v.st == .energised then done (endOff n .superseded s)
      else if v.mode == 3 && !v.level then done s
      else
        let s := modValve n (fun v => { v with onReq := some r }) s
        match v.st with
        | .demag | .offTime => (.interim .held, vlvSync n (modValve n (fun v => { v with heldOn := true }) s))
        | .deEnergised =>
          match valveBanks n s with
          | some (k, st) =>
            (.fin st [], refuseBank k st (modValve n (fun v => { v with onReq := none, drive := false }) s))
          | none => (.silent, s)
        | _ => (.silent, s)

/-- What refuses `VLV_STATUS`, in its order (step 8 of R73). -/
def chkVlvStatus (r : Req) (s : State) : List (Bool × Status) :=
  let n := valveTarget r
  [(47 < n, .badParam)]

/-- `VLV_STATUS`. -/
def effVlvStatus (r : Req) (s : State) : Res × State :=
  let n := valveTarget r
  let v := s.valve n
  let drv : Nat × Nat := match v.fn with
    | some f => (1, f)
    | none => if v.gde then (2, 0xFF) else if v.cfg.mode == 0 && v.mode == 0 then (0, 0xFF) else (3, v.cfg.owner)
  let vals := [v.mean1ms, v.position, v.dutyNow s.time, v.tm, v.rMeas, if v.bucketSeen then qf32 v.bucket else 0]
  check s (chkVlvStatus r s) fun _ =>
    answer (le 4 v.word ++ le 2 (v.present.foldl (fun a k => a + 2 ^ k) 0) ++ le 1 drv.1 ++ le 1 drv.2
      ++ vals.flatMap (fun x => le 4 x.toNat) ++ le 4 v.switchOns ++ le 4 v.trips ++ le 8 s.time) s

/-- What refuses `VLV_CLEAR`, in its order (step 8 of R73). -/
def chkVlvClear (r : Req) (s : State) : List (Bool × Status) :=
  let n := valveTarget r
  let v := s.valve n
  let other := v.present.any fun k => k == 11 || k == 14 || (k == 4 && v.cfg.lostMode == 1)
  [ (47 < n, .badParam), (!s.isHost r.port, .notOwner), (v.st != .latched || v.blocked || other, .wrongState) ]

/-- `VLV_CLEAR` (R247, R254). -/
def effVlvClear (r : Req) (s : State) : Res × State :=
  let n := valveTarget r
  let v := s.valve n
  check s (chkVlvClear r s) fun _ =>
    let s := modValve n (fun v => { (((v.setCode 8 false).setCode 9 false).setCode 10 false).setCode 12 false with
      st := .deEnergised, since := s.time, retries := 0 }) s
    done (vlvSync n (valveEvent 2 n s))

/-- What refuses `VLV_GROUP_STATUS`, in its order (step 8 of R73). -/
def chkVlvGroupStatus (r : Req) (s : State) : List (Bool × Status) :=
  [(valveTarget r < 0x100 || 0x103 < valveTarget r, .badParam)]

/-- `VLV_GROUP_STATUS`. -/
def effVlvGroupStatus (r : Req) (s : State) : Res × State :=
  let g := valveTarget r - 0x100
  let gr := s.group g
  let on := ((s.vlv.ch.drop (12 * g)).take 12).filter fun v => v.st == .testing || v.st == .energised
  let first := ((groupCfgs g s).map fun c => if c.mode == 1 || c.mode == 2 then f32d c.iMax else if c.mode == 3 then f32d c.iHold else 0).sum
  check s (chkVlvGroupStatus r s) fun _ =>
    answer (le 1 gr.st.code ++ le 1 on.length ++ zeros 2 ++ le 4 (qf32 gr.volts).toNat ++ le 4 (qf32 gr.amps).toNat
      ++ le 4 (qf32 first).toNat ++ le 8 s.time) s

/-! ## What other chapters do to channels -/

/-- A driver other than a partition turns a channel's drive on or off (R240). -/
def setDrive (n : Nat) (on : Bool) (s : State) : State :=
  if (s.valve n).st == .latched && on then s else modValve n (fun v => { v with drive := on, heldOn := v.heldOn && on }) s

/-- Leaving RUN turns every drive off (R247). -/
def vlvLeaveRun (s : State) : State :=
  (List.range 48).foldl (fun s n => endOn n .superseded (modValve n (fun v => { v with drive := false }) s)) s

/-- Whether a channel's switch-off has completed: its off-time has ended (R99, R248). -/
def Valve.offDone (v : Valve) : Bool := v.st == .deEnergised || v.st == .latched || v.st == .unconfigured

/-- The modes of the accepted configurations come into force (R247, R258). -/
def applyValveModes (s : State) : State :=
  (List.range 48).foldl (fun s n =>
    let v := s.valve n
    let m := v.cfg.mode
    let amb := ambOf v.cfg s
    let s := match v.st with
      | .unconfigured =>
        if m == 0 then s
        else modValve n (fun v => { v with mode := m, st := .deEnergised, since := s.time, biasAt := some s.time, offClasses := [], tm := amb
                                           iAllow := f32Mul (derateOf v.cfg amb) v.cfg.iMax
                                           present := [], retries := 0, level := false }) s
      | .deEnergised | .latched =>
        if m == 0 then modValve n (fun v => { v with mode := 0, st := .unconfigured, since := s.time, biasAt := none, drive := false
                                                     present := [], retries := 0, level := false }) s
        else modValve n (fun v => { v with mode := m }) s
      | _ => modValve n (fun v => { v with mode := if m == 0 then v.mode else m }) s
    vlvSync n s) s

/-! ## Registers (R262 to R266) -/

/-- `VLV_BLOCK`. -/
def vlvBlock (s : State) : Nat :=
  let bit := fun (st : GroupSt) => bitsN (s.vlv.groups.map fun g => g.st == st)
  16 * bit .overVolt + 2 ^ 8 * bit .low + 2 ^ 12 * bit .absent + 2 ^ 16 * bit .excluded + 2 ^ 31 * b2n s.vlv.accessFault

/-- `VLV_ENERGISED`, `VLV_FAULT`, `VLV_LATCHED` and `VLV_CHANGED`. -/
def vlvBitmap (k : Nat) (s : State) : Nat :=
  if k == 3 then bitsN s.vlv.changed
  else bitsN (s.vlv.ch.map fun v =>
    if k == 0 then v.st == .testing || v.st == .energised else if k == 1 then v.faulted else v.st == .latched)

/-- One 32-bit word of the VLV block; none at an unused offset. -/
def vlvReadWord (off : Nat) (s : State) : Option Nat :=
  let half := fun (k : Nat) => vlvBitmap k s / 2 ^ (32 * (off / 4 % 2)) % 2 ^ 32
  if off == 0 then some (vlvBlock s)
  else if 0x08 ≤ off && off < 0x28 then some (half ((off - 0x08) / 8))
  else if 0x1000 ≤ off && off < 0x1000 + 0x40 * 48 then
    let n := (off - 0x1000) / 0x40
    let v := s.valve n
    match (off - 0x1000) % 0x40 with
    | 0x00 => some v.word | 0x04 => some v.current.toNat | 0x08 => some (v.dutyNow s.time).toNat | 0x0C => some v.position.toNat
    | 0x10 => some (qf32 (s.group (n / 12)).volts).toNat | 0x14 => some v.tm.toNat | 0x18 => some v.rMeas.toNat
    | 0x1C => some (if v.bucketSeen then qf32 v.bucket else 0).toNat
    | 0x20 => some (v.stamp % 2 ^ 32) | 0x24 => some (v.stamp / 2 ^ 32)
    | 0x28 => some (v.switchOns % 65536 * 65536 + v.trips % 65536) | _ => none
  else none

/-- `VLV_BLOCK.ACCESS_FAULT` is raised (R263). -/
def vlvAccessFault (s : State) : State := noteSet 0x09 0 31 { s with vlv := { s.vlv with accessFault := true } }

/-- A write of one 32-bit word (R262): W1C from the supervisory partition; none at an unused offset. -/
def vlvWriteWord (part off v : Nat) (s : State) : Option State :=
  let fault : State := vlvAccessFault s
  let sup := s.supervisory == some part
  if (vlvReadWord off s).isNone then none
  else if off == 0 then
    some (if !sup then fault else if bitOf v 31 then { s with vlv := { s.vlv with accessFault := false } } else s)
  else if off == 0x20 || off == 0x24 then
    let base := if off == 0x20 then 0 else 32
    let next := s.vlv.changed.zipIdx.map fun e => e.1 && !(base ≤ e.2 && e.2 < base + 32 && bitOf v (e.2 - base))
    some (if sup then { s with vlv := { s.vlv with changed := next } } else fault)
  else some fault

end Sys2Proof.Machine
end

