-- ==== Sys2Proof/Machine/Fio.lean ====
section
/-! DEFINITION. Chapter 11: the supplies, digital and analogue inputs, digital outputs, and the rules of the FIO
commands. -/
namespace Sys2Proof.Machine

/-- A digital input. -/
def State.di (s : State) (n : Nat) : Di := s.fio.di.getD n {}
/-- Change a digital input. -/
def modDi (n : Nat) (f : Di → Di) (s : State) : State := { s with fio := { s.fio with di := updAt s.fio.di n f } }
/-- An analogue input. -/
def State.ai (s : State) (n : Nat) : Ai := s.fio.ai.getD n {}
/-- Change an analogue input. -/
def modAi (n : Nat) (f : Ai → Ai) (s : State) : State := { s with fio := { s.fio with ai := updAt s.fio.ai n f } }
/-- A digital output. -/
def State.dout (s : State) (n : Nat) : DigOut := s.fio.dout.getD n {}
/-- Change a digital output. -/
def modDo (n : Nat) (f : DigOut → DigOut) (s : State) : State := { s with fio := { s.fio with dout := updAt s.fio.dout n f } }
/-- A supply: `S24A`, `S24B`, `DOSA`, `DOSB`. -/
def State.supply (s : State) (k : Nat) : Supply := s.fio.supplies.getD k {}

/-- The state codes of R277. -/
def DoSt.code : DoSt → Nat
  | .unconfigured => 0 | .off => 1 | .testing => 2 | .on => 3 | .demag => 4 | .retryWait => 5 | .latched => 6

/-- `FIO_EVENT`. -/
def fioEvent (cause target st diag : Nat) (parts : List Nat) (s : State) : State :=
  event 0x0A80 target (le 1 cause ++ le 1 st ++ le 1 diag ++ zeros 5 ++ le 8 s.time) parts (hwSource 0x0A80) s

/-! ## Digital inputs (R268 to R272) -/

/-- The state of a digital input under R274. -/
def Di.code (d : Di) : Nat := if d.overTemp then 4 else if d.openWire then 2 else 0

/-- Whether the record of a digital input is MASKED (R267, R272, R274). -/
def diMasked (n : Nat) (s : State) : Bool :=
  let d := s.di n
  d.openWire || d.overTemp || (d.cfg.wb && (s.supply (n / 32)).bad)

/-- The comparator of R268. -/
def comparator (c : DiCfg) (old : Bool) (v : Rat) : Bool :=
  if (if c.itype == 1 then 15 else 11) ≤ v then true else if v ≤ 5 then false else old

/-- The value of a level input after `polarity` (R270). -/
def Di.value (d : Di) : Bool := d.out != (d.cfg.polarity == 1)

/-- Publication of a level input with the stamp of its last edge (R270). -/
def publishDi (n : Nat) (s : State) : State :=
  let d := s.di n
  if d.cfg.mode != 1 then s
  else if diMasked n s then
    pubHw (192 + n) 4 (s.ownRec (192 + n)).value .masked d.edgeAt 30000 s
  else pubHw (192 + n) 4 (if d.value then 1 else 0) .valid d.edgeAt 30000 s

/-- The sample period of a digital input (R268). -/
def DiCfg.step (c : DiCfg) : Nat := if c.mode == 2 then 100 else 10 * us

/-- The integrated output takes a value at an instant (R270, R271): a change is stamped, counted and published, in pulse mode only counted
where it has the selected polarity. -/
def diOut (n t : Nat) (out : Bool) (s : State) : State :=
  let d := s.di n
  let c := d.cfg
  let stamp := pclkStamp t - c.n * c.step
  let s := modDi n (fun d => { d with out := out }) s
  if out == d.out || c.mode == 0 then s
  else if c.mode == 2 then
    if out == (c.polarity == 0) then
      modDi n (fun d => { d with edgeAt := stamp, count := (d.count + 1) % 2 ^ 32
                                 edges := stamp :: d.edges.filter fun e => t < e + c.gate * ms + 2 * ms }) s
    else s
  else publishDi n (modDi n (fun d => { d with edgeAt := stamp, count := (d.count + 1) % 2 ^ 32 }) s)

/-- A configuration of a digital input takes effect at its instant (R269); with mode 0 its record reads NO_VALUE. Counted edges stay where
the input remains in pulse mode. -/
def diApply (n : Nat) (s : State) : State :=
  match (s.di n).next with
  | some (t, c) =>
    if t ≤ s.time then
      let s := modDi n (fun d =>
        let keep := d.cfg.mode == 2 && c.mode == 2
        { d with cfg := c, next := none, cnt := if d.raw then c.n else 0, openWire := false, below := 0, above := 0
                 edges := if keep then d.edges else [], freq := if keep then d.freq else 0 }) s
      let s := diOut n s.time (s.di n).raw s
      if c.mode == 0 then publish (192 + n) { quality := .noValue, ty := 4 } 0 s else s
    else s
  | none => s

/-- One comparator sample at an instant (R268 to R271). -/
def diSample (n t : Nat) (v : Rat) (s : State) : State :=
  let d := s.di n
  let c := d.cfg
  let raw := comparator c d.raw v
  let cnt := if raw then min (d.cnt + 1) c.n else d.cnt - 1
  let out := if cnt == c.n then true else if cnt == 0 then false else d.out
  diOut n t out (modDi n (fun d => { d with raw := raw, cnt := cnt }) s)

/-- DI_OUT_CHANGE (R268 to R270): the input's voltages at its sample instants, the last one at this instant; every change
of the integrated output is published with its edge stamp. -/
def doDiOutChange (n : Nat) (samples : List Rat) (s : State) : State :=
  let s := diApply n s
  let c := (s.di n).cfg
  if 64 ≤ n || c.mode == 0 || !onGrid c.step s then s else
  let k := samples.length
  samples.zipIdx.foldl (fun s e => diSample n (s.time - (k - 1 - e.2) * c.step) e.1 s) s

/-- DI_PERIODIC_PUBLISH (R270): every 10 ms a level input is published with the stamp of its last edge. -/
def doDiPeriodic (n : Nat) (s : State) : State :=
  if !onGrid (10 * ms) s || 64 ≤ n then s else publishDi n (diApply n s)

/-- PULSE_FREQUENCY (R271). -/
def doPulseFrequency (n : Nat) (s : State) : State :=
  let s := diApply n s
  let d := s.di n
  if !onGrid ms s || d.cfg.mode != 2 then s else
  let t := s.time
  let es := d.edges.filter fun e => t < e + d.cfg.gate * ms && e ≤ t
  let f : Rat :=
    if 2 ≤ es.length then
      (1000000000 : Rat) * ((es.length - 1 : Nat) : Rat) / ((es.headD 0 - es.getLastD 0 : Nat) : Rat)
    else if d.count != 0 && t < d.edgeAt + d.cfg.zeroTime * ms then
      minR d.freq ((1000000000 : Rat) / ((t - d.edgeAt : Nat) : Rat))
    else 0
  let exc := decide (50000 < f)
  let s := modDi n (fun d => { d with freq := f }) s
  if diMasked n s then pubHw (192 + n) 3 (s.ownRec (192 + n)).value .masked t 5000 s
  else pubHw (192 + n) 3 (q32v (if exc then 50000 else f)) (if exc then .outOfRange else .valid) t 5000 s

/-- The event of a digital input's state change; a level input's record shows it at once (R272). -/
def diSync (n : Nat) (s : State) : State :=
  let d := s.di n
  if d.code == d.st then s
  else publishDi n (fioEvent 0 (unit 0x0A n) d.code 0 [] (modDi n (fun d => { d with st := d.code }) s))

/-- WIRE_BREAK_CHECK (R272, R274): every 1 ms the input's voltage against its sensor supply, and its front end's
temperature. -/
def doWireBreak (n : Nat) (vIn temp : Rat) (s : State) : State :=
  let s := diApply n s
  if 64 ≤ n || !onGrid ms s then s else
  let d := s.di n
  let sup := (s.supply (n / 32)).volts
  let (u, s) := if sup == 0 then takeFreeRat s else (vIn / sup, s)
  let uOpen := (47 / 10 : Rat) / (47 / 10 + f32d d.cfg.rWb)
  let below := if u < 4 / 10 * uOpen then min (d.below + 1) 3 else if 6 / 10 * uOpen ≤ u then 0 else d.below
  let above := if u < 4 / 10 * uOpen then 0 else if 6 / 10 * uOpen ≤ u then min (d.above + 1) 10 else d.above
  let open_ := if !d.cfg.wb then false else if 3 ≤ below then true else if 10 ≤ above then false else d.openWire
  let hot := decide (150 < temp)
  let cool := sinceIf (!hot) s.time d.coolSince
  let s := modDi n (fun d => { d with
    u := u, below := if d.cfg.wb then below else d.below, above := if d.cfg.wb then above else d.above, openWire := open_
    coolSince := cool, overTemp := hot || (d.overTemp && !heldFor cool s.time (10 * ms)) }) s
  diSync n s

/-! ## Analogue inputs (R273, R274) -/

/-- A configuration of an analogue input takes effect: its conditions are evaluated anew, but a disconnected shunt stays
so while the input remains in current mode (R274). -/
def aiApply (n : Nat) (s : State) : State :=
  match (s.ai n).next with
  | some (t, c) =>
    if t ≤ s.time then
      modAi n (fun a =>
        let keep := a.shuntOff.isSome && c.mode == 2
        { a with cfg := c, next := none, x := none, st := if keep then 3 else 0, openSince := none, clearSince := none
                 shuntOff := if keep then a.shuntOff else none }) s
    else s
  | none => s

/-- The state that the conditions of this millisecond give, without the clearing time (R274); `open_` is the OPEN_WIRE
condition held throughout 3 ms. -/
def aiState (c : AiCfg) (m : AiMeas) (open_ : Bool) : Nat :=
  if 150 < m.temp then 4
  else if c.mode == 2 && 25 < m.low then 3
  else if open_ then 2
  else if c.mode == 1 then (if m.mean < 0 || 102 / 10 < m.mean then 1 else 0)
  else (if m.mean < 4 || 20 < m.mean then 1 else 0)

/-- The value published from the filter output (R273). -/
def aiValue (c : AiCfg) (st : Nat) (x : F32) : F32 :=
  let x := if st != 1 then x else if c.mode == 1 then clampF x 0 (qf32 (102 / 10)) else clampF x (qf32 4) (qf32 20)
  f32Add (f32Mul c.gain x) c.offset

/-- The filter of R273 after a millisecond's mean, in binary32. -/
def aiFilter (tau m : F32) (x : Option F32) : F32 :=
  match x with
  | none => m
  | some x =>
    if f32IsZero tau then m else f32Add x (f32Mul (f32Div (qf32 (1 / 1000)) (f32Add tau (qf32 (1 / 1000)))) (f32Sub m x))

/-- One millisecond of an analogue input that is on (R273, R274). While its shunt is disconnected the input measures nothing and OVERLOAD
goes on. -/
def aiStep (n : Nat) (m : AiMeas) (s : State) : State :=
  let a := s.ai n
  let c := a.cfg
  let t := s.time
  let off := a.shuntOff.isSome
  let x := if off then a.x else some (aiFilter c.tau (qf32 m.mean) a.x)
  let openCond := !off && (if c.mode == 1 then c.wb && decide (108 / 10 < m.low) else decide (m.high < 36 / 10))
  let openSince := sinceIf openCond (t - ms) a.openSince
  let new := if off then (if 150 < m.temp then 4 else 3) else aiState c m (heldFor openSince t (3 * ms))
  let slow := 2 ≤ a.st && new < a.st
  let clear := sinceIf slow (t - ms) a.clearSince
  let st := if slow && !heldFor clear t (10 * ms) then a.st else new
  let masked := 2 ≤ st || a.calFailed || (c.wb && (s.supply (n / 8)).bad)
  let s := modAi n (fun a => { a with
    x := x, mean := if off then a.mean else m.mean, st := st, openSince := openSince, clearSince := if st == a.st then clear else none
    shuntOff := if off then a.shuntOff else if new == 3 then some t else none
    value := if masked then a.value else aiValue c st (x.getD 0) }) s
  pubHw (288 + n) 3 (f32v (s.ai n).value) (if masked then .masked else if st == 1 then .outOfRange else .valid) t 5000 s

/-- AI_CONVERSION (R273, R274): every 1 ms. A state other than the one before the instant, and before a configuration that takes effect
at it, is an event. -/
def doAiConversion (n : Nat) (m : AiMeas) (s : State) : State :=
  if !onGrid ms s || 16 ≤ n then s else
  let old := (s.ai n).st
  let s := aiApply n s
  let s := if (s.ai n).cfg.mode == 0 then pubHw (288 + n) 3 0 .noValue s.time 0 s else aiStep n m s
  let st := (s.ai n).st
  if st == old then s else fioEvent 0 (unit 0x0A (0x200 + n)) st 0 [] s

/-- AI_SHUNT_RETRY (R274): 1 s after an OVERLOAD the shunt is reconnected. -/
def doAiShuntRetry (n : Nat) (s : State) : State :=
  if heldFor (s.ai n).shuntOff s.time sec then modAi n (fun a => { a with shuntOff := none, clearSince := none }) s else s

/-! ## Digital outputs (R275 to R279) -/

/-- Set or clear a present diagnostic. -/
def DigOut.setCode (d : DigOut) (k : Nat) (b : Bool) : DigOut :=
  { d with present := if b then (if d.present.contains k then d.present else k :: d.present) else d.present.filter (· != k) }

/-- The diagnostic code (R276). -/
def DigOut.diag (d : DigOut) : Nat := if d.st == .unconfigured then 9 else d.present.foldl max 0

/-- Faulted under R276. -/
def DigOut.faulted (d : DigOut) : Bool := 2 ≤ d.diag && d.diag ≤ 8

/-- A diagnostic of kind B is present. -/
def DigOut.kindB (d : DigOut) : Bool := d.present.any fun k => k == 3 || k == 4 || k == 8
/-- A diagnostic of kind B or L is present. -/
def DigOut.kindBL (d : DigOut) : Bool := d.kindB || d.present.contains 7
/-- A diagnostic of kind B, R or L is present. -/
def DigOut.kindBRL (d : DigOut) : Bool := d.kindBL || d.present.contains 5 || d.present.contains 6

/-- The partition whose mailbox is the driver's (R275). -/
def DigOut.driverPart (d : DigOut) : Option Nat := if d.fn.isSome || d.gde then d.bindPart else some d.owner

/-- Whether the output wants to be on (R275). -/
def doWant (n : Nat) (s : State) : Bool :=
  let r := s.sig1 (256 + n)
  s.pwr.st == .run && r.fresh && r.value.toNat % 2 == 1

/-- The events of an output's change (`FIO_EVENT`). -/
def doSync (n : Nat) (old : DigOut) (s : State) : State :=
  let d := s.dout n
  let ps := if d.st == .unconfigured then [] else d.driverPart.toList
  let s := if d.st != old.st then
      fioEvent (if d.st == .latched then 2 else 0) (unit 0x0A (0x100 + n)) d.st.code d.diag ps s else s
  if d.diag != old.diag then fioEvent 1 (unit 0x0A (0x100 + n)) d.st.code d.diag ps s else s

/-- A change of an output, with its events. -/
def withDo (n : Nat) (f : State → State) (s : State) : State := doSync n (s.dout n) (f s)

/-- An output enters a state. -/
def doEnter (n : Nat) (st : DoSt) (s : State) : State :=
  modDo n (fun d => { d with st := st, since := s.time
                             heldOn := d.heldOn && st == .demag
                             demagEnd := if st == .demag || st == .testing || st == .on || st == .retryWait then none else d.demagEnd
                             count := if st == .on then (d.count + 1) % 2 ^ 32 else d.count }) s

/-- A switch-on (R277, R278): without a test pulse where `test` is 0. -/
def doSwitchOn (n : Nat) (s : State) : State :=
  if (s.dout n).test == 0 then doEnter n .on s else doEnter n .testing s

/-- The conditions of an output at its instant (R276). -/
def senseDo (n : Nat) (m : DoMeas) (s : State) : State :=
  let t := s.time
  let lost := (s.supply (2 + n / 16)).bad
  modDo n (fun d =>
    let on := d.st == .on
    let d := { d with amps := m.amps, volts := m.volts
                      hist := (t, m.amps) :: d.hist.filter fun e => t < e.1 + 100 * ms
                      histFrom := some (d.histFrom.getD t)
                      limitSince := sinceIf (m.limiting && (on || d.st == DoSt.testing)) t d.limitSince
                      openSince := sinceIf (on && decide (m.amps < 5 / 1000)) t d.openSince
                      openEndSince := sinceIf (decide (10 / 1000 < m.amps)) t d.openEndSince }
    let d := d.setCode 2 (on && (heldFor d.openSince t (10 * ms) || (d.present.contains 2 && !heldFor d.openEndSince t (10 * ms))))
    let d := d.setCode 4 (decide (170 < m.junction) || (d.present.contains 4 && decide (140 ≤ m.junction)))
    d.setCode 8 lost) s

/-- The move of an output at its instant (R277, R279). -/
def moveDo (n : Nat) (s : State) : State :=
  let d := s.dout n
  let want := doWant n s
  if d.forcedSafe then
    (if d.st == .testing || d.st == .retryWait || (d.st == .on && (d.safe == 0 || d.kindBRL)) then doEnter n .demag s else s)
  else match d.st with
    | .unconfigured | .latched => s
    | .off => if want && !d.kindBL then doSwitchOn n s else s
    | .testing | .on => if !want || d.kindB then doEnter n .demag s else s
    | .retryWait => if !want then doEnter n .demag s else s
    | .demag => modDo n (fun d => { d with heldOn := want }) s

/-- DO_INSTANT (R275): on the 10 µs grid. -/
def doDoInstant (n : Nat) (m : DoMeas) (s : State) : State :=
  if !onGrid (10 * us) s || 32 ≤ n || (s.dout n).st == .unconfigured then s
  else withDo n (fun s => moveDo n (senseDo n m s)) (consumeRec (hwSource 0x0A80) (s.handle (256 + n)) s)

/-- DO_TEST_PULSE_END (R278): `seen` are the other outputs' pins, as (output, highest volts in the pulse, highest volts
before it). -/
def doDoTestPulseEnd (n : Nat) (seen : List (Nat × Rat × Rat)) (s : State) : State :=
  let d := s.dout n
  if d.st != .testing || s.time < d.since + 50 * us then s else
  let partners := ((seen.filter fun e => e.1 != n && e.1 < 32 && 5 < e.2.1 && e.2.2 < 29 / 10
    && ((s.dout e.1).st == .off || (s.dout e.1).st == .latched)).map (·.1)).eraseDups
  if partners.isEmpty then withDo n (doEnter n .on) s
  else (n :: partners).foldl (fun s k =>
    withDo k (fun s => doEnter k .latched (modDo k (fun d => d.setCode 7 true) s)) s) s

/-- OVERLOAD by the mean current over the last 100 ms (R276), counted once the current has been measured that long (log entry 270).
`amps` is the current now, where the row of this instant has not brought it. -/
def DigOut.overload (d : DigOut) (t : Nat) (amps : Rat) : Bool :=
  let h := if d.hist.any (·.1 == t) then d.hist else (t, amps) :: d.hist
  let l := (h.filter fun e => t < e.1 + 100 * ms).map (·.2)
  heldFor d.histFrom t (100 * ms) && decide (6 / 10 < l.sum / (l.length : Rat))

/-- DO_TRIP (R276, R277): SHORT_GND_ON by 100 µs in current limit, OVERLOAD by the mean current. The row says what the output shows as it
trips: its current in A, and whether it still limits it. -/
def doDoTrip (n : Nat) (amps : Rat) (limiting : Bool) (s : State) : State :=
  let d := s.dout n
  let short := limiting && heldFor d.limitSince s.time (100 * us)
  if (d.st != .testing && d.st != .on) || (!short && !d.overload s.time amps) then s
  else withDo n (fun s =>
    let s := modDo n (fun d => { ((d.setCode 5 false).setCode 6 false).setCode (if short then 6 else 5) true with
      tripAt := s.time, limitSince := none }) s
    doEnter n (if d.retries < 3 then .retryWait else .latched) s) s

/-- DO_RETRY_EXPIRY (R277). -/
def doDoRetry (n : Nat) (s : State) : State :=
  let d := s.dout n
  if d.st != .retryWait || s.time < d.tripAt + 10 * ms || !doWant n s || d.forcedSafe then s
  else withDo n (fun s => doEnter n .on (modDo n (fun d => { d with retries := d.retries + 1 }) s)) s

/-- DO_RETRY_RESET (R277). -/
def doDoRetryReset (n : Nat) (s : State) : State :=
  let d := s.dout n
  if d.st != .on || d.retries == 0 || s.time < max d.since d.tripAt + 100 * ms then s
  else withDo n (modDo n (fun d => { (d.setCode 5 false).setCode 6 false with retries := 0 })) s

/-- DO_DEMAG_COMPLETE (R277): the load current is below 5 mA. -/
def doDoDemagComplete (n : Nat) (current : Rat) (s : State) : State :=
  let d := s.dout n
  if 5 / 1000 ≤ current then s
  else if d.st == .latched && d.demagEnd.isNone then modDo n (fun d => { d with demagEnd := some s.time }) s
  else if d.st != .demag then s
  else withDo n (fun s =>
    let s := modDo n (fun d => (d.setCode 5 false).setCode 6 false) s
    if doWant n s && !(s.dout n).kindBL && !d.forcedSafe then doSwitchOn n s
    else modDo n (fun d => { d with demagEnd := some s.time, offClasses := [] }) (doEnter n .off s)) s

/-- DO_OFF_STATE_CHECK (R276): every 1 ms, from 1 ms after demagnetisation. -/
def doDoOffCheck (n : Nat) (pin : Rat) (s : State) : State :=
  let d := s.dout n
  if (d.st != .off && d.st != .latched) || !heldFor d.demagEnd s.time ms then s else
  let c := if 5 < pin then 3 else if 29 / 10 < pin then 1 else 0
  let l := (c :: d.offClasses).take 3
  withDo n (modDo n (fun d =>
    let d := { d with offClasses := l }
    if l.length == 3 && l.all (· == c) then (d.setCode 1 (c == 1)).setCode 3 (c == 3) else d)) s

/-- An output goes to its declared safe state (R279). -/
def safeDo (n : Nat) (s : State) : State :=
  let d := s.dout n
  let s := modDo n (fun d => { d with forcedSafe := true, heldOn := false }) s
  if d.st == .unconfigured then s
  else if d.safe == 1 && !d.kindBRL && !(s.supply (2 + n / 16)).bad && d.st != .latched then
    (if d.st == .on then s else doEnter n .on s)
  else if d.st == .testing || d.st == .on || d.st == .retryWait then doEnter n .demag s else s

/-- Every output goes to its declared safe state (R279). -/
def driveSafe (s : State) : State :=
  (List.range 32).foldl (fun s n => withDo n (safeDo n) s) s

/-! ## Supplies (R267) -/

/-- SUPPLY_EVAL (R267): every 10 µs a supply is measured; the inputs with wire-break detection that it feeds show its failure. -/
def doSupplyEval (k : Nat) (volts : Rat) (limiting : Bool) (s : State) : State :=
  if !onGrid (10 * us) s || 4 ≤ k then s else
  let t := s.time
  let old := s.supply k
  let sensor := k < 2
  let badNow := if sensor then decide (volts < 216 / 10) || decide (264 / 10 < volts) else decide (volts < 6)
  let goodNow := if sensor then !badNow else decide (17 / 2 ≤ volts)
  let badS := sinceIf badNow t old.badSince
  let goodS := sinceIf goodNow t old.goodSince
  let limS := sinceIf (sensor && limiting) t old.limitSince
  let bad :=
    if !old.seen then badNow
    else if old.bad then (if sensor then badNow else !heldFor goodS t (10 * ms)) else heldFor badS t ms
  let off := if heldFor limS t (10 * ms) && old.offAt.isNone then some t else old.offAt
  let new : Supply := { old with seen := true, volts := volts, bad := bad, badSince := badS, goodSince := goodS
                                 limitSince := if off != old.offAt then none else limS, offAt := off }
  let s := { s with fio := { s.fio with supplies := s.fio.supplies.set k new } }
  if bad == old.bad then s else
  let s := fioEvent 4 (unit 0x0A (0x300 + k)) (b2n bad) 0 [] s
  if 2 ≤ k then s else
  (List.range 32).foldl (fun s j => if (s.di (32 * k + j)).cfg.wb then publishDi (32 * k + j) s else s) s

/-- SENSOR_SUPPLY_RETRY (R267): 1 s after it was switched off a sensor supply is switched on again. -/
def doSensorRetry (k : Nat) (s : State) : State :=
  if heldFor (s.supply k).offAt s.time sec then
    { s with fio := { s.fio with supplies := updAt s.fio.supplies k fun x => { x with offAt := none, limitSince := none } } }
  else s

/-! ## Commands -/

/-- The index of a target of the FIO group. -/
def fioTarget (r : Req) : Nat := (unitIndex r.p.target 0x0A).getD 0xFFFF

/-- What refuses `FIO_DI_CONFIG`, in its order (step 8 of R73). -/
def chkFioDiConfig (r : Req) (s : State) : List (Bool × Status) :=
  let b := r.p.payload
  let n := fioTarget r
  let mode := u8 b 0
  let len := u16 b 2
  let c : DiCfg := { mode := mode, itype := u8 b 1, n := len, polarity := u8 b 4, wb := u8 b 5 == 1, gate := u16 b 6
                     rWb := bits32 b 8, zeroTime := u16 b 12 }
  [ (63 < n, .badParam), (!s.isHost r.port, .notOwner),
    (2 < mode || (u8 b 1 != 1 && u8 b 1 != 3) || len < 1 || (if mode == 2 then 80 else 10000) < len || 1 < u8 b 4 || 1 < u8 b 5
      || u16 b 6 < 1 || 1000 < u16 b 6 || !f32In c.rWb 22 100 || u16 b 12 < 10 || 10000 < u16 b 12 || reservedSet b [(14, 2)], .badParam),
    (mode == 2 && 15 < n, .badParam) ]

/-- `FIO_DI_CONFIG` (R269). -/
def effFioDiConfig (r : Req) (s : State) : Res × State :=
  let b := r.p.payload
  let n := fioTarget r
  let mode := u8 b 0
  let len := u16 b 2
  let c : DiCfg := { mode := mode, itype := u8 b 1, n := len, polarity := u8 b 4, wb := u8 b 5 == 1, gate := u16 b 6
                     rWb := bits32 b 8, zeroTime := u16 b 12 }
  check s (chkFioDiConfig r s) fun _ =>
    let s := modDi n (fun d => { d with next := some (nextGrid ms s, c) }) s
    done s

/-- What refuses `FIO_AI_CONFIG`, in its order (step 8 of R73). -/
def chkFioAiConfig (r : Req) (s : State) : List (Bool × Status) :=
  let b := r.p.payload
  let c : AiCfg := { mode := u8 b 0, wb := u8 b 1 == 1, gain := bits32 b 4, offset := bits32 b 8, tau := bits32 b 12 }
  [ (fioTarget r < 0x200 || 0x20F < fioTarget r, .badParam), (!s.isHost r.port, .notOwner),
    (2 < u8 b 0 || 1 < u8 b 1 || (u8 b 1 == 1 && u8 b 0 != 1) || reservedSet b [(2, 2)] || !f32Ok c.gain || f32IsZero c.gain
      || !f32Ok c.offset || !f32In c.tau 0 10, .badParam) ]

/-- `FIO_AI_CONFIG` (R273). -/
def effFioAiConfig (r : Req) (s : State) : Res × State :=
  let b := r.p.payload
  let n := fioTarget r - 0x200
  let c : AiCfg := { mode := u8 b 0, wb := u8 b 1 == 1, gain := bits32 b 4, offset := bits32 b 8, tau := bits32 b 12 }
  check s (chkFioAiConfig r s) fun _ =>
    done (modAi n (fun a => { a with next := some (nextGrid ms s, c) }) s)

/-- What refuses `FIO_DO_CONFIG`, in its order (step 8 of R73). -/
def chkFioDoConfig (r : Req) (s : State) : List (Bool × Status) :=
  let b := r.p.payload
  let n := fioTarget r - 0x100
  let d := s.dout n
  [ (fioTarget r < 0x100 || 0x11F < fioTarget r, .badParam), (!s.isHost r.port, .notOwner),
    (1 < u8 b 0 || 127 < u8 b 1 || 1 < u8 b 2 || 1 < u8 b 3, .badParam),
    (d.st != .unconfigured && d.st != .off && d.st != .latched, .wrongState) ]

/-- `FIO_DO_CONFIG` (R277). -/
def effFioDoConfig (r : Req) (s : State) : Res × State :=
  let b := r.p.payload
  let n := fioTarget r - 0x100
  let d := s.dout n
  check s (chkFioDoConfig r s) fun _ =>
    done (withDo n (fun s =>
      let s := modDo n (fun d => { d with enable := u8 b 0 == 1, owner := u8 b 1, safe := u8 b 2, test := u8 b 3 }) s
      if u8 b 0 == 0 then doEnter n .unconfigured (modDo n (fun d => { d with present := [], retries := 0 }) s)
      else
        let s := if d.st == .unconfigured then
            modDo n (fun d => { d with demagEnd := some s.time, offClasses := [] }) (doEnter n .off s)
          else s
        if s.id.outputsHeld then safeDo n s else s) s)

/-- What refuses `FIO_DO_CLEAR`, in its order (step 8 of R73). -/
def chkFioDoClear (r : Req) (s : State) : List (Bool × Status) :=
  let n := fioTarget r - 0x100
  let d := s.dout n
  [ (fioTarget r < 0x100 || 0x11F < fioTarget r, .badParam), (!s.isHost r.port, .notOwner),
    (d.st != .latched || d.kindB, .wrongState) ]

/-- `FIO_DO_CLEAR` (R276, R277). -/
def effFioDoClear (r : Req) (s : State) : Res × State :=
  let n := fioTarget r - 0x100
  let d := s.dout n
  check s (chkFioDoClear r s) fun _ =>
    let s := modDo n (fun d => { ((d.setCode 5 false).setCode 6 false).setCode 7 false with st := .off, since := s.time, retries := 0 }) s
    let d' := s.dout n
    let s := fioEvent 3 (unit 0x0A (0x100 + n)) d'.st.code d'.diag d'.driverPart.toList s
    done (if d'.diag != d.diag then fioEvent 1 (unit 0x0A (0x100 + n)) d'.st.code d'.diag d'.driverPart.toList s else s)

/-- What refuses `FIO_STATUS`, in its order (step 8 of R73). -/
def chkFioStatus (r : Req) (s : State) : List (Bool × Status) :=
  let k := fioTarget r
  [(!(k < 64 || (0x100 ≤ k && k < 0x120) || (0x200 ≤ k && k < 0x210)), .badParam)]

/-- `FIO_STATUS`. -/
def effFioStatus (r : Req) (s : State) : Res × State :=
  let k := fioTarget r
  let row := fun (st diag present : Nat) (value raw : F32) (count : Nat) =>
    le 1 st ++ le 1 diag ++ le 2 present ++ le 4 value.toNat ++ le 4 raw.toNat ++ le 4 count ++ le 8 s.time
  check s (chkFioStatus r s) fun _ =>
    if k < 64 then
      let d := s.di k
      answer (row d.code 0 0 (if d.cfg.mode == 2 then qf32 d.freq else qf32 ((b2n d.value : Nat) : Rat)) (qf32 d.u) d.count) s
    else if k < 0x200 then
      let d := s.dout (k - 0x100)
      answer (row d.st.code d.diag (d.present.foldl (fun a k => a + 2 ^ k) 0 + 2 ^ 12 * d.retries + 2 ^ 15 * b2n d.heldOn)
        (qf32 d.amps) (qf32 d.volts) d.count) s
    else
      let a := s.ai (k - 0x200)
      answer (row a.st 0 0 a.value (qf32 a.mean) 0) s

end Sys2Proof.Machine
end

