-- ==== Sys2Proof/Machine/LoopRun.lean ====
section
/-! DEFINITION. Chapter 09 at run time: the inputs of a sample, its evaluation, its output, takeovers and pulses. -/
namespace Sys2Proof.Machine

/-! ## Inputs (R204, R216, R218) -/

/-- The value of a record as binary32, where it is usable (R92): its quality decides, not its value. -/
def Rec.as32 (r : Rec) : Option F32 :=
  if !r.fresh then none
  else if r.ty == 3 then some (r.value.setWidth 32)
  else if r.ty == 2 && (f64q r.value).isNone then some f32QNaN
  else (valueQ r.ty r.value).map qf32

/-- The value of a handle's record as binary32, where it is usable. -/
def usable32 (h : Nat) (s : State) : Option F32 := (s.view h).as32

/-- Whether the hardware point behind an own local reports a sensing fault (R204): a valve's current or position, an input. -/
def pointFault (h : Nat) (s : State) : Bool :=
  let n := hLocal h
  if !s.isOwn h then false
  else if n < 48 then (s.valve n).present.contains 11
  else if n < 96 then (s.valve (n - 48)).present.contains 1
  else if 192 ≤ n && n < 256 then (s.fio.di.getD (n - 192) {}).st != 0
  else if 288 ≤ n && n < 304 then (s.fio.ai.getD (n - 288) {}).st != 0
  else false

/-- The value of a handle as a loop latches it at its instant (R204, R216). -/
def latch32 (h : Nat) (s : State) : Option F32 := if pointFault h s then none else (s.viewAt h).as32

/-- The output of an outer loop as it stood before an instant; one released at the instant stands at it (R218). -/
def outBefore (n t : Nat) (s : State) : F32 :=
  let l := s.loop n
  if l.wroteAt == some t then l.outPrev
  else match l.pendingOut with
    | some (due, u) => if due ≤ t then u else l.out
    | none => l.out

/-- The set-point of a loop at its sample (R204, R214, R218); for a valve loop also whether it was clamped. -/
def loopSetPoint (n : Nat) (s : State) : Option F32 × Option Bool :=
  let l := s.loop n
  let k := l.cfg.index
  match l.cfg.kind with
  | 0 =>
    let v := s.valve k
    let pos := ((s.findLoop 1 k).map fun m => outBefore m s.time s).getD 0
    let x := currentSp v (s.valveSp k) pos s.time
    (x.1, if v.mode == 1 then some x.2 else none)
  | 1 => let x := positionSp (s.valve k) (s.valveSp k); (x.1, some x.2)
  | 2 | 3 => (some l.spInt, none)
  | _ =>
    match l.cfg.spSrc with
    | 0 => (some l.loopSp, none)
    | 2 => (some (outBefore l.cfg.spHandle s.time s), none)
    | _ => (latch32 l.cfg.spHandle s, none)

/-- The feedback of a loop at its sample (R204, R243). -/
def loopFeedback (n : Nat) (s : State) : Option F32 :=
  let l := s.loop n
  let v := s.valve l.cfg.index
  match l.cfg.kind with
  | 0 => if v.present.contains 11 then none else some v.current
  | 1 => if v.cfg.posInput == 0 || v.posRaw.isNone || v.present.contains 1 then none else some v.position
  | 2 => l.fbInt
  | _ => latch32 l.cfg.fbHandle s

/-- The inputs latched at a sample (R216). -/
def latch (n : Nat) (s : State) : LoopIn :=
  let l := s.loop n
  { t := s.time, sp := (loopSetPoint n s).1, fb := loopFeedback n s
    zA := latch32 (l.zHandle 0) s, zB := latch32 (l.zHandle 1) s
    ff := if l.cfg.ffHandle == 0 then some 0 else latch32 l.cfg.ffHandle s }

/-- The handles that a loop reads at a sample. -/
def Loop.reads (l : Loop) (s : State) : List Nat :=
  (if l.cfg.kind == 1 || (l.cfg.kind == 0 && (s.valve l.cfg.index).mode == 1) then [s.handle (96 + l.cfg.index)] else [])
    ++ (if l.cfg.kind == 4 && (l.cfg.spSrc == 1 || l.cfg.spSrc == 3) then [l.cfg.spHandle] else [])
    ++ (if 3 ≤ l.cfg.kind then [l.cfg.fbHandle] else []) ++ (if l.regions l.zBank ≤ 1 then [] else [l.zHandle l.zBank])
    ++ (if l.cfg.ffHandle == 0 then [] else [l.cfg.ffHandle])

/-- A sample consumes the marked lines of the records that it reads (R444). -/
def consumeInputs (n : Nat) (s : State) : State :=
  ((s.loop n).reads s).foldl (fun s h => consumeRec (0x20 + s.lpe.map.getD (n / 16) 0) h s) s

/-! ## Outputs (R216, R217) -/

/-- The value an output destination holds (R202). -/
def destValue (h : Nat) (s : State) : F32 :=
  let r := s.view h
  if r.quality == .noValue then 0 else if r.ty == 3 then r.value.setWidth 32 else ((valueQ r.ty r.value).map qf32).getD 0

/-- What the destination of a loop holds. -/
def loopDest (n : Nat) (s : State) : F32 :=
  let l := s.loop n
  match l.cfg.kind with
  | 0 => (s.valve l.cfg.index).dutyNext
  | 1 => l.out
  | _ => ((l.cfg.outs.head?).map fun h => destValue h s).getD 0

/-- A loop's output on a Ridgeline signal: of this module, or the set-point of a point on another one (R88). A digital output's command is
not a loop output (R275). `stamp` is 0 for the time of publication. -/
def publishOut (stamp : Nat) (u : F32) (s : State) (h : Nat) : State :=
  if 256 ≤ hLocal h && hLocal h < 288 then s
  else if !s.isOwn h then (if s.drivesPoint h then publishRemote h 3 (f32v u) .valid (Config.hwConfidence (hLocal h)).toNat s else s) else
  let ty := s.typeOf (hLocal h)
  let v := if ty == 3 then f32v u else if ty == 2 then (match f32q u with | some q => q64v q | none => f32v u) else Config.encodeOut ty u
  publish (hLocal h) { value := v, stamp := stamp, quality := .valid, confidence := (Config.hwConfidence (hLocal h)).toNat, ty := ty }
    (((s.decl (hLocal h)).map (·.fresh)).getD 0) s

/-- A loop's output goes to its destinations (R216, R217). -/
def putOut (n stamp : Nat) (u : F32) (s : State) : State :=
  let l := s.loop n
  match l.cfg.kind with
  | 0 => modValve l.cfg.index (fun v => if v.st == .energised then v.writeDuty u s.time else v) s
  | 1 => s
  | _ => l.cfg.outs.foldl (publishOut stamp u) s

/-- What the destinations hold at this instant is kept beside what is then written: loops latch what stood before (R216, R218). -/
def keepBefore (hs : List Nat) (s : State) : State :=
  let old := if s.lpe.wroteAt == some s.time then s.lpe.wrote else []
  { s with lpe := { s.lpe with wroteAt := some s.time
                               wrote := hs.foldl (fun l h => if (aget l h).isSome then l else (h, s.stored h) :: l) old } }

/-- A loop's output is written at this instant, after what is latched at it (R216). -/
def writeOut (n : Nat) (u : F32) (s : State) : State :=
  let now := s.time
  let s := modLoop n (fun l => { l with outPrev := if l.wroteAt == some now then l.outPrev else l.out, wroteAt := some now, out := u }) s
  putOut n 0 u (keepBefore (s.loop n).cfg.outs s)

/-- A Class P output whose release has come is released, with its instant as the stamp (R217). -/
def releaseOut (n : Nat) (s : State) : State :=
  match (s.loop n).pendingOut with
  | some (t, u) => if t ≤ s.time then putOut n t u (modLoop n (fun l => { l with pendingOut := none, out := u }) s) else s
  | none => s

/-- Every output whose release has come: what is released at an instant stands at it (R216 to R218). -/
def releaseOuts (s : State) : State := if s.id.clockFail then s else (List.range 128).foldl (fun s n => releaseOut n s) s

/-! ## The sample (R202) -/

/-- The law in OPEN_LOOP (R101): feedback and integral terms are off, the output is the feed-forward alone. -/
def openStep (l : Loop) (inp : LoopIn) : Option Loop := do
  let b := l.effective
  let tSec := qf32 (((l.cfg.ns : Nat) : Rat) / 1000000000)
  let xff := inp.ff.getD l.xff
  let r := inp.sp.getD l.lastR
  let rPrev := if l.first then r else l.rPrev
  let rs ← fD (← fS r rPrev) tSec
  let v ← fA (← fA (← fM (l.b32 b 52) r) (← fM (l.b32 b 56) rs)) (← fM (l.b32 b 60) xff)
  let u1 := clampF v (l.b32 b 64) (l.b32 b 68)
  let rate := l.b32 b 72
  let u ← if f32Lt 0 rate then do
      let step ← fM rate tSec
      pure (clampF u1 (← fS l.uLast step) (← fA l.uLast step))
    else some u1
  return { l with
    st := .run, first := false, rPrev := r, uLast := u, out := u, stamp := inp.t, xff := xff, lastR := r
    ffHold := inp.ff.isNone && l.cfg.ffHandle != 0, uLimited := u != v, uClamped := u1 != v, spHold := inp.sp.isNone
    nodes := { r := r, y := inp.fb.getD 0, i := l.i, d := l.d, ff := v, v := v, u := u, region := qf32 ((l.region : Nat) : Rat)
               z := (l.zOf inp).getD 0 } }

/-- The evaluation of a sample from its latched inputs (R202 to R208); the loop is in RUN or HOLD. -/
def evalLoop (n : Nat) (inp : LoopIn) (s : State) : State :=
  let before := s.loop n
  let old := (before.effective, before.region)
  let s := takeSwap n (modLoop n (fun l => { l with kept := none }) s)
  let s := fallbackStep n ((s.loop n).zOf inp) s
  let l := s.loop n
  let flags : ClockFlags := { swap := before.selected != l.selected }
  let fail := fun (s : State) => traceAll n inp.t { flags with fault := true } (holdLoop n s)
  match (if l.openLoop then some 0 else inp.fb) with
  | none => fail s
  | some y =>
    match (do
      let l1 ← chooseRegion (before.fallback && !l.fallback && l.effective != l.selected) l (l.zOf inp)
      let l2 ← if l.openLoop then openStep l1 inp else lawStep l1 inp y old
      pure l2) with
    | none => fail (noteLoop n 15 (modLoop n (fun l => { l with nonfinite := true }) s))
    | some l2 =>
      let u := l2.nodes.u
      let s := modLoop n (fun _ => { l2 with out := l.out, pendingOut := if l.cfg.classP then some (inp.t + l.cfg.ns, u) else none }) s
      let s := if l.cfg.classP then s else writeOut n u s
      traceAll n inp.t { flags with region := l2.region != before.region } s

/-- LOOP_SAMPLE (R202, R215 to R219): at a sample instant of the loop. -/
def doLoopSample (n : Nat) (s : State) : State :=
  let s := releaseOuts s
  let l := s.loop n
  if 128 ≤ n || s.id.clockFail || !onGrid l.cfg.ns s then s else
  match l.st with
  | .idle => if l.idleDue && s.engineUp (n / 16) then
      modLoop n (fun l => { l with idleDue := false }) (writeOut n l.cfg.idleOut s) else s
  | .run | .hold =>
    let inp := latch n s
    let s := match (loopSetPoint n s).2 with
      | some c => modValve l.cfg.index (fun v => { v with spLimited := c }) s
      | none => s
    let s := consumeInputs n s
    if s.engineUp (n / 16) then evalLoop n inp s
    else if l.cfg.classP then modLoop n (fun l => { l with kept := some inp }) s
    else s
  | _ => s

/-- OUTPUT_RELEASE (R217): a Class P output at exactly t + T. -/
def doOutputRelease (n : Nat) (s : State) : State := if s.id.clockFail then s else releaseOut n s

/-- A loop takes a reference pulse with its stamp (R213). -/
def Loop.pulse (l : Loop) (t : Nat) : Loop :=
  match l.tp with
  | none => { l with tp := some t }
  | some tp =>
    let per := t - tp
    let jitter := match l.per with
      | some p =>
        let was := qf32 ((p : Nat) : Rat)
        f32Lt (f32Mul (l.b32 l.effective 100) was) (f32Abs (f32Sub (qf32 ((per : Nat) : Rat)) was))
      | none => false
    let lost := l.repLost && l.repLostPulses + 1 < 2
    { l with tp := some t, per := some per, noLearn := jitter, repLost := lost
             repLostPulses := if lost then l.repLostPulses + 1 else 0 }

/-- The edges of a reference input that a loop has not taken, oldest first (R213, R271): all after the last one it took, and the newest
where it took none. -/
def Loop.newPulses (l : Loop) (edges : List Nat) : List Nat :=
  match l.tp with
  | none => edges.take 1
  | some tp => (edges.filter fun e => tp < e).reverse

/-- REP_PULSE (R213): the loops whose reference input it is read the edge stamps from the input. -/
def doRepPulse (di : Nat) (s : State) : State :=
  let h := s.handle (192 + di)
  let edges := (s.di di).edges
  if 16 ≤ di then s else
  { s with lpe := { s.lpe with loops := s.lpe.loops.map fun l =>
      if l.st == .free || l.cfg.repHandle != h then l else (l.newPulses edges).foldl Loop.pulse l } }

/-! ## Faults and takeover (R220 to R224) -/

/-- The loops of a logical engine fail (R223). -/
def failLoops (logi : Nat) (s : State) : State :=
  let s := (List.range 16).foldl (fun s k =>
    let n := 16 * logi + k
    let l := s.loop n
    if l.st == .free then s else
    let s := match l.pendingSwap with
      | some (_, some r) => finish r .wrongState [] s
      | _ => s
    let s := modLoop n (fun l => { l with st := .failed, pendingSwap := none, pendingOut := none, kept := none, idleDue := false }) s
    if l.cfg.failMode == 1 && 2 ≤ l.cfg.kind then writeOut n l.cfg.safeOut s else s) s
  lpeEvent 3 (s.lpe.map[logi]?) (some logi) none (unit 0x08 0x200) 0xFF s

/-- ENGINE_FAULT (R220, R222 to R224). -/
def doEngineFault (phys : Nat) (s : State) : State :=
  if 9 ≤ phys || s.lpe.excluded.getD phys true then s
  else if s.lpe.spare == some phys then loseSpare phys s
  else
    let s := regionFault { s with lpe := { s.lpe with excluded := s.lpe.excluded.set phys true } }
    match s.lpe.loading.find? fun e => e.2 == phys with
    | some e =>
      let s := lpeEvent 0 (some phys) (some e.1) none (unit 0x08 0x200) 0xFF s
      failLoops e.1 { s with lpe := { s.lpe with loading := s.lpe.loading.filter fun x => x.1 != e.1 } }
    | none =>
      match (List.range 8).find? fun l => s.lpe.map.getD l 0xF == phys with
      | none => s
      | some l =>
        let s := lpeEvent 0 (some phys) (some l) none (unit 0x08 0x200) 0xFF s
        let s := abortTrace l s
        match s.lpe.spare with
        | some sp => { s with lpe := { s.lpe with spare := none, loading := s.lpe.loading ++ [(l, sp)] } }
        | none => failLoops l s

/-- TAKEOVER_COMPLETE (R222, R224): the spare carries the logical engine and re-executes what was not finished. -/
def doTakeoverComplete (logi : Nat) (s : State) : State :=
  match s.lpe.loading.find? fun e => e.1 == logi with
  | none => s
  | some e =>
    if s.id.clockFail then s else
    let s := { s with lpe := { s.lpe with
      map := s.lpe.map.set logi e.2, takeovers := s.lpe.takeovers + 1
      loading := s.lpe.loading.filter fun x => x.1 != logi } }
    let s := lpeEvent 1 (some e.2) (some logi) none (unit 0x08 0x200) 0xFF s
    let s := lpeEvent 2 none (some logi) none (unit 0x08 0x200) 0xFF s
    (List.range 16).foldl (fun s k =>
      let n := 16 * logi + k
      match (s.loop n).kept with
      | some inp => evalLoop n inp s
      | none => s) s

/-- SPARE_REFERENCE_CHECK (R224): a wrong result excludes the spare. -/
def doSpareReference (good : Bool) (s : State) : State :=
  match s.lpe.spare with
  | some p => if good then s else loseSpare p s
  | none => s

end Sys2Proof.Machine
end

