-- ==== Sys2Proof/Machine/Gns.lean ====
section
/-! DEFINITION. Chapter 12: antenna ports, tracking channels, the epoch, spoofing and interference, RTCM streams, raw
latches and the rules of the GNS commands. -/
namespace Sys2Proof.Machine

/-- An antenna port. -/
def State.gport (s : State) (a : Nat) : GnsPort := s.gns.ports.getD a {}
/-- Change an antenna port. -/
def modPort (a : Nat) (f : GnsPort → GnsPort) (s : State) : State := { s with gns := { s.gns with ports := updAt s.gns.ports a f } }
/-- A tracking channel. -/
def State.gch (s : State) (c : Nat) : GnsCh := s.gns.ch.getD c {}
/-- Change a tracking channel. -/
def modGch (c : Nat) (f : GnsCh → GnsCh) (s : State) : State := { s with gns := { s.gns with ch := updAt s.gns.ch c f } }

/-- The state codes of R282. -/
def PortSt.code : PortSt → Nat
  | .ok => 0 | .open_ => 1 | .short => 2 | .passive => 3 | .excluded => 4 | .unused => 5

/-- The epoch period in ns (R290). -/
def GnsCfg.ns (c : GnsCfg) : Nat := [1000, 500, 200, 100, 50, 20, 10].getD c.epoch 100 * ms

/-- Whether any port is enabled (R280). -/
def GnsCfg.any (c : GnsCfg) : Bool := c.bias.any (· != 3)

/-- `GNS_EVENT`. -/
def gnsEvent (cause : Nat) (port : Option Nat) (st : Nat) (s : State) : State :=
  event 0x0B80 (match port with | some a => unit 0x0B (0x10 + a) | none => unit 0x0B 0)
    (le 1 cause ++ le 1 (orFF port) ++ le 1 st ++ zeros 5 ++ le 8 s.time) [] 0x33 s

/-! ## Ports (R281 to R283, R296) -/

/-- Every channel of a port becomes IDLE or EXCLUDED. -/
def dropChannels (a st : Nat) (s : State) : State :=
  { s with gns := { s.gns with ch := s.gns.ch.zipIdx.map fun e => if e.2 / 128 == a then { st := st } else e.1 } }

/-- A front end is excluded (R283). -/
def excludePort (a : Nat) (s : State) : State :=
  if (s.gport a).st == .excluded then s else
  let s := dropChannels a 7 (modPort a (fun p => { p with st := .excluded }) s)
  gnsEvent 1 (some a) 4 <| regionFault { s with gns := { s.gns with recovery := true, validSince := none } }

/-- PORT_STATE_EVAL (R282, R283): every 1 ms the bias current in mA, the local oscillator and the converter reference's
deviation in per cent; the bias is retried 1 s after a short. -/
def doPortEval (a : Nat) (mA : Rat) (loLocked : Bool) (refDev : Rat) (s : State) : State :=
  let p := s.gport a
  let t := s.time
  let bias := s.gns.cfg.bias.getD a 3
  if !onGrid ms s || 3 ≤ a || p.st == .excluded then s
  else
    let refS := sinceIf (decide (2 < absR refDev)) t p.refSince
    if bias != 3 && (!loLocked || heldFor refS t (10 * ms)) then excludePort a s
    else
      let powered := (bias == 1 || bias == 2) && (p.biasOff.all fun o => o + sec ≤ t)
      let openS := sinceIf (powered && decide (mA < 3)) t p.openSince
      let closedS := sinceIf (powered && decide (5 ≤ mA)) t p.closedSince
      let shortS := sinceIf (powered && decide (110 < mA)) t p.shortSince
      let trip := heldFor shortS t ms
      let st : PortSt :=
        if bias == 3 then .unused else if bias == 0 then .passive
        else if trip || (p.biasOff.isSome && !powered) then .short
        else if heldFor openS t sec || (p.st == .open_ && !heldFor closedS t sec) then .open_
        else .ok
      let off := if trip then some t else if powered then none else p.biasOff
      let s := modPort a (fun p => { p with st := st, openSince := openS, closedSince := closedS, refSince := refS
                                            shortSince := if trip then none else shortS, biasOff := off }) s
      let s := if st == .short && p.st != .short then dropChannels a 0 s else s
      if st == p.st then s else gnsEvent 0 (some a) st.code s

/-- CORRELATOR_SELF_TEST (R283). -/
def doCorrelatorTest (a : Nat) (good : Bool) (s : State) : State :=
  if 3 ≤ a || good || s.gns.cfg.bias.getD a 3 == 3 then s else excludePort a s

/-- The interference flags of a front end as a number. -/
def interfBits (s : State) : Nat :=
  bitsN ((List.range 4).map fun b => s.gns.ports.any fun p => p.interf.getD b false)

/-- INTERFERENCE_CHECK (R296): how far the gain and the mean C/N0 of a band have fallen in dB, and whether a line found has
no free notch. -/
def doInterference (a band : Nat) (agcDrop cn0Drop : Rat) (noNotch : Bool) (s : State) : State :=
  if 3 ≤ a || 4 ≤ band then s else
  let p := s.gport a
  let t := s.time
  let both := decide (6 < agcDrop) && decide (6 < cn0Drop)
  let none_ := decide (agcDrop ≤ 6) && decide (cn0Drop ≤ 6)
  let on := sinceIf both t (p.ifSince.getD band none)
  let off := sinceIf none_ t (p.ifClear.getD band none)
  let old := p.interf.getD band false
  let flag := noNotch || heldFor on t sec || (old && !heldFor off t (10 * sec))
  let s := modPort a (fun p => { p with ifSince := p.ifSince.set band on, ifClear := p.ifClear.set band off
                                        interf := p.interf.set band flag }) s
  if flag == old then s else gnsEvent 6 (some a) (bitsN (s.gport a).interf) s

/-! ## Channels (R286, R288, R289) -/

/-- DWELL_COMPLETE (R286): a cell that exceeds the threshold is confirmed by a second dwell before a channel takes it. -/
def doDwell (c : Nat) (exceeds : Bool) (s : State) : State :=
  if (s.gch c).st != 1 then s
  else modGch c (fun g => if !exceeds then { g with dwell1 := false } else if g.dwell1 then { g with st := 2, dwell1 := false }
    else { g with dwell1 := true }) s

/-- CARRIER_LOCK_LOSS (R289): the highest phase-lock indicator over 50 ms. -/
def doLockLoss (c : Nat) (pli : Rat) (s : State) : State :=
  let g := s.gch c
  if (g.st != 4 && g.st != 5 && g.st != 6) || 7 / 10 ≤ pli then s
  else modGch c (fun g => { g with st := 2, lockMs := 0, slip := true, flags := 0, used := false }) s

/-- The system of a signal (R284): 0 GPS, 1 Galileo, 2 BeiDou, 3 GLONASS, 4 QZSS. -/
def systemOf (signal : Nat) : Nat :=
  if signal < 4 then 0 else if signal < 8 then 1 else if signal < 12 then 2 else if signal < 14 then 3 else 4

/-- Channels are assigned to visible signals in descending elevation (R288). -/
def assignChannels (vis : List VisSat) (s : State) : State :=
  let c := s.gns.cfg
  let ok := vis.filter fun v => v.port < 3 && bitOf c.signals v.signal && v.signal < 18 && decide (f32d c.elevMask < v.elevation)
    && c.bias.getD v.port 3 != 3 && (s.gport v.port).st != .excluded && (s.gport v.port).st != .short
  (sortBy (fun a b => decide (b.elevation ≤ a.elevation)) ok).foldl (fun s v =>
    let mine := (List.range 128).map (· + 128 * v.port)
    if mine.any fun k => (s.gch k).st != 0 && (s.gch k).signal == v.signal && (s.gch k).svid == v.svid then s
    else match mine.find? fun k => (s.gch k).st == 0 with
      | some k => modGch k (fun _ => { st := 1, signal := v.signal, svid := v.svid, fcn := v.fcn }) s
      | none => s) s

/-- The flags of a channel record (R303). -/
def chFlags (o : ChObs) (slip voted used : Bool) : Nat :=
  bitsN [o.codeLock, o.carrierLock, o.halfCycle, o.towKnown, slip, decide (50 < o.mpEst), voted, used]

/-- The signals that carry data on the component tracked (R284). -/
def dataSignal (signal : Nat) : Bool := [0, 8, 11, 12, 13, 14].contains signal

/-- What the C/N0 of a channel rose from (R297, log entry 272): by more than 6 dB within 1 s, until it falls back. -/
def GnsCh.rise (g : GnsCh) (cn0 t : Nat) : Option Nat :=
  match g.rose with
  | some b => if b + 600 < cn0 then some b else none
  | none => ((g.hist.filter fun e => t ≤ e.1 + sec).map (·.2)).find? fun b => b + 600 < cn0

/-- A channel latches its measurements (R289, R290, R294): those of a signal that is used, or is voted out, are tested. -/
def latchChannel (s : State) (o : ChObs) : State :=
  let cfg := s.gns.cfg
  let t := s.time
  modGch o.ch (fun g =>
    if g.st < 2 || g.st == 7 then g else
    let tested := g.votedOut || decide (f32d cfg.cn0Mask * 100 ≤ (o.cn0 : Rat))
    let exc := decide (f32d cfg.resThr < o.residual)
    let bad := if exc && tested then g.bad + 1 else 0
    let good := if exc then 0 else g.good + 1
    let slip := g.slip || o.slip
    let back := g.votedOut && cfg.rejoin ≤ good
    let out := g.votedOut && !back
    let st := if out then 6 else if o.carrierLock && o.towKnown && (o.halfCycle || !dataSignal g.signal) then 5
              else if o.carrierLock then 4 else if o.codeLock then 3 else 2
    { g with rose := g.rise o.cn0 t, hist := (t, o.cn0) :: g.hist.filter fun e => t ≤ e.1 + sec
             st := st, bad := bad, good := if g.votedOut && !back then good else 0, votedOut := out, slip := slip, cn0 := o.cn0
             txTime := o.txTime, carrier := o.carrier, doppler := o.doppler, lockMs := min o.lockMs 65535, mpEst := o.mpEst
             used := false, flags := chFlags o slip out false }) s

/-- Signals eligible for the solution: tracked, not voted out, above the C/N0 mask (R289, R295). -/
def eligible (s : State) (o : ChObs) : Bool :=
  let g := s.gch o.ch
  3 ≤ g.st && g.st ≤ 5 && !g.votedOut && decide (f32d s.gns.cfg.cn0Mask * 100 ≤ (g.cn0 : Rat))
    && !(s.gns.sysOut.any (·.1 == systemOf g.signal))

/-- The measurements voted out at an epoch: at most a third of those in use (R294), those of the largest residuals (log entry 272). -/
def voteSignals (obs : List ChObs) (s : State) : State :=
  let cfg := s.gns.cfg
  let inUse := obs.filter (eligible s)
  let single := inUse.filter fun o => cfg.persist ≤ (s.gch o.ch).bad
  let pairs := inUse.filter fun o => match o.pair with
    | some (k, dev) => 3 < dev && (inUse.any fun x => x.ch == k && decide (x.residual < o.residual))
    | none => false
  let cand := sortBy (fun a b => decide (b.residual ≤ a.residual)) (inUse.filter fun o => single.contains o || pairs.contains o)
  let most := inUse.length / 3
  let go := cand.take most
  let outs := go.map (·.ch)
  let s := { s with gns := { s.gns with consistency := decide (most < cand.length) } }
  let s := outs.foldl (fun s k => modGch k (fun g => { g with votedOut := true, st := 6, good := 0 }) s) s
  let used := ((inUse.filter fun o => !outs.contains o.ch).map (·.ch))
  let s := { s with gns := { s.gns with used := used.length } }
  obs.foldl (fun s o => modGch o.ch (fun g =>
    if g.st < 2 || g.st == 7 then g
    else { g with used := used.contains o.ch, flags := chFlags o g.slip g.votedOut (used.contains o.ch) }) s) s

/-- Median of a list of numbers; the mean of the middle two for an even count. -/
def medianQ (l : List Rat) : Rat :=
  let x := sortBy (fun a b => decide (a ≤ b)) l
  let n := x.length
  if n == 0 then 0 else if n % 2 == 1 then x.getD (n / 2) 0 else (x.getD (n / 2 - 1) 0 + x.getD (n / 2) 0) / 2

/-- Systems whose clock departs (R295): with three or more, from the median of the others; with two, the one farther from
the clock model. -/
def voteSystems (clk : List (Nat × Rat)) (model : Rat) (s : State) : State :=
  let p := s.gns.cfg.persist
  let bad := clk.filter fun e =>
    let others := (clk.filter fun x => x.1 != e.1 && !s.gns.sysOut.any fun o => o.1 == x.1).map (·.2)
    if 2 ≤ others.length then decide (20 < absR (e.2 - medianQ others))
    else match others with
      | [o] => decide (20 < absR (e.2 - o)) && decide (absR (o - model) < absR (e.2 - model))
      | _ => false
  let counts := bad.map fun e => (e.1, ((s.gns.sysBad.find? fun x => x.1 == e.1).map (·.2)).getD 0 + 1)
  let newOut := (counts.filter fun e => p ≤ e.2).map fun e => (e.1, 0)
  let kept := (s.gns.sysOut.map fun e => if bad.any (·.1 == e.1) then (e.1, 0) else (e.1, e.2 + 1)).filter
    fun e => e.2 < s.gns.cfg.rejoin && !newOut.any (·.1 == e.1)
  { s with gns := { s.gns with sysBad := counts, sysOut := kept ++ newOut } }

/-! ## The solution (R291 to R293) -/

/-- Confidence of a fix mode (R291). -/
def fixConf (m : Nat) : Nat := [0, 60, 100, 140, 230, 160, 255].getD m 0

/-- Age in ms of a correction epoch against the GPS time of week. -/
def ageMs (now : Int) (e : Nat) : Nat := ((now / 1000000 - (e : Int)) % 604800000).toNat

/-- The satellites in use on an antenna: system and number (R291). -/
def satsUsed (a : Nat) (s : State) : List (Nat × Nat) :=
  ((((s.gns.ch.drop (128 * a)).take 128).filter (·.used)).map fun g => (systemOf g.signal, g.svid)).eraseDups

/-- The fix mode that a solution of an antenna reaches (R291): the available mode of the highest confidence (log entry 61). -/
def fixMode (a : Nat) (x : GnssSol) (gps : Int) (s : State) : Nat :=
  let c := s.gns.cfg
  let sats := satsUsed a s
  let systems := (sats.map (·.1)).eraseDups
  let enough := (5 ≤ sats.length && 2 ≤ systems.length) || (4 ≤ sats.length && systems.length == 1)
  let young := fun (e : Option Nat) => e.any fun e => decide (ageMs gps e ≤ c.ageMax * 1000)
  let rtk := (c.solution == 1 || c.solution == 3) && young s.gns.obsEpoch
  let ppp := (c.solution == 2 || c.solution == 3) && young s.gns.ssrEpoch
  if !enough then 0
  else if rtk && s.gns.base.isSome && x.rtkFixed && !s.gns.rtkRestart then 6
  else if ppp && x.pppFixed then 4
  else if rtk && s.gns.base.isSome then 5
  else if ppp then 3
  else if rtk then 2
  else 1

/-- The fusion prediction of the primary antenna, where it is VALID (R293, R334). -/
def gaPrediction (s : State) : Option (Rat × Rat × Rat) :=
  let a := s.sig1 467
  let b := s.sig1 468
  let c := s.sig1 469
  if a.quality == .valid && b.quality == .valid && c.quality == .valid then
    do some (← valueQ 2 a.value, ← valueQ 2 b.value, ← valueQ 2 c.value)
  else none

/-- Distance between two places in metres. -/
def placeDist (a b : Rat × Rat × Rat) : Rat := absR (geoDist a.1 a.2.1 a.2.2 b.1 b.2.1 b.2.2)

/-- The place of a solution. -/
def placeOf (x : GnssSol) : Rat × Rat × Rat := (x.lat, x.lon, x.height)

/-- Whether a front end serves a solution (R293). -/
def portUsable (a : Nat) (s : State) : Bool := (s.gport a).st != .excluded && (s.gport a).st != .short && s.gns.cfg.bias.getD a 3 != 3

/-- The primary solution published (R293): the solution, its fix mode and its port, whether it is at most SUBSTITUTED, whether it is
DISPUTED. -/
def choosePrimary (e : GnssEpoch) (s : State) : (Option (GnssSol × Nat × Nat) × Bool × Bool) × State :=
  let m1 := ((if portUsable 0 s then e.ga1 else none).map fun x => (x, fixMode 0 x e.gpsNs s, 0)).filter fun p => p.2.1 != 0
  let m3 := ((if s.gns.cfg.ga3Role == 2 && portUsable 2 s then e.ga3 else none).map fun x => (x, fixMode 2 x e.gpsNs s, 2)).filter
    fun p => p.2.1 != 0
  let quiet := { s with gns := { s.gns with disagree := 0, agree := 0, disputed := false } }
  match m1, m3 with
  | some a, none => ((some a, false, false), quiet)
  | none, some b => ((some b, true, false), quiet)
  | none, none => ((none, false, false), quiet)
  | some a, some b =>
    let c := s.gns.cfg
    let agree := decide (placeDist (placeOf a.1) (placeOf b.1) ≤ f32d c.redTol)
    let dis := if agree then 0 else s.gns.disagree + 1
    let ag := if agree then s.gns.agree + 1 else 0
    let s := { s with gns := { s.gns with disagree := dis, agree := ag } }
    if s.gns.out1 || s.gns.out3 then
      if c.rejoin ≤ ag then
        let port := if s.gns.out1 then 0 else 2
        let s := gnsEvent 3 (some port) 0 { s with gns := { s.gns with out1 := false, out3 := false, agree := 0 } }
        ((some a, false, false), s)
      else if s.gns.out1 then ((some b, true, false), s) else ((some a, false, false), s)
    else if dis < c.persist then ((some a, false, false), { s with gns := { s.gns with disputed := false } })
    else match gaPrediction s with
      | some p =>
        let near1 := decide (placeDist (placeOf a.1) p ≤ placeDist (placeOf b.1) p)
        let s := { s with gns := { s.gns with out1 := !near1, out3 := near1, agree := 0, disputed := false } }
        let s := gnsEvent 2 (some (if near1 then 2 else 0)) 0 s
        ((some (if near1 then a else b), !near1, false), s)
      | none =>
        let s := if s.gns.disputed then s else gnsEvent 4 none 0 { s with gns := { s.gns with disputed := true } }
        ((some a, false, true), s)

/-! ## Spoofing (R295, R297) -/

/-- Whether at least 4 satellites of one antenna have risen (R297, S0). -/
def cn0Risen (s : State) : Bool :=
  (List.range 3).any fun a =>
    4 ≤ ((((s.gns.ch.drop (128 * a)).take 128).filter (·.rose.isSome)).map fun g => (systemOf g.signal, g.svid)).eraseDups.length

/-- The fractional single differences of GA1 and GA2 (R297, S3): system, satellite, and the difference in 2^−16 cycle. -/
def singleDiffs (s : State) : List ((Nat × Nat) × Int) :=
  let on := fun (g : GnsCh) => g.st == 4 || g.st == 5 || g.st == 6
  let two := (s.gns.ch.drop 128).take 128
  (s.gns.ch.take 128).filterMap fun g =>
    if !on g then none
    else (two.find? fun h => on h && h.signal == g.signal && h.svid == g.svid).map fun h =>
      ((systemOf g.signal, g.svid), (g.carrier - h.carrier) % 65536)

/-- Whether the differences of at least 5 satellites lie within 0.05 cycle of one another (R297, S3). -/
def flatDiffs (s : State) : Bool :=
  let l := singleDiffs s
  l.any fun e => 5 ≤ ((l.filter fun x => (x.2 - e.2) % 65536 ≤ 3276).map (·.1)).eraseDups.length

/-- The indicators of an epoch. `clockDep` is the solution's clock offset minus the time base's prediction, ns. -/
def indicatorsOf (e : GnssEpoch) (clockDep : Option Rat) (s : State) : List Bool :=
  let c := s.gns.cfg
  [ cn0Risen s, clockDep.any fun d => decide (100 + s.tim.u < absR d), c.persist ≤ s.gns.posBad, c.persist ≤ s.gns.sdBad,
    e.ephemChanged || (s.tim.mapped && e.decoded.any fun d => 1000000 < (d - ((s.time : Int) + s.tim.o)).natAbs) ]

/-- The spoofing state follows the indicators; it falls only to CLEAR, after 60 s without any (log entry 63). -/
def spoofStep (ind : List Bool) (s : State) : State :=
  let n := (ind.filter (·)).length
  let old := s.gns.spoof
  let want := if ind.getD 3 false || 2 ≤ n then 2 else if n == 1 then 1 else 0
  let quiet := sinceIf (n == 0) s.time s.gns.quietSince
  let new := if heldFor quiet s.time (60 * sec) then 0 else max old want
  let s := { s with gns := { s.gns with indicators := ind, quietSince := quiet, spoof := new
                                        recovery := s.gns.recovery || (new == 2 && old != 2) } }
  if new == old then s else gnsEvent 5 none new s

/-- SPOOF_CLEAR_TIMER (R297). -/
def doSpoofClear (s : State) : State :=
  if s.gns.spoof != 0 && heldFor s.gns.quietSince s.time (60 * sec) then
    gnsEvent 5 none 0 { s with gns := { s.gns with spoof := 0 } }
  else s

/-! ## Raw latches (R301 to R303) -/

/-- A channel record (R303). -/
def chRecord (k : Nat) (g : GnsCh) : List Byte :=
  if g.st == 0 || g.st == 1 || g.st == 7 then le 1 g.st ++ zeros 31
  else le 1 g.st ++ le 1 g.signal ++ le 1 g.svid ++ zeros 1 ++ le 1 (k / 128 + 4 * g.fcn) ++ le 1 g.flags ++ le 2 g.cn0 ++ le 8 g.txTime
    ++ leInt 8 g.carrier ++ leInt 4 g.doppler ++ le 2 g.lockMs ++ leInt 2 g.mpEst

/-- The requests that an epoch answers: admitted at least 1 ms before it. -/
def dueRequests (s : State) : List Req := s.gns.requests.filter fun r => r.p.time + ms ≤ s.time

/-- The conditions of R301 at an epoch. -/
def latchCause (s : State) : Nat :=
  let c := s.gns.cfg
  bitsN [ s.pwr.ready && !s.gns.firstValid && bitOf c.rawModes 0, s.gns.test, s.gns.recovery && bitOf c.rawModes 1, !(dueRequests s).isEmpty ]

/-- A latch at an epoch instant (R302): one block whatever its causes, and every request it answers ends `DONE`. -/
def rawLatch (gps : Int) (frac : Rat) (known : Bool) (s : State) : State :=
  let cause := latchCause s
  if cause == 0 then s else
  let no := s.gns.nextLatch
  let reqs := dueRequests s
  let block := le 8 s.time ++ leInt 8 (if known then gps else 0) ++ le 4 (if known then (qf32 frac).toNat else 0) ++ le 2 384 ++ le 1 cause
    ++ le 1 s.gns.spoof ++ le 4 no ++ (s.gns.ports.flatMap fun p => le 1 p.st.code) ++ zeros 33
    ++ (s.gns.ch.zipIdx.flatMap fun e => chRecord e.2 e.1)
  let s := pubRing 411 block .valid (Config.hwConfidence 411).toNat s.time s
  let s := { s with gns := { s.gns with
    nextLatch := (no + 1) % 2 ^ 32, ring := ({ no := no, instant := s.time, channels := s.gns.ch } :: s.gns.ring).take 4
    requests := s.gns.requests.filter fun r => s.time < r.p.time + ms
    ch := s.gns.ch.map fun g => { g with slip := false } } }
  reqs.foldl (fun s r => finish r .done (le 4 no ++ zeros 4 ++ le 8 s.time) s) s

/-! ## The epoch (R290) -/

/-- A configuration takes effect (`GNS_CONFIG`): channels whose signal or port is disabled return to IDLE. -/
def gnsApply (s : State) : State :=
  match s.gns.next with
  | none => s
  | some c =>
    let s := { s with gns := { s.gns with cfg := c, next := none } }
    let s := { s with gns := { s.gns with ch := s.gns.ch.zipIdx.map fun e =>
      if e.1.st != 7 && e.1.st != 0 && (!bitOf c.signals e.1.signal || c.bias.getD (e.2 / 128) 3 == 3) then {} else e.1 } }
    (List.range 3).foldl (fun s a =>
      let p := s.gport a
      let b := c.bias.getD a 3
      let st : PortSt := if p.st == .excluded then .excluded else if b == 3 then .unused else if b == 0 then .passive else .ok
      if st == p.st || (st == .ok && (p.st == .open_ || p.st == .short)) then s
      else gnsEvent 0 (some a) st.code (modPort a (fun p => { p with st := st }) s)) s

/-- The quality and confidence of the solution signals (R291, R293, R294, R297). -/
def solQuality (m : Nat) (sub disputed : Bool) (s : State) : Quality × Nat :=
  if s.gns.spoof == 2 then (.masked, 0)
  else if disputed then (.disputed, 0)
  else
    let c := fixConf m
    let c := if s.gns.consistency then c / 2 else c
    let c := if s.gns.spoof == 1 then c / 2 else c
    (if sub || s.gns.consistency then .substituted else .valid, c)

/-- The flags of local 402. -/
def gnsFlags (s : State) : Nat :=
  b2n s.gns.consistency + 2 * interfBits s + 32 * s.gns.spoof + 128 * b2n s.gns.out1 + 256 * b2n s.gns.out3
    + 512 * b2n (s.gns.cfg.bias.getD 1 3 == 3)

/-- With no port enabled the baseband's locals read NO_VALUE (R280). -/
def noGnss (s : State) : State :=
  (List.range 32).foldl (fun s k => publish (384 + k) { quality := .noValue, ty := (s.ownRec (384 + k)).ty } 0 s) s

/-- Requests for a latch that no epoch can answer end (R280, `GNS_RAW_LATCH`). -/
def endLatches (s : State) : State :=
  s.gns.requests.foldl (fun s r => finish r .wrongState [] s) { s with gns := { s.gns with requests := [] } }

/-- GNSS_EPOCH (R290 to R297, R301, R304): on the grid of the epoch period. -/
def doGnssEpoch (e : GnssEpoch) (s : State) : State :=
  if !onGrid s.gns.cfg.ns s then s else
  let was := s.gns.cfg.any
  let s := gnsApply s
  let cfg := s.gns.cfg
  if !cfg.any then endLatches (if was then noGnss s else s) else
  let t := s.time
  let fresh := 3 * cfg.ns / us
  let pub := fun (loc ty : Nat) (v : BitVec 64) (q : Quality) (c : Nat) (s : State) =>
    publish loc { value := v, quality := q, confidence := c, ty := ty, stamp := t } fresh s
  let s := assignChannels e.visible (e.obs.foldl latchChannel s)
  let s := voteSystems e.sysClock 0 s
  let s := voteSignals e.obs s
  let ((prim, sub, disp), s) := choosePrimary e s
  let m := (prim.map (·.2.1)).getD 0
  -- indicators
  let clockDep := if s.tim.mapped && m != 0 then some ((e.gpsNs : Rat) + e.gpsFrac - ((t : Int) + s.tim.o : Int)) else none
  let far := match prim, gaPrediction s with
    | some x, some p => decide (f32d cfg.insTol < placeDist (placeOf x.1) p)
    | _, _ => false
  let flat := flatDiffs s && e.spread
  let s := { s with gns := { s.gns with posBad := if far then s.gns.posBad + 1 else 0, sdBad := if flat then s.gns.sdBad + 1 else 0
                                        rtkRestart := false } }
  let s := spoofStep (indicatorsOf e clockDep s) s
  let (q, conf) := solQuality m sub disp s
  let valid := m != 0 && q == .valid
  let lost := s.gns.fix != 0 && m == 0
  let vs := sinceIf valid t s.gns.validSince
  let oldFix := s.gns.fix
  let age := match (if m == 3 || m == 4 then s.gns.ssrEpoch else s.gns.obsEpoch) with
    | some x => qf32 ((ageMs e.gpsNs x : Nat) / 1000)
    | none => 0
  let s := { s with gns := { s.gns with
    fix := m, validSince := vs, firstValid := s.gns.firstValid || valid, age := age
    recovery := (s.gns.recovery || lost) && !heldFor vs t (10 * sec)
    lastPos := match prim with | some x => some (placeOf x.1) | none => s.gns.lastPos } }
  let s := if m == oldFix then s else gnsEvent 7 none m s
  -- signals
  let s := pub 384 0 (if q == .disputed then (s.ownRec 384).value else BitVec.ofNat 64 m) q conf s
  let s := match prim with
    | none => s
    | some (x, _) =>
      let keep := fun (loc : Nat) (v : BitVec 64) => if q == .disputed then (s.ownRec loc).value else v
      let s := pub 385 2 (keep 385 (q64v x.lat)) q conf s
      let s := pub 386 2 (keep 386 (q64v x.lon)) q conf s
      let s := pub 387 2 (keep 387 (q64v x.height)) q conf s
      let s := pub 388 3 (keep 388 (q32v x.ve)) q conf s
      let s := pub 389 3 (keep 389 (q32v x.vn)) q conf s
      let s := pub 390 3 (keep 390 (q32v x.vu)) q conf s
      let s := pub 391 3 (keep 391 (q32v x.hAcc)) q conf s
      pub 392 3 (keep 392 (q32v x.vAcc)) q conf s
  let lenOk := decide (absR (e.baseline - f32d cfg.baseline) ≤ 2 / 100)
  let s := match e.heading with
    | some (h, p, a) =>
      if 5 ≤ e.common && lenOk && portUsable 0 s && portUsable 1 s && m != 0 then
        pub 395 3 (q32v a) q conf (pub 394 3 (q32v p) q conf (pub 393 3 (q32v h) q conf s))
      else s
    | none => s
  let s :=
    if cfg.ga3Role == 1 then
      match (if portUsable 2 s then e.ga3 else none) with
      | some x =>
        let m3 := fixMode 2 x e.gpsNs s
        let (q3, c3) := solQuality m3 false false s
        let s := pub 396 0 (BitVec.ofNat 64 m3) q3 c3 s
        if m3 == 0 then s
        else pub 399 2 (q64v x.height) q3 c3 (pub 398 2 (q64v x.lon) q3 c3 (pub 397 2 (q64v x.lat) q3 c3 s))
      | none =>
        let (q3, c3) := solQuality 0 false false s
        pub 396 0 0 q3 c3 s
    else s
  let hw := fun (loc : Nat) => (Config.hwConfidence loc).toNat
  let sats := (prim.map fun x => (satsUsed x.2.2 s).length).getD 0
  let s := pub 400 0 (BitVec.ofNat 64 sats) .valid (hw 400) s
  let s := pub 401 3 (f32v s.gns.age) .valid (hw 401) s
  let s := pub 402 0 (BitVec.ofNat 64 (gnsFlags s)) .valid (hw 402) s
  let ps := s.gns.ports.map (·.st.code)
  let s := pub 403 0 (BitVec.ofNat 64 (ps.getD 0 0 + 8 * ps.getD 1 0 + 64 * ps.getD 2 0)) .valid (hw 403) s
  let s := if m == 0 then s else
    pub 406 3 (q32v e.rate) .valid (hw 406) (pub 405 3 (q32v e.gpsFrac) .valid (hw 405) (pub 404 1 (BitVec.ofInt 64 e.gpsNs) .valid (hw 404) s))
  let s := (List.range 4).foldl (fun s k => pub (407 + k) 3 (q32v (e.interSystem.getD k 0)) .valid (hw (407 + k)) s) s
  rawLatch e.gpsNs e.gpsFrac (m != 0) s

/-! ## Navigation data and corrections (R298 to R300) -/

/-- NAV_UNIT (R300): `GNS_NAV` to the partition named in `nav_partition`. -/
def doNavUnit (c : Nat) (u : NavUnit) (s : State) : State :=
  let g := s.gch c
  let n := s.gns.cfg.navPart
  let s := if u.parity < 2 then { s with gns := { s.gns with ephem := ((systemOf g.signal, g.svid) :: s.gns.ephem).eraseDups, almanac := true } } else s
  if 127 < n then s
  else originate n 0x0B81 (BitVec.ofNat 32 (unit 0x0B (0x100 + c)))
    (le 1 u.kind ++ le 1 g.signal ++ le 1 g.svid ++ le 1 u.parity ++ le 2 u.bits ++ zeros 2 ++ le 8 (gclkStamp u.stamp)
      ++ ((u.data ++ zeros 110).take 110)) s

/-- CRC-24Q over bytes (R298; its polynomial PRESUMED, log entry 64). -/
def crc24q (b : List Byte) : Nat :=
  b.foldl (fun c x => (List.range 8).foldl (fun c _ =>
    let c' := c * 2
    if 2 ^ 24 ≤ c' then Nat.xor c' 0x1864CFB else c') (Nat.xor c (x.toNat * 2 ^ 16))) 0

/-- Big-endian bits `[o, o + n)` of a message. -/
def msgBits (m : List Byte) (o n : Nat) : Nat :=
  let v := m.foldl (fun a x => a * 256 + x.toNat) 0
  let tot := 8 * m.length
  if tot < o + n then 0 else v / 2 ^ (tot - o - n) % 2 ^ n

/-- Kind of an RTCM message type (R299): 1 station, 2 legacy observations, 3 MSM, 4 biases, 5 ephemeris, 6 SSR. -/
def rtcmKind (ty : Nat) : Nat :=
  if ty == 1005 || ty == 1006 || ty == 1033 then 1
  else if ty == 1004 || ty == 1012 then 2
  else if (1074 ≤ ty && ty ≤ 1077) || (1084 ≤ ty && ty ≤ 1087) || (1094 ≤ ty && ty ≤ 1097) || (1114 ≤ ty && ty ≤ 1117)
    || (1124 ≤ ty && ty ≤ 1127) then 3
  else if ty == 1230 then 4
  else if ty == 1019 || ty == 1020 || ty == 1042 || ty == 1044 || ty == 1045 || ty == 1046 then 5
  else if (1057 ≤ ty && ty ≤ 1068) || (1240 ≤ ty && ty ≤ 1251) || (1258 ≤ ty && ty ≤ 1263) then 6
  else 0

/-- The epoch of a message in ms of the GPS week, where its field is GPS or Galileo or QZSS or BeiDou time; GLONASS time of
day through UTC and L. None for a message without an epoch. -/
def rtcmEpoch (ty : Nat) (m : List Byte) (gps : Int) (leap : Int) : Option Nat :=
  let glo := fun (tod : Nat) =>
    let day := gps / 1000000 / 86400000
    some ((day * 86400000 + (tod : Int) - 10800000 + leap * 1000) % 604800000).toNat
  match rtcmKind ty with
  | 2 => if ty == 1004 then some (msgBits m 24 30) else glo (msgBits m 24 27)
  | 3 => if 1084 ≤ ty && ty ≤ 1087 then glo (msgBits m 27 27)
    else if 1124 ≤ ty then some ((msgBits m 24 30 + 14000) % 604800000) else some (msgBits m 24 30)
  | 6 => some (msgBits m 12 20 * 1000)
  | _ => none

/-- A complete frame with a good CRC: whether it was applied (R298, R299). -/
def rtcmApply (m : List Byte) (s : State) : Bool × State :=
  let ty := msgBits m 0 12
  let k := rtcmKind ty
  let station := if k == 6 || k == 5 then 0 else msgBits m 12 12
  let r := s.sig1 404
  let ep := rtcmEpoch ty m r.value.toInt s.tim.leap
  let dup := ep.any fun e => s.gns.seen.any fun x => x.2 == (station, ty, e)
  if m.length < 2 || k == 0 || dup then (false, s)
  else
    let g := s.gns
    let g := match ep with
      | some e => { g with seen := (s.time, station, ty, e) :: g.seen.filter fun x => s.time < x.1 + 604800 * sec
                           obsEpoch := if k == 2 || k == 3 then some e else g.obsEpoch
                           ssrEpoch := if k == 6 then some e else g.ssrEpoch }
      | none => g
    let g := if k == 1 || k == 2 || k == 3 then
        { g with rtkRestart := g.rtkRestart || g.base.any (· != station), base := some station } else g
    let g := if k == 5 then { g with ephem := ((ty, msgBits m 12 6) :: g.ephem).eraseDups } else g
    (true, { s with gns := g })

/-- Frames completed in a stream (R298): what remains, and how many were applied and discarded. The fuel bounds the bytes
looked at. -/
def rtcmScan : Nat → List Byte → Nat → Nat → State → List Byte × Nat × Nat × State
  | 0, b, ok, bad, s => (b, ok, bad, s)
  | fuel + 1, b, ok, bad, s =>
    match b with
    | [] => ([], ok, bad, s)
    | x :: rest =>
      if x != 0xD3 then rtcmScan fuel rest ok bad s
      else if b.length < 3 then (b, ok, bad, s)
      else
        let h := (b.getD 1 0).toNat
        let len := h % 4 * 256 + (b.getD 2 0).toNat
        if 4 ≤ h then rtcmScan fuel rest ok bad s
        else if b.length < len + 6 then (b, ok, bad, s)
        else
          let crc := ((b.drop (len + 3)).take 3).foldl (fun a y => a * 256 + y.toNat) 0
          if crc24q (b.take (len + 3)) != crc then rtcmScan fuel rest ok (bad + 1) s
          else
            let (a, s) := rtcmApply ((b.drop 3).take len) s
            rtcmScan fuel (b.drop (len + 6)) (if a then ok + 1 else ok) (if a then bad else bad + 1) s

/-- Bytes are appended to a source's stream (R298): frames applied and discarded. -/
def rtcmFeed (source : Nat) (data : List Byte) (s : State) : Nat × Nat × State :=
  let old := ((s.gns.streams.find? fun x => x.source == source).map (·.bytes)).getD []
  let all := old ++ data
  let (rest, ok, bad, s) := rtcmScan all.length all 0 0 s
  let st := s.gns.streams.filter fun x => x.source != source
  (ok, bad, { s with gns := { s.gns with
    streams := st ++ [{ source := source, bytes := rest }], framesOk := s.gns.framesOk + ok, framesBad := s.gns.framesBad + bad } })

/-- RTCM_DATAGRAM (R298): a datagram to the port `rtcm_udp`; another port is not the baseband's. -/
def doRtcmDatagram (udp source : Nat) (bytes : List Byte) (s : State) : State :=
  if s.gns.cfg.rtcmUdp == 0 || udp != s.gns.cfg.rtcmUdp || !s.gns.cfg.any then s
  else (rtcmFeed (0x100 + source) bytes s).2.2

/-! ## Commands -/

/-- The configuration that `GNS_CONFIG` gives. -/
def parseGnsCfg (b : List Byte) : GnsCfg :=
  { bias := [u8 b 0, u8 b 1, u8 b 2], ga3Role := u8 b 3, epoch := u8 b 4, solution := u8 b 5, rawModes := u8 b 6, navPart := u8 b 7
    signals := u32 b 8, elevMask := bits32 b 12, cn0Mask := bits32 b 16, baseline := bits32 b 20, resThr := bits32 b 24
    persist := u16 b 28, rejoin := u16 b 30, redTol := bits32 b 32, insTol := bits32 b 36, ageMax := u16 b 40, rtcmUdp := u16 b 42
    pfa := bits32 b 44, spacing := u16 b 48, frames := [u8 b 52, u8 b 53, u8 b 54] }

/-- Fields out of range (`GNS_CONFIG`). -/
def gnsCfgBad (c : GnsCfg) (b : List Byte) : Bool :=
  c.bias.any (3 < ·) || 2 < c.ga3Role || 6 < c.epoch || 3 < c.solution || 3 < c.rawModes || (127 < c.navPart && c.navPart != 0xFF)
  || 2 ^ 18 ≤ c.signals || !f32In c.elevMask 0 30 || !f32In c.cn0Mask 20 45 || !f32In c.baseline (1 / 2) 5 || !f32In c.resThr 2 10
  || c.persist < 1 || 100 < c.persist || c.rejoin < 1 || 1000 < c.rejoin || !f32In c.redTol (2 / 100) 5 || !f32In c.insTol (2 / 10) 20
  || c.ageMax < 1 || 60 < c.ageMax || (c.rtcmUdp != 0 && c.rtcmUdp < 1024) || !f32In c.pfa (1 / 100000000) (1 / 1000)
  || c.spacing < 5 || 50 < c.spacing || reservedSet b [(50, 2), (55, 1)]
  || (c.bias.getD 0 3 != 3 && c.bias.getD 1 3 == 3) || (c.ga3Role != 0 && c.bias.getD 2 3 == 3) || (c.ga3Role == 0 && c.bias.getD 2 3 != 3)

/-- Whether a request names the baseband. -/
def gnsTarget (r : Req) : Bool := r.p.target.toNat == unit 0x0B 0

/-- What refuses `GNS_CONFIG`, in its order (step 8 of R73). -/
def chkGnsConfig (busy : State → Bool) (r : Req) (s : State) : List (Bool × Status) :=
  let b := r.p.payload
  let c := parseGnsCfg b
  [(!gnsTarget r, .badParam), (!s.isHost r.port, .notOwner), (gnsCfgBad c b, .badParam), (busy s, .wrongState)]

/-- `GNS_CONFIG`; `busy` says whether guidance on this module is ENGAGED, COASTING or RELEASING. -/
def effGnsConfig (busy : State → Bool) (r : Req) (s : State) : Res × State :=
  let b := r.p.payload
  let c := parseGnsCfg b
  check s (chkGnsConfig busy r s) fun _ =>
    done { s with gns := { s.gns with next := some c } }

/-- What refuses `GNS_RTCM_PUT`, in its order (step 8 of R73). -/
def chkGnsRtcmPut (r : Req) (s : State) : List (Bool × Status) :=
  [(!gnsTarget r, .badParam), (!(s.gns.next.getD s.gns.cfg).any, .wrongState)]

/-- `GNS_RTCM_PUT` (R298). -/
def effGnsRtcmPut (r : Req) (s : State) : Res × State :=
  check s (chkGnsRtcmPut r s) fun _ =>
    let (ok, bad, s) := rtcmFeed r.port r.p.payload s
    (.fin .done (le 2 ok ++ le 2 bad), s)

/-- What refuses `GNS_RAW_LATCH`, in its order (step 8 of R73). -/
def chkGnsRawLatch (r : Req) (s : State) : List (Bool × Status) :=
  [(!gnsTarget r, .badParam), (!(s.gns.next.getD s.gns.cfg).any, .wrongState)]

/-- `GNS_RAW_LATCH` (R301, R302): ends when its latch is published. -/
def effGnsRawLatch (r : Req) (s : State) : Res × State :=
  check s (chkGnsRawLatch r s) fun _ =>
    (.interim .queued, { s with gns := { s.gns with requests := s.gns.requests ++ [r] } })

/-- What refuses `GNS_TEST`, in its order (step 8 of R73). -/
def chkGnsTest (r : Req) (s : State) : List (Bool × Status) :=
  let op := u8 r.p.payload 0
  [(!gnsTarget r, .badParam), (!s.isHost r.port, .notOwner), (1 < op || reservedSet r.p.payload [(1, 3)], .badParam)]

/-- `GNS_TEST` (R301). -/
def effGnsTest (r : Req) (s : State) : Res × State :=
  let op := u8 r.p.payload 0
  check s (chkGnsTest r s) fun _ =>
    done { s with gns := { s.gns with test := op == 1 } }

/-- What refuses `GNS_RESTART`, in its order (step 8 of R73). -/
def chkGnsRestart (busy : State → Bool) (r : Req) (s : State) : List (Bool × Status) :=
  let op := u8 r.p.payload 0
  [(!gnsTarget r, .badParam), (!s.isHost r.port, .notOwner), (2 < op || reservedSet r.p.payload [(1, 3)], .badParam),
  (busy s, .wrongState)]

/-- `GNS_RESTART` (R301). -/
def effGnsRestart (busy : State → Bool) (r : Req) (s : State) : Res × State :=
  let op := u8 r.p.payload 0
  check s (chkGnsRestart busy r s) fun _ =>
    done { s with gns := { s.gns with
      ch := s.gns.ch.map (fun g => if g.st == 7 then g else {}), recovery := true, validSince := none, test := false
      ephem := if 1 ≤ op then [] else s.gns.ephem, almanac := s.gns.almanac && op < 2
      lastPos := if op == 2 then none else s.gns.lastPos } }

/-- What refuses `GNS_STATUS`, in its order (step 8 of R73). -/
def chkGnsStatus (r : Req) (s : State) : List (Bool × Status) :=
  [(!gnsTarget r, .badParam)]

/-- `GNS_STATUS`. -/
def effGnsStatus (r : Req) (s : State) : Res × State :=
  check s (chkGnsStatus r s) fun _ =>
    let track := (List.range 3).flatMap fun a =>
      le 2 (((s.gns.ch.drop (128 * a)).take 128).filter fun g => g.st == 4 || g.st == 5).length
    answer (le 1 s.gns.fix ++ le 1 s.gns.spoof ++ le 1 (bitsN s.gns.indicators) ++ (s.gns.ports.flatMap fun p => le 1 p.st.code)
      ++ le 2 (gnsFlags s) ++ track ++ le 2 s.gns.used ++ le 4 s.gns.framesOk ++ le 4 s.gns.framesBad
      ++ le 4 (s.gns.nextLatch - 1) ++ le 4 s.gns.age.toNat ++ le 8 s.time) s

/-- What refuses `GNS_CHANNEL_READ`, in its order (step 8 of R73). -/
def chkGnsChannelRead (r : Req) (s : State) : List (Bool × Status) :=
  let b := r.p.payload
  let src := u8 b 3
  let held := s.gns.ring.find? fun l => l.no == u32 b 4
  [ (!gnsTarget r, .badParam), (383 < u16 b 0 || u8 b 2 == 0 || 126 < u8 b 2 || 1 < src, .badParam), (src == 1 && held.isNone, .badParam) ]

/-- `GNS_CHANNEL_READ` (R303). -/
def effGnsChannelRead (r : Req) (s : State) : Res × State :=
  let b := r.p.payload
  let src := u8 b 3
  let held := s.gns.ring.find? fun l => l.no == u32 b 4
  check s (chkGnsChannelRead r s) fun _ =>
    let chs := if src == 1 then (held.map (·.channels)).getD [] else s.gns.ch
    let got := (chs.zipIdx.drop (u16 b 0)).take (u8 b 2)
    answer (le 2 got.length ++ zeros 6 ++ got.flatMap fun e => chRecord e.2 e.1) s

end Sys2Proof.Machine
end

