-- ==== Sys2Proof/Machine/Tim.lean ====
section
/-! DEFINITION. Chapter 13: the time states, slew and step, holdover, pulses, IEEE 802.1AS and the rules of the TIM
commands. -/
namespace Sys2Proof.Machine

/-- Change the time base. -/
def modTim (f : TimState → TimState) (s : State) : State := { s with tim := f s.tim }

/-- The state codes of R311. -/
def TimSt.code : TimSt → Nat
  | .free => 0 | .slewing => 1 | .locked => 2 | .holdover => 3 | .untraceable => 4

/-- `TIM_EVENT`. -/
def timEvent (cause : Nat) (step : Int) (s : State) : State :=
  event 0x0C80 (unit 0x0C 0) (le 1 cause ++ le 1 s.tim.st.code ++ zeros 6 ++ leInt 8 step ++ le 8 s.time) [] (hwSource 0x0C80) s

/-- Traceable under R311. -/
def traceable (s : State) : Bool :=
  match s.tim.st with
  | .locked | .holdover => true
  | .slewing => decide (s.tim.u ≤ 1000)
  | _ => false

/-- A new mapping comes into force (R308, R310). -/
def setMapping (o : Int) (s : State) : State :=
  modTim (fun t => { t with o := o, mapped := true, maps := ((s.time, o) :: t.maps).take 16, rephase := [some s.time, some s.time] }) s

/-! ## References (R306 to R309) -/

/-- Whether the GNSS reference is usable (R306). -/
def gnssUsable (s : State) : Bool :=
  let ok := fun (loc : Nat) => (s.sig1 loc).quality == .valid || (s.sig1 loc).quality == .substituted
  let f := s.sig1 384
  f.fresh && 1 ≤ f.value.toNat && ok 404 && ok 405 && s.gns.spoof != 2

/-- GPS time of the last GNSS epoch minus module time there, exactly. -/
def gnssOffset (s : State) : Rat :=
  let r := s.sig1 404
  ((r.value.toInt : Int) : Rat) + ((valueQ 3 (s.sig1 405).value).getD 0) - (r.stamp : Rat)

/-- Whether `PPS_IN` is usable now: edges still arrive and the last one was usable (R306). -/
def ppsUsableNow (s : State) : Bool :=
  s.tim.ppsUsable && s.tim.ppsIn.any fun p => decide (s.time ≤ p + 1001 * ms)

/-- Which references `ref` allows: GNSS, `PPS_IN`. -/
def refAllows (s : State) : Bool × Bool :=
  let r := s.tim.cfg.ref
  if s.follows then (false, false) else (r == 1 || r == 2, r == 2 || r == 3)

/-- A free non-negative number (an uncertainty that the spec does not state). -/
def takeUnc (s : State) : Rat × State := let (q, s) := takeFreeRat s; (absR q, s)

/-- A phase error is measured: the slew follows it in SLEWING and LOCKED (R312), and the discipline's own frequency
correction is free (R305, log entry 67). -/
def measureEps (eps : Rat) (s : State) : State :=
  let (c, s) := takeFreeRat s
  let exc := c - clampR c (-1000) 1000
  let lim := decide (exc ≠ 0)
  let old := s.tim.efcLimit
  let cfg := s.tim.cfg
  let s := modTim (fun t =>
    let sl := clampR (eps / 1000 / f32d cfg.slewTau) (-(f32d cfg.slewMax)) (f32d cfg.slewMax)
    { t with eps := eps, corr := clampR c (-1000) 1000, efcLimit := lim
             slew := clampR ((if t.st == .slewing || t.st == .locked then sl else 0) + exc / 1000) (-(f32d cfg.slewMax)) (f32d cfg.slewMax) }) s
  if lim != old then timEvent 5 0 s else s

/-- A GNSS epoch is counted (R307), and a phase error is measured while GNSS is active. -/
def timGnssEpoch (s : State) : State :=
  let ok := gnssUsable s && (s.sig1 384).stamp == s.time
  let s := modTim (fun t => { t with gnssCount := if ok then min (t.gnssCount + 1) 10 else 0 }) s
  if ok && s.tim.active == 1 then measureEps (gnssOffset s - (s.tim.o : Rat)) s else s

/-- The reference that is active at this instant (R306, R307); a module that has taken over changes to its own `ref` from the next epoch. -/
def activeRef (s : State) : Nat :=
  let (g, p) := refAllows s
  if s.follows then (if s.id.timeLock then 3 else 0)
  else if s.tim.active == 3 && !onGrid s.gns.cfg.ns s then 3
  else if g && gnssUsable s && (s.tim.gnssCount == 10 || s.tim.active == 1) then 1
  else if p && ppsUsableNow s && (s.tim.ppsCount == 10 || s.tim.active == 2) && (s.tim.mapped || s.tim.named.isSome) then 2
  else 0

/-! ## States (R311 to R313) -/

/-- The time state changes. -/
def timEnter (st : TimSt) (s : State) : State :=
  timEvent 0 0 (modTim (fun t => { t with st := st, stepped := false, smallSince := none, largeSince := none
                                          lockedSince := if st == .locked then some s.time else none }) s)

/-- The first activation sets O (R308, R309). -/
def firstMapping (s : State) : State :=
  match s.tim.active, s.tim.named with
  | 1, _ => setMapping (roundEven (gnssOffset s)) s
  | 2, some (g, stamp, _, l) => modTim (fun t => { t with leap := l }) (setMapping (g * 1000000000 - (stamp : Int)) s)
  | _, _ => s

/-- The uncertainty of the reference that has become active. -/
def takeRefUnc (s : State) : State :=
  match s.tim.active, s.tim.named with
  | 2, some (_, _, u, _) =>
    if s.tim.cfg.ref == 3 then modTim (fun t => { t with refUnc := f32d u }) s
    else let (q, s) := takeUnc s; modTim (fun t => { t with refUnc := q }) s
  | _, _ => let (q, s) := takeUnc s; modTim (fun t => { t with refUnc := q }) s

/-- The phase error of a worker against the manager's time (R306, R308). -/
def managerEps (s : State) : Rat :=
  match s.tim.mgrO with
  | some o => ((o + s.id.managerOffset - s.tim.o : Int) : Rat)
  | none => s.tim.eps

/-- The phase error at activation. -/
def epsNow (s : State) : Rat :=
  match s.tim.active with
  | 1 => gnssOffset s - (s.tim.o : Rat)
  | 2 =>
    let p := (s.tim.ppsIn.getD 0 : Int)
    let x := (p + s.tim.o) % 1000000000
    (((if 500000000 ≤ x then 1000000000 - x else -x) : Int) : Rat)
  | _ => managerEps s

/-- A reference has become active (R311). -/
def activate (s : State) : State :=
  let s := takeRefUnc s
  match s.tim.st with
  | .free =>
    let s := if s.tim.mapped then s else firstMapping s
    if s.tim.mapped then timEnter .slewing (modTim (fun t => { t with eps := epsNow s, u := absR (epsNow s) + t.refUnc }) s) else s
  | .holdover | .untraceable =>
    let e := epsNow s
    let s := modTim (fun t => { t with eps := e, holdSince := none }) s
    let s := timEnter .slewing s
    if 500000 < absR e then
      let d := roundEven e
      let g := (s.time : Int) + s.tim.o
      let at_ := (((g / 1000000000 + 1) * 1000000000 - s.tim.o)).toNat
      modTim (fun t => { t with step := some (at_, d) }) s
    else s
  | _ => s

/-- HOLDOVER begins (R311, R313): the residual frequency error is 0.25 ppb after 10 min LOCKED, and otherwise the
discipline's own estimate, at least 0.25 ppb. -/
def enterHoldover (s : State) : State :=
  let long := heldFor s.tim.lockedSince s.time (600 * sec)
  let (q, s) := if long then ((1 / 4 : Rat), s) else let (q, s) := takeUnc s; (maxR (1 / 4) q, s)
  let s := modTim (fun t => { t with holdSince := some s.time, u0 := t.u, yr := q, t0 := t.temp, dtmax := 0, slew := 0 }) s
  timEnter .holdover s

/-- The uncertainty in HOLDOVER and UNTRACEABLE (R313), ns. -/
def holdoverU (t : TimState) (now : Nat) : Rat :=
  let d : Rat := ((now - t.holdSince.getD now : Nat) : Rat) / 1000000000
  let b := t.yr * d + 1 / 2 * (5787 / 1000000000) * d * d + 5 / 100 * t.dtmax * d
  t.u0 + 2 * b

/-- The signals of the time base (R319). -/
def timPublish (s : State) : State :=
  let t := s.tim
  let pub := fun (loc ty : Nat) (v : BitVec 64) (s : State) => pubHw loc ty v .valid s.time 5000 s
  let fl := bitsN [traceable s, t.leapNext.isSome, t.stepped, t.efcLimit] + 16 * t.active
  let hold : Rat := match t.holdSince with | some h => ((s.time - h : Nat) : Rat) / 1000000000 | none => 0
  let s := pub 416 0 (BitVec.ofNat 64 t.st.code) s
  let s := pub 417 3 (q32v t.u) s
  let s := pub 418 3 (q32v t.eps) s
  let s := pub 419 3 (q32v (t.corr + t.slew * 1000)) s
  let s := pub 420 3 (q32v hold) s
  let s := pub 421 1 (BitVec.ofInt 64 t.o) s
  let s := pub 422 1 (BitVec.ofInt 64 t.leap) s
  let s := pub 423 0 (BitVec.ofNat 64 fl) s
  let s := pub 424 0 (BitVec.ofNat 64 t.steps) s
  pub 427 3 (q32v t.temp) s

/-- TIME_STATE_EVAL (R311): every 1 ms, activation of a reference first. `temp` is the OCXO temperature. -/
def doTimeEval (temp : Rat) (s : State) : State :=
  if !onGrid ms s then s else
  let s := modTim (fun t => match t.next with
    | some (at_, c) => if at_ ≤ s.time then { t with cfg := c, next := none } else t
    | none => t) s
  let s := modTim (fun t => { t with temp := temp, dtmax := maxR t.dtmax (absR (temp - t.t0)) }) s
  let was := s.tim.active
  let now := activeRef s
  let s := modTim (fun t => { t with active := now }) s
  let s :=
    if now != 0 && (was == 0 || s.tim.st == .free) then activate s
    else if now != 0 && now != was then (let s := takeRefUnc s; modTim (fun t => { t with eps := epsNow s }) s)
    else s
  let s := if now == 0 && (s.tim.st == .slewing || s.tim.st == .locked) then enterHoldover s else s
  let tm := s.time
  let s := modTim (fun t => { t with
    u := if t.st == .holdover || t.st == .untraceable then holdoverU t tm else absR t.eps + t.refUnc
    smallSince := sinceIf (decide (absR t.eps ≤ 100)) tm t.smallSince
    largeSince := sinceIf (decide (200 < absR t.eps)) tm t.largeSince }) s
  let s := match s.tim.st with
    | .slewing => if heldFor s.tim.smallSince tm (10 * sec) then timEnter .locked s else s
    | .locked => if heldFor s.tim.largeSince tm sec then timEnter .slewing s else s
    | .holdover => if 1000 < s.tim.u then timEnter .untraceable s else s
    | _ => s
  timPublish s

/-- O changes by a step (R312, R317). -/
def stepMapping (d : Int) (s : State) : State :=
  let s := setMapping (s.tim.o + d) s
  timEvent 1 d (modTim (fun t => { t with stepped := true, steps := t.steps + 1, eps := t.eps - (d : Rat)
                                          timeBase := (t.timeBase + 1) % 65536, lastPhase := d }) s)

/-- MAPPING_STEP (R312): O changes at the next whole second of the old mapping. -/
def doMappingStep (s : State) : State :=
  match s.tim.step with
  | some (at_, d) => if s.time < at_ then s else stepMapping d (modTim (fun t => { t with step := none }) s)
  | none => s

/-- LEAP_SECOND (R310): an announced leap second is applied at the end of the UTC day named. -/
def doLeapSecond (s : State) : State :=
  match s.tim.leapNext with
  | some (g, l) =>
    if s.tim.mapped && decide (g * 1000000000 ≤ (s.time : Int) + s.tim.o) then
      timEvent 2 0 (modTim (fun t => { t with leap := l, leapNext := none, leaps := ((g, t.leap, l) :: t.leaps).take 16 }) s)
    else s
  | none => s

/-- What an epoch's navigation data say of leap seconds (R310). -/
def noteLeap (e : GnssEpoch) (s : State) : State :=
  modTim (fun t => { t with leap := match e.leap with | some l => l | none => t.leap
                            leapNext := match e.leapNext with | some x => some x | none => t.leapNext }) s

/-! ## Pulses (R315, R316) -/

/-- Distance of a module time from the nearest whole second of an offset, ns. -/
def secOffset (p : Nat) (o : Int) : Int :=
  let x := ((p : Int) + o) % 1000000000
  if 500000000 ≤ x then x - 1000000000 else x

/-- PPS_IN_EDGE (R306, R309, R316): an edge stamped at this instant, less `pps_in_delay`. -/
def doPpsIn (falling : Bool) (s : State) : State :=
  if falling != bitOf s.tim.cfg.ppsPol 2 then s else
  let stamp := ((gclkStamp s.time : Int) - s.tim.cfg.inDelay).toNat
  let t := s.tim
  let spaced := t.ppsIn.any fun p => decide (999 * ms ≤ stamp - p) && decide (stamp - p ≤ 1001 * ms)
  let near := !t.mapped || decide ((secOffset stamp t.o).natAbs ≤ 400000000)
  let ok := spaced && near
  let due := t.epochReqs.filter fun r => r.p.time + 100 * ms ≤ stamp
  let named := match due.getLast? with
    | some r => some (i64 r.p.payload 0, stamp, bits32 r.p.payload 8, i16 r.p.payload 12)
    | none => t.named
  let lost := t.ppsLost
  let s := modTim (fun t => { t with
    ppsIn := some stamp, ppsLost := false, ppsUsable := ok, named := named
    epochReqs := t.epochReqs.filter fun r => stamp < r.p.time + 100 * ms
    ppsCount := if !due.isEmpty then b2n ok else if ok && (t.mapped || named.isSome) then min (t.ppsCount + 1) 10 else if ok then t.ppsCount else 0 }) s
  let s := pubHw 425 0 (BitVec.ofNat 64 stamp) .valid stamp 0 s
  let s := pubHw 426 3 (q32v ((secOffset stamp (if s.tim.mapped then s.tim.o else 0) : Int) : Rat)) .valid stamp 0 s
  let s := if lost then timEvent 4 0 s else s
  let s := due.foldl (fun s r => finish r .done (le 8 stamp) s) s
  if s.tim.active == 2 && ok then measureEps (-(((secOffset stamp s.tim.o : Int)) : Rat)) s else s

/-- PPS_IN_LOST (R316): 1.5 s without an edge. -/
def doPpsLost (s : State) : State :=
  if s.tim.ppsIn.any (fun p => decide (p + 1500 * ms ≤ s.time)) && !s.tim.ppsLost then
    timEvent 3 0 (modTim (fun t => { t with ppsLost := true, ppsUsable := false, ppsCount := 0 }) s)
  else s

/-- EPOCH_SET_TIMEOUT (R309): no edge within 2 s of admission. -/
def doEpochTimeout (s : State) : State :=
  let old := s.tim.epochReqs.filter fun r => r.p.time + 2 * sec ≤ s.time
  old.foldl (fun s r => finish r .wrongState [] s)
    (modTim (fun t => { t with epochReqs := t.epochReqs.filter fun r => s.time < r.p.time + 2 * sec }) s)

/-- The edge instant of an output, without its delay, that follows the last one at the old timing. -/
def oldPps (k : Nat) (s : State) : Nat :=
  let last := s.tim.ppsLast.getD k 0
  let x := ((last : Int) + s.tim.ppsO.getD k 0) % 1000000000
  ((last : Int) - x + 1000000000).toNat

/-- Whether the next edge is the re-phased one: the mapping has changed, and the edge at the boundary of the change has been made (R315). -/
def repPhased (k : Nat) (s : State) : Bool := ((s.tim.rephase.getD k none).map fun at_ => decide (at_ < oldPps k s)).getD false

/-- The next edge instant of an output, without its delay: one second after the last, or after a change of mapping the first
whole second of the new mapping at least 0.5 s after it (R315). -/
def nextPps (k : Nat) (s : State) : Nat :=
  if repPhased k s then
    let from_ : Int := (s.tim.ppsLast.getD k 0 : Int) + 500000000
    let x := (from_ + s.tim.o) % 1000000000
    (from_ + (if x == 0 then 0 else 1000000000 - x)).toNat
  else oldPps k s

/-- PPS_OUT_EDGE (R315): the output asserts, advanced by its delay. -/
def doPpsOut (k : Nat) (s : State) : State :=
  if 2 ≤ k then s else
  let d := if k == 0 then s.tim.cfg.delay0 else s.tim.cfg.delay1
  let at_ := ((s.time : Int) + d).toNat
  if at_ < nextPps k s then s else
  let new := repPhased k s
  modTim (fun t => { t with ppsLast := t.ppsLast.set k (nextPps k s), rephase := if new then t.rephase.set k none else t.rephase
                            ppsO := if new then t.ppsO.set k t.o else t.ppsO
                            ppsEdges := (k, s.time, s.time + t.cfg.ppsWidth * ms) :: t.ppsEdges }) s

/-! ## IEEE 802.1AS (R30, R317) -/

/-- What the module advertises on an ETH port (R317). -/
def announceOf (port : Nat) (s : State) : Announce :=
  let (c, a, src) := match s.tim.st with
    | .locked => (6, 0x21, 0x20) | .holdover => (7, 0x23, 0x20) | .untraceable => (52, 0xFE, 0xA0) | _ => (248, 0xFE, 0xA0)
  { time := s.time, port := port, prio1 := if port < 2 && !s.acting then 255 else s.tim.cfg.prio1, clockClass := c, accuracy := a
    prio2 := s.tim.cfg.prio2, source := src
    gptpTime := if s.tim.st == .free then (s.time : Int) else (s.time : Int) + s.tim.o + 19000000000
    utcOffset := if s.tim.leap < 0 then none else some (s.tim.leap + 19), timeBase := s.tim.timeBase, lastPhase := s.tim.lastPhase }

/-- GPTP_MESSAGE (R30, R308, R317): a worker takes the manager's mapping at its first time lock and every change of it, and measures its phase
error against the manager's time. -/
def doGptp (m : GptpMsg) (s : State) : State :=
  match m with
  | .sync off mapping leap lock =>
    if !s.follows then s else
    let s := { s with id := { s.id with managerOffset := off, timeLock := lock } }
    match mapping with
    | some o =>
      let was := s.tim.mgrO
      let s := modTim (fun t => { t with leap := leap, mgrO := if lock then some o else none }) s
      let s :=
        if !s.tim.mapped then setMapping (o + off) s
        else match was with
          | some w => if w == o then s else stepMapping (o - w) s
          | none => s
      if s.tim.active == 3 then measureEps (managerEps s) s else s
    | none => s
  | .announce gm => if gm == s.tim.gm then s else timEvent 6 0 (modTim (fun t => { t with gm := gm }) s)
  | .send eth =>
    if bitOf s.tim.cfg.gptpPorts eth then modTim (fun t => { t with announces := announceOf eth s :: t.announces }) s else s

/-! ## Commands -/

/-- Whether a request names the time base. -/
def timTarget (r : Req) : Bool := r.p.target.toNat == unit 0x0C 0

/-- What refuses `TIM_CONFIG`, in its order (step 8 of R73). -/
def chkTimConfig (r : Req) (s : State) : List (Bool × Status) :=
  let b := r.p.payload
  let c : TimCfg := { ref := u8 b 0, ppsWidth := u8 b 1, ppsPol := u8 b 2, ttcanPrio := u8 b 3, delay0 := i32 b 4, delay1 := i32 b 8
                      inDelay := i32 b 12, slewMax := bits32 b 16, slewTau := bits32 b 20, ttcanCh := u16 b 24, gptpPorts := u8 b 26
                      prio1 := u8 b 27, prio2 := u8 b 28 }
  let far := fun (x : Int) => decide (100000 < x.natAbs)
  [ (!timTarget r, .badParam), (!s.isHost r.port, .notOwner),
    (3 < c.ref || c.ppsWidth < 1 || 250 < c.ppsWidth || 7 < c.ppsPol || 7 < c.ttcanPrio || far c.delay0 || far c.delay1 || far c.inDelay
      || !f32In c.slewMax (1 / 10) 5 || !f32In c.slewTau 10 1000 || 4095 < c.ttcanCh || 15 < c.gptpPorts || reservedSet b [(29, 3)], .badParam),
    (c.prio1 == 255 && c.gptpPorts % 4 != 0, .badParam) ]

/-- `TIM_CONFIG` (R306). -/
def effTimConfig (r : Req) (s : State) : Res × State :=
  let b := r.p.payload
  let c : TimCfg := { ref := u8 b 0, ppsWidth := u8 b 1, ppsPol := u8 b 2, ttcanPrio := u8 b 3, delay0 := i32 b 4, delay1 := i32 b 8
                      inDelay := i32 b 12, slewMax := bits32 b 16, slewTau := bits32 b 20, ttcanCh := u16 b 24, gptpPorts := u8 b 26
                      prio1 := u8 b 27, prio2 := u8 b 28 }
  check s (chkTimConfig r s) fun _ =>
    done (modTim (fun t => { t with next := some (s.time + (sec - s.time % sec), c) }) s)

/-- The flags of local 423. -/
def timFlags (s : State) : Nat := bitsN [traceable s, s.tim.leapNext.isSome, s.tim.stepped, s.tim.efcLimit] + 16 * s.tim.active

/-- What refuses `TIM_STATUS`, in its order (step 8 of R73). -/
def chkTimStatus (r : Req) (s : State) : List (Bool × Status) :=
  [(!timTarget r, .badParam)]

/-- `TIM_STATUS`. -/
def effTimStatus (r : Req) (s : State) : Res × State :=
  let t := s.tim
  let hold : Rat := match t.holdSince with | some h => ((s.time - h : Nat) : Rat) / 1000000000 | none => 0
  check s (chkTimStatus r s) fun _ =>
    answer (le 1 t.st.code ++ le 1 (timFlags s) ++ leInt 2 t.leap ++ le 4 t.steps ++ leInt 8 t.o ++ le 4 (qf32 t.u).toNat
      ++ le 4 (qf32 t.eps).toNat ++ le 4 (qf32 (t.corr + t.slew * 1000)).toNat ++ le 4 (qf32 hold).toNat ++ le 8 s.time) s

/-- The mapping in force at a module time, and whether the instant is older than every mapping kept (R310). -/
def mappingAt (t : Int) (s : State) : Int × Bool :=
  match s.tim.maps.find? fun m => (m.1 : Int) ≤ t with
  | some m => (m.2, false)
  | none => ((s.tim.maps.getLast?.map (·.2)).getD s.tim.o, true)

/-- L in force at a GPS second, and whether the second is an inserted one (R310). -/
def leapAt (g : Int) (s : State) : Int × Bool :=
  let ins := s.tim.leaps.any fun e => e.1 == g && e.2.1 < e.2.2
  match s.tim.leaps.find? fun e => g < e.1 with
  | none => (s.tim.leap, ins)
  | some _ =>
    -- the oldest change after the instant says what L was before it
    (((s.tim.leaps.filter fun e => g < e.1).getLast?.map (·.2.1)).getD s.tim.leap, ins)

/-- What refuses `TIM_CONVERT`, in its order (step 8 of R73). -/
def chkTimConvert (r : Req) (s : State) : List (Bool × Status) :=
  let b := r.p.payload
  let from_ := u8 b 0
  [ (!timTarget r, .badParam), (1 < from_ || reservedSet b [(1, 7)], .badParam),
    (from_ == 0 && s.time < u64 b 8, .badParam), (s.tim.st == .free, .wrongState) ]

/-- `TIM_CONVERT` (R310). -/
def effTimConvert (r : Req) (s : State) : Res × State :=
  let b := r.p.payload
  let from_ := u8 b 0
  check s (chkTimConvert r s) fun _ =>
    let (m, g, old) : Int × Int × Bool :=
      if from_ == 0 then
        let t : Int := u64 b 8
        let (o, old) := mappingAt t s
        (t, t + o, old)
      else
        let g := i64 b 8
        match s.tim.maps.find? fun x => (x.1 : Int) ≤ g - x.2 with
        | some x => (g - x.2, g, false)
        | none => (g - (s.tim.maps.getLast?.map (·.2)).getD s.tim.o, g, true)
    let gs := g / 1000000000
    let (l, ins) := leapAt gs s
    let known := decide (0 ≤ l)
    let utc := if known then gs + 315964800 - l else 0
    let reply := leInt 8 m ++ leInt 8 g ++ leInt 8 utc ++ leInt 4 (if known then g % 1000000000 else 0) ++ le 1 (b2n (ins && known)) ++ zeros 3
    (.fin (if old then .degraded else .done) reply, s)

/-- What refuses `TIM_EPOCH_SET`, in its order (step 8 of R73). -/
def chkTimEpochSet (r : Req) (s : State) : List (Bool × Status) :=
  let b := r.p.payload
  [ (!timTarget r, .badParam), (!s.isHost r.port, .notOwner),
    (!f32In (bits32 b 8) 1 1000000 || i16 b 12 < -1 || 255 < i16 b 12 || reservedSet b [(14, 2)], .badParam),
    (s.tim.cfg.ref != 3 || s.tim.mapped || !s.acting, .wrongState) ]

/-- `TIM_EPOCH_SET` (R309). -/
def effTimEpochSet (r : Req) (s : State) : Res × State :=
  check s (chkTimEpochSet r s) fun _ =>
    (.interim .queued, modTim (fun t => { t with epochReqs := t.epochReqs ++ [r] }) s)

end Sys2Proof.Machine
end

