-- ==== Sys2Proof/Machine/Fus.lean ====
section
/-! DEFINITION. Chapter 14: the transform table, the vote among contradicting sensors, ego-motion, pose modes, tracks, the cart
and the rules of the FUS commands. -/
namespace Sys2Proof.Machine

/-- Change the fusion engine. -/
def modFus (f : FusState → FusState) (s : State) : State := { s with fus := f s.fus }

/-- Whether fusion runs on this module (R320). -/
def fusOn (s : State) : Bool := s.fus.cfg.enable.getD (s.id.index == some 0)

/-- `FUS_EVENT`. -/
def fusEvent (target cause : Nat) (index : Option Nat) (st : Nat) (s : State) : State :=
  event 0x0D80 target (le 1 cause ++ le 1 (index.getD 0xFF) ++ le 1 st ++ zeros 5 ++ le 8 s.time) [] 0x32 s

/-! ## The transform table (R322 to R326) -/

/-- The record that a frame has before anything is written to it (log entry 88). -/
def frameReset (f : Nat) : List Byte :=
  if f == 0 then le 1 0xFF ++ le 1 1 ++ zeros 14 ++ le 4 0x3F800000 ++ zeros 44 else zeros 64

/-- The record of a frame at this instant: every write whose instant has come is in effect (R325). -/
def State.frame (s : State) (f : Nat) : List Byte :=
  match (s.fus.frameWrites.filter fun w => w.2.1 == f && w.1 ≤ s.time).getLast? with
  | some w => w.2.2
  | none => (aget s.fus.frames f).getD (frameReset f)

/-- Frame writes whose instant has come enter the table. -/
def applyFrames (s : State) : State :=
  (s.fus.frameWrites.filter fun w => w.1 ≤ s.time).foldl
    (fun s w => modFus (fun x => { x with frames := aset x.frames w.2.1 w.2.2 }) s)
    (modFus (fun x => { x with frameWrites := x.frameWrites.filter fun w => s.time < w.1 }) s)

/-- A rotation as a quaternion w, x, y, z. -/
structure Quat where
  w : Rat := 1
  x : Rat := 0
  y : Rat := 0
  z : Rat := 0
deriving DecidableEq, Repr, Inhabited

/-- Sum in binary64 (R324). -/
def add64 (a b : Rat) : Rat := r64 (a + b)
/-- Difference in binary64. -/
def sub64 (a b : Rat) : Rat := r64 (a - b)
/-- Product in binary64. -/
def mul64 (a b : Rat) : Rat := r64 (a * b)

/-- Product of rotations in binary64: the right one acts first. -/
def Quat.mul (a b : Quat) : Quat :=
  { w := sub64 (sub64 (sub64 (mul64 a.w b.w) (mul64 a.x b.x)) (mul64 a.y b.y)) (mul64 a.z b.z)
    x := sub64 (add64 (add64 (mul64 a.w b.x) (mul64 a.x b.w)) (mul64 a.y b.z)) (mul64 a.z b.y)
    y := add64 (add64 (sub64 (mul64 a.w b.y) (mul64 a.x b.z)) (mul64 a.y b.w)) (mul64 a.z b.x)
    z := add64 (sub64 (add64 (mul64 a.w b.z) (mul64 a.x b.y)) (mul64 a.y b.x)) (mul64 a.z b.w) }

/-- A sum of three products in binary64. -/
def dot64 (a b c : Rat) (v : Rat × Rat × Rat) : Rat := add64 (add64 (mul64 a v.1) (mul64 b v.2.1)) (mul64 c v.2.2)

/-- A rotation applied to a vector in binary64, through its matrix (log entry 273). -/
def Quat.turn (q : Quat) (v : Rat × Rat × Rat) : Rat × Rat × Rat :=
  let twice := fun (f : Rat → Rat → Rat) (a b c d : Rat) => mul64 2 (f (mul64 a b) (mul64 c d))
  let diag := fun (a b : Rat) => sub64 1 (twice add64 a a b b)
  ( dot64 (diag q.y q.z) (twice sub64 q.x q.y q.w q.z) (twice add64 q.x q.z q.w q.y) v,
    dot64 (twice add64 q.x q.y q.w q.z) (diag q.x q.z) (twice sub64 q.y q.z q.w q.x) v,
    dot64 (twice sub64 q.x q.z q.w q.y) (twice add64 q.y q.z q.w q.x) (diag q.x q.y) v )

/-- Sum of vectors in binary64. -/
def vAdd (a b : Rat × Rat × Rat) : Rat × Rat × Rat := (add64 a.1 b.1, add64 a.2.1 b.2.1, add64 a.2.2 b.2.2)

/-- The length of a vector in binary64. -/
def norm64 (v : Rat × Rat × Rat) : Rat := f64d (sqrt64 (add64 (add64 (mul64 v.1 v.1) (mul64 v.2.1 v.2.1)) (mul64 v.2.2 v.2.2)))

/-- A vector of a length along an axis. -/
def axisVec (axis : Nat) (d : Rat) : Rat × Rat × Rat := if axis == 0 then (d, 0, 0) else if axis == 1 then (0, d, 0) else (0, 0, d)

/-- The rotation by an angle in degrees about an axis. -/
def axisTurn (axis : Nat) (a : Rat) : Quat :=
  let v := axisVec axis (r64 (sinDeg (a / 2)))
  { w := r64 (cosDeg (a / 2)), x := v.1, y := v.2.1, z := v.2.2 }

/-- A place: rotation, translation, the squares of its uncertainties in ° and m, and whether every joint is usable. -/
structure Place where
  rot : Quat := {}
  tr : Rat × Rat × Rat := (0, 0, 0)
  sr2 : Rat := 0
  st2 : Rat := 0
  ok : Bool := true
deriving DecidableEq, Repr, Inhabited

/-- A frame's place in its parent (R322). -/
def localPlace (f : Nat) (s : State) : Place :=
  let b := s.frame f
  let q : Quat := { w := f32d (bits32 b 16), x := f32d (bits32 b 20), y := f32d (bits32 b 24), z := f32d (bits32 b 28) }
  let t := (f32d (bits32 b 32), f32d (bits32 b 36), f32d (bits32 b 40))
  let sr := f32d (bits32 b 44)
  let st := f32d (bits32 b 48)
  let kind := u8 b 1
  let rec_ := s.view (u32 b 4)
  let x := (valueQ rec_.ty rec_.value).getD 0
  let j := add64 (mul64 (f32d (bits32 b 8)) x) (f32d (bits32 b 12))
  let sr2 := mul64 sr sr
  let st2 := mul64 st st
  let ok := kind != 0 && (kind == 1 || rec_.fresh)
  if kind == 2 then { rot := q, tr := vAdd t (q.turn (axisVec (u8 b 2) j)), sr2 := sr2, st2 := st2, ok := ok }
  else if kind == 3 then { rot := q.mul (axisTurn (u8 b 2) j), tr := t, sr2 := sr2, st2 := st2, ok := ok }
  else { rot := q, tr := t, sr2 := sr2, st2 := st2, ok := ok }

/-- The parents' part of a composition, at most `n` frames up (R324). -/
def composeUp : Nat → Nat → Place → State → Place
  | 0, _, x, _ => x
  | n + 1, f, x, s =>
    let p := u8 (s.frame f) 0
    if p == 0xFF then x else
    let l := localPlace p s
    let arm := mul64 (norm64 x.tr) (mul64 (f32d (bits32 (s.frame p) 44)) (r64 radPerDeg))
    composeUp n p
      { rot := l.rot.mul x.rot, tr := vAdd (l.rot.turn x.tr) l.tr, sr2 := add64 x.sr2 l.sr2
        st2 := add64 (add64 x.st2 l.st2) (mul64 arm arm), ok := x.ok && l.ok } s

/-- A frame's place in frame 0 (R324, R325: at most eight frames below frame 0). -/
def compose (f : Nat) (s : State) : Place := composeUp 9 f (localPlace f s) s

/-- The vehicle's rotation in the map frame (R340; the order of the turns is log entry 89). -/
def poseQuat (e : PoseEst) : Quat := ((axisTurn 2 e.theta).mul (axisTurn 1 (-e.pitch))).mul (axisTurn 0 e.roll)

/-- A frame's place in the map frame: the vehicle pose applied to its place in frame 0 (R324). -/
def placeInMap (f : Nat) (e : PoseEst) (o : Rat × Rat × Rat) (s : State) : Place :=
  let x := compose f s
  { x with rot := (poseQuat e).mul x.rot, tr := vAdd ((poseQuat e).turn x.tr) o }

/-- The table as every accepted write will leave it. -/
def State.frameToCome (s : State) (f : Nat) : List Byte :=
  ((s.fus.frameWrites.filter fun w => w.2.1 == f).getLast?.map (·.2.2)).getD ((aget s.fus.frames f).getD (frameReset f))

/-- Whether the chain of a frame reaches frame 0 within `n` steps through frames that are used (R325). -/
def chainOk (look : Nat → List Byte) : Nat → Nat → Bool
  | 0, f => f == 0
  | n + 1, f => f == 0 || (u8 (look f) 1 != 0 && u8 (look f) 0 != 0xFF && chainOk look n (u8 (look f) 0))

/-- Whether a table is refused with one frame replaced (R325). -/
def tableBad (f : Nat) (b : List Byte) (s : State) : Bool :=
  let look := fun g => if g == f then b else s.frameToCome g
  u8 (look 0) 0 != 0xFF || (List.range 256).any fun g => u8 (look g) 1 != 0 && !chainOk look 8 g

/-! ## Contradicting sensors (R327, R329) -/

/-- The median of numbers; of an even count, the mean of the middle two. -/
def medianR (l : List Rat) : Rat :=
  let x := sortBy (fun a b => decide (a ≤ b)) l
  let n := x.length
  if n % 2 == 1 then x.getD (n / 2) 0 else (x.getD (n / 2 - 1) 0 + x.getD (n / 2) 0) / 2

/-- The per-axis median of members. -/
def medians (l : List (List Rat)) (axes : Nat) : List Rat := (List.range axes).map fun i => medianR (l.map fun v => v.getD i 0)

/-- What a vote gives: the members, the time since which two disagree, values, quality, and whether one member stands alone. -/
structure Vote where
  ms : List FusMember
  disagree : Option Nat
  vals : List Rat
  q : Quality
  alone : Bool := false
deriving DecidableEq, Repr, Inhabited

/-- The vote of R327 at one instant. `agree a b m` is the agreement test with the median `m`, `dist` orders distances from the
witness, `obs` holds for each member whether it is usable and its values, `last` the last values. -/
def vote (agree : List Rat → List Rat → List Rat → Bool) (dist : List Rat → List Rat → Rat) (axes persist rejoin now : Nat)
    (witness : Option (List Rat)) (last : List Rat) (disagree : Option Nat) (ms : List FusMember) (obs : List (Bool × List Rat)) : Vote :=
  let rows := (ms.zip obs).zipIdx
  let rows := rows.map fun (r, i) =>
    let m := r.1
    let m : FusMember := if !r.2.1 then { st := 2 } else if m.st == 2 then {} else m
    (m, r.2.2, i)
  let inUse := fun (r : FusMember × List Rat × Nat) => r.1.st == 0 || r.1.st == 3
  let med := medians ((rows.filter inUse).map (·.2.1)) axes
  -- a voted-out member rejoins after agreeing throughout `rejoin`
  let rows := rows.map fun (m, v, i) =>
    if m.st == 1 && (rows.any inUse) then
      let a := sinceIf (agree v med med) now m.agree
      if heldFor a now rejoin then (({} : FusMember), v, i) else ({ m with agree := a }, v, i)
    else (m, v, i)
  let used := rows.filter inUse
  if 3 ≤ used.length then
    let med := medians (used.map (·.2.1)) axes
    let rows := rows.map fun (m, v, i) =>
      if m.st == 0 || m.st == 3 then
        let d := sinceIf (!agree v med med) now m.depart
        if heldFor d now persist then (({ st := 1 } : FusMember), v, i) else (({ st := 0, depart := d } : FusMember), v, i)
      else (m, v, i)
    let left := (rows.filter inUse).map (·.2.1)
    { ms := rows.map (·.1), disagree := none, vals := if left.isEmpty then med else medians left axes, q := .valid }
  else match used with
  | [a, b] =>
    let mean := medians [a.2.1, b.2.1] axes
    let set := fun (st : Nat) => rows.map fun (m, _, i) => if i == a.2.2 || i == b.2.2 then { m with st := st, depart := none } else m
    if agree a.2.1 b.2.1 mean then { ms := set 0, disagree := none, vals := mean, q := .valid }
    else
      match witness with
      | some w =>
        let d := disagree.getD now
        if d + persist ≤ now then
          let bFar := decide (dist a.2.1 w ≤ dist b.2.1 w)
          let far := if bFar then b.2.2 else a.2.2
          let near := if bFar then a.2.1 else b.2.1
          { ms := rows.map fun (m, _, i) => if i == far then { st := 1 } else if inUse (m, [], i) then { st := 0 } else m
            disagree := none, vals := near, q := .valid }
        else { ms := set 0, disagree := some d, vals := mean, q := .valid }
      | none => { ms := set 3, disagree := some (disagree.getD now), vals := last, q := .disputed }
  | [a] => { ms := rows.map fun (m, _, i) => if i == a.2.2 then { st := 0 } else m, disagree := none, vals := a.2.1, q := .valid, alone := true }
  | _ => { ms := rows.map (·.1), disagree := none, vals := last, q := .masked }

/-- The agreement test of the inertial sensors: every axis within its tolerance (R327). -/
def imuAgree (g a : Rat) (x y _m : List Rat) : Bool :=
  (List.range 6).all fun i => decide (absR (x.getD i 0 - y.getD i 0) ≤ if i < 3 then g else a)

/-- Distance from the witness over all axes, each in its tolerance (log entry 90). -/
def imuDist (g a : Rat) (x w : List Rat) : Rat :=
  ((List.range 6).map fun i => absR (x.getD i 0 - w.getD i 0) / (if i < 3 then g else a)).foldl (· + ·) 0

/-- The six values of an inertial sample. -/
def sampleVals (m : ImuSample) : List Rat := (List.range 3).map (m.gyro.getD · 0) ++ (List.range 3).map (m.acc.getD · 0)

/-- The agreement test of a group (R329). -/
def groupAgree (abs_ rel : Rat) (x y m : List Rat) : Bool :=
  decide (absR (x.getD 0 0 - y.getD 0 0) ≤ maxR abs_ (rel * absR (m.getD 0 0)))

/-- Distance of one value from the witness. -/
def groupDist (x w : List Rat) : Rat := absR (x.getD 0 0 - w.getD 0 0)

/-- Events for the members whose state changed. -/
def memberEvents (target : Nat) (imu : Bool) (old new : List FusMember) (s : State) : State :=
  ((old.zip new).zipIdx).foldl (fun s (p, i) =>
    if p.1.st == p.2.st then s
    else fusEvent target (if imu then 1 else match p.2.st with | 1 => 2 | 2 => 4 | 3 => 5 | _ => 3) (some i) p.2.st s) s

/-- The inertial vote at an instant. -/
def imuVote (m : FusInstant) (s : State) : Vote × State :=
  let c := s.fus.cfg
  let g := f32d c.gyroTol
  let a := f32d c.accTol
  let wit := if s.fus.mode == .aided then some (sampleVals m.witness) else none
  let v := vote (imuAgree g a) (imuDist g a) 6 (c.persist * ms) (c.rejoin * sec) s.time wit s.fus.imuLast s.fus.imuDisagree s.fus.imu
    ((List.range 3).map fun i => let x := m.imus.getD i {}; (x.ok, sampleVals x))
  let old := s.fus.imu
  let s := modFus (fun x => { x with imu := v.ms, imuDisagree := v.disagree, imuLast := v.vals }) s
  (v, memberEvents (unit 0x0D 0) true old v.ms s)

/-- The number of a record as a member of a group; none where it is unusable (R92). -/
def memberVal (r : Rec) : Option Rat := if r.fresh && numOk r.ty r.value then valueQ r.ty r.value else none

/-- One sensor group at an instant (R329): voted or masked, and published where a member has been updated. -/
def groupStep (g : Nat) (s : State) : State :=
  let x := s.fus.groups.getD g {}
  let c := x.cfg
  let now := s.time
  let recs := (c.members.take c.count).map fun h => s.view h
  let seqs := recs.map (·.seq)
  let newest := ((recs.zip x.seqs).filter fun p => p.1.seq != p.2).foldl (fun m p => max m p.1.stamp) 0
  let updated := (recs.zip x.seqs).any fun p => p.1.seq != p.2
  -- an update of the filter that arrives too late is discarded and counted (R331)
  let s := if updated && c.treatment != 0 && s.fus.cfg.lagMax * ms < now - newest then modFus (fun x => { x with late := x.late + 1, lateFlag := true }) s else s
  let put := fun (f : FusGroup → FusGroup) (s : State) => modFus (fun y => { y with groups := updAt y.groups g f }) s
  let target := unit 0x0D (0x200 + g)
  if c.treatment == 1 then
    let vals := recs.map memberVal
    let wit := if c.witness == 0 then none else memberVal (s.view c.witness)
    let v := vote (groupAgree (f32d c.tolAbs) (f32d c.tolRel)) groupDist 1 (c.persist * ms) (c.rejoin * sec) now (wit.map fun w => [w])
      [x.last] x.disagree (x.ms.take c.count) (vals.map fun o => (o.isSome, [o.getD 0]))
    let s := put (fun y => { y with ms := v.ms ++ y.ms.drop c.count, disagree := v.disagree, last := v.vals.getD 0 0
                                    seqs := seqs ++ y.seqs.drop c.count }) s
    let s := memberEvents target false (x.ms.take c.count) v.ms s
    let live := (recs.zip v.ms).filter fun p => p.2.st == 0
    let conf := deriveConf (live.map (·.1.confidence))
    let q := if v.q == .valid then deriveQuality (live.map (·.1.quality)) else v.q
    if updated then pubVal (480 + g) 3 (q32v (v.vals.getD 0 0)) q (if v.alone then conf / 2 else conf) newest s else s
  else if c.treatment == 2 then
    match recs with
    | r :: _ =>
      let m := x.ms.getD 0 {}
      let val := (valueQ r.ty r.value).getD x.last
      let rate := match x.prev with
        | some (t, p) => if t < r.stamp then absR (val - p) * 1000000000 / ((r.stamp - t : Nat) : Rat) else 0
        | none => 0
      let bad := !r.fresh || !numOk r.ty r.value || decide (val < f32d c.vMin) || decide (f32d c.vMax < val)
        || (decide (0 < f32d c.rateMax) && decide (f32d c.rateMax < rate) && updated)
      let clear := sinceIf (!bad) now m.agree
      let st := if bad then 2 else if m.st == 2 && !heldFor clear now sec then 2 else 0
      let new : FusMember := { st := st, agree := clear }
      let s := put (fun y => { y with ms := y.ms.set 0 new, seqs := seqs ++ y.seqs.drop 1, last := val
                                      prev := if updated && r.fresh then some (r.stamp, val) else y.prev }) s
      let s := memberEvents target false [m] [new] s
      if updated then pubVal (480 + g) 3 (q32v val) (if st == 2 then .masked else r.quality) r.confidence newest s else s
    | [] => s
  else s

/-! ## Ego-motion and pose mode (R328 to R332) -/

/-- The handle of a GNSS signal of the module that fusion listens to (R321). -/
def gnssHandle (s : State) (loc : Nat) : Nat := s.handle 0 / 65536 * 65536 + s.fus.cfg.gnssModule * 8192 + loc

/-- A record of the GNSS solution. -/
def gnssRec (s : State) (loc : Nat) : Rec := s.view (gnssHandle s loc)

/-- Whether a GNSS update is usable (R332). -/
def gnssUpdateOk (s : State) : Bool :=
  ((List.range 7).all fun i => let q := (gnssRec s (384 + i)).quality; q == .valid || q == .substituted)
    && (gnssRec s 402).value.toNat / 32 % 4 != 2

/-- Whether a usable GNSS update was no older than `gnss_gap` at an instant. -/
def gnssRecentAt (t : Nat) (s : State) : Bool := s.fus.gnssLast.any fun l => decide (t ≤ l + s.fus.cfg.gap * ms)

/-- A GNSS update that has arrived since the last instant (R331): discarded where it is too old, else the last one. -/
def takeGnss (s : State) : State :=
  let r := gnssRec s 385
  if r.quality == .noValue || s.fus.gnssSeen == some r.stamp then s else
  let s := modFus (fun x => { x with gnssSeen := some r.stamp }) s
  if s.fus.cfg.lagMax * ms < s.time - r.stamp then modFus (fun x => { x with late := x.late + 1, lateFlag := true }) s
  else if gnssUpdateOk s then
    let since := if gnssRecentAt r.stamp s then s.fus.courseSince else none
    let e := (valueQ 3 (gnssRec s 388).value).getD 0
    let n := (valueQ 3 (gnssRec s 389).value).getD 0
    modFus (fun x => { x with gnssLast := some r.stamp, courseSince := sinceIf (decide (1 ≤ e * e + n * n)) r.stamp since }) s
  else modFus (fun x => { x with courseSince := none }) s

/-- Whether a usable GNSS update is no older than `gnss_gap`. -/
def gnssRecent (s : State) : Bool := gnssRecentAt s.time s

/-- Whether the heading is known for AIDED (R332): from GA1 and GA2, or from 5 s of course. -/
def headingKnown (s : State) : Bool :=
  (gnssRec s 393).quality == .valid || heldFor s.fus.courseSince s.time (5 * sec)

/-- The code of a pose mode. -/
def PoseMode.code : PoseMode → Nat
  | .none => 0 | .aligning => 1 | .aided => 2 | .deadReckoning => 3

/-- The pose mode changes. -/
def poseEnter (m : PoseMode) (s : State) : State :=
  if s.fus.mode == m then s else
  fusEvent (unit 0x0D 0) 0 none m.code
    (modFus (fun x => { x with mode := m, drSince := if m == .deadReckoning then some s.time else none
                               pose := if m == .aided || m == .deadReckoning then x.pose else none }) s)

/-- The pose mode at an instant (R332). -/
def poseStep (levelled : Bool) (s : State) : State :=
  let f := s.fus
  if f.egoQ == .disputed || f.egoQ == .masked || f.egoQ == .noValue then poseEnter .none s else
  match f.mode with
  | .none => poseEnter .aligning s
  | .aligning => if levelled && headingKnown s && gnssRecent s then poseEnter .aided s else s
  | .aided => if gnssRecent s then s else poseEnter .deadReckoning s
  | .deadReckoning =>
    if gnssRecent s then poseEnter .aided s
    else if heldFor f.drSince s.time (f.cfg.drLimit * sec) then poseEnter .none s else s

/-- The inner product of three numbers of two lists. -/
def dot3 (a b : List Rat) : Rat := a.getD 0 0 * b.getD 0 0 + a.getD 1 0 * b.getD 1 0 + a.getD 2 0 * b.getD 2 0

/-- Confidence under R330 where a source is left out. -/
def maskedConf (conf : Nat) (s : State) : Nat :=
  if s.fus.leftOut then (((conf : Nat) : Rat) * f32d s.fus.cfg.maskFactor).floor.toNat else conf

/-- Quality under R330: at least SUBSTITUTED where a source is left out. -/
def maskedQ (q : Quality) (s : State) : Quality := if s.fus.leftOut then deriveQuality [q, .substituted] else q

/-- Ego-motion at an instant (R328, R330). -/
def egoStep (m : FusInstant) (v : Vote) (s : State) : State :=
  let t := s.time
  let base := (Config.hwConfidence 463).toNat
  let conf := if v.alone then base / 2 else base
  let w := dot3 v.vals m.up * radPerDeg
  let iu := compose 1 s
  let acc := iu.rot.turn (v.vals.getD 3 0, v.vals.getD 4 0, v.vals.getD 5 0)
  let g := s.fus.cfg.speedGroup
  let r := s.sig1 (480 + g)
  let useGroup := g != 0 && r.fresh
  let s := modFus (fun x => { x with leftOut := g != 0 && r.quality == .masked
                                     slip := if x.mode == .aided then m.slip else x.slip }) s
  let speed := if useGroup then ((valueQ 3 r.value).getD 0) * (1 - s.fus.slip) else m.vInertial
  -- a joint of frame 1 that cannot be used masks what follows from it (R324)
  let iq := if iu.ok then v.q else deriveQuality [v.q, .masked]
  let vq := if useGroup then r.quality else deriveQuality [iq, .substituted]
  let vc := if useGroup then r.confidence else conf
  let pub := fun (loc : Nat) (x : Rat) (q : Quality) (c : Nat) (s : State) =>
    publish loc { value := q32v x, quality := q, confidence := c, ty := 3, stamp := t } 3000 s
  let s := modFus (fun x => { x with egoQ := deriveQuality [v.q, vq], egoConf := if v.q.zeroConf || vq.zeroConf then 0 else min conf vc }) s
  let s := pub 463 w v.q conf s
  let s := pub 464 speed (maskedQ vq s) (maskedConf vc s) s
  let s := pub 465 (acc.1 - m.gravity.1) iq conf s
  let s := pub 466 (acc.2.1 - m.gravity.2) iq conf s
  pubHw 478 0 (BitVec.ofNat 64 ((s.fus.imu.getD 0 {}).st + 4 * (s.fus.imu.getD 1 {}).st + 16 * (s.fus.imu.getD 2 {}).st)) .valid t 3000 s

/-- Locals 448-511 read NO_VALUE on a module without fusion (R320). -/
def clearFusSignals (s : State) : State := clearLocals 448 64 s

/-- Configurations whose instant has come apply: the engine's (R320) and the groups' (R329). -/
def applyFusCfg (s : State) : State :=
  let s := match s.fus.next with
    | some (at_, c) =>
      if at_ ≤ s.time then
        let s := modFus (fun x => { x with cfg := c, next := none }) s
        if fusOn s then s else clearFusSignals (poseEnter .none (modFus (fun x => { x with egoQ := .noValue }) s))
      else s
    | none => s
  -- a group that is off publishes nothing: its output reads NO_VALUE
  let s := s.fus.groups.zipIdx.foldl (fun s e => match e.1.next with
    | some (at_, c) => if at_ ≤ s.time && c.treatment == 0 then clearLocals (480 + e.2) 1 s else s
    | none => s) s
  modFus (fun x => { x with groups := x.groups.map fun g => match g.next with
    | some (at_, c) => if at_ ≤ s.time then { cfg := c } else g
    | none => g }) s

/-- FUSION_INSTANT (R327 to R332): one 1 ms instant of the grid. -/
def doFusionInstant (m : FusInstant) (s : State) : State :=
  if !onGrid ms s then s else
  let s := applyFrames (applyFusCfg s)
  if !fusOn s then s else
  let (v, s) := imuVote m s
  let s := (List.range 16).foldl (fun s g => if g == 0 then s else groupStep g s) s
  let s := egoStep m v s
  let s := takeGnss s
  poseStep m.levelled s

/-! ## Tracks (R335 to R337) -/

/-- Position of a track predicted to an instant: constant velocity. -/
def trackAt (k : Track) (t : Nat) : Rat × Rat :=
  let d : Rat := (((t : Int) - (k.stamp : Int) : Int) : Rat) / 1000000000
  (k.e + k.ve * d, k.n + k.vn * d)

/-- Time from a track's last hit, s. -/
def trackAge (k : Track) (t : Nat) : Rat := (((t : Int) - (k.stamp : Int) : Int) : Rat) / 1000000000

/-- The process noise of a class (R336). -/
def trackNoise (cls : Nat) : Rat := if cls == 1 then 1 / 2 else 3 / 2

/-- The covariance of a track predicted to an instant. -/
def covAt (k : Track) (t : Nat) : List Rat := Config.trackPredict k.cov (trackAge k t) (trackNoise k.cls)

/-- Square distance of a detection from a track (R336). -/
def trackDist2 (k : Track) (d : Detection) (e n : Rat) (t : Nat) : Rat :=
  let p := trackAt k t
  Config.trackDist (covAt k t) d.sx d.sy (e - p.1) (n - p.2)

/-- A detection updates a track (R336). -/
def hitTrack (k : Track) (src : Nat) (d : Detection) (e n : Rat) (t : Nat) : Track :=
  let p := trackAt k t
  let u := Config.trackUpdate (covAt k t) [d.sx, d.sy, e - p.1, n - p.2, (b2n d.velValid : Rat), d.vx, d.vy]
  { k with e := p.1 + u.getD 0 0, n := p.2 + u.getD 1 0, ve := k.ve + u.getD 2 0, vn := k.vn + u.getD 3 0, cov := u.drop 4
           stamp := t, cls := if d.cls == 0 then k.cls else d.cls, member := if d.member == 0xFF then k.member else d.member, conf := d.conf, hits := min 65535 (k.hits + 1)
           sources := if bitOf k.sources src then k.sources else k.sources + 2 ^ src
           st := if k.st == .coasting then .confirmed else k.st }

/-- A track opened by a detection (R337). -/
def newTrack (uid src : Nat) (kind2 : Bool) (d : Detection) (e n : Rat) (t : Nat) : Track :=
  { st := .tentative, cls := d.cls, member := d.member, uid := uid, stamp := t, e := e, n := n
    ve := if d.velValid then d.vx else 0, vn := if d.velValid then d.vy else 0, cov := Config.trackInit d.sx d.sy, conf := d.conf
    sources := 2 ^ src, hits := 1, updates := 0, kept := kind2 && d.cls == 4 }

/-- The entry that a new track takes (R337): the first FREE one, else the TENTATIVE one with the fewest hits, the oldest. -/
def trackSlot (l : List Track) : Option Nat :=
  match l.findIdx? (·.st == .free) with
  | some i => some i
  | none =>
    let c := (l.zipIdx.filter fun e => e.1.st == .tentative && !e.1.kept)
    ((sortBy (fun a b => decide (a.1.hits < b.1.hits || (a.1.hits == b.1.hits && a.1.uid ≤ b.1.uid))) c).head?).map (·.2)

/-- Change one track. -/
def setTrack (i : Nat) (k : Track) (s : State) : State := modFus (fun x => { x with tracks := x.tracks.set i k }) s

/-- A detection is dropped and counted; its event at most once a second (R337). -/
def dropDetection (s : State) : State :=
  let s := modFus (fun x => { x with dropped := x.dropped + 1 }) s
  if s.fus.dropEvent.any (fun t => decide (s.time < t + sec)) then s
  else fusEvent (unit 0x0D 0x400) 7 none 0 (modFus (fun x => { x with dropEvent := some s.time }) s)

/-- A detection that no track takes opens one (R337). -/
def openTrack (src : Nat) (kind2 : Bool) (d : Detection) (e n : Rat) (t : Nat) (used : List Nat) (s : State) : List Nat × State :=
  match trackSlot s.fus.tracks with
  | some i => (i :: used, modFus (fun x => { x with nextUid := (x.nextUid + 1) % 2 ^ 32 })
      (setTrack i (newTrack s.fus.nextUid src kind2 d e n t) s))
  | none => (used, dropDetection s)

/-- One detection of a block, in the map frame (R336). `used` are the tracks that have taken a detection of this source and
stamp. -/
def oneDetection (src : Nat) (kind2 : Bool) (d : Detection) (e n : Rat) (t : Nat) (used : List Nat) (s : State) : List Nat × State :=
  let l := s.fus.tracks.zipIdx
  let pick : Option (Track × Nat) :=
    if kind2 then l.find? fun k => k.1.st != .free && k.1.member == d.member && d.member != 0xFF
    else
      let near := (l.filter fun k => k.1.st != .free && !used.contains k.2).map fun k => (trackDist2 k.1 d e n t, k)
      let near := near.filter fun x => decide (x.1 ≤ f32d s.fus.cfg.gate)
      (near.foldl (fun (b : Option (Rat × Track × Nat)) x => match b with
        | some y => if x.1 < y.1 then some (x.1, x.2.1, x.2.2) else b
        | none => some (x.1, x.2.1, x.2.2)) none).map (·.2)
  match pick with
  | some (k, i) =>
    -- a track takes at most one detection per source and stamp
    if used.contains i then (used, s) else (i :: used, setTrack i (hitTrack k src d e n t) s)
  | none => openTrack src kind2 d e n t used s

/-- TENTATIVE tracks to which a source contributes are confirmed or dropped after its update (R337). -/
def confirmTracks (src : Nat) (used : List Nat) (s : State) : State :=
  let c := s.fus.cfg
  modFus (fun x => { x with tracks := x.tracks.zipIdx.map fun (k, i) =>
    if k.st == .tentative && (used.contains i || bitOf k.sources src) then
      let k := { k with updates := k.updates + 1 }
      if c.mConfirm ≤ k.hits && k.updates ≤ c.nConfirm then { k with st := .confirmed }
      else if c.nConfirm ≤ k.updates then {} else k
    else k }) s

/-- The detections of one block, a source and its configuration when the block was published (R336). -/
def processBlock (b : DetBlock) (s : State) : State :=
  let stamp := b.stamp
  let source := b.source
  let kind2 := b.src.kind == 2
  match (if kind2 then some ({} : Place) else s.fus.pose.map fun p => placeInMap b.src.frame p.2.1 p.2.2 s) with
  | none => s
  | some pl =>
    if !pl.ok || s.fus.origin.isNone then s else
    let taken := match aget s.fus.taken source with
      | some (t, l) => if t == stamp then l else []
      | none => []
    let (used, s) := b.dets.foldl (fun (acc : List Nat × State) d =>
      let q := pl.rot.turn (d.x, d.y, 0)
      let v := pl.rot.turn (d.vx, d.vy, 0)
      let (e, n) := if kind2 then (d.x, d.y) else (q.1 + pl.tr.1, q.2.1 + pl.tr.2.1)
      let d := if kind2 then d else { d with vx := v.1, vy := v.2.1 }
      oneDetection source kind2 d e n stamp acc.1 acc.2) (taken, s)
    confirmTracks source used (modFus (fun x => { x with taken := aset x.taken source (stamp, used) }) s)

/-- The blocks that have come are processed in stamp order, then in ascending source, then in the order of arrival (R336). -/
def processBlocks (s : State) : State :=
  (sortBy (fun a b => decide (a.stamp < b.stamp || (a.stamp == b.stamp && a.source ≤ b.source))) s.fus.blocks).foldl
    (fun s b => processBlock b s) (modFus (fun x => { x with blocks := [] }) s)

/-- DETECTION_BLOCK (R335): a block of a source waits for its turn. -/
def doDetectionBlock (source stamp : Nat) (dets : List Detection) (s : State) : State :=
  let src := s.fus.sources.getD source {}
  if !fusOn s || 8 ≤ source || src.kind == 0 then s else
  modFus (fun x => { x with blocks := x.blocks ++ [{ stamp := stamp, source := source, src := src, dets := dets }] }) s

/-- A track without a hit (R337). -/
def Track.expire (now tDrop : Nat) (k : Track) : Track :=
  let idle := fun (d : Nat) => k.stamp + d ≤ now
  match k.st with
  | .confirmed => if idle (300 * ms) then (if idle (tDrop * ms) then {} else { k with st := .coasting }) else k
  | .tentative | .coasting => if idle (tDrop * ms) then {} else k
  | .free => k

/-- TRACK_TIMEOUT (R337), after the detections that have come. -/
def doTrackTimeout (s : State) : State :=
  let s := processBlocks s
  modFus (fun x => { x with tracks := x.tracks.map (Track.expire s.time x.cfg.tDrop) }) s

/-! ## Publication every 10 ms (R333, R338, R339) -/

/-- Quality and confidence of the pose (R330, R332). -/
def poseQC (s : State) : Quality × Nat :=
  match s.fus.mode with
  | .aided => (maskedQ .valid s, maskedConf s.fus.aidedConf s)
  | .deadReckoning =>
    let gone : Rat := ((s.time - s.fus.drSince.getD s.time : Nat) : Rat) / ((s.fus.cfg.drLimit * sec : Nat) : Rat)
    (maskedQ .substituted s, maskedConf (maxR 0 ((s.fus.aidedConf : Rat) * (1 - gone))).floor.toNat s)
  | _ => (.noValue, 0)

/-- Whether the pose is published. -/
def posePublished (s : State) : Bool := s.fus.mode == .aided || s.fus.mode == .deadReckoning

/-- A record of local 448-511 that is published with a freshness limit of 30 ms. -/
def pubPose (loc ty : Nat) (v : BitVec 64) (q : Quality) (c : Nat) (s : State) : State :=
  publish loc { value := v, quality := q, confidence := c, ty := ty, stamp := s.time } 30000 s

/-- A signed number of millimetres in 32 bits. -/
def mm32 (m : Rat) : Nat := (roundEven (m * 1000) % 2 ^ 32).toNat

/-- The pose and what follows from it (R333). -/
def publishPose (e : PoseEst) (s : State) : State :=
  let s := if s.fus.mode == .aided then
      modFus (fun x => { x with aidedConf := min (gnssRec s 384).confidence x.egoConf }) s else s
  let (q, c) := poseQC s
  let o : Rat × Rat × Rat := match s.fus.origin with
    | some g => toMap g.1 g.2.1 g.2.2 e.lat e.lon e.height
    | none => (0, 0, 0)
  let hasO := s.fus.origin.isSome
  let p := fun (loc : Nat) (ty : Nat) (v : BitVec 64) (s : State) => pubPose loc ty v q c s
  let s := if hasO then p 451 2 (q64v o.2.2) (p 450 2 (q64v o.2.1) (p 449 2 (q64v o.1) s)) else clearLocals 449 3 s
  let s := p 452 2 (q64v e.lat) s
  let s := p 453 2 (q64v e.lon) s
  let s := p 454 3 (q32v e.theta) s
  let s := p 455 3 (q32v e.pitch) s
  let s := p 456 3 (q32v e.roll) s
  let s := p 457 3 (q32v e.speed) s
  let s := p 458 3 (q32v e.ve) s
  let s := p 459 3 (q32v e.vn) s
  let s := p 460 3 (q32v e.vu) s
  let s := p 461 3 (q32v e.hacc) s
  let s := p 462 3 (q32v e.headAcc) s
  let s := (List.range 8).foldl (fun s k =>
    let x := placeInMap (8 + k) e o s
    if !hasO || u8 (s.frame (8 + k)) 1 == 0 then clearLocals (470 + k) 1 s
    else pubPose (470 + k) 0 (BitVec.ofNat 64 (mm32 x.tr.1 + 2 ^ 32 * mm32 x.tr.2.1)) (if x.ok then q else .masked) c s) s
  modFus (fun x => { x with pose := some (s.time, e, o) }) s

/-- Offset of a map position from the spout along frame 0 x and y (R339). -/
def spoutOffset (e : PoseEst) (o : Rat × Rat × Rat) (spout : Place) (p : Rat × Rat) : Rat × Rat :=
  let de := p.1 - o.1
  let dn := p.2 - o.2.1
  let cs := cosDeg e.theta
  let sn := sinDeg e.theta
  (cs * de + sn * dn - spout.tr.1, -sn * de + cs * dn - spout.tr.2.1)

/-- The cart's state changes. -/
def setCart (st track : Nat) (s : State) : State :=
  let old := s.fus.cart
  let s := modFus (fun x => { x with cart := st, cartTrack := track }) s
  if old == st then s else fusEvent (unit 0x0D 0x400) 6 (if track < 128 then some track else none) st s

/-- The cart at a 10 ms instant (R339). -/
def cartStep (s : State) : State :=
  match (if posePublished s then s.fus.pose else none) with
  | none =>
    -- without a pose no offset is given; the cart is lost once its track is
    let lost := match s.fus.tracks[s.fus.cartTrack]? with
      | some k => k.st != .confirmed && k.st != .coasting
      | none => true
    let s := if (s.fus.cart == 1 || s.fus.cart == 2) && lost then setCart 3 0xFF s else s
    pubPose 498 0 (BitVec.ofNat 64 s.fus.cartTrack) .valid (Config.hwConfidence 498).toNat s
  | some (_, e, o) =>
    let sp := compose s.fus.cfg.spout s
    let t := s.time
    let cand := if s.fus.cfg.spout == 0xFF then [] else
      (s.fus.tracks.zipIdx.filter fun k => (k.1.st == .confirmed || k.1.st == .coasting) && k.1.cls == 3).map fun k =>
        (spoutOffset e o sp (trackAt k.1 t), k)
    let best := cand.foldl (fun (b : Option ((Rat × Rat) × Track × Nat)) x => match b with
      | some y => if x.1.1 * x.1.1 + x.1.2 * x.1.2 < y.1.1 * y.1.1 + y.1.2 * y.1.2 then some (x.1, x.2.1, x.2.2) else b
      | none => some (x.1, x.2.1, x.2.2)) none
    -- no better than the pose, and MASKED where a joint of the spout cannot be used (R41, R324)
    let (pq, pc) := poseQC s
    let q := if sp.ok then pq else deriveQuality [pq, .masked]
    let c := min (Config.hwConfidence 499).toNat pc
    match best with
    | some (off, k, i) =>
      let near := decide (absR off.1 ≤ f32d s.fus.cfg.unlX) && decide (absR off.2 ≤ f32d s.fus.cfg.unlY)
      let s := setCart (if near then 2 else 1) i s
      let v := k.ve * cosDeg e.theta + k.vn * sinDeg e.theta - e.speed
      let s := pubPose 498 0 (BitVec.ofNat 64 i) q c s
      let s := pubPose 499 3 (q32v off.1) q c s
      let s := pubPose 500 3 (q32v off.2) q c s
      pubPose 501 3 (q32v v) q c s
    | none =>
      let s := setCart (if s.fus.cart == 0 then 0 else 3) 0xFF s
      clearLocals 499 3 (pubPose 498 0 0xFF pq c s)

/-- The distance ahead of the nearest CONFIRMED person in the path (local 503). -/
def personAhead (s : State) : Rat :=
  match s.fus.pose with
  | none => 65535
  | some (_, e, o) =>
    (s.fus.tracks.filter fun k => k.st == .confirmed && k.cls == 1).foldl (fun m k =>
      let p := spoutOffset e o {} (trackAt k s.time)
      if decide (absR p.2 ≤ f32d s.fus.cfg.pathWidth / 2) && decide (0 ≤ p.1) && decide (p.1 ≤ f32d s.fus.cfg.pathLen) then minR m p.1
      else m) 65535

/-- The code of a track's state. -/
def TrackSt.code : TrackSt → Nat
  | .free => 0 | .tentative => 1 | .confirmed => 2 | .coasting => 3

/-- The 64-byte record of a track at an instant (R338). -/
def trackBytes (i : Nat) (k : Track) (e : Option (PoseEst × (Rat × Rat × Rat))) (t : Nat) : List Byte :=
  let f := fun (q : Rat) => le 4 (qf32 q).toNat
  if k.st == .free then le 1 i ++ zeros 2 ++ le 1 0xFF ++ zeros 60 else
  let p := trackAt k t
  let cov := covAt k t
  let range : F32 := match e with
    | some (_, o) => sqrt32 ((p.1 - o.1) * (p.1 - o.1) + (p.2 - o.2.1) * (p.2 - o.2.1))
    | none => 0
  le 1 i ++ le 1 k.st.code ++ le 1 k.cls ++ le 1 k.member ++ le 4 k.uid ++ le 8 k.stamp ++ f p.1 ++ f p.2 ++ f k.ve ++ f k.vn
    ++ f (cov.getD 0 0) ++ f (cov.getD 1 0) ++ f (headingDeg k.ve k.vn) ++ zeros 8 ++ le 1 k.conf ++ le 1 k.sources ++ le 2 k.hits
    ++ le 4 range.toNat ++ zeros 4

/-- The number of tracks not FREE. -/
def trackCount (s : State) : Nat := (s.fus.tracks.filter fun k => k.st != .free).length

/-- The flags of local 479. -/
def fusFlags (s : State) : Nat :=
  bitsN [s.fus.mode != .aided, s.fus.mode == .deadReckoning, s.fus.lateFlag, trackCount s == 128]

/-- POSE_PUBLISH (R333, R338, R339): one 10 ms instant of the grid. -/
def doPosePublish (e : PoseEst) (s : State) : State :=
  if !onGrid (10 * ms) s || !fusOn s then s else
  let hw := fun (loc : Nat) => (Config.hwConfidence loc).toNat
  let s := processBlocks (if posePublished s then publishPose e s else s)
  let s := pubPose 448 0 (BitVec.ofNat 64 s.fus.mode.code) .valid (hw 448) s
  let s := pubPose 479 0 (BitVec.ofNat 64 (fusFlags s)) .valid (hw 479) s
  let s := modFus (fun x => { x with lateFlag := false }) s
  let s := pubPose 496 0 (BitVec.ofNat 64 (trackCount s)) .valid (hw 496) s
  let recs := s.fus.tracks.zipIdx.flatMap fun k => trackBytes k.2 k.1 (s.fus.pose.map (·.2)) s.time
  let s := pubRing 497 (le 8 s.time ++ le 4 (trackCount s) ++ zeros 52 ++ recs) .valid (hw 497) s.time s
  let s := modFus (fun x => { x with table := recs }) s
  let s := cartStep s
  let s := pubPose 502 0 (BitVec.ofNat 64 s.fus.cart) .valid (hw 502) s
  let (q, c) := poseQC s
  if posePublished s then pubPose 503 3 (q32v (personAhead s)) q (min (hw 503) c) s else s

/-- GA1_PREDICTION (R334): the antenna's position from inertial propagation alone. -/
def doGa1Prediction (lat lon height : Rat) (s : State) : State :=
  if !fusOn s then s else
  let q : Quality := if posePublished s && s.fus.egoQ == .valid then .valid else .masked
  let c := if posePublished s then (poseQC s).2 else 0
  let s := pubVal 467 2 (q64v lat) q c s.time s
  let s := pubVal 468 2 (q64v lon) q c s.time s
  pubVal 469 2 (q64v height) q c s.time s

/-- The map-frame origin changes and every track is converted at that instant (R161, R333). -/
def setOrigin (o : Rat × Rat × Rat) (s : State) : State :=
  let s := processBlocks s
  let old := s.fus.origin
  modFus (fun x => { x with
    origin := some o
    tracks := match old with
      | some p => if p == o then x.tracks else x.tracks.map fun k =>
          let y := mapShift p o k.e k.n
          { k with e := y.1, n := y.2 }
      | none => x.tracks }) s

/-! ## Commands -/

/-- Whether a request names the fusion engine. -/
def fusTarget (r : Req) : Bool := r.p.target.toNat == unit 0x0D 0

/-- The parameters of `FUS_CONFIG`. -/
def fusCfgOf (b : List Byte) : FusCfg :=
  { enable := some (u8 b 0 == 1), gnssModule := u8 b 1, speedGroup := u8 b 2, spout := u8 b 3, gap := u16 b 4, drLimit := u16 b 6
    lagMax := u16 b 8, persist := u16 b 10, gyroTol := bits32 b 12, accTol := bits32 b 16, rejoin := u16 b 20, nConfirm := u8 b 22
    mConfirm := u8 b 23, maskFactor := bits32 b 24, unlX := bits32 b 28, unlY := bits32 b 32, pathWidth := bits32 b 36
    pathLen := bits32 b 40, gate := bits32 b 44, tDrop := u16 b 48 }

/-- Whether a value lies outside a range. -/
def notIn (lo hi v : Nat) : Bool := v < lo || hi < v

/-- What refuses `FUS_CONFIG`, in its order (step 8 of R73). -/
def chkFusConfig (busy : State → Bool) (r : Req) (s : State) : List (Bool × Status) :=
  let b := r.p.payload
  let c := fusCfgOf b
  [ (!fusTarget r, .badParam), (!s.isHost r.port, .notOwner),
    (1 < u8 b 0 || 7 < c.gnssModule || 15 < c.speedGroup || c.spout < 2 || (8 ≤ c.spout && c.spout < 16) || notIn 50 2000 c.gap
      || notIn 1 60 c.drLimit || notIn 10 500 c.lagMax || notIn 10 1000 c.persist || !f32In c.gyroTol (1 / 20) 5
      || !f32In c.accTol (1 / 50) 2 || notIn 1 300 c.rejoin || notIn 2 10 c.nConfirm || notIn 1 c.nConfirm c.mConfirm
      || !f32In c.maskFactor 0 1 || !f32In c.unlX (1 / 10) 5 || !f32In c.unlY (1 / 10) 5 || !f32In c.pathWidth 1 30
      || !f32In c.pathLen 1 100 || !f32In c.gate 4 30 || notIn 100 10000 c.tDrop || reservedSet b [(50, 14)], .badParam),
    (busy s && (c.gnssModule != s.fus.cfg.gnssModule || c.spout != s.fus.cfg.spout), .wrongState) ]

/-- `FUS_CONFIG` (R320, R326). `busy` says whether frames in use are locked. -/
def effFusConfig (busy : State → Bool) (r : Req) (s : State) : Res × State :=
  let b := r.p.payload
  let c := fusCfgOf b
  check s (chkFusConfig busy r s) fun _ =>
    done (modFus (fun x => { x with next := some (nextGrid ms s, c) }) s)

/-- The frame that a request names. -/
def frameTarget (r : Req) : Nat := ((unitIndex r.p.target 0x0D).filter fun i => decide (0x100 ≤ i) && decide (i < 0x200)).getD 0x200 - 0x100

/-- Whether a handle names a signal with a block encoding. -/
def isBlock (h : Nat) (s : State) : Bool := if s.isOwn h then s.typeOf (hLocal h) == 5 else (s.stored h).ty == 5

/-- Whether a frame record is refused with `BAD_PARAM`. -/
def frameBad (f : Nat) (b : List Byte) (s : State) : Bool :=
  let kind := u8 b 1
  let q := fun (i : Nat) => f32d (bits32 b (16 + 4 * i))
  let n2 := q 0 * q 0 + q 1 * q 1 + q 2 * q 2 + q 3 * q 3
  let fixed := f == 0 || f == 1 || (8 ≤ f && f < 16)
  3 < kind || 2 < u8 b 2 || 1 < u8 b 3 || (f != 0 && u8 b 0 == 0xFF) || (kind == 0 && fixed) || (kind == 1 && u32 b 4 != 0)
    || (1 < kind && (!handleOk (u32 b 4) || isBlock (u32 b 4) s))
    || (List.range 11).any (fun i => !f32Ok (bits32 b (8 + 4 * i)))
    || decide (n2 < (1 - 1 / 10000) * (1 - 1 / 10000)) || decide ((1 + 1 / 10000) * (1 + 1 / 10000) < n2) || reservedSet b [(52, 12)]

/-- Whether a write to a frame is locked while guidance steers or Couloir runs (R326). -/
def frameLocked (f : Nat) (s : State) : Bool :=
  f == 0 || f == 1 || (8 ≤ f && f < 16) || s.gns.cfg.frames.contains f || (f == s.fus.cfg.spout && f != 0xFF)

/-- What refuses `FUS_FRAME_SET`, in its order (step 8 of R73). -/
def chkFusFrameSet (busy : State → Bool) (r : Req) (s : State) : List (Bool × Status) :=
  let b := r.p.payload
  let f := frameTarget r
  [ (255 < f, .badParam), (!s.isHost r.port, .notOwner), (!fusOn s || (f != 1 && !s.configures), .wrongState), (frameBad f b s, .badParam),
    (busy s && frameLocked f s, .wrongState), (tableBad f b s, .configRejected) ]

/-- `FUS_FRAME_SET` (R322, R325, R326). -/
def effFusFrameSet (busy : State → Bool) (r : Req) (s : State) : Res × State :=
  let b := r.p.payload
  let f := frameTarget r
  check s (chkFusFrameSet busy r s) fun _ =>
    done (modFus (fun x => { x with frameWrites := x.frameWrites ++ [(nextGrid ms s, f, b)] }) s)

/-- Four binary32 of a quaternion. -/
def quatBytes (q : Quat) : List Byte := [q.w, q.x, q.y, q.z].flatMap fun x => le 4 (qf32 x).toNat

/-- What refuses `FUS_FRAME_READ`, in its order (step 8 of R73). -/
def chkFusFrameRead (r : Req) (s : State) : List (Bool × Status) :=
  let b := r.p.payload
  let f := frameTarget r
  let dst := u8 b 0
  [ (255 < f, .badParam), (!fusOn s, .wrongState), (1 < dst || reservedSet b [(1, 3)], .badParam),
    (dst == 1 && (!posePublished s || s.fus.origin.isNone || s.fus.pose.isNone), .wrongState) ]

/-- `FUS_FRAME_READ` (R324). -/
def effFusFrameRead (r : Req) (s : State) : Res × State :=
  let b := r.p.payload
  let f := frameTarget r
  let dst := u8 b 0
  check s (chkFusFrameRead r s) fun _ =>
    let (x, stamp) := match dst, s.fus.pose with
      | 1, some (t, e, o) => (placeInMap f e o s, t)
      | _, _ => (compose f s, 0)
    answer (s.frame f ++ quatBytes x.rot ++ [x.tr.1, x.tr.2.1, x.tr.2.2].flatMap (fun v => le 8 (qf64 v).toNat)
      ++ le 4 (qf32 (f64d (sqrt64 x.sr2))).toNat ++ le 4 (qf32 (f64d (sqrt64 x.st2))).toNat ++ le 8 stamp) s

/-- The parameters of `FUS_GROUP_SET`. -/
def groupCfgOf (b : List Byte) : GroupCfg :=
  { treatment := u8 b 0, count := u8 b 1, persist := u16 b 2, rejoin := u16 b 4, members := (List.range 4).map fun i => u32 b (8 + 4 * i)
    witness := u32 b 24, tolAbs := bits32 b 28, tolRel := bits32 b 32, vMin := bits32 b 36, vMax := bits32 b 40, rateMax := bits32 b 44 }

/-- What refuses `FUS_GROUP_SET`, in its order (step 8 of R73). -/
def chkFusGroupSet (steering : State → Bool) (r : Req) (s : State) : List (Bool × Status) :=
  let b := r.p.payload
  let g := ((unitIndex r.p.target 0x0D).filter fun i => decide (0x201 ≤ i) && decide (i < 0x210)).getD 0x210 - 0x200
  let c := groupCfgOf b
  let neg := fun (x : F32) => !f32Ok x || decide (f32d x < 0)
  [ (15 < g, .badParam), (!s.isHost r.port, .notOwner), (!fusOn s, .wrongState),
    (2 < c.treatment || (c.treatment == 1 && notIn 2 4 c.count) || (c.treatment == 2 && c.count != 1) || 4 < c.count
      || notIn 10 60000 c.persist || notIn 1 600 c.rejoin || reservedSet b [(6, 2)] || neg c.tolAbs || !f32In c.tolRel 0 1
      || neg c.rateMax || !f32Ok c.vMin || !f32Ok c.vMax || (c.treatment == 2 && !f32Lt c.vMin c.vMax) || !handleOk c.witness
      || (c.treatment != 0 && (c.members.take c.count).any fun h => !handleOk h || isBlock h s), .badParam),
    (steering s && g == s.fus.cfg.speedGroup, .wrongState) ]

/-- `FUS_GROUP_SET` (R329). `steering` says whether guidance is ENGAGED, COASTING or RELEASING. -/
def effFusGroupSet (steering : State → Bool) (r : Req) (s : State) : Res × State :=
  let b := r.p.payload
  let g := ((unitIndex r.p.target 0x0D).filter fun i => decide (0x201 ≤ i) && decide (i < 0x210)).getD 0x210 - 0x200
  let c := groupCfgOf b
  check s (chkFusGroupSet steering r s) fun _ =>
    done (modFus (fun x => { x with groups := updAt x.groups g fun y => { y with next := some (nextGrid ms s, c) } }) s)

/-- What refuses `FUS_SOURCE_SET`, in its order (step 8 of R73). -/
def chkFusSourceSet (r : Req) (s : State) : List (Bool × Status) :=
  let b := r.p.payload
  let k := ((unitIndex r.p.target 0x0D).filter fun i => decide (0x300 ≤ i) && decide (i < 0x308)).getD 0x308 - 0x300
  [ (7 < k, .badParam), (!s.isHost r.port, .notOwner), (!fusOn s, .wrongState),
    (2 < u8 b 4 || !handleOk (u32 b 0) || (u8 b 4 != 0 && s.isOwn (u32 b 0) && !isBlock (u32 b 0) s) || reservedSet b [(6, 2)], .badParam) ]

/-- `FUS_SOURCE_SET` (R335). -/
def effFusSourceSet (r : Req) (s : State) : Res × State :=
  let b := r.p.payload
  let k := ((unitIndex r.p.target 0x0D).filter fun i => decide (0x300 ≤ i) && decide (i < 0x308)).getD 0x308 - 0x300
  check s (chkFusSourceSet r s) fun _ =>
    done (modFus (fun x => { x with sources := x.sources.set k { handle := u32 b 0, kind := u8 b 4, frame := u8 b 5 } }) s)

/-- What refuses `FUS_STATUS`, in its order (step 8 of R73). -/
def chkFusStatus (r : Req) (s : State) : List (Bool × Status) :=
  [(!fusTarget r, .badParam)]

/-- `FUS_STATUS`. -/
def effFusStatus (r : Req) (s : State) : Res × State :=
  let f := s.fus
  let (_, c) := poseQC s
  let imu := (f.imu.getD 0 {}).st + 4 * (f.imu.getD 1 {}).st + 16 * (f.imu.getD 2 {}).st
  let groups := bitsN (f.groups.map fun g => (g.ms.take g.cfg.count).any fun m => m.st != 0)
  let hacc : Rat := (f.pose.map fun p => p.2.1.hacc).getD 0
  check s (chkFusStatus r s) fun _ =>
    answer (le 1 f.mode.code ++ le 1 imu ++ le 2 groups ++ le 2 (fusFlags s) ++ le 2 (trackCount s) ++ le 4 f.late ++ le 4 f.dropped
      ++ le 4 (qf32 hacc).toNat ++ le 4 (qf32 (c : Rat)).toNat ++ le 8 s.time) s

/-- What refuses `FUS_TRACK_READ`, in its order (step 8 of R73). -/
def chkFusTrackRead (r : Req) (s : State) : List (Bool × Status) :=
  let b := r.p.payload
  let first := u8 b 0
  [ (r.p.target.toNat != unit 0x0D 0x400, .badParam), (!fusOn s, .wrongState),
    (127 < first || notIn 1 63 (u8 b 1) || reservedSet b [(2, 2)], .badParam) ]

/-- `FUS_TRACK_READ` (R338). -/
def effFusTrackRead (r : Req) (s : State) : Res × State :=
  let b := r.p.payload
  let first := u8 b 0
  let n := min (u8 b 1) (128 - first)
  check s (chkFusTrackRead r s) fun _ =>
    let tab := if s.fus.table.isEmpty then (List.range 128).flatMap fun i => trackBytes i {} none s.time else s.fus.table
    answer (le 1 n ++ zeros 7 ++ (tab.drop (64 * first)).take (64 * n)) s

end Sys2Proof.Machine
end

