-- ==== Sys2Proof/Machine/Cam.lean ====
section
/-! DEFINITION. Chapter 15: camera links, CSI-2 reception, pipelines and their statistics, settings writes, frame
synchronisation, pairs, the vision accelerator, the register block and the rules of the CAM commands. -/
namespace Sys2Proof.Machine

/-- Change the cameras. -/
def modCam (f : CamState → CamState) (s : State) : State := { s with cam := f s.cam }
/-- A link. -/
def State.link (s : State) (l : Nat) : CamLink := s.cam.links.getD l {}
/-- Change a link. -/
def modLink (l : Nat) (f : CamLink → CamLink) (s : State) : State := modCam (fun c => { c with links := updAt c.links l f }) s
/-- A pipeline. -/
def State.pipe (s : State) (p : Nat) : CamPipe := s.cam.pipes.getD p {}
/-- Change a pipeline. -/
def modPipe (p : Nat) (f : CamPipe → CamPipe) (s : State) : State := modCam (fun c => { c with pipes := updAt c.pipes p f }) s
/-- A pair. -/
def State.pair (s : State) (k : Nat) : CamPair := s.cam.pairs.getD k {}
/-- Change a pair. -/
def modPair (k : Nat) (f : CamPair → CamPair) (s : State) : State := modCam (fun c => { c with pairs := updAt c.pairs k f }) s
/-- A job. -/
def State.job (s : State) (j : Nat) : VaJob := s.cam.jobs.getD j {}
/-- Change a job. -/
def modJob (j : Nat) (f : VaJob → VaJob) (s : State) : State := modCam (fun c => { c with jobs := updAt c.jobs j f }) s

/-- The state codes of R342. -/
def LinkSt.code : LinkSt → Nat | .off => 0 | .training => 1 | .up => 2 | .down => 3 | .excluded => 4
/-- The state codes of R351. -/
def PipeSt.code : PipeSt → Nat | .off => 0 | .waiting => 1 | .running => 2 | .faulted => 3

/-- `CAM_EVENT` of a link or a pipeline. -/
def camEvent (target cause st settings frame : Nat) (owner : Option Nat) (source : Nat) (s : State) : State :=
  event 0x0E80 target (le 1 cause ++ le 1 st ++ le 2 settings ++ le 4 frame ++ le 8 s.time) owner.toList source s

/-- An event of a pipeline, to its owner. -/
def pipeEvent (p cause st settings frame : Nat) (s : State) : State :=
  camEvent (unit 0x0E (0x10 + p)) cause st settings frame (some (s.pipe p).cfg.owner) (0x38 + p) s

/-- No frame concerned. -/
def noFrame : Nat := 0xFFFFFFFF

/-! ## Links (R342, R541) -/

/-- The route and the link that carry a pipeline. -/
def State.routeOfPipe (s : State) (p : Nat) : Option (Nat × CamRoute) :=
  (s.cam.links.zipIdx.findSome? fun l => (l.1.routes.find? fun r => r.pipe == p && l.1.gear != 0).map fun r => (l.2, r))

/-- A pipeline changes its state (R351). -/
def pipeEnter (p : Nat) (st : PipeSt) (s : State) : State :=
  if (s.pipe p).st == st then s else
  pipeEvent p 1 st.code 0 noFrame (modPipe p (fun x => { x with st := st, bad := 0, clean := 0 }) s)

/-- What a pipeline's link makes of it (R342, R351). -/
def pipeFollow (p : Nat) (s : State) : State :=
  let x := s.pipe p
  if !x.cfg.enable then pipeEnter p .off s else
  match s.routeOfPipe p with
  | none => pipeEnter p .off s
  | some (l, _) =>
    match (s.link l).st with
    | .off => pipeEnter p .off s
    | .up => if x.st == .off then pipeEnter p .waiting s else s
    | _ => pipeEnter p .waiting s

/-- Every pipeline follows its link. -/
def pipesFollow (s : State) : State := (List.range 8).foldl (fun s p => pipeFollow p s) s

/-- A link changes its state (R342). -/
def linkEnter (l : Nat) (st : LinkSt) (s : State) : State :=
  if (s.link l).st == st then s else
  pipesFollow (camEvent (unit 0x0E l) 0 st.code 0 noFrame none (hwSource 0x0E80) (modLink l (fun x => { x with st := st }) s))

/-- LINK_STATE_EVAL (R342): every 1 ms. -/
def doLinkEval (l : Nat) (m : LinkMeas) (s : State) : State :=
  if 4 ≤ l || !onGrid ms s then s else
  let x := s.link l
  if x.st == .excluded then s
  else if !m.selfTest || !m.reference then linkEnter l .excluded (regionFault s)
  else if x.gear == 0 then linkEnter l .off s
  else
    let t := s.time
    let s := modLink l (fun x => { x with noLock := sinceIf (!m.lock) t x.noLock }) s
    let dead := heldFor (s.link l).noLock t (10 * ms)
    match x.st with
    | .off => linkEnter l .training (modLink l (fun x => { x with trainedAt := t }) s)
    | .training => if m.lock then linkEnter l .up s else if dead then linkEnter l .down (modLink l (fun x => { x with trainedAt := t }) s) else s
    | .up => if m.lock then s else linkEnter l .training s
    | .down =>
      if x.trainedAt + 100 * ms ≤ t then
        if m.lock then linkEnter l .up s else modLink l (fun x => { x with trainedAt := t }) s
      else s
    | .excluded => s

/-- POC_OVERCURRENT (R541). -/
def doPocTrip (l : Nat) (s : State) : State :=
  let t := s.time
  modLink l (fun x => if x.poc && x.pocTrip.isNone then { x with pocTrip := some t } else x) s

/-- POC_RETRY (R541): 1 s later the supply is switched on again. -/
def doPocRetry (l : Nat) (s : State) : State :=
  modLink l (fun x => if x.pocTrip.any (· + sec ≤ s.time) then { x with pocTrip := none } else x) s

/-! ## The pipeline (R346 to R350) -/

/-- Bits per pixel of a data type (R343). -/
def bppOf (dt : Nat) : Nat :=
  match dt with | 0x2B => 10 | 0x2C => 12 | 0x2D => 14 | 0x2E => 16 | 0x2F => 20 | _ => 0

/-- Bits per pixel of a route's pixel data. -/
def routeBpp (r : CamRoute) : Nat := bppOf r.dt

/-- The CFA position of a pixel: its place in the 2 × 2 quad, in raster order. -/
def cfaPos (row col : Nat) : Nat := 2 * (row % 2) + col % 2

/-- A pixel of lines. -/
def pix (l : List (List Nat)) (r c : Nat) : Option Nat := l[r]?.bind fun x => x[c]?

/-- Step 1: black level (R346). -/
def blackLevel (black : List Nat) (l : List (List Nat)) : List (List Nat) :=
  l.zipIdx.map fun e => e.1.zipIdx.map fun p => p.1 - black.getD (cfaPos e.2 p.2) 0

/-- The median of an odd number of pixels, or of an even number as log entry 101 has it. -/
def medianPix (l : List Nat) : Nat :=
  let x := sortBy (fun a b => decide (a ≤ b)) l
  let n := x.length
  if n == 0 then 0 else if n % 2 == 1 then x.getD (n / 2) 0
  else
    let a := x.getD (n / 2 - 1) 0
    let b := x.getD (n / 2) 0
    if a == b then a else Config.midPixel a b

/-- The same-colour neighbours of a pixel (R346 step 2) that lie within the lines. -/
def neighbours (d : Nat) (l : List (List Nat)) (r c : Nat) : List Nat :=
  [(0, 0), (0, 1), (0, 2), (1, 0), (1, 2), (2, 0), (2, 1), (2, 2)].filterMap fun (i, j) =>
    if r + i * d < d || c + j * d < d then none else pix l (r + i * d - d) (c + j * d - d)

/-- Step 2: defect correction, and how many pixels it replaces (R346). -/
def defectStep (thr cfa : Nat) (l : List (List Nat)) : List (List Nat) × Nat :=
  if thr == 0 then (l, 0) else
  let d := if cfa == 4 then 1 else 2
  let out := l.zipIdx.map fun e => e.1.zipIdx.map fun p =>
    let nb := neighbours d l e.2 p.2
    let m := medianPix nb
    if !nb.isEmpty && (thr < p.1 - m || thr < m - p.1) then (m, true) else (p.1, false)
  (out.map fun r => r.map (·.1), ((out.map fun r => (r.filter (·.2)).length).sum))

/-- Decompanding through eight knees (R347, mode 1): linear between knees, held at the last one. -/
def decompand (pwl : List (Nat × Nat)) (v : Nat) : Nat :=
  match pwl with
  | [] => v
  | (x0, y0) :: rest =>
    if v < x0 then Config.pwlBelow v x0 y0 else go x0 y0 rest v
where
  /-- The segments after the first knee. -/
  go (x0 y0 : Nat) : List (Nat × Nat) → Nat → Nat
    | [], _ => y0
    | (x1, y1) :: rest, v =>
      if v < x1 then (((y0 : Int) + ((y1 : Int) - (y0 : Int)) * ((v : Int) - (x0 : Int)) / ((x1 : Int) - (x0 : Int)))).toNat
      else go x1 y1 rest v

/-- The highest linear value. -/
def linMax : Nat := 2 ^ 20 - 1

/-- Step 3: a merged pixel (R347). -/
def hdrPixel (c : CamCfg) (ratio : F32) (bpp black long short : Nat) : Nat :=
  if c.hdr == 0 then min linMax (long * 2 ^ (20 - bpp))
  else if c.hdr == 1 then min linMax (decompand c.pwl long)
  else
    let full : Rat := ((2 ^ bpp - 1 - black : Nat) : Rat)
    let knee : Rat := (c.knee : Rat)
    let w := clampR (((long : Rat) - knee) / (full - knee)) 0 1
    min linMax ((1 - w) * (long : Rat) + w * (short : Rat) * f32d ratio).floor.toNat

/-- Step 4: white balance (R346). -/
def wbPixel (wb v : Nat) : Nat := min linMax (v * wb / 1024)

/-- Steps 1 to 4 over the lines of a frame, with the count of replaced pixels. -/
def linearImage (c : CamCfg) (q : CamParams) (bpp : Nat) (longs shorts : List (List Nat)) : List (List Nat) × Nat :=
  let (a, n) := defectStep c.defectThr c.cfa (blackLevel q.black longs)
  let (b, m) := defectStep c.defectThr c.cfa (blackLevel q.black shorts)
  let img := a.zipIdx.map fun e => e.1.zipIdx.map fun p =>
    let k := cfaPos e.2 p.2
    wbPixel (q.wb.getD k 1024) (hdrPixel c q.ratio bpp (q.black.getD k 0) p.1 ((pix b e.2 p.2).getD 0))
  (img, n + m)

/-- The histogram bin of a luminance: `floor(12 log2(1 + Y))`, at most 255 (R348). -/
def histBin (y : Nat) : Nat := min 255 ((1 + y) ^ 12).log2

/-- `round(255 log2(1 + Y) / 20)` (R350). -/
def log8 (y : Nat) : Nat := ((1 + y) ^ 510 * 2 ^ 20).log2 / 40

/-- The quads of an image: their luminance, zone and whether a pixel is saturated (R348). -/
def quadsOf (c : CamCfg) (img : List (List Nat)) : List (Nat × Nat × Bool) :=
  let wq := c.width / 2
  let hq := c.height / 2
  (List.range (img.length / 2)).flatMap fun qy => (List.range wq).map fun qx =>
    let v := [pix img (2 * qy) (2 * qx), pix img (2 * qy) (2 * qx + 1), pix img (2 * qy + 1) (2 * qx), pix img (2 * qy + 1) (2 * qx + 1)].map
      (·.getD 0)
    (v.sum / 4, 16 * min 15 (16 * qy / hq) + min 15 (16 * qx / wq), v.any (· == linMax))

/-- Statistics of a frame (R348, R362). -/
def statsOf (c : CamCfg) (f : CamFrame) (flags defects : Nat) (img : List (List Nat)) : CamStats :=
  let qs := quadsOf c img
  { begin_ := f.no, settings := f.settings, flags := flags, start := f.start, defects := defects
    saturated := (qs.filter (·.2.2)).length
    sums := qs.foldl (fun z q => updAt z q.2.1 (· + q.1)) (List.replicate 256 0)
    hist := qs.foldl (fun h q => let i := 256 * q.2.1 + histBin q.1; aset h i ((aget h i).getD 0 + 1)) []
    end_ := f.no }

/-- Bytes of a line of an output format before its padding (R350). -/
def lineBytes (c : CamCfg) : Nat := c.width * (match c.format with | 0 => 3 | 1 => 1 | 2 => 6 | _ => 2)

/-- The stride of a frame buffer (R350). -/
def strideOf (c : CamCfg) : Nat := (lineBytes c + 63) / 64 * 64

/-- The bytes of one output line. Demosaiced and corrected pixels are specified to an accuracy only (R346): free. -/
def outLine (c : CamCfg) (row : List Nat) (s : State) : List Byte × State :=
  if c.format == 3 then (row.flatMap fun v => le 2 (Config.pixel16 v).toNat, s)
  else if c.format == 1 && c.cfa == 4 && !c.ldc then (row.map fun v => BitVec.ofNat 8 (log8 v), s)
  else takeFreeBytes (lineBytes c) s

/-- A frame is written to its buffer, in whole lines (R350). -/
def writeFrame (p : Nat) (base : Nat) (img : List (List Nat)) (s : State) : State :=
  let c := (s.pipe p).cfg
  img.zipIdx.foldl (fun s e =>
    let (b, s) := outLine c e.1 s
    let b := (b ++ zeros 63).take (strideOf c)
    (List.range (strideOf c / 64)).foldl (fun s i =>
      let d := (b.drop (64 * i)).take 64
      storeLine (base + strideOf c * e.2 + 64 * i) (d ++ zeros (64 - d.length)) false s) s) s

/-- The flags of a frame (R350); SHORT belongs to a frame end (R345). -/
def frameFlags (c : CamCfg) (f : CamFrame) : Nat :=
  bitsN [f.truncated, !f.truncated && decide (f.lines.length < c.height), f.lineError, f.uncertain, f.paired]

/-- The buffer of a frame. -/
def bufferOf (c : CamCfg) (no : Nat) : Nat := c.bufBase + no % c.buffers * (strideOf c * c.height)

/-- The descriptor of a frame (R350). -/
def descriptor (p : Nat) (c : CamCfg) (f : CamFrame) (endAt : Nat) : List Byte :=
  le 8 f.start ++ le 8 endAt ++ le 8 (bufferOf c f.no) ++ le 4 f.no ++ le 2 f.settings ++ le 2 (frameFlags c f) ++ le 2 c.width
    ++ le 2 c.height ++ le 4 (strideOf c) ++ le 1 c.format ++ le 1 p ++ le 2 f.good ++ zeros 4
    ++ le 8 ((f.start : Int) + c.stampOffset).toNat ++ zeros 8

/-- A frame descriptor is published through the ring of its pipeline's `buffers` entries (R350). -/
def pubDescriptor (c : CamCfg) (no : Nat) (bytes : List Byte) (stamp : Nat) (s : State) : State :=
  let loc := hLocal c.handle
  if s.isOwn c.handle then
    pubBlockAt c.buffers (Config.ringAddr loc (no % c.buffers)) loc bytes .valid (Config.hwConfidence loc).toNat stamp s
  else s

/-- A block published by a camera unit at its handle, if the handle is the module's own. -/
def camPublish (h : Nat) (bytes : List Byte) (q : Quality) (stamp : Nat) (s : State) : State :=
  if s.isOwn h then pubBlock (hLocal h) bytes q (Config.hwConfidence (hLocal h)).toNat stamp s else s

/-! ## The vision accelerator (R356, R357) -/

/-- The accelerator is idle and jobs wait: one starts under R56. -/
def vaStart (s : State) : State :=
  if s.cam.running.isSome then s else
  let waiting := s.cam.jobs.zipIdx.filterMap fun e => e.1.waiting.map fun w => (e.2, e.1.prio, w)
  let (win, s) := arbitrate 0x0E00 (waiting.map fun w => (0x38 + w.1 % 8, w.2.1)) s
  match win with
  | none => s
  | some id =>
    let top := waiting.foldl (fun m w => max m w.2.1) 0
    match waiting.find? fun w => 0x38 + w.1 % 8 == id && w.2.1 == top with
    | some (j, _, w) => modCam (fun c => { c with running := some (j, w) }) (modJob j (fun x => { x with waiting := none }) s)
    | none => s

/-- A frame that has ended is offered to the jobs of its pipeline (R356, R357); which of them a reduced rate skips is free (R515,
log entry 187). -/
def vaOffer (p no expose buffer bytes : Nat) (s : State) : State :=
  vaStart ((List.range 3).foldl (fun s f =>
    let j := 8 * f + p
    let x := s.job j
    if !x.enable || no % x.decim != 0 || (s.pipe p).cfg.format == 3 then s else
    let skip := fun (s : State) =>
      let s := modPipe p (fun y => { y with skipped := y.skipped + 1 }) s
      if (s.pipe p).skipEvent.any (fun t => decide (s.time < t + sec)) then s
      else pipeEvent p 4 0 0 no (modPipe p (fun y => { y with skipEvent := some s.time }) s)
    let (slow, s) := if s.pwr.vaReduced then takeFreeBool s else (false, s)
    if slow then skip s else
    let s := if x.waiting.isSome then skip s else s
    modJob j (fun y => { y with waiting := some (no, expose, buffer, bytes) }) s) s)

/-- Whether a range of memory holds a poisoned line. -/
def rangePoisoned (base bytes : Nat) (s : State) : Bool := s.mem.poison.any fun l => base ≤ l && l < base + bytes

/-- The pair of a pipeline. -/
def State.pairOf (s : State) (p : Nat) : Option Nat := (s.cam.pairs.zipIdx.find? fun k => k.1.a == p || k.1.b == p).map (·.2)

/-- The 32 bytes of a detection (R335). -/
def detBytes (d : Detection) : List Byte :=
  let f := fun (q : Rat) => le 4 (qf32 q).toNat
  le 1 d.cls ++ le 1 d.conf ++ le 1 d.member ++ le 1 (b2n d.velValid) ++ f d.x ++ f d.y ++ f d.sx ++ f d.sy ++ f d.vx ++ f d.vy ++ zeros 4

/-- The bytes of a result (R356); the header and the layout of confidences of function 0 are log entry 104. -/
def vaBytes (j no expose : Nat) (r : VaResult) (s : State) : List Byte × State :=
  let p := j % 8
  let four := fun (l : List F32) => (List.range 8).flatMap fun i => le 4 (l.getD i 0).toNat
  match r with
  | .edge off conf hts =>
    let sync := (s.pairOf p).any fun k => (s.pair k).st == 1
    let (h, s) := takeFreeBytes 16 s
    (h ++ four off ++ (List.range 8).flatMap (fun i => le 1 (conf.getD i 0)) ++ four (if sync then hts else List.replicate 8 f32QNaN) ++ zeros 40, s)
  | .kernels a b c d => (le 4 no ++ le 4 a.toNat ++ le 4 b.toNat ++ le 4 c.toNat ++ le 4 d.toNat ++ zeros 44, s)
  | .persons ds =>
    let keep := (ds.filter fun d => (s.job j).minConf ≤ d.conf).take 126
    (le 8 expose ++ le 2 keep.length ++ zeros 54 ++ keep.flatMap detBytes, s)

/-- Whether a result is of a job's function. -/
def vaFits (j : Nat) (r : VaResult) : Bool :=
  match r with | .edge .. => j / 8 == 0 | .kernels .. => j / 8 == 1 | .persons .. => j / 8 == 2

/-- VA_JOB_COMPLETE (R356): the running job's result is published and the next job starts. -/
def doVaComplete (r : VaResult) (s : State) : State :=
  match s.cam.running with
  | none => s
  | some (j, no, expose, buffer, bytes) =>
    if !vaFits j r then s else
    let bad := rangePoisoned buffer bytes s
    let s := if bad then consumePoison 0x34 buffer s else s
    let (b, s) := vaBytes j no expose r s
    vaStart (camPublish (s.job j).handle b (if bad then .poisoned else .valid) expose (modCam (fun c => { c with running := none }) s))

/-! ## Pairs (R355) -/

/-- A pair changes its state. -/
def pairEnter (k st : Nat) (s : State) : State :=
  if (s.pair k).st == st then s else
  let s := modPair k (fun x => { x with st := st, qa := [], qb := [], hits := 0, matched := [], da := [], db := [], matching := st == 1 }) s
  pipeEvent (s.pair k).a 2 st 0 noFrame s

/-- The FSYNC period of a pair, in ns. -/
def pairPeriod (k : Nat) (s : State) : Nat := (s.cam.fsync.getD (s.pipe (s.pair k).a).cfg.fsync {}).period * us

/-- Two frames are matched (R355). -/
def pairMatch (k noA startA noB startB : Nat) (s : State) : State :=
  let x := s.pair k
  let skew : Int := (startA : Int) - (startB : Int)
  let s := modPipe x.a (fun p => { p with skew := skew }) (modPipe x.b (fun p => { p with skew := skew }) s)
  let near := decide (skew.natAbs ≤ x.tol * us)
  let mark := fun (p no : Nat) (s : State) => modPipe p (fun q => { q with cur := q.cur.map fun f => if f.no == no then { f with paired := true } else f }) s
  if x.st == 1 then
    if near then modPair k (fun y => { y with matched := y.matched ++ [(noA, noB)] }) (mark x.a noA (mark x.b noB s))
    else if skew.natAbs ≤ pairPeriod k s then
      modPipe x.a (fun p => { p with skipped := p.skipped + 1 }) (modPipe x.b (fun p => { p with skipped := p.skipped + 1 }) s)
    else pairEnter k 3 s
  else if near then
    if x.hits + 1 == 3 then pairEnter k 1 s else modPair k (fun y => { y with hits := y.hits + 1 }) s
  else modPair k (fun y => { y with hits := 0 }) s

/-- A frame of a pair's member starts. -/
def pairStart (p no start : Nat) (s : State) : State :=
  match s.pairOf p with
  | none => s
  | some k =>
    let x := s.pair k
    if !x.matching then s else
    let x := if x.a == p then { x with qa := x.qa ++ [(no, start)] } else { x with qb := x.qb ++ [(no, start)] }
    match x.qa, x.qb with
    | a :: qa, b :: qb => pairMatch k a.1 a.2 b.1 b.2 (modPair k (fun _ => { x with qa := qa, qb := qb }) s)
    | _, _ => modPair k (fun _ => x) s

/-- A frame of a pair's member ends: the pair record is published, or resynchronisation begins. -/
def pairEnd (p : Nat) (f : CamFrame) (desc : List Byte) (s : State) : State :=
  match s.pairOf p with
  | none => s
  | some k =>
    let x := s.pair k
    if x.st == 3 then
      if s.time < x.retryAt then s else
      let until_ := s.time + 2 * pairPeriod k s
      let fs := (s.pipe x.a).cfg.fsync
      let s := modCam (fun c => { c with fsync := updAt c.fsync fs fun y => { y with heldUntil := until_ } }) s
      modPair k (fun y => { y with releaseAt := until_, matching := false }) (pairEnter k 2 s)
    else if !f.paired then s else
    let x := if x.a == p then { x with da := x.da ++ [(f.no, desc)] } else { x with db := x.db ++ [(f.no, desc)] }
    let s := modPair k (fun _ => x) s
    match x.matched.find? fun m => x.da.any (·.1 == m.1) && x.db.any (·.1 == m.2) with
    | some m =>
      let a := ((x.da.find? (·.1 == m.1)).map (·.2)).getD []
      let b := ((x.db.find? (·.1 == m.2)).map (·.2)).getD []
      let s := modPair k (fun y => { y with matched := y.matched.filter (· != m), da := y.da.filter (·.1 != m.1), db := y.db.filter (·.1 != m.2) }) s
      camPublish x.handle (a ++ b) .valid (u64 a 48) s
    | none => s

/-- RESYNC_RELEASE (R355): matching restarts once the output is released; ten periods without success end the attempt. -/
def doResyncRelease (k : Nat) (s : State) : State :=
  let x := s.pair k
  if x.st != 2 then s
  else if x.releaseAt + 10 * pairPeriod k s ≤ s.time then
    let t := s.time
    modPair k (fun y => { y with retryAt := t + 10 * sec }) (pairEnter k 3 s)
  else if x.releaseAt ≤ s.time && !x.matching then modPair k (fun y => { y with matching := true, qa := [], qb := [], hits := 0 }) s
  else s

/-! ## Settings writes (R352, R353) -/

/-- At a frame start, writes completed before it come to govern frame N + D, and those that govern this frame apply. -/
def settingsStart (p no start : Nat) (s : State) : State :=
  let d := (s.pipe p).cfg.delay
  let mine := fun (w : CamWrite) => unitIndex w.req.p.target 0x0E == some (0x10 + p)
  let ws := s.cam.writes.map fun w =>
    if mine w && w.governs.isNone && w.completed.any (· < start) then { w with governs := some (no + d) } else w
  let s := modCam (fun c => { c with writes := ws }) s
  let due := s.cam.writes.filter fun w => mine w && w.governs.any (· ≤ no)
  let s := modCam (fun c => { c with writes := c.writes.filter fun w => !(mine w && w.governs.any (· ≤ no)) }) s
  let s := modPipe p (fun x => due.foldl (fun x w => { x with params := w.params.getD x.params, settings := w.id, uncertain := false }) x) s
  match due.getLast? with
  | none => s
  | some last =>
    let s := due.dropLast.foldl (fun s w => finish w.req .superseded [] s) s
    finish last.req .done (le 4 no) s

/-- SENSOR_WRITE_COMPLETE (R352, R353): the oldest write of a link that the head has not answered, and how many of its registers the
head has acknowledged. -/
def doWriteComplete (l acked : Nat) (s : State) : State :=
  match s.cam.writes.find? fun w => w.link == l && w.completed.isNone with
  | none => s
  | some w =>
    let p := (unitIndex w.req.p.target 0x0E).getD 0x10 - 0x10
    let t := lclkStamp s.time
    let s := modPipe p (fun x => { x with regs := (w.regs.take acked).foldl (fun r e => aset r e.1 e.2) x.regs }) s
    if w.regs.length ≤ acked then
      modCam (fun c => { c with writes := c.writes.map fun v => if v == w then { v with completed := some t } else v }) s
    else
      let s := modCam (fun c => { c with writes := c.writes.filter fun v => v != w }) s
      let s := modPipe p (fun x => { x with uncertain := true }) s
      finish w.req .hwFault [] (pipeEvent p 5 0 w.id noFrame s)

/-! ## Reception (R343, R345, R351) -/

/-- A frame in progress ends: statistics, write-out, descriptor, pipeline state, pair and jobs. -/
def closeFrame (p : Nat) (truncated : Bool) (s : State) : State :=
  let x := s.pipe p
  match x.cur with
  | none => s
  | some f =>
    let c := x.cfg
    let f := { f with truncated := truncated }
    let bpp := ((s.routeOfPipe p).map fun r => routeBpp r.2).getD 20
    let (img, defects) := linearImage c f.params bpp f.lines f.shorts
    let flags := frameFlags c f
    let bad := truncated || f.lines.length < c.height
    let s := writeFrame p (bufferOf c f.no) img s
    let desc := descriptor p c f (lclkStamp s.time)
    let st := statsOf c f flags defects img
    let s := modPipe p (fun x => { x with
      cur := none, lastNo := f.no, lastSettings := f.settings, lastStart := f.start, stats := x.stats.set (f.no % 2) st
      statsBuf := f.no % 2, bad := if bad then min 10 (x.bad + 1) else 0, clean := if bad then 0 else min 10 (x.clean + 1)
      lastTrunc := truncated, errors := x.errors + b2n bad, truncSeen := x.truncSeen || bad }) (if bad then noteSet 0x0E (0x1000 + 0x100 * p) 16 s else s)
    let s := pubDescriptor c f.no desc ((f.start : Int) + c.stampOffset).toNat s
    let s := if truncated && !(s.pipe p).truncEvent.any (fun t => decide (s.time < t + sec)) then
        let t := s.time
        pipeEvent p 3 0 0 f.no (modPipe p (fun x => { x with truncEvent := some t }) s) else s
    let s := if (s.pipe p).bad == 10 then pipeEnter p .faulted s
      else if (s.pipe p).st == .faulted && (s.pipe p).clean == 10 then pipeEnter p .running s else s
    let s := pairEnd p f desc s
    vaOffer p f.no ((f.start : Int) + c.stampOffset).toNat (bufferOf c f.no) (strideOf c * c.height) s

/-- A frame starts (R345, R351, R352). -/
def openFrame (p : Nat) (s : State) : State :=
  let s := closeFrame p true s
  let t := lclkStamp s.time
  let no := (s.pipe p).nextNo
  let s := if (s.pipe p).st == .waiting then pipeEnter p .running s else s
  let s := settingsStart p no t s
  let s := modPipe p (fun x => { x with nextNo := (no + 1) % 2 ^ 32
                                        cur := some { no := no, start := t, settings := x.settings, uncertain := x.uncertain, params := x.params } }) s
  pairStart p no t s

/-- A line of pixels as the pipeline takes it: the configured width, zeros for a line whose CRC fails (R343). -/
def lineOfPacket (c : CamCfg) (k : CsiPacket) : List Nat :=
  if k.crcBad then List.replicate c.width 0 else (k.pixels ++ List.replicate c.width 0).take c.width

/-- A line arrives for a pipeline (R345): it is stored, or it overflows the buffer and the frame is closed. -/
def takeLine (p : Nat) (short : Bool) (k : CsiPacket) (s : State) : State :=
  let c := (s.pipe p).cfg
  match (s.pipe p).cur with
  | none => s
  | some f =>
    if k.full then closeFrame p true s
    else if c.height ≤ (if short then f.shorts else f.lines).length then s
    else
      let l := lineOfPacket c k
      let f := if short then { f with shorts := f.shorts ++ [l] } else { f with lines := f.lines ++ [l], good := f.good + b2n (!k.crcBad) }
      modPipe p (fun x => { x with cur := some { f with lineError := f.lineError || k.crcBad } }) s

/-- CSI2_PACKET (R343, R345). -/
def doCsiPacket (l : Nat) (k : CsiPacket) (s : State) : State :=
  let x := s.link l
  if 4 ≤ l || x.st != .up then s else
  let drop := modLink l (fun y => { y with discarded := y.discarded + 1 })
  if k.eccBad then drop s else
  match x.routes.find? fun r => r.vc == k.vc && r.pipe < 8 with
  | none => drop s
  | some r =>
    let on := (s.pipe r.pipe).st != .off
    let short := k.dt == r.dtShort && r.dtShort != 0 && (s.pipe r.pipe).cfg.hdr == 2
    if k.dt == 0x00 then (if on then openFrame r.pipe s else s)
    else if k.dt == 0x01 then (if on then closeFrame r.pipe false s else s)
    else if k.dt == 0x02 || k.dt == 0x03 || k.dt == 0x12 then s
    else if k.dt == r.dt || short then (if on then takeLine r.pipe (short && k.dt != r.dt) k s else s)
    else drop s

/-! ## Frame synchronisation (R354) -/

/-- FSYNC_EDGE (R354): the output asserts at a whole multiple of its period, unless a resynchronisation holds it. -/
def doFsyncEdge (k : Nat) (s : State) : State :=
  let s := modCam (fun c => { c with fsync := updAt c.fsync k fun x => match x.next with
    | some (at_, p, w, pol) => if at_ ≤ s.time then { x with period := p, width := w, polarity := pol, next := none } else x
    | none => x }) s
  let x := s.cam.fsync.getD k {}
  if x.period == 0 || !onGrid (x.period * us) s || s.time < x.heldUntil then s
  else modCam (fun c => { c with edges := (k, s.time) :: c.edges }) s

/-! ## Admission (R344, R350, R355, R357) -/

/-- Frames per second of a pipeline. -/
def fpsOf (cam : CamState) (p : Nat) : Rat :=
  let c := (cam.pipes.getD p {}).cfg
  if c.fsync == 0xFF then f32d c.fpsMax
  else
    let x := cam.fsync.getD c.fsync {}
    let per := (x.next.map fun n => n.2.1).getD x.period
    if per == 0 then 0 else 1000000 / (per : Rat)

/-- Payload capacity of a gear, bit/s (R341). -/
def gearC (g : Nat) : Rat :=
  match g with | 1 => 1800000000 | 2 => 3600000000 | 3 => 7200000000 | 4 => 10800000000 | _ => 14400000000

/-- The load of a link (R344). -/
def linkLoad (cam : CamState) (l : CamLink) : Rat :=
  if l.gear == 0 then 0 else
  ((l.routes.filter fun r => r.pipe < 8).map fun r =>
    let c := (cam.pipes.getD r.pipe {}).cfg
    let h := if c.hdr == 2 then 2 * c.height else c.height
    let b := (h + r.emb) * ((c.width * routeBpp r + 7) / 8 + 6) + 8
    (b : Rat) * 8 * fpsOf cam r.pipe / gearC l.gear).foldl (· + ·) 0

/-- The accelerator cost of a function, ms per megapixel (R356). -/
def vaCost (f : Nat) : Rat := if f == 0 then 3 / 2 else if f == 1 then 1 else 2

/-- The load of one accelerator job (R357). -/
def jobLoad (cam : CamState) (j : Nat) : Rat :=
  let x := cam.jobs.getD j {}
  let c := (cam.pipes.getD (j % 8) {}).cfg
  if !x.enable then 0
  else fpsOf cam (j % 8) / (x.decim : Rat) * (((c.width * c.height : Nat) : Rat) / 1000000) * vaCost (j / 8) / 1000

/-- The accelerator load of all jobs. -/
def vaLoad (cam : CamState) : Rat := ((List.range 24).map (jobLoad cam)).foldl (· + ·) 0

/-- Whether two elements at different places of a list are equal and count. -/
def dup (l : List Nat) : Bool := (l.eraseDups).length != l.length

/-- Whether a configuration of the cameras is refused with `CONFIG_REJECTED`. -/
def camRejected (cam : CamState) : Bool :=
  let used := fun (l : CamLink) => l.routes.filter fun r => r.pipe < 8
  dup (cam.links.flatMap fun l => (used l).map (·.pipe))
    || (cam.links.any fun l => dup ((used l).map (·.vc)) || decide (17 / 20 < linkLoad cam l))
    || ((List.range 8).any fun p =>
      let c := (cam.pipes.getD p {}).cfg
      c.enable && decide (0 < fpsOf cam p) && decide (((c.buffers - 1 : Nat) : Rat) / fpsOf cam p < 1 / 100))
    || (cam.pairs.any fun k => k.a < 8 && k.b < 8 &&
      ((cam.pipes.getD k.a {}).cfg.fsync == 0xFF || (cam.pipes.getD k.a {}).cfg.fsync != (cam.pipes.getD k.b {}).cfg.fsync))
    || decide (9 / 10 < vaLoad cam)

/-! ## Registers (R358 to R362) -/

/-- `PIPE_STATUS` (R360). -/
def pipeStatus (p : Nat) (s : State) : Nat :=
  let x := s.pipe p
  let (l, vc) := match s.routeOfPipe p with | some (l, r) => (l, r.vc) | none => (0xF, 0)
  x.st.code + 16 * vc + 256 * l + 2 ^ 16 * b2n x.truncSeen + 2 ^ 17 * x.statsBuf + 2 ^ 18 * ((s.pairOf p).map fun k => (s.pair k).st).getD 0

/-- The newest settings ID that has completed and governs no frame yet (R361). -/
def newestId (p : Nat) (s : State) : Nat :=
  (((s.cam.writes.filter fun w => unitIndex w.req.p.target 0x0E == some (0x10 + p) && w.completed.isSome).getLast?).map (·.id)).getD 0

/-- One 32-bit word of a statistics buffer (R362). -/
def statsWord (x : CamStats) (o : Nat) : Option Nat :=
  if o == 0 then some x.begin_
  else if o == 4 then some (x.settings + 65536 * x.flags)
  else if o == 8 then some (x.start % 2 ^ 32)
  else if o == 0xC then some (x.start / 2 ^ 32)
  else if o == 0x10 then some x.defects
  else if o == 0x14 then some x.saturated
  else if o < 0x40 then some 0
  else if o < 0x840 then some (x.sums.getD ((o - 0x40) / 8) 0 / 2 ^ (32 * (o / 4 % 2)) % 2 ^ 32)
  else if o < 0x1000 then none
  else if o < 0x41000 then some ((aget x.hist ((o - 0x1000) / 4)).getD 0)
  else if o == 0x41000 then some x.end_
  else none

/-- One 32-bit word of the CAM register block; none at an unused offset (R436). -/
def camReadWord (off : Nat) (s : State) : Option Nat :=
  if off == 0 then
    some (2 ^ 31 * b2n s.cam.accessFault + 2 ^ 12 * bitsN (s.cam.links.map fun l => l.st == .excluded)
      + ((List.range 4).map fun l => (s.link l).st.code * 8 ^ l).sum)
  else if 0x1000 ≤ off && off < 0x1800 then
    let p := (off - 0x1000) / 0x100
    let x := s.pipe p
    match off % 0x100 with
    | 0x00 => some (pipeStatus p s) | 0x04 => some x.lastNo | 0x08 => some (x.lastSettings + 65536 * newestId p s)
    | 0x0C => some (x.skipped % 65536 + 65536 * (x.errors % 65536)) | 0x10 => some (x.lastStart % 2 ^ 32)
    | 0x14 => some (x.lastStart / 2 ^ 32) | 0x18 => some (x.skew % 2 ^ 32).toNat | _ => none
  else if 0x100000 ≤ off && off < 0x900000 then
    statsWord ((s.pipe ((off - 0x100000) / 0x100000)).stats.getD (off / 0x80000 % 2) {}) (off % 0x80000)
  else none

/-- `CAM_BLOCK.ACCESS_FAULT` is raised (R358). -/
def camAccessFault (s : State) : State := noteSet 0x0E 0 31 (modCam (fun c => { c with accessFault := true }) s)

/-- A write of one 32-bit word (R358): W1C from the supervisory partition; none at an unused offset. -/
def camWriteWord (part off v : Nat) (s : State) : Option State :=
  let fault : State := camAccessFault s
  let sup := s.supervisory == some part
  if (camReadWord off s).isNone then none
  else if off == 0 then some (if sup then modCam (fun c => { c with accessFault := c.accessFault && !bitOf v 31 }) s else fault)
  else if 0x1000 ≤ off && off < 0x1800 && off % 0x100 == 0 then
    some (if sup then modPipe ((off - 0x1000) / 0x100) (fun x => { x with truncSeen := x.truncSeen && !bitOf v 16 }) s else fault)
  else some fault

/-! ## Commands -/

/-- The index of a camera unit between two bounds. -/
def camUnit (r : Req) (lo n : Nat) : Option Nat :=
  (unitIndex r.p.target 0x0E).bind fun i => if lo ≤ i && i < lo + n then some (i - lo) else none

/-- Whether a pipeline that a configuration affects is not OFF. -/
def anyOn (ps : List Nat) (s : State) : Bool := ps.any fun p => p < 8 && (s.pipe p).st != .off

/-- A configuration of the cameras takes effect. -/
def camApply (c : CamState) (s : State) : Res × State := done (pipesFollow { s with cam := c })

/-- What refuses `CAM_LINK_SET`, in its order (step 8 of R73). -/
def chkCamLinkSet (r : Req) (s : State) : List (Bool × Status) :=
  let b := r.p.payload
  let l := (camUnit r 0 4).getD 4
  let routes := (List.range 2).map fun i =>
    let o := 4 + 8 * i
    ({ vc := u8 b o, pipe := u8 b (o + 1), dt := u8 b (o + 2), dtShort := u8 b (o + 3), emb := u8 b (o + 4) } : CamRoute)
  let bad := fun (x : CamRoute) => 15 < x.vc || (7 < x.pipe && x.pipe != 0xFF) || (x.pipe != 0xFF && routeBpp x == 0)
    || (x.dtShort != 0 && (x.dtShort < 0x30 || 0x37 < x.dtShort)) || 8 < x.emb
  let ps := (routes ++ (s.link l).routes).map (·.pipe)
  let cam := { s.cam with links := updAt s.cam.links l fun x => { x with gear := u8 b 0, poc := u8 b 1 == 1, routes := routes
                                                                         pocTrip := if u8 b 1 == 1 then x.pocTrip else none } }
  [ (3 < l, .badParam), (!s.isHost r.port, .notOwner),
    (5 < u8 b 0 || 1 < u8 b 1 || routes.any bad || reservedSet b [(2, 2), (9, 3), (17, 3)], .badParam),
    (anyOn ps s, .wrongState), (camRejected cam, .configRejected) ]

/-- `CAM_LINK_SET` (R344); a gear newly set is trained (R342). -/
def effCamLinkSet (r : Req) (s : State) : Res × State :=
  let b := r.p.payload
  let l := (camUnit r 0 4).getD 4
  let routes := (List.range 2).map fun i =>
    let o := 4 + 8 * i
    ({ vc := u8 b o, pipe := u8 b (o + 1), dt := u8 b (o + 2), dtShort := u8 b (o + 3), emb := u8 b (o + 4) } : CamRoute)
  let cam := { s.cam with links := updAt s.cam.links l fun x => { x with gear := u8 b 0, poc := u8 b 1 == 1, routes := routes
                                                                         pocTrip := if u8 b 1 == 1 then x.pocTrip else none } }
  check s (chkCamLinkSet r s) fun _ =>
    let again := u8 b 0 != 0 && u8 b 0 != (s.link l).gear && ((s.link l).st == .up || (s.link l).st == .down)
    let (res, s) := camApply cam s
    (res, if again then linkEnter l .training s else s)

/-- Eight pairs of a decompanding curve. -/
def pwlOf (b : List Byte) : List (Nat × Nat) := (List.range 8).map fun i => (u32 b (88 + 8 * i), u32 b (92 + 8 * i))

/-- The parameters of `CAM_PIPE_SET`. -/
def camCfgOf (b : List Byte) : CamCfg :=
  { enable := u8 b 0 == 1, cfa := u8 b 1, hdr := u8 b 2, format := u8 b 3, width := u16 b 4, height := u16 b 6, fsync := u8 b 8
    delay := u8 b 9, buffers := u8 b 10, frame := u8 b 11, fpsMax := bits32 b 12
    params := { black := (List.range 4).map fun i => u16 b (16 + 2 * i), wb := (List.range 4).map fun i => u16 b (152 + 2 * i), ratio := bits32 b 44 }
    defectThr := u32 b 24, stampOffset := i32 b 28, bufBase := u64 b 32, handle := u32 b 40, knee := u32 b 48
    intrinsics := (List.range 9).map fun i => bits32 b (52 + 4 * i), pwl := pwlOf b, ldc := u8 b 160 == 1, owner := u8 b 161 }

/-- Whether the fields of a pipeline's configuration are out of their ranges; `full` is taken for the pipeline's route. -/
def camCfgBad (p : Nat) (b : List Byte) (s : State) : Bool :=
  let c := camCfgOf b
  let even := fun (n : Nat) => n % 2 != 0 || notIn 64 4096 n
  let rising := (pwlOf b).zip ((pwlOf b).drop 1) |>.all fun e => e.1.1 < e.2.1
  let full := 2 ^ ((s.routeOfPipe p).map fun r => routeBpp r.2).getD 20 - 1 - c.params.black.foldl max 0
  1 < u8 b 0 || 4 < c.cfa || 2 < c.hdr || 3 < c.format || even c.width || even c.height || (7 < c.fsync && c.fsync != 0xFF)
    || notIn 1 3 c.delay || notIn 3 16 c.buffers || (c.fsync == 0xFF && !f32In c.fpsMax 1 120) || c.stampOffset.natAbs > 100000000
    || c.bufBase % 64 != 0 || areaOf c.bufBase != .dram || !handleOk c.handle || !f32In c.params.ratio 1 256
    || (c.hdr == 2 && full ≤ c.knee) || c.intrinsics.any (fun x => !f32Ok x) || (c.hdr == 1 && !rising) || 1 < u8 b 160 || 127 < c.owner
    || reservedSet b [(162, 2)]

/-- What refuses `CAM_PIPE_SET`, in its order (step 8 of R73). -/
def chkCamPipeSet (r : Req) (s : State) : List (Bool × Status) :=
  let b := r.p.payload
  let p := (camUnit r 0x10 8).getD 8
  let c := camCfgOf b
  let cam := { s.cam with pipes := updAt s.cam.pipes p fun x => { x with cfg := c, params := c.params, cur := none } }
  [ (7 < p, .badParam), (!s.isHost r.port, .notOwner), (camCfgBad p b s, .badParam), (c.enable && anyOn [p] s, .wrongState),
    (camRejected cam, .configRejected) ]

/-- `CAM_PIPE_SET` (R346). A configuration with `enable` 0 is accepted in any state (log entry 105). -/
def effCamPipeSet (r : Req) (s : State) : Res × State :=
  let b := r.p.payload
  let p := (camUnit r 0x10 8).getD 8
  let c := camCfgOf b
  let cam := { s.cam with pipes := updAt s.cam.pipes p fun x => { x with cfg := c, params := c.params, cur := none } }
  check s (chkCamPipeSet r s) fun _ => camApply cam s

/-- What refuses `CAM_PAIR_SET`, in its order (step 8 of R73). -/
def chkCamPairSet (r : Req) (s : State) : List (Bool × Status) :=
  let b := r.p.payload
  let k := (camUnit r 0x20 4).getD 4
  let a := u8 b 0
  let c := u8 b 1
  let off := a == 0xFF || c == 0xFF
  let taken := (List.range 4).any fun i => i != k && !off && ([a, c].contains (s.pair i).a || [a, c].contains (s.pair i).b)
  let pair : CamPair := if off then {} else { a := a, b := c, tol := u16 b 2, handle := u32 b 4, st := 3 }
  let cam := { s.cam with pairs := s.cam.pairs.set k pair }
  [ (3 < k, .badParam), (!s.isHost r.port, .notOwner),
    ((7 < a && a != 0xFF) || (7 < c && c != 0xFF) || (!off && (a == c || taken)) || notIn 1 5000 (u16 b 2) || !handleOk (u32 b 4), .badParam),
    (anyOn [a, c, (s.pair k).a, (s.pair k).b] s, .wrongState), (camRejected cam, .configRejected) ]

/-- `CAM_PAIR_SET` (R355). -/
def effCamPairSet (r : Req) (s : State) : Res × State :=
  let b := r.p.payload
  let k := (camUnit r 0x20 4).getD 4
  let a := u8 b 0
  let c := u8 b 1
  let off := a == 0xFF || c == 0xFF
  let pair : CamPair := if off then {} else { a := a, b := c, tol := u16 b 2, handle := u32 b 4, st := 3 }
  let cam := { s.cam with pairs := s.cam.pairs.set k pair }
  check s (chkCamPairSet r s) fun _ => camApply cam s

/-- What refuses `CAM_FSYNC_SET`, in its order (step 8 of R73). -/
def chkCamFsyncSet (r : Req) (s : State) : List (Bool × Status) :=
  let b := r.p.payload
  let k := (camUnit r 0x30 8).getD 8
  let per := u32 b 0
  let at_ := if per == 0 then s.time else nextGrid (per * us) s
  let cam := { s.cam with fsync := updAt s.cam.fsync k fun x => { x with next := some (at_, per, u16 b 4, u8 b 6) } }
  let ps := (s.cam.pipes.zipIdx.filter fun e => e.1.cfg.fsync == k).map (·.2)
  [ (7 < k, .badParam), (!s.isHost r.port, .notOwner),
    ((per != 0 && notIn 8000 1000000 per) || notIn 1 1000 (u16 b 4) || 1 < u8 b 6 || reservedSet b [(7, 1)], .badParam),
    (anyOn ps s, .wrongState), (camRejected cam, .configRejected) ]

/-- `CAM_FSYNC_SET` (R354). -/
def effCamFsyncSet (r : Req) (s : State) : Res × State :=
  let b := r.p.payload
  let k := (camUnit r 0x30 8).getD 8
  let per := u32 b 0
  let at_ := if per == 0 then s.time else nextGrid (per * us) s
  let cam := { s.cam with fsync := updAt s.cam.fsync k fun x => { x with next := some (at_, per, u16 b 4, u8 b 6) } }
  check s (chkCamFsyncSet r s) fun _ => camApply cam s

/-- The settings write that `CAM_SENSOR_WRITE` makes. -/
def camWriteOf (r : Req) (link : Nat) (c : CamParams) : CamWrite :=
  let b := r.p.payload
  { req := r, link := link, id := u16 b 0
    params := if bitOf (u8 b 2) 0 then some { c with
        black := (List.range 4).map fun i => u16 b (8 + 2 * i), wb := (List.range 4).map fun i => u16 b (16 + 2 * i), ratio := bits32 b 24 } else none
    regs := (List.range (u8 b 3)).map fun i =>
      (65536 * u8 b 4 + u16 b (28 + 4 * i), if bitOf (u8 b 2) 1 then u16 b (30 + 4 * i) else u8 b (30 + 4 * i)) }

/-- What refuses `CAM_SENSOR_WRITE`, in its order (step 8 of R73). -/
def chkCamSensorWrite (r : Req) (s : State) : List (Bool × Status) :=
  let b := r.p.payload
  let p := (camUnit r 0x10 8).getD 8
  let x := s.pipe p
  let id := u16 b 0
  let pend := s.cam.writes.any fun w => w.id == id && unitIndex w.req.p.target 0x0E == some (0x10 + p)
  [ (7 < p, .badParam), (!s.isHost r.port && partOfPort r.port != some x.cfg.owner, .notOwner),
    (id == 0 || 3 < u8 b 2 || 64 < u8 b 3 || 127 < u8 b 4 || reservedSet b [(5, 3)]
      || (bitOf (u8 b 2) 0 && !f32In (bits32 b 24) 1 256) || id == x.settings || pend, .badParam),
    (x.st != .running, .wrongState) ]

/-- `CAM_SENSOR_WRITE` (R352, R353). -/
def effCamSensorWrite (r : Req) (s : State) : Res × State :=
  let p := (camUnit r 0x10 8).getD 8
  let x := s.pipe p
  check s (chkCamSensorWrite r s) fun _ =>
    (.interim .queued, modCam (fun c => { c with writes := c.writes ++ [camWriteOf r ((s.routeOfPipe p).map (·.1) |>.getD 0) x.params] }) s)

/-- What refuses `CAM_VA_SET`, in its order (step 8 of R73). -/
def chkCamVaSet (r : Req) (s : State) : List (Bool × Status) :=
  let b := r.p.payload
  let j := (camUnit r 0x100 24).getD 24
  let edge := (List.range 8).map fun i => bits32 b (8 + 4 * i)
  let rising := (edge.zip (edge.drop 1)).all fun e => f32Lt e.1 e.2
  let cam := { s.cam with jobs := updAt s.cam.jobs j fun _ =>
    { enable := u8 b 0 == 1, prio := u8 b 1, decim := u8 b 2, minConf := u8 b 3, handle := u32 b 4, edge := edge } }
  [ (23 < j, .badParam), (!s.isHost r.port, .notOwner),
    (1 < u8 b 0 || 3 < u8 b 1 || notIn 1 8 (u8 b 2) || !handleOk (u32 b 4)
      || (j < 8 && (!rising || edge.any fun x => !f32In x 1 60)), .badParam),
    (anyOn [j % 8] s, .wrongState), (camRejected cam, .configRejected) ]

/-- `CAM_VA_SET` (R356, R357). -/
def effCamVaSet (r : Req) (s : State) : Res × State :=
  let b := r.p.payload
  let j := (camUnit r 0x100 24).getD 24
  let edge := (List.range 8).map fun i => bits32 b (8 + 4 * i)
  let cam := { s.cam with jobs := updAt s.cam.jobs j fun _ =>
    { enable := u8 b 0 == 1, prio := u8 b 1, decim := u8 b 2, minConf := u8 b 3, handle := u32 b 4, edge := edge } }
  check s (chkCamVaSet r s) fun _ => camApply cam s

/-- `CAM_STATUS`. -/
def effCamStatus (r : Req) (s : State) : Res × State :=
  match camUnit r 0 4, camUnit r 0x10 8 with
  | some l, _ =>
    let x := s.link l
    answer (le 1 x.st.code ++ zeros 3 ++ le 4 (qf32 (linkLoad s.cam x)).toNat ++ zeros 4 ++ le 4 x.discarded ++ zeros 8 ++ le 8 s.time) s
  | none, some p =>
    let x := s.pipe p
    let load := ((List.range 3).map fun f => jobLoad s.cam (8 * f + p)).foldl (· + ·) 0
    answer (le 1 x.st.code ++ le 1 (((s.pairOf p).map fun k => (s.pair k).st).getD 0) ++ zeros 2 ++ le 4 (qf32 load).toNat ++ le 4 x.nextNo
      ++ le 4 x.errors ++ le 4 x.skipped ++ zeros 4 ++ le 8 s.time) s
  | none, none => (.fin .badParam [], s)

end Sys2Proof.Machine
end

