-- ==== Sys2Proof/Machine/Can.lean ====
section
/-! DEFINITION. Chapter 16: message buffers, filters, transmission and its errors, bus-off, mirroring, sleep, the
time-triggered schedule, address claiming, the register block and the rules of the CAN commands. -/
namespace Sys2Proof.Machine

/-- A CAN channel. -/
def State.canCh (s : State) (c : Nat) : CanCh := s.can.ch.getD c {}

/-- Change a CAN channel. -/
def modCan (c : Nat) (f : CanCh → CanCh) (s : State) : State := { s with can := { s.can with ch := updAt s.can.ch c f } }

/-- A message buffer. -/
def State.canBuf (s : State) (c b : Nat) : CanBuf := (s.canCh c).bufs.getD b {}

/-- Change a message buffer. -/
def modBuf (c b : Nat) (f : CanBuf → CanBuf) (s : State) : State :=
  modCan c (fun x => { x with bufs := updAt x.bufs b f }) s

/-- The state codes of R376. -/
def CanSt.code : CanSt → Nat
  | .off => 0 | .errorActive => 1 | .errorPassive => 2 | .busOff => 3 | .recovering => 4 | .sleep => 5 | .excluded => 6

/-- The transmit status codes of R371. -/
def TxSt.code : TxSt → Nat
  | .idle => 0 | .pending => 1 | .active => 2 | .sent => 3 | .expired => 4 | .aborted => 5 | .failed => 6 | .poisoned => 7
  | .stranded => 8

/-- A transmission that has not ended: PENDING, ACTIVE or STRANDED (R371, R389). -/
def TxSt.open_ (t : TxSt) : Bool := t == .pending || t == .active || t == .stranded

/-- The states in which attempts start and frames are received (R376). -/
def CanSt.on (t : CanSt) : Bool := t == .errorActive || t == .errorPassive

/-- The states in which frames are copied to a standby channel (R377). -/
def CanSt.mirrors (t : CanSt) : Bool := t == .errorPassive || t == .busOff || t == .recovering || t == .excluded

/-- The owner number of a buffer that belongs to the module itself (R366). -/
def moduleOwner : Nat := 0xFE

/-! ## Slots (R367) -/

/-- `n` bytes at an offset of a slot. -/
def CanBuf.get (b : CanBuf) (slot off n : Nat) : List Byte :=
  (List.range n).map fun i => memRead b.cells (128 * slot + off + i)

/-- A field of a slot. -/
def CanBuf.num (b : CanBuf) (slot off n : Nat) : Nat := ofLe (b.get slot off n)

/-- Store bytes at an offset of a slot. -/
def CanBuf.put (b : CanBuf) (slot off : Nat) (bytes : List Byte) : CanBuf :=
  { b with cells := memWriteList b.cells (128 * slot + off) bytes }

/-- The frame that slot 0 of a transmit buffer holds; an XL payload lies at `xl_base`. -/
def frameOf (b : CanBuf) (s : State) : CanFrame :=
  let w := b.num 0 0 4
  let f := b.num 0 4 1
  let len := b.num 0 6 2
  { id := w % 2 ^ 29, ide := bitOf w 29, rtr := bitOf w 30, fmt := f % 4, brs := bitOf f 2, esi := bitOf f 3, dlc := b.num 0 5 1
    sdt := b.num 0 8 1, vcid := b.num 0 9 1, sec := bitOf (b.num 0 10 1) 0, af := b.num 0 12 4
    data := if f % 4 == 2 then memReadList s.mem.bytes b.xlBase len else b.get 0 64 (min len 64) }

/-- The deadline of a frame, 0 for none. -/
def CanBuf.deadline (b : CanBuf) : Nat := b.num 0 24 8
/-- The instant of the request. -/
def CanBuf.requested (b : CanBuf) : Nat := b.num 0 32 8

/-- The arbitration field on the bus as a number; the smallest wins (R370). -/
def arbKey (f : CanFrame) : Nat :=
  if f.ide then fieldOf f.id 28 18 * 2 ^ 21 + 2 ^ 20 + 2 ^ 19 + f.id % 2 ^ 18 * 2 + b2n f.rtr
  else f.id % 2 ^ 11 * 2 ^ 21 + b2n f.rtr * 2 ^ 20

/-! ## Events -/

/-- `CAN_EVENT` (R375 to R385). -/
def canEvent (c cause : Nat) (buffer : Option Nat) (id age : Nat) (s : State) : State :=
  let owner := (buffer.map fun b => (s.canBuf c b).owner).toList.filter (· < 128)
  event 0x0F80 (unit 0x0F c) (le 1 cause ++ le 1 (s.canCh c).st.code ++ le 1 (buffer.getD 0xFF) ++ zeros 1 ++ le 4 id ++ le 8 age
    ++ le 8 s.time) owner (0x50 + c) s

/-- A W1C bit of a buffer bitmap is set (R10, R389). -/
def noteBuf (c b off : Nat) (s : State) : State := noteSet 0x0F (0x20000 * (c + 1) + off + b / 32 * 4) (b % 32) s

/-- A frame reaches a final transmit status (R371). -/
def txEnd (c b : Nat) (st : TxSt) (s : State) : State :=
  noteBuf c b 0x40 (modBuf c b (fun x => { x with tx := st, done := true, abort := false }) s)

/-! ## Mirroring (R377) and stranding (R378) -/

/-- How many of the highest buffers of a channel are reserved for mirroring (R366): the most that a channel naming it as
standby asks for. -/
def mirrorBufs (k : Nat) (s : State) : Nat :=
  (s.can.ch.filter fun x => x.cfg.standby == k).foldl (fun n x => max n x.cfg.mirrorBufs) 0

/-- The buffers reserved under R366 get and lose their direction. -/
def reserveBufs (s : State) : State :=
  let s := (List.range 12).foldl (fun s k =>
    let n := mirrorBufs k s
    modCan k (fun x => { x with bufs := x.bufs.zipIdx.map fun e =>
      if 128 - n ≤ e.2 && e.1.dir == 0 then { e.1 with dir := 3 }
      else if e.2 < 128 - n && e.1.dir == 3 then { e.1 with dir := 0 } else e.1 }) s) s
  (List.range 12).foldl (fun s k =>
    let on := (s.canCh k).cfg.corlith
    modCan k (fun x => { x with bufs := x.bufs.zipIdx.map fun e =>
      if 1 < e.2 then e.1
      else if on then { e.1 with dir := 1 + e.2, owner := moduleOwner }
      else if e.1.owner == moduleOwner then { e.1 with dir := 0, owner := 0xFF } else e.1 }) s) s

/-- One frame is copied into a free mirror buffer of the standby channel, or counted as not copied (R377). -/
def mirrorFrame (c b : Nat) (s : State) : State :=
  let x := s.canCh c
  let k := x.cfg.standby
  if 12 ≤ k then s else
  let y := s.canCh k
  let free := ((y.bufs.zipIdx.filter fun e => e.1.dir == 3 && !e.1.tx.open_).map (·.2)).getLast?
  match free, y.st with
  | some m, .errorActive =>
    let o := s.canBuf c b
    let now := s.time
    modBuf c b (fun e => { e with mirrored := true })
      (modBuf k m (fun e => { ((({ e with cells := [] } : CanBuf).put 0 0 (o.get 0 0 128)).put 0 32 (le 8 now)) with
        tx := .pending, oneShot := o.oneShot, attempts := 0, xlBase := o.xlBase, abort := false
        poison := o.poison.filter (· < 32) }) s)
  | _, _ => modCan c (fun x => { x with unmirrored := x.unmirrored + 1 }) s

/-- The open frames of a channel of some statuses, in the order in which they would win arbitration (R378). -/
def framesOf (c : Nat) (which : TxSt → Bool) (s : State) : List (Nat × Nat) :=
  sortBy (fun a b => decide (a.1 < b.1 || (a.1 == b.1 && a.2 ≤ b.2)))
    (((s.canCh c).bufs.zipIdx.filter fun e => which e.1.tx).map fun e => (arbKey (frameOf e.1 s), e.2))

/-- One frame becomes STRANDED and is reported with its age (R378). -/
def strand (c b : Nat) (s : State) : State :=
  let s := modBuf c b (fun x => { x with tx := .stranded }) s
  canEvent c 1 (some b) (frameOf (s.canBuf c b) s).id (s.time - (s.canBuf c b).requested) s

/-- Every open frame of a channel ends ABORTED (R376). -/
def abortAll (c : Nat) (s : State) : State :=
  ((s.canCh c).bufs.zipIdx.filter fun e => e.1.tx.open_).foldl (fun s e => txEnd c e.2 .aborted s) s

/-- The address-claimed message, or cannot-claim from address 0xFE (SAE J1939-81, log entry 76). -/
def sendClaim (c : Nat) (s : State) : State :=
  let x := s.canCh c
  match x.claim with
  | some (name, _) =>
    if x.st.on && x.cfg.mode == 0 then
      { s with can := { s.can with sent := ⟨s.time, c, 6 * 2 ^ 26 + 0xEEFF00 + x.address, true, le 8 name⟩ :: s.can.sent } }
    else s
  | none => s

/-- The claimed address changes. -/
def setAddress (c a : Nat) (s : State) : State :=
  if (s.canCh c).address == a then s else canEvent c 8 none 0 0 (modCan c (fun x => { x with address := a }) s)

/-- A channel that joins its bus claims its address (R385): the preferred one after OFF or SLEEP. -/
def claimOnJoin (c : Nat) (old : CanSt) (s : State) : State :=
  match (s.canCh c).claim with
  | some (_, pref, _) => sendClaim c (if old == .off || old == .sleep then setAddress c pref s else s)
  | none => s

/-- A `CAN_RECOVER` that waits ends (R376). -/
def endRecover (c : Nat) (st : Status) (s : State) : State :=
  match (s.canCh c).recover with
  | some r => finish r st [] (modCan c (fun x => { x with recover := none }) s)
  | none => s

/-- A channel changes its state, with the actions of R376. -/
def canEnterOne (c : Nat) (st : CanSt) (s : State) : State :=
  let old := (s.canCh c).st
  if old == st then s else
  let was := framesOf c (fun t => t == .pending || t == .active) s
  let now := s.time
  let s := modCan c (fun x => { x with st := st, joining := false }) s
  let s := canEvent c 0 none 0 0 s
  let s := if !old.mirrors && st.mirrors then was.foldl (fun s e => mirrorFrame c e.2 s) s else s
  match st with
  | .busOff =>
    was.foldl (fun s e => strand c e.2 s) (modCan c (fun x => { x with busOffs := x.busOffs + 1, busOffAt := now }) s)
  | .excluded => endRecover c .hwFault (was.foldl (fun s e => strand c e.2 s) (regionFault s))
  | .sleep => endRecover c .wrongState (abortAll c (modCan c (fun x => { x with wufErr := 0 }) s))
  | .off => endRecover c .wrongState (abortAll c s)
  | .errorActive =>
    let s := if old == .errorPassive then s else modCan c (fun x => { x with tec := 0, rec_ := 0 }) s
    let s := if old == .recovering then
        modCan c (fun x => { x with bufs := x.bufs.map fun b => if b.tx == .stranded then { b with tx := .pending } else b }) s else s
    endRecover c .done (if old == .errorPassive then s else claimOnJoin c old s)
  | _ => s

/-- A channel changes its state; a bus-off without delay goes on to RECOVERING at once (R376). -/
def canEnter (c : Nat) (st : CanSt) (s : State) : State :=
  let s := canEnterOne c st s
  let x := s.canCh c
  if x.st == .busOff && x.cfg.recovery == 0 && x.cfg.recoveryDelay == 0 then canEnterOne c .recovering s else s

/-- The error counters decide between ERROR_ACTIVE, ERROR_PASSIVE and BUS_OFF (R376). -/
def errState (c : Nat) (s : State) : State :=
  let x := s.canCh c
  if !x.st.on then s
  else if 255 < x.tec then canEnter c .busOff s
  else if 127 < x.tec || 127 < x.rec_ then canEnter c .errorPassive s
  else canEnter c .errorActive s

/-! ## Requests and aborts (R371, R374) -/

/-- A write that the block does not perform (R387). -/
def canFault (s : State) : State := noteSet 0x0F 0 31 { s with can := { s.can with accessFault := true } }

/-- One buffer's transmit request. -/
def txRequest (c b : Nat) (s : State) : State :=
  let x := s.canBuf c b
  if x.dir != 2 then s
  else if x.tx.open_ then canFault s
  else
    let now := s.time
    let s := modBuf c b (fun e => { (e.put 0 32 (le 8 now)) with tx := .pending, mirrored := false, attempts := 0, abort := false }) s
    let st := (s.canCh c).st
    let s := if st.mirrors then mirrorFrame c b s else s
    if st == .busOff || st == .recovering || st == .excluded then strand c b s else s

/-- One buffer's abort. -/
def txAbort (c b : Nat) (s : State) : State :=
  match (s.canBuf c b).tx with
  | .pending | .stranded => txEnd c b .aborted s
  | .active => modBuf c b (fun e => { e with abort := true }) s
  | _ => s

/-- What a partition writes to one word of a buffer bitmap, its own buffers only (R386). -/
def bitmapWrite (c partition word value : Nat) (f : Nat → State → State) (s : State) : State :=
  (List.range 32).foldl (fun s i =>
    if !bitOf value i then s
    else if (s.canBuf c (32 * word + i)).owner == partition then f (32 * word + i) s else canFault s) s

/-- CAN_TXREQ (R371). -/
def doTxreq (c partition word value : Nat) (s : State) : State :=
  if 12 ≤ c || 4 ≤ word then s else bitmapWrite c partition word value (fun b s => txRequest c b s) s

/-- CAN_TXABORT (R374). -/
def doTxabort (c partition word value : Nat) (s : State) : State :=
  if 12 ≤ c || 4 ≤ word then s else bitmapWrite c partition word value (fun b s => txAbort c b s) s

/-! ## Length of a Classical frame (R384) -/

/-- The `n` low bits of a number, most significant first. -/
def bitsMsb (n v : Nat) : List Bool := ((List.range n).map fun i => bitOf v i).reverse

/-- The CRC of a Classical frame over its bits (ISO 11898-1, log entry 73). -/
def crc15 (l : List Bool) : Nat :=
  l.foldl (fun r b => let n := xor b (bitOf r 14); let r := r * 2 % 2 ^ 15; if n then r ^^^ 0x4599 else r) 0

/-- How many stuff bits a sequence of bits needs: after five equal bits one of the other value. -/
def stuffCount : List Bool → Bool → Nat → Nat
  | [], _, _ => 0
  | b :: l, last, n =>
    if b == last then (if n == 4 then 1 + stuffCount l (!b) 1 else stuffCount l b (n + 1)) else stuffCount l b 1

/-- The bits of a Classical frame from its start of frame to the last bit of its CRC sequence. -/
def classicBits (f : CanFrame) : List Bool :=
  let arb := if f.ide then bitsMsb 11 (fieldOf f.id 28 18) ++ [true, true] ++ bitsMsb 18 f.id ++ [f.rtr, false, false]
    else bitsMsb 11 f.id ++ [f.rtr, false, false]
  let body := [false] ++ arb ++ bitsMsb 4 f.dlc ++ (if f.rtr then [] else (f.data.take 8).flatMap fun x => bitsMsb 8 x.toNat)
  body ++ bitsMsb 15 (crc15 body)

/-- The length of a Classical frame in bits, stuff bits and end of frame included. -/
def frameBits (f : CanFrame) : Nat := (classicBits f).length + stuffCount (classicBits f) true 0 + 10

/-- Quarter nanoseconds of one nominal bit (R364: `BCLK` is 160 MHz). -/
def bitTime (cfg : CanCfg) : Nat := 25 * cfg.nbrp * (1 + cfg.ntseg1 + cfg.ntseg2)

/-! ## The time-triggered schedule (R383, R384) -/

/-- Whether the schedule of a channel is in use. -/
def ttOn (c : Nat) (s : State) : Bool := bitOf s.tim.cfg.ttcanCh c && (s.canCh c).tt.isSome

/-- Whether a trigger applies in a basic cycle. -/
def CanTrigger.applies (t : CanTrigger) (cycle : Nat) : Bool := cycle % t.rep == t.offset

/-- Whether a buffer is sent in exclusive windows only. -/
def ttHeld (c b : Nat) (s : State) : Bool :=
  ttOn c s && ((s.canCh c).tt.any fun t => t.triggers.any fun g => g.kind == 0 && g.buffer == b)

/-- Whether another frame ends, at its length, before the next transmit trigger or reference message. -/
def ttFits (c : Nat) (f : CanFrame) (s : State) : Bool :=
  let x := s.canCh c
  match x.tt with
  | some t =>
    if !(ttOn c s && x.ttRun) then true else
    let marks := ((t.triggers.filter fun g => g.kind == 0 && g.applies x.cycleCount).map fun g => x.cycleAt + g.mark * t.ntu)
      ++ [x.cycleAt + t.cycle * t.ntu]
    (marks.filter (s.time < ·)).all fun m => decide (4 * s.time + frameBits f * bitTime x.cfg < 4 * m)
  | none => true

/-! ## Attempts (R370 to R375, R379) -/

/-- The line of a transmit buffer's slot or XL payload that carries a poison mark (R375). -/
def poisonOf (c n : Nat) (b : CanBuf) (s : State) : Option Nat :=
  match b.poison.find? (· < 32) with
  | some w => some (0xF00F000000 + 0x20000 * (c + 1) + 0x8000 + 0x100 * n + 64 * (w / 16))
  | none =>
    if (frameOf b s).fmt != 2 then none
    else ((List.range ((b.num 0 6 2 + 63) / 64)).map fun i => b.xlBase + 64 * i).find? s.poisoned

/-- An attempt of one frame starts, unless its deadline has passed (R372) or it is poisoned (R375). -/
def startAttempt (c b : Nat) (s : State) : State :=
  let x := s.canBuf c b
  if x.deadline != 0 && x.deadline < s.time then txEnd c b .expired s
  else match poisonOf c b x s with
  | some line => canEvent c 2 (some b) (frameOf x s).id 0 (txEnd c b .poisoned (consumePoison (0x50 + c) line s))
  | none =>
    let now := s.time
    let s := modBuf c b (fun e => { e with tx := .active, attempts := min 255 (e.attempts + 1) }) s
    if x.oneShot then s else modCan c (fun y => { y with aloneAt := some now }) s

/-- Whether the pacing of R379 allows a frame an attempt now. -/
def paced (c b : Nat) (s : State) : Bool :=
  let x := s.canCh c
  !x.alone || (s.canBuf c b).oneShot || (match x.aloneAt with | none => true | some a => decide (a + 100 * ms ≤ s.time))

/-- Frames whose deadline has passed are EXPIRED at the start of an attempt (R372). -/
def expireAll (c : Nat) (s : State) : State :=
  ((s.canCh c).bufs.zipIdx.filter fun e => e.1.tx == .pending && e.1.deadline != 0 && e.1.deadline < s.time).foldl
    (fun s e => txEnd c e.2 .expired s) s

/-- ARBITRATION_START (R370): the pending buffer whose arbitration field wins is offered. -/
def doArbitration (c : Nat) (s : State) : State :=
  let x := s.canCh c
  if 12 ≤ c || !x.st.on || x.cfg.mode != 0 || x.bufs.any (fun b => b.tx == .active) then s else
  let s := expireAll c s
  let cand := (framesOf c (· == .pending) s).filter fun e =>
    !ttHeld c e.2 s && paced c e.2 s && ttFits c (frameOf (s.canBuf c e.2) s) s
  match cand with
  | [] => s
  | first :: _ =>
    let (w, s) := arbitrate (0x1000 + c) ((cand.filter fun e => e.1 == first.1).map fun e => (e.2, 1)) s
    startAttempt c (w.getD first.2) s

/-- An attempt did not succeed: the frame ends, or is offered again (R370, R373, R374). A frame of an exclusive window is
never retried (R384). -/
def attemptFailed (c b : Nat) (s : State) : State :=
  let x := s.canBuf c b
  if x.abort then txEnd c b .aborted s
  else if x.oneShot || ttHeld c b s then txEnd c b .failed s
  else modBuf c b (fun e => { e with tx := .pending }) s

/-- Transmitter delay compensation (R365): the loop delay of an FD or XL frame that got as far as its edge, in `BCLK` cycles, places the
secondary sample point; a delay above 127 cycles is an error of the frame. -/
def compensate (c delay : Nat) (f : CanFrame) (r : TxResult) (s : State) : TxResult × State :=
  let tdc := (s.canCh c).cfg.tdc
  if !bitOf tdc 0 || f.fmt == 0 || r == .lost then (r, s)
  else if 127 < delay then (.error, s)
  else (r, modCan c (fun y => { y with loopDelay := some delay, ssp := some (delay + tdc / 2) }) s)

/-- TX_ATTEMPT_END (R365, R371 to R374, R376, R379). -/
def doAttemptEnd (c : Nat) (a : TxAttempt) (s : State) : State :=
  match (s.canCh c).bufs.zipIdx.find? fun e => e.1.tx == .active with
  | none => s
  | some (x, b) =>
    let (r, s) := compensate c a.delay (frameOf x s) a.result s
    match r with
    | .sent sof =>
      let f := frameOf x s
      let s := { s with can := { s.can with sent := ⟨s.time, c, f.id, f.ide, f.data⟩ :: s.can.sent } }
      let s := txEnd c b .sent (modBuf c b (fun e => e.put 0 16 (le 8 (bclkStamp sof))) s)
      let alone := (s.canCh c).alone
      let s := modCan c (fun y => { y with tec := y.tec - 1, unacked := 0, alone := false }) s
      let s := if alone then canEvent c 4 none 0 0 s else s
      errState c s
    | .lost => attemptFailed c b s
    | .ackError =>
      let y := s.canCh c
      let n := min 255 (y.unacked + 1)
      let set := !y.alone && y.cfg.aloneLimit ≤ n
      let s := modCan c (fun y => { y with unacked := n, alone := y.alone || set
                                           tec := if y.st == .errorPassive then y.tec else y.tec + 8 }) s
      let s := if set then canEvent c 3 none 0 0 s else s
      errState c (attemptFailed c b s)
    | .error => errState c (attemptFailed c b (modCan c (fun y => { y with tec := y.tec + 8 }) s))

/-- DEADLINE_EXPIRY (R372, R380): every 10 µs; a frame that waits past its deadline is EXPIRED. -/
def doDeadline (c b : Nat) (s : State) : State :=
  let x := s.canBuf c b
  if (x.tx == .pending || x.tx == .stranded) && x.deadline != 0 && x.deadline ≤ s.time && onGrid (10 * us) s then txEnd c b .expired s else s

/-- ALONE_PACE (R379): 100 ms after the last attempt, the next one may start. -/
def doAlonePace (c : Nat) (s : State) : State :=
  modCan c (fun x => if x.alone && x.aloneAt.any (· + 100 * ms ≤ s.time) then { x with aloneAt := none } else x) s

/-! ## Reception (R368, R369) -/

/-- Whether a filter matches a frame (R368). -/
def CanFilter.hits (f : CanFilter) (x : CanFrame) : Bool :=
  f.enable && ((x.id ^^^ f.id) &&& f.mask) == 0 && x.ide == bitOf f.formats 3 && bitOf f.formats x.fmt
    && (x.fmt != 2 || !bitOf f.formats 4 || x.vcid == f.vcid)

/-- The bytes of a received frame's slot (R367). -/
def slotBytes (x : CanFrame) (xlBase : Nat) : List Byte :=
  le 4 (x.id % 2 ^ 29 + 2 ^ 29 * b2n x.ide + 2 ^ 30 * b2n x.rtr) ++ le 1 (x.fmt + 4 * b2n x.brs + 8 * b2n x.esi) ++ le 1 x.dlc
    ++ le 2 x.data.length ++ le 1 x.sdt ++ le 1 x.vcid ++ le 1 (b2n x.sec) ++ zeros 1 ++ le 4 x.af ++ le 8 (bclkStamp x.sof) ++ zeros 16
    ++ le 8 xlBase ++ zeros 16 ++ ((if x.fmt == 2 then [] else x.data) ++ zeros 64).take 64

/-- Whole lines of received bytes enter memory without a mark (R375). -/
def storeLines (base : Nat) (bytes : List Byte) (s : State) : State :=
  (List.range ((bytes.length + 63) / 64)).foldl (fun s i =>
    let l := base + 64 * i
    let piece := (bytes.drop (64 * i)).take 64
    storeLine l (piece ++ (memReadList s.mem.bytes l 64).drop piece.length) false s) s

/-- A frame is stored in the slot of a buffer that is not presented (R369). -/
def storeFrame (c b : Nat) (x : CanFrame) (s : State) : State :=
  let e := s.canBuf c b
  let slot := 1 - e.slot
  let s := if x.fmt == 2 then storeLines (e.xlBase + 2048 * slot) x.data s else s
  let s := noteBuf c b 0x30 (if e.new then noteSet 0x0F (0x20000 * (c + 1) + 0x800 + 4 * b) 22 s else s)
  modBuf c b (fun e => { (e.put slot 0 (slotBytes x e.xlBase)) with
    slot := slot, seq := (e.seq + 1) % 256, overrun := e.overrun || e.new, new := true, checked := true
    poison := e.poison.filter fun w => w / 32 != slot }) s

/-- The receive error counter after a received frame (ISO 11898-1, log entry 69). -/
def recDown (c : Nat) (s : State) : State :=
  if (s.canCh c).rec_ ≤ 127 then modCan c (fun x => { x with rec_ := x.rec_ - 1 }) s
  else
    let (v, s) := takeFree s
    modCan c (fun x => { x with rec_ := 119 + v.toNat % 9 }) s

/-- Whether a channel takes part in a frame of a format (R363). -/
def speaks (cfg : CanCfg) (fmt : Nat) : Bool := fmt == 0 || (fmt == 1 && bitOf cfg.formats 0) || (fmt == 2 && bitOf cfg.formats 1)

/-- A received frame that is no request of Corlith (R368, R369). -/
def doFrame (c : Nat) (x : CanFrame) (s : State) : State :=
  let y := s.canCh c
  if 12 ≤ c || !y.st.on || !speaks y.cfg x.fmt then s else
  let s := match y.filters.find? fun f => f.hits x with
    | some f => if (s.canBuf c f.buffer).dir == 1 then storeFrame c f.buffer x s
        else modCan c (fun y => { y with unmatched := y.unmatched + 1 }) s
    | none => modCan c (fun y => { y with unmatched := y.unmatched + 1 }) s
  errState c (recDown c s)

/-- RECEIVE_ERROR (R376). -/
def doReceiveError (c : Nat) (dominantAfterFlag : Bool) (s : State) : State :=
  if 12 ≤ c || !(s.canCh c).st.on then s else
  errState c (modCan c (fun x => { x with rec_ := min 255 (x.rec_ + (if dominantAfterFlag then 8 else 1)) }) s)

/-! ## State events (R376, R381, R382) -/

/-- RECESSIVE_BITS_DETECTED (R376): a channel that was enabled or woken becomes ERROR_ACTIVE. -/
def doRecessive (c : Nat) (s : State) : State := if (s.canCh c).joining then canEnter c .errorActive s else s

/-- RECOVERY_DELAY_EXPIRY (R376). -/
def doRecoveryDelay (c : Nat) (s : State) : State :=
  let x := s.canCh c
  if x.st == .busOff && x.cfg.recovery == 0 && x.busOffAt + x.cfg.recoveryDelay * ms ≤ s.time then canEnter c .recovering s else s

/-- RECOVERY_COMPLETE (R376). -/
def doRecoveryComplete (c : Nat) (s : State) : State :=
  if (s.canCh c).st == .recovering then canEnter c .errorActive s else s

/-- CAN_SELF_TEST (R381): a fault excludes the channel until the next supply-on start-up. -/
def doCanSelfTest (c : Nat) (good : Bool) (s : State) : State :=
  if good || 12 ≤ c then s else canEnter c .excluded s

/-- Whether a sleeping channel is woken by what it sees, and its frame error counter afterwards (R382). -/
def wakeBy (c : Nat) (x : CanCh) (w : WakeSeen) : Bool × Nat :=
  let (ide, dlc, id, mask, data) := x.wuf
  match w with
  | .dominant ns => (x.wake == 1 && 1000 ≤ ns, x.wufErr)
  | .frame i e d v =>
    if x.wake == 2 && c < 4 then
      (((i ^^^ id) &&& mask) == 0 && b2n e == ide && d == dlc && (v &&& data) != 0, x.wufErr - 1)
    else (false, x.wufErr)
  | .fdFrame => (false, x.wufErr)
  | .badFrame => if x.wake == 2 && c < 4 then (decide (31 < x.wufErr + 1), x.wufErr + 1) else (false, x.wufErr)

/-- Whether CAN_WAKE wakes its channel. -/
def canWakes (c : Nat) (w : WakeSeen) (s : State) : Bool := (s.canCh c).st == .sleep && (wakeBy c (s.canCh c) w).1

/-- CAN_WAKE (R382): the channel notes the wake and stays in SLEEP. -/
def doCanWake (c : Nat) (w : WakeSeen) (s : State) : State :=
  if (s.canCh c).st != .sleep then s else
  let (hit, n) := wakeBy c (s.canCh c) w
  let s := modCan c (fun x => { x with wufErr := n, wakeSeen := x.wakeSeen || hit }) s
  if hit then canEvent c 5 none 0 0 (noteSet 0x0F (0x20000 * (c + 1)) 25 s) else s

/-! ## Schedule events (R383, R384) -/

/-- TT_TRIGGER (R384). -/
def doTtTrigger (c trigger : Nat) (s : State) : State :=
  let x := s.canCh c
  match x.tt.bind fun t => t.triggers[trigger]?.map fun g => (t, g) with
  | none => s
  | some (t, g) =>
    if !(ttOn c s && x.ttRun && x.st.on && g.applies x.cycleCount && x.cycleAt + g.mark * t.ntu == s.time) then s
    else if g.kind == 0 then
      if (s.canBuf c g.buffer).tx == .pending && x.cfg.mode == 0 && !x.bufs.any (fun b => b.tx == .active) then
        startAttempt c g.buffer s else s
    else
      let hit := (s.canBuf c g.buffer).checked
      let s := modBuf c g.buffer (fun b => { b with checked := false }) s
      if hit then s else canEvent c 7 (some g.buffer) 0 0 (modCan c (fun x => { x with ttMissed := x.ttMissed + 1 }) s)

/-- The identifier of the module's reference message (R383). -/
def refIdent (t : CanTt) (prio : Nat) : Nat := t.refId / 8 * 8 + prio % 8

/-- Global time in NTU (R318). -/
def globalNtu (t : CanTt) (s : State) : Nat :=
  ((if s.tim.st == .free then (s.time : Int) else (s.time : Int) + s.tim.o) / (t.ntu : Int)).toNat

/-- TT_REFERENCE (R318, R383). -/
def doTtReference (c : Nat) (r : TtRef) (s : State) : State :=
  let x := s.canCh c
  match x.tt with
  | none => s
  | some t =>
    if !(ttOn c s && x.st.on) then s else
    let now := s.time
    match r with
    | .send =>
      if x.otherMaster || x.cfg.mode != 0 || (x.ttRun && now < x.cycleAt + t.cycle * t.ntu) then s else
      let n := if x.ttRun then (x.cycleCount + 1) % t.cycles else 0
      let data := le 1 n ++ zeros 1 ++ le 2 (globalNtu t s % 65536)
      let s := modCan c (fun x => { x with ttRun := true, cycleCount := n, cycleAt := now }) s
      { s with can := { s.can with sent := ⟨now, c, refIdent t s.tim.cfg.ttcanPrio, false, data⟩ :: s.can.sent } }
    | .received n prio =>
      modCan c (fun x => { x with ttRun := true, cycleCount := n % 64, cycleAt := now, otherMaster := prio < s.tim.cfg.ttcanPrio }) s
    | .watchExpired =>
      if x.ttRun && x.cycleAt + (t.cycle + t.watch) * t.ntu ≤ now then
        canEvent c 6 none 0 0 (modCan c (fun x => { x with ttRun := false, otherMaster := false }) s)
      else s

/-! ## Address claiming (R385) -/

/-- The address that a module tries after losing one: its range in ascending order, 0xFE when none is left. -/
def nextAddress (lost preferred first last : Nat) : Nat :=
  let from_ := if lost == preferred then first else lost + 1
  let a := if from_ == preferred then from_ + 1 else from_
  if a ≤ last then a else 0xFE

/-- ADDRESS_CLAIM_MESSAGE (R385). -/
def doClaimMsg (c : Nat) (m : ClaimMsg) (s : State) : State :=
  let x := s.canCh c
  match x.claim with
  | none => s
  | some (name, pref, first, last) =>
    if !x.st.on then s else
    match m with
    | .request => sendClaim c s
    | .claimed a other =>
      if a != x.address || 0xFE ≤ a || other == name then s
      else if other < name then sendClaim c (setAddress c (nextAddress a pref first last) s)
      else sendClaim c s

/-! ## Registers (R386 to R390) -/

/-- Whether copies of a channel's frames are being made (R388). -/
def mirroring (x : CanCh) (s : State) : Bool :=
  x.st.mirrors && x.cfg.standby < 12 && (s.canCh x.cfg.standby).st == .errorActive

/-- `CAN_STATUS` (R388). -/
def canStatusWord (c : Nat) (s : State) : Nat :=
  let x := s.canCh c
  x.st.code * 2 ^ 29 + 2 ^ 28 * b2n x.alone + 2 ^ 27 * b2n (96 ≤ x.tec || 96 ≤ x.rec_) + 2 ^ 26 * b2n (mirroring x s)
    + 2 ^ 25 * b2n x.wakeSeen + 2 ^ 16 * x.unacked + 256 * min 255 x.tec + min 255 x.rec_

/-- `BUF_CTRL` (R390). -/
def bufCtrl (b : CanBuf) : Nat :=
  b.seq * 2 ^ 24 + 2 ^ 23 * b.slot + 2 ^ 22 * b2n b.overrun + 2 ^ 21 * b2n b.oneShot + 2 ^ 20 * b2n b.mirrored + 2 ^ 16 * b.tx.code
    + 256 * b.attempts + b.dir

/-- One word of a buffer bitmap (R389). -/
def bufBitmap (c word : Nat) (f : CanBuf → Bool) (s : State) : Nat :=
  bitsN ((((s.canCh c).bufs.drop (32 * word)).take 32).map f)

/-- One 32-bit word of the CAN register block; none at an unused offset (R436). -/
def canReadWord (off : Nat) (s : State) : Option Nat :=
  if off == 0 then some (2 ^ 31 * b2n s.can.accessFault + bitsN (s.can.ch.map fun x => x.st == .excluded))
  else if off < 0x20000 || 0x20000 * 13 ≤ off then none
  else
    let c := off / 0x20000 - 1
    let o := off % 0x20000
    let w := o / 4 % 4
    if o == 0 then some (canStatusWord c s)
    else if 0x10 ≤ o && o < 0x70 then
      match o / 16 with
      | 1 => some 0
      | 2 => some (bufBitmap c w (fun b => b.tx.open_) s)
      | 3 => some (bufBitmap c w (fun b => b.new) s)
      | 4 => some (bufBitmap c w (fun b => b.done) s)
      | 5 => some (bufBitmap c w (fun b => b.tx == .stranded) s)
      | _ => some 0
    else if 0x800 ≤ o && o < 0xA00 then some (bufCtrl (s.canBuf c ((o - 0x800) / 4)))
    else if 0x8000 ≤ o && o < 0x10000 then some ((s.canBuf c ((o - 0x8000) / 0x100)).num (o / 0x80 % 2) (o % 0x80 / 4 * 4) 4)
    else none

/-- A write of one 32-bit word by a partition; none at an unused offset (R436). -/
def canWriteWord (part off v : Nat) (mark : Bool) (s : State) : Option State :=
  if (canReadWord off s).isNone then none
  else if off == 0 then some (if bitOf v 31 then { s with can := { s.can with accessFault := false } } else s)
  else
    let c := off / 0x20000 - 1
    let o := off % 0x20000
    let w := o / 4 % 4
    if o == 0 then some (if bitOf v 25 then modCan c (fun x => { x with wakeSeen := false }) s else s)
    else if o < 0x70 then
      match o / 16 with
      | 1 => some (doTxreq c part w v s)
      | 3 => some (bitmapWrite c part w v (fun b s => modBuf c b (fun x => { x with new := false }) s) s)
      | 4 => some (bitmapWrite c part w v (fun b s => modBuf c b (fun x => { x with done := false }) s) s)
      | 6 => some (doTxabort c part w v s)
      | _ => some s
    else if o < 0xA00 then
      let b := (o - 0x800) / 4
      some (if (s.canBuf c b).owner == part then
        modBuf c b (fun x => { x with oneShot := bitOf v 21, overrun := x.overrun && !bitOf v 22 }) s else canFault s)
    else
      let b := (o - 0x8000) / 0x100
      some (if (s.canBuf c b).owner == part && !(s.canBuf c b).tx.open_ then
        modBuf c b (fun x => { (x.put (o / 0x80 % 2) (o % 0x80 / 4 * 4) (le 4 v)) with
          poison := remark x.poison [o / 4 % 64] mark }) s else canFault s)

/-! ## Commands -/

/-- The channel that a request names. -/
def canTarget (r : Req) : Option Nat := (unitIndex r.p.target 0x0F).filter (· < 12)

/-- Whether one phase of a bit timing violates R364: BRP, TSEG1, TSEG2, SJW, fewest quanta, fewest `BCLK` cycles a bit. -/
def badTiming (brp t1 t2 sjw quanta cycles : Nat) : Bool := 1 + t1 + t2 < quanta || brp * (1 + t1 + t2) < cycles || t2 < sjw

/-- `BCLK` cycles of a bit. -/
def cyc (brp t1 t2 : Nat) : Nat := brp * (1 + t1 + t2)

/-- Whether a data phase is in breach of R364 beside its own limits. -/
def badData (n d : Nat) (tdc : Bool) : Bool := n < d || (d < 80 && !tdc)

/-- The parameters of `CAN_CONFIG`. -/
def canCfgOf (b : List Byte) : CanCfg :=
  { enable := u8 b 0 == 1, mode := u8 b 1, formats := u8 b 2, recovery := u8 b 3, standby := u8 b 4, mirrorBufs := u8 b 5
    aloneLimit := u8 b 6, tdc := u8 b 7, nbrp := u16 b 8, ntseg1 := u16 b 10, ntseg2 := u8 b 12, nsjw := u8 b 13, dbrp := u8 b 14
    dtseg1 := u8 b 15, dtseg2 := u8 b 16, dsjw := u8 b 17, xbrp := u8 b 18, xtseg1 := u8 b 19, xtseg2 := u8 b 20, xsjw := u8 b 21
    xlTms := u8 b 22, pwm := [u8 b 23, u8 b 24, u8 b 25], recoveryDelay := u16 b 26, corlith := u8 b 28 == 1, req := u32 b 32
    rsp := u32 b 36 }

/-- Whether a value lies outside a range. -/
def outside (lo hi v : Nat) : Bool := v < lo || hi < v

/-- Whether a configuration has a field that `CAN_CONFIG` or R364 refuses. -/
def canCfgBad (c : Nat) (b : List Byte) : Bool :=
  let g := canCfgOf b
  let fd := bitOf g.formats 0
  let xl := bitOf g.formats 1
  let tdc := bitOf g.tdc 0
  let n := cyc g.nbrp g.ntseg1 g.ntseg2
  1 < u8 b 0 || 1 < g.mode || 3 < g.formats || 1 < g.recovery || (11 < g.standby && g.standby != 0xFF) || 32 < g.mirrorBufs
    || g.aloneLimit < 8 || outside 1 256 g.nbrp || outside 2 256 g.ntseg1 || outside 1 128 g.ntseg2 || outside 1 32 g.dbrp
    || outside 1 32 g.dtseg1 || outside 1 16 g.dtseg2 || outside 1 32 g.xbrp || outside 1 64 g.xtseg1 || outside 1 32 g.xtseg2
    || 1 < g.xlTms || 10000 < g.recoveryDelay || 1 < u8 b 28 || reservedSet b [(29, 3)] || fieldOf g.req 30 29 != 0
    || fieldOf g.rsp 30 29 != 0 || badTiming g.nbrp g.ntseg1 g.ntseg2 g.nsjw 8 160
    || (fd && (badTiming g.dbrp g.dtseg1 g.dtseg2 g.dsjw 5 20 || badData n (cyc g.dbrp g.dtseg1 g.dtseg2) tdc))
    || (xl && (c < 8 || badTiming g.xbrp g.xtseg1 g.xtseg2 g.xsjw 5 8 || badData n (cyc g.xbrp g.xtseg1 g.xtseg2) tdc))

/-- Whether the standby of a configuration is refused (`CAN_CONFIG`). -/
def canStandbyBad (c : Nat) (g : CanCfg) (s : State) : Bool :=
  if 12 ≤ g.standby then false else
  let y := s.canCh g.standby
  g.standby == c
    || !(y.cfg.nbrp == g.nbrp && y.cfg.ntseg1 == g.ntseg1 && y.cfg.ntseg2 == g.ntseg2 && y.cfg.nsjw == g.nsjw)
    || (bitOf g.formats 0 && !bitOf y.cfg.formats 0) || (bitOf g.formats 1 && !bitOf y.cfg.formats 1)
    || (y.bufs.drop (128 - g.mirrorBufs)).any fun b => b.dir == 1 || b.dir == 2

/-- What refuses `CAN_CONFIG`, in its order (step 8 of R73). -/
def chkCanConfig (r : Req) (s : State) : List (Bool × Status) :=
  let b := r.p.payload
  let c := (canTarget r).getD 12
  let g := canCfgOf b
  [ (12 ≤ c, .badParam), (!s.isHost r.port, .notOwner), (canCfgBad c b, .badParam),
    (g.enable && (s.canCh c).st != .off, .wrongState), (canStandbyBad c g s, .configRejected) ]

/-- `CAN_CONFIG` (R364, R376). -/
def effCanConfig (r : Req) (s : State) : Res × State :=
  let b := r.p.payload
  let c := (canTarget r).getD 12
  let g := canCfgOf b
  check s (chkCanConfig r s) fun _ =>
    let s := reserveBufs (modCan c (fun x => { x with cfg := g, joining := g.enable }) s)
    done (if !g.enable && (s.canCh c).st != .excluded then canEnter c .off s else s)

/-- Whether a buffer is reserved under R366. -/
def reservedBuf (c b : Nat) (s : State) : Bool := (s.canBuf c b).dir == 3 || (s.canBuf c b).owner == moduleOwner

/-- An address of an XL buffer: 4 KiB of on-chip SRAM, or 0 where there is none (R367). -/
def xlBaseOk (a : Nat) : Bool := a == 0 || (a % 64 == 0 && areaOf a == .sram && areaOf (a + 4095) == .sram)

/-- What refuses `CAN_BUFFER_SET`, in its order (step 8 of R73). -/
def chkCanBufferSet (r : Req) (s : State) : List (Bool × Status) :=
  let b := r.p.payload
  let c := (canTarget r).getD 12
  let n := u8 b 0
  [ (12 ≤ c, .badParam), (!s.isHost r.port, .notOwner),
    (127 < n || 2 < u8 b 1 || 127 < u8 b 2 || reservedSet b [(3, 1)] || !xlBaseOk (u64 b 4), .badParam),
    ((s.canBuf c n).tx.open_ || reservedBuf c n s, .wrongState) ]

/-- `CAN_BUFFER_SET` (R366). -/
def effCanBufferSet (r : Req) (s : State) : Res × State :=
  let b := r.p.payload
  let c := (canTarget r).getD 12
  let n := u8 b 0
  check s (chkCanBufferSet r s) fun _ =>
    done (modBuf c n (fun x => { x with dir := u8 b 1, owner := u8 b 2, xlBase := u64 b 4 }) s)

/-- The filter number of a target: channel and filter. -/
def filterTarget (r : Req) : Nat := ((unitIndex r.p.target 0x0F).filter fun i => decide (0x100 ≤ i) && decide (i < 0x400)).getD 0x400 - 0x100

/-- The parameters of `CAN_FILTER_SET`. -/
def filterOf (b : List Byte) : CanFilter :=
  { enable := u8 b 0 == 1, buffer := u8 b 1, formats := u8 b 2, vcid := u8 b 3, id := u32 b 4, mask := u32 b 8 }

/-- What refuses `CAN_FILTER_SET`, in its order (step 8 of R73). -/
def chkCanFilterSet (r : Req) (s : State) : List (Bool × Status) :=
  let b := r.p.payload
  let c := filterTarget r / 64
  let f := filterOf b
  [ (12 ≤ c, .badParam), (!s.isHost r.port, .notOwner),
    (1 < u8 b 0 || 127 < f.buffer || 31 < f.formats || 2 ^ 29 ≤ f.id || 2 ^ 29 ≤ f.mask || (s.canBuf c f.buffer).dir != 1, .badParam) ]

/-- `CAN_FILTER_SET` (R368). -/
def effCanFilterSet (r : Req) (s : State) : Res × State :=
  let i := filterTarget r
  check s (chkCanFilterSet r s) fun _ =>
    done (modCan (i / 64) (fun x => { x with filters := x.filters.set (i % 64) (filterOf r.p.payload) }) s)

/-- What refuses `CAN_POWER`, in its order (step 8 of R73). -/
def chkCanPower (r : Req) (s : State) : List (Bool × Status) :=
  let b := r.p.payload
  let c := (canTarget r).getD 12
  let st := (s.canCh c).st
  [ (12 ≤ c, .badParam), (!s.isHost r.port, .notOwner),
    (1 < u8 b 0 || 2 < u8 b 1 || (u8 b 1 == 2 && 4 ≤ c) || 1 < u8 b 2 || 8 < u8 b 3 || 2 ^ 29 ≤ u32 b 4 || 2 ^ 29 ≤ u32 b 8, .badParam),
    (st == .off || st == .excluded, .wrongState) ]

/-- `CAN_POWER` (R376, R382). -/
def effCanPower (r : Req) (s : State) : Res × State :=
  let b := r.p.payload
  let c := (canTarget r).getD 12
  let st := (s.canCh c).st
  check s (chkCanPower r s) fun _ =>
    if u8 b 0 == 1 then
      done (modCan c (fun x => { x with wake := u8 b 1, wuf := (u8 b 2, u8 b 3, u32 b 4, u32 b 8, u64 b 12) }) (canEnter c .sleep s))
    else done (if st == .sleep then modCan c (fun x => { x with joining := true }) s else s)

/-- What refuses `CAN_RECOVER`, in its order (step 8 of R73). -/
def chkCanRecover (r : Req) (s : State) : List (Bool × Status) :=
  let c := (canTarget r).getD 12
  [(12 ≤ c, .badParam), (!s.isHost r.port, .notOwner), ((s.canCh c).st != .busOff, .wrongState)]

/-- `CAN_RECOVER` (R376): it ends on return to ERROR_ACTIVE. -/
def effCanRecover (r : Req) (s : State) : Res × State :=
  let c := (canTarget r).getD 12
  check s (chkCanRecover r s) fun _ =>
    (.interim .queued, canEnter c .recovering (modCan c (fun x => { x with recover := some r }) s))

/-- The schedule of `CAN_TT_SET`. -/
def ttOf (b : List Byte) : CanTt :=
  { refId := u16 b 0, ntu := u16 b 2, cycle := u16 b 4, watch := u16 b 6, cycles := u8 b 8
    triggers := (List.range (u8 b 9)).map fun i =>
      let o := 16 + 8 * i
      { kind := u8 b o, buffer := u8 b (o + 1), mark := u16 b (o + 2), rep := u8 b (o + 4), offset := u8 b (o + 5) } }

/-- Whether two transmit triggers open a window at the same mark of a common basic cycle (log entry 77). -/
def ttOverlap (t : CanTt) : Bool :=
  let tx := (t.triggers.filter fun g => g.kind == 0).zipIdx
  tx.any fun a => tx.any fun b => a.2 < b.2 && a.1.mark == b.1.mark &&
    (List.range t.cycles).any fun i => a.1.applies i && b.1.applies i

/-- What refuses `CAN_TT_SET`, in its order (step 8 of R73). -/
def chkCanTtSet (r : Req) (s : State) : List (Bool × Status) :=
  let b := r.p.payload
  let c := (canTarget r).getD 12
  let t := ttOf b
  let pow := fun (n : Nat) => [1, 2, 4, 8, 16, 32, 64].contains n
  [ (12 ≤ c, .badParam), (!s.isHost r.port, .notOwner),
    (0x7FF < t.refId || outside 100 10000 t.ntu || t.ntu % 25 != 0 || t.cycle < 100 || t.watch < 1 || !pow t.cycles || 64 < u8 b 9
      || reservedSet b ((10, 6) :: (List.range (u8 b 9)).map fun i => (16 + 8 * i + 6, 2))
      || t.triggers.any (fun g => 1 < g.kind || 127 < g.buffer || !pow g.rep), .badParam),
    ((s.canCh c).st != .off, .wrongState),
    ((s.canCh c).cfg.formats != 0 || ttOverlap t || t.triggers.any (fun g => t.cycle ≤ g.mark), .configRejected) ]

/-- `CAN_TT_SET` (R383, R384). -/
def effCanTtSet (r : Req) (s : State) : Res × State :=
  let b := r.p.payload
  let c := (canTarget r).getD 12
  let t := ttOf b
  check s (chkCanTtSet r s) fun _ =>
    done (modCan c (fun x => { x with tt := some t, ttRun := false, cycleCount := 0, otherMaster := false }) s)

/-- What refuses `CAN_CLAIM`, in its order (step 8 of R73). -/
def chkCanClaim (r : Req) (s : State) : List (Bool × Status) :=
  let b := r.p.payload
  let c := (canTarget r).getD 12
  let st := (s.canCh c).st
  [ (12 ≤ c, .badParam), (!s.isHost r.port, .notOwner),
    (253 < u8 b 8 || 253 < u8 b 9 || 253 < u8 b 10 || u8 b 10 < u8 b 9 || reservedSet b [(11, 1)], .badParam),
    (st == .off || st == .excluded, .wrongState) ]

/-- `CAN_CLAIM` (R385). -/
def effCanClaim (r : Req) (s : State) : Res × State :=
  let b := r.p.payload
  let c := (canTarget r).getD 12
  check s (chkCanClaim r s) fun _ =>
    if u64 b 0 == 0 then done (setAddress c 0xFF (modCan c (fun x => { x with claim := none }) s))
    else done (sendClaim c (setAddress c (u8 b 8) (modCan c (fun x => { x with claim := some (u64 b 0, u8 b 8, u8 b 9, u8 b 10) }) s)))

/-- What refuses `CAN_STATUS`, in its order (step 8 of R73). -/
def chkCanStatus (r : Req) (s : State) : List (Bool × Status) :=
  let c := (canTarget r).getD 12
  [(12 ≤ c, .badParam)]

/-- `CAN_STATUS`. -/
def effCanStatus (r : Req) (s : State) : Res × State :=
  let c := (canTarget r).getD 12
  let x := s.canCh c
  check s (chkCanStatus r s) fun _ =>
    answer (le 4 (canStatusWord c s) ++ le 1 x.address ++ zeros 3 ++ le 4 x.unmatched ++ le 4 x.unmirrored ++ le 4 x.ttMissed
      ++ le 4 x.busOffs ++ le 8 s.time) s

end Sys2Proof.Machine
end

