-- ==== Sys2Proof/Machine/Cul.lean ====
section
/-! DEFINITION. Chapter 05: odometers and the transport model, the parcel ledger, attribution, closing, forecasts, takeover,
calibration and the rules of the CUL commands. -/
namespace Sys2Proof.Machine

/-- Change Couloir. -/
def modCul (f : CulState → CulState) (s : State) : State := { s with cul := f s.cul }

/-- A stage's configuration. -/
def State.stage (s : State) (k : Nat) : CulStage := s.cul.stages.getD k {}

/-- Length of a stage, m. -/
def stageLen (s : State) (k : Nat) : Rat := f32d (s.stage k).length

/-- The state codes of R136. -/
def CulSt.code : CulSt → Nat | .unconfigured => 0 | .stopped => 1 | .running => 2 | .draining => 3

/-- RUNNING or DRAINING. -/
def CulSt.busy (t : CulSt) : Bool := t == .running || t == .draining

/-- No parcel concerned. -/
def noParcel : Nat := 0xFFFFFFFF

/-- `CUL_EVENT`. -/
def culEvent (cause : Nat) (stage : Option Nat) (parcel : Nat) (s : State) : State :=
  event 0x0480 (unit 0x04 0) (le 1 cause ++ le 1 (stage.getD 0xFF) ++ le 1 s.cul.st.code ++ zeros 1 ++ le 4 parcel ++ le 8 s.time) [] 0x30 s

/-! ## Odometers (R111, R112) -/

/-- Odometer `k` at an instant: linear from the tick start before it; none before the history. -/
def odoAt (h : List OdoRec) (k t : Nat) : Option Rat :=
  (h.find? fun r => r.t ≤ t).map fun r => r.d.getD k 0 + r.v.getD k 0 * (((t - r.t : Nat) : Rat) / 1000000000)

/-- An instant in ns rounded to the nearest 1 µs. -/
def roundUs (t : Rat) : Nat := (roundEven (t / 1000) * 1000).toNat

/-- The earliest instant, over ticks from the oldest, at which odometer `k` reaches `d`. -/
def reachFrom (k : Nat) (d : Rat) : List OdoRec → Option Nat
  | [] => none
  | [a] => if d ≤ a.d.getD k 0 then some a.t else none
  | a :: b :: l =>
    let da := a.d.getD k 0
    let db := b.d.getD k 0
    if d ≤ da then some a.t
    else if d ≤ db then some (roundUs ((a.t : Rat) + (d - da) / (db - da) * ((b.t - a.t : Nat) : Rat)))
    else reachFrom k d (b :: l)

/-- `t_at(k, d)` (R112): none where `d` lies before the history, or is not reached yet. -/
def tAt (h : List OdoRec) (k : Nat) (d : Rat) : Option Nat :=
  match h.getLast? with
  | none => none
  | some o => if d < o.d.getD k 0 then none else reachFrom k d h.reverse

/-- The stage that a stage follows (R110, R114). -/
def prevStage (k : Nat) : Nat := if k == 6 then 2 else k - 1

/-- The upstream part of `backtrace`, at most `n` stages. -/
def backUp (s : State) : Nat → Nat → Nat → Option Nat
  | 0, _, t => some t
  | n + 1, k, t =>
    if k ≤ 1 then some t else
    let p := prevStage k
    match (odoAt s.cul.odo p t).bind fun d => tAt s.cul.odo p (d - stageLen s p) with
    | some t => backUp s n p t
    | none => none

/-- `backtrace(k, x, t)` (R114): when the material at position `x` of stage `k` entered the feederhouse. -/
def backtrace (s : State) (k : Nat) (x : Rat) (t : Nat) : Option Nat :=
  ((odoAt s.cul.odo k t).bind fun d => tAt s.cul.odo k (d - x)).bind fun t => backUp s 6 k t

/-- The dispersion of the stages before stage `k`, s. -/
def dispUp (s : State) : Nat → Nat → Rat
  | 0, _ => 0
  | n + 1, k => if k ≤ 1 then 0 else f32d (s.stage (prevStage k)).disp + dispUp s n (prevStage k)

/-- `spread(k, x)` (R114), s. -/
def spread (s : State) (k : Nat) (x : Rat) : Rat := f32d (s.stage k).disp * x / stageLen s k + dispUp s 6 k

/-- The conveying speed signal and coefficient of a belt: stages 0-6, the centre belt 7. -/
def beltInput (s : State) (k : Nat) : Nat × F32 := if k == 7 then ((s.stage 0).centre, (s.stage 0).centreCoeff) else ((s.stage k).handle, (s.stage k).coeff)

/-- The stage of a belt. -/
def beltStage (k : Nat) : Nat := if k == 7 then 0 else k

/-- A belt's velocity at a tick (R111), and whether it came out negative. -/
def beltStep (s : State) (k : Nat) : BeltV × Bool :=
  let (h, c) := beltInput s k
  let old := s.cul.belts.getD k {}
  let g := s.stage (beltStage k)
  let r := s.view h
  match (if r.fresh then valueQ r.ty r.value else none) with
  | some q =>
    let v := f32d c * q
    ({ v := maxR 0 v }, decide (v < 0))
  | none =>
    let since := old.badSince.getD s.time
    if since + g.hold * ms ≤ s.time then ({ v := f32d g.vFallback, badSince := some since, fallback := true }, false)
    else ({ old with badSince := some since }, false)

/-- The present velocity of a belt. -/
def beltV (s : State) (k : Nat) : Rat := (s.cul.belts.getD k {}).v

/-! ## Where material is -/

/-- When something happens: it has happened, it will at present velocities after some seconds, or never. -/
inductive When where
  | past (t : Nat)
  | ahead (q : Rat)
  | never
deriving DecidableEq, Repr, Inhabited

/-- Whether it has happened. -/
def When.isPast : When → Bool | .past _ => true | _ => false

/-- A distance at a velocity: seconds, or never. -/
def travel (d v : Rat) : Option Rat := if d ≤ 0 then some 0 else if v ≤ 0 then none else some (d / v)

/-- Material passes a length of belt `k` after an event. -/
def passes (s : State) (k : Nat) (len : Rat) (w : When) : When :=
  match w with
  | .past t =>
    match odoAt s.cul.odo k t with
    | none => .never
    | some d =>
      match tAt s.cul.odo k (d + len) with
      | some x => .past (max t x)
      | none => match (odoAt s.cul.odo k s.time).bind fun now => travel (d + len - now) (beltV s k) with
        | some q => .ahead q
        | none => .never
  | .ahead q => match travel len (beltV s k) with | some x => .ahead (q + x) | none => .never
  | .never => .never

/-- When crop cut at `c` in section `j` enters the feederhouse (R113). -/
def intoFeeder (s : State) (j c : Nat) : When :=
  passes s 7 (stageLen s 0) (passes s 0 (f32d ((s.stage 0).side.getD j 0)) (.past c))

/-- When material that enters the feederhouse so enters stage `k`: at most `n` stages. -/
def intoStage (s : State) : Nat → Nat → When → When
  | 0, _, w => w
  | n + 1, k, w => if k ≤ 1 then w else passes s (prevStage k) (stageLen s (prevStage k)) (intoStage s n (prevStage k) w)

/-- When material leaves stage `k`. -/
def outOfStage (s : State) (k : Nat) (w : When) : When := passes s k (stageLen s k) (intoStage s 6 k w)

/-- When the leading edge of a sub-parcel enters the feederhouse. -/
def leadIn (s : State) (p : Parcel) (j : Nat) : When :=
  match (p.blocks.getD j {}).fhStart with | some u => .past (p.cut + u * us) | none => intoFeeder s j p.cut

/-- When its trailing edge does. -/
def trailIn (s : State) (p : Parcel) (j : Nat) : When :=
  match (p.blocks.getD j {}).fhEnd with | some u => .past (p.cut + u * us) | none => intoFeeder s j (p.cut + p.tickUs * us)

/-- Whether a sub-parcel has material in a stage. -/
def holdsIn (s : State) (p : Parcel) (k j : Nat) : Bool :=
  if k == 0 then !(trailIn s p j).isPast
  else (intoStage s 6 k (leadIn s p j)).isPast && !(outOfStage s k (trailIn s p j)).isPast

/-- The active sections of a parcel. -/
def activeOf (p : Parcel) : List Nat := (p.blocks.zipIdx.filter (·.1.active)).map (·.2)

/-- Whether a parcel has material in a stage. -/
def parcelIn (s : State) (p : Parcel) (k : Nat) : Bool := (activeOf p).any fun j => holdsIn s p k j

/-- The stages upstream of a stage, itself included. -/
def upTo (k : Nat) : List Nat := if k == 6 then [0, 1, 2, 6] else List.range (k + 1)

/-- The rearmost stage that holds a parcel's material; 5 or 6, whichever it left last, once none does. -/
def rearOf (s : State) (p : Parcel) : Nat :=
  match (List.range 7).find? fun k => parcelIn s p k with
  | some k => k
  | none =>
    let last := fun (k : Nat) => (activeOf p).foldl (fun m j => match outOfStage s k (trailIn s p j) with | .past t => max m t | _ => m) 0
    if last 5 ≤ last 6 then 6 else 5

/-! ## Chain delay (R119) -/

/-- A sum in which one missing part makes the whole missing. -/
def sumOpt (l : List (Option Rat)) : Option Rat := l.foldl (fun a x => match a, x with | some p, some q => some (p + q) | _, _ => none) (some 0)

/-- The header's longest delay at two belt speeds. -/
def headerDelay (s : State) (v0 v7 : Rat) : Option Rat :=
  ((List.range s.cul.cfg.sections).map fun j => sumOpt [travel (f32d ((s.stage 0).side.getD j 0)) v0, travel (stageLen s 0) v7]).foldl
    (fun a x => match a, x with | some p, some q => some (maxR p q) | _, _ => none) (some 0)

/-- The chain delay at given stage speeds: the longer of the two paths with its spread. -/
def chainDelay (s : State) (v : Nat → Rat) (v7 : Rat) : Option Rat :=
  let path := fun (ks : List Nat) (last : Nat) =>
    (sumOpt (headerDelay s (v 0) v7 :: ks.map fun k => travel (stageLen s k) (v k))).map (· + spread s last (stageLen s last))
  match path [1, 2, 3, 4, 5] 5, path [1, 2, 6] 6 with
  | some a, some b => some (maxR a b)
  | _, _ => none

/-- The chain delay of R119: every set stage at its `v_min`. Stages not set yet count as without delay (log entry 112). -/
def chainMin (s : State) : Rat :=
  let v := fun (k : Nat) => let m := f32d (s.stage k).vMin; if m == 0 then 1000000000000 else m
  (chainDelay s v (v 0)).getD 0

/-- The chain delay at present velocities. -/
def chainNow (s : State) : Option Rat := chainDelay s (beltV s) (beltV s 7)

/-- Whether a tick in ms is refused under R119. -/
def tickRefused (s : State) (tick : Nat) : Bool := decide (((tick * 4096 : Nat) : Rat) / 1000 < chainMin s + 2)

/-! ## The ledger -/

/-- Replace the parcel of a number. -/
def setParcel (p : Parcel) (s : State) : State := modCul (fun c => { c with ledger := c.ledger.map fun q => if q.no == p.no then p else q }) s

/-- The open parcels, oldest first. -/
def openParcels (s : State) : List Parcel := (s.cul.ledger.filter (·.st == 1)).reverse

/-- A forced close's cause is reported once a tick (R126). -/
def reportClose (cause no : Nat) (s : State) : State :=
  if s.cul.reported.contains cause then s
  else culEvent cause none no (modCul (fun c => { c with reported := cause :: c.reported }) s)

/-- The sum of a section field over the active sections. -/
def sumActive (p : Parcel) (f : Section → Rat) : Rat := ((p.blocks.filter (·.active)).map f).foldl (· + ·) 0

/-- `k_cam` after a parcel has closed (R127). -/
def updateKcam (p : Parcel) (s : State) : State :=
  let k := f32d s.cul.kCam
  let pred := sumActive p fun b => (b.predMass : Rat) / 10
  let act := p.blocks.filter (·.active)
  if p.flags % 256 != 0 || !bitOf p.slotMask 0 || act.any (fun b => b.fromLoad || b.fromHistory) || decide (pred ≤ 0)
      || decide (f32d p.kCam ≤ 0) || decide (k ≤ 0) then s else
  let r := sumActive p (fun b => f32d (b.slots.getD 0 0)) / (pred / f32d p.kCam)
  if decide (r / k < 1 / 5) || decide (5 < r / k) then s
  else modCul (fun c => { c with kCam := qf32 (clampR (k + f32d c.cfg.kGain * (r - k)) (1 / 10) 10) }) s

/-- The mass per metre of travel and active section of a closed parcel without flags enters the history of R129. -/
def noteHistory (p : Parcel) (s : State) : State :=
  let d := f32d p.speed * (p.tickUs : Rat) / 1000000
  let n := (activeOf p).length
  if p.flags % 256 != 0 || n == 0 || decide (d ≤ 0) then s
  else
    let x := sumActive p (fun b => f32d (b.slots.getD 0 0)) / (n : Rat) / d
    modCul (fun c => { c with history := (x :: c.history).take 100 }) s

/-- A parcel closes (R125, R126) and passes to the yield map. -/
def closeParcel (p : Parcel) (s : State) : State :=
  let p := { p with st := 2, closed := s.time }
  let s := setParcel p s
  let s := noteHistory p (updateKcam p s)
  modCul (fun c => { c with lastClosed := p.no, toMap := c.toMap ++ [p] }) s

/-- A forced close with a flag and its cause (R126). -/
def forceClose (flag cause : Nat) (p : Parcel) (s : State) : State :=
  let fl := if bitOf p.flags flag then p.flags else p.flags + 2 ^ flag
  let s := closeParcel { p with flags := fl } s
  let s := modCul (fun c => { c with overruns := c.overruns + b2n (cause == 0), aged := c.aged + b2n (cause == 1) }) s
  reportClose cause p.no s

/-- A parcel whose line reads as poisoned closes, every slot and predicted mass read as 0 (R138). -/
def closePoisoned (p : Parcel) (s : State) : State :=
  forceClose 2 2 { p with slotMask := 0, user := [0, 0, 0], blocks := p.blocks.map fun b =>
    { b with predMass := 0, slots := List.replicate 7 0, moistW := 0, camW := 0 } } s

/-- Whether a parcel closes by itself at a tick start (R125). -/
def closesNow (s : State) (p : Parcel) : Bool :=
  let ends := (activeOf p).map fun j => p.cut + ((p.blocks.getD j {}).fhEnd.getD 0) * us
  let past := fun (k : Nat) => match backtrace s k (stageLen s k) s.time with | some t => ends.all (· ≤ t) | none => false
  let seen := fun (x : CulSensor) =>
    match backtrace s x.stage (f32d x.position) s.time with
    | some t => ends.all fun e => decide ((e : Rat) < (t : Rat) - spread s x.stage (f32d x.position) * 1000000000)
    | none => false
  if ends.isEmpty then true
  else p.blocks.all (fun b => b.fhEnd.isSome) && past 5 && past 6 && (s.cul.sensors.filter (·.kind != 0)).all seen

/-- Feederhouse bounds that the odometers have reached are written (R113). -/
def writeBounds (p : Parcel) (s : State) : Parcel :=
  { p with blocks := p.blocks.zipIdx.map fun e =>
      let rel := fun (w : When) => match w with | .past t => some ((t - p.cut) / us) | _ => none
      let b := e.1
      let fs := match b.fhStart with | some u => some u | none => rel (intoFeeder s e.2 p.cut)
      let fe := match b.fhEnd with | some u => some u | none => rel (intoFeeder s e.2 (p.cut + p.tickUs * us))
      { b with fhStart := fs, fhEnd := fe } }

/-! ## Attribution (R121 to R124) -/

/-- A quantity that is not attributed (R122, R123). -/
def unattribute (slot : Nat) (q : Rat) (s : State) : State :=
  modCul (fun c => { c with unattributed := c.unattributed + 1, unattr := updAt c.unattr slot (· + q) }) s

/-- The sub-parcels of parcels in a state that overlap a window, each with its overlap over its length: parcel number,
section, relative overlap, predicted mass. -/
def candidates (s : State) (st : Nat) (lo hi : Rat) : List (Nat × Nat × Rat × Rat) :=
  (s.cul.ledger.filter fun p => p.st == st && !p.poison).flatMap fun p =>
    p.blocks.zipIdx.filterMap fun e =>
      match e.1.active, e.1.fhStart, e.1.fhEnd with
      | true, some a, some b =>
        let fs : Rat := ((p.cut + a * us : Nat) : Rat)
        let fe : Rat := ((p.cut + b * us : Nat) : Rat)
        if fs < fe && fs ≤ hi && lo < fe then some (p.no, e.2, (minR hi fe - maxR lo fs) / (fe - fs), (e.1.predMass : Rat) / 10) else none
      | _, _, _ => none

/-- Add a share to a slot of a section block or of the parcel header (R116, R117, R121). -/
def addShare (slot j : Nat) (x share : Rat) (level : Bool) (p : Parcel) : Parcel :=
  let plus := fun (a : F32) (q : Rat) => f32Add a (qf32 q)
  let p := { p with slotMask := if bitOf p.slotMask slot then p.slotMask else p.slotMask + 2 ^ slot }
  if 7 ≤ slot then { p with user := updAt p.user (slot - 7) (plus · x) }
  else { p with blocks := updAt p.blocks j fun b =>
    { b with slots := updAt b.slots slot (plus · x)
             moistW := if level && slot == 4 then plus b.moistW share else b.moistW
             camW := if level && slot == 5 then plus b.camW share else b.camW } }

/-- One sample with its interval is attributed (R123). -/
def attributeSample (x : CulSensor) (ta tb : Nat) (q : Rat) (s : State) : State :=
  let pos := f32d x.position
  let scale := f32d x.scale
  let w := spread s x.stage pos * 1000000000
  let q := if x.kind == 2 then q * (((tb : Int) - (ta : Int) : Int) : Rat) / 1000000000 else q
  match backtrace s x.stage pos ta, backtrace s x.stage pos tb with
  | some a, some b =>
    let lo : Rat := (a : Rat) - w
    let hi : Rat := (b : Rat) + w
    let cand := candidates s 1 lo hi
    if cand.isEmpty then
      let lost := (candidates s 2 lo hi).map (·.1)
      let s := unattribute x.slot (q * scale) s
      if lost.isEmpty then s else
      modCul (fun c => { c with
        lateLost := c.lateLost + 1
        ledger := c.ledger.map fun p => if lost.contains p.no && !bitOf p.flags 6 then { p with flags := p.flags + 64 } else p }) s
    else
      let byMass := (cand.map fun c => c.2.2.1 * c.2.2.2).foldl (· + ·) 0
      let wt := fun (c : Nat × Nat × Rat × Rat) => if byMass == 0 then c.2.2.1 else c.2.2.1 * c.2.2.2
      let total := (cand.map wt).foldl (· + ·) 0
      -- a window and sub-parcels that meet in single points have no overlap to share by: the spec states no result (log entry 116)
      let (free, s) := if total == 0 then takeFreeRat s else (0, s)
      let share := fun (c : Nat × Nat × Rat × Rat) => f64d (qf64 (if total == 0 then free else wt c / total))
      modCul (fun k => { k with ledger := k.ledger.map fun p =>
        (cand.filter (·.1 == p.no)).foldl (fun p c => addShare x.slot c.2.1 (share c * q * scale) (share c) (x.kind == 3) p) p }) s
  | _, _ => unattribute x.slot (q * scale) s

/-- One sample of sensor `n` (R122). -/
def takeSample (n : Nat) (r : Rec) (s : State) : State :=
  let x := s.cul.sensors.getD n {}
  let prev := s.cul.prev.getD n none
  let s := modCul (fun c => { c with prev := c.prev.set n (some r.stamp) }) s
  let value := if r.fresh then valueQ r.ty r.value else none
  match prev with
  | none => s
  | some ta =>
    match value with
    | none => modCul (fun c => { c with unattributed := c.unattributed + 1 }) s
    | some q =>
      let s := match s.cul.cal with
        | some k => if k.sensor == n then
            let amount := (if x.kind == 2 then q * (((r.stamp : Int) - (ta : Int) : Int) : Rat) / 1000000000 else q) * f32d x.scale
            if r.stamp < k.start then s else
            let i := (r.stamp - k.start) / (s.cul.cfg.tick * ms)
            modCul (fun c => { c with cal := some { k with ys := aset k.ys i ((aget k.ys i).getD 0 + amount) } }) s
          else s
        | none => s
      if s.cul.cfg.lateLimit * ms < r.received - r.stamp then
        let amount := if x.kind == 2 then q * (((r.stamp : Int) - (ta : Int) : Int) : Rat) / 1000000000 else q
        unattribute x.slot (amount * f32d x.scale) s
      else attributeSample x ta r.stamp q s

/-- The section positions of a record (R340): east and north in mm. -/
def sectionPos (r : Rec) : Int × Int := (sextN 32 (r.value.toNat % 2 ^ 32), sextN 32 (r.value.toNat / 2 ^ 32))

/-- Publications of section positions that have arrived are kept (R130). -/
def takePoses (s : State) : State :=
  let base := s.cul.cfg.poseBase
  let mine := fun (h : Nat) => base ≤ h && h < base + s.cul.cfg.sections
  let new := (s.sig.inbox.filter fun e => mine e.1).map fun e =>
    let p := sectionPos e.2
    (e.1 - base, e.2.stamp, p.1, p.2, e.2.quality, e.2.confidence)
  let s := { s with sig := { s.sig with inbox := s.sig.inbox.filter fun e => !mine e.1 } }
  modCul (fun c => { c with poses := (new.reverse ++ c.poses).take 4096 }) s

/-- The samples due at a tick, in stamp order and then by sensor number (R122, R124). -/
def attributeDue (s : State) : State :=
  let now := s.time
  let due := s.sig.inbox.filter fun e => e.2.stamp ≤ now
  let jobs := due.flatMap fun e => (s.cul.sensors.zipIdx.filter fun x => x.1.kind != 0 && x.1.handle == e.1).map fun x => (e.2.stamp, x.2, e.2)
  let jobs := sortBy (fun a b => decide (a.1 < b.1 || (a.1 == b.1 && a.2.1 ≤ b.2.1))) jobs
  let s := { s with sig := { s.sig with inbox := s.sig.inbox.filter fun e => now < e.2.stamp } }
  jobs.foldl (fun s j => takeSample j.2.1 j.2.2 s) s

/-! ## Predicted mass (R128, R129) -/

/-- The bytes of a block signal: what a unit of the module keeps for it, or memory at its address (R49). -/
def blockBytes (h : Nat) (s : State) : List Byte :=
  match (aget s.sig.blocks h).bind List.head? with
  | some b => b.2
  | none => let r := s.view h; memReadList s.mem.bytes r.value.toNat r.blockLen

/-- The profile as the snapshot has it (R128). -/
structure Profile where
  origin : Nat
  step : Rat
  count : Nat
  /-- grain per metre of travel at point i of section j, g/m -/
  bytes : List Byte
  q : Quality
  conf : Nat
deriving DecidableEq, Repr, Inhabited

/-- Density of point `i` for section `j`. -/
def Profile.dens (p : Profile) (i j : Nat) : Rat := f32d (bits32 p.bytes (64 + 32 * i + 4 * j))

/-- The profile, where it is usable. -/
def profileOf (s : State) : Option Profile :=
  let h := s.cul.cfg.profile
  let r := s.view h
  if h == 0 || !r.fresh || r.ty != 5 then none else
  let b := blockBytes h s
  some { origin := u64 b 0, step := f32d (bits32 b 8), count := u16 b 12, bytes := b, q := r.quality, conf := r.confidence }

/-- The number that a usable record holds. -/
def usableQ (h : Nat) (s : State) : Option Rat :=
  if h == 0 then none else
  let r := s.view h
  if r.fresh then valueQ r.ty r.value else none

/-- The handle of the ground speed. -/
def groundHandle (s : State) : Nat := s.cul.cfg.ground.getD (s.handle 544)

/-- Ground distance travelled since an instant, m. -/
def groundSince (s : State) (t : Nat) : Option Rat :=
  match odoAt s.cul.odo 8 s.time, odoAt s.cul.odo 8 t with
  | some a, some b => some (a - b)
  | _, _ => none

/-- Predicted mass of a section in g, with confidence, and whether it came from the header load or from history (R129). -/
def predict (s : State) (j nActive : Nat) (vg : Rat) : Rat × Nat × Bool × Bool :=
  let tick : Rat := (s.cul.cfg.tick : Rat) / 1000
  let cam : Option (Rat × Nat) := (profileOf s).bind fun p =>
    match groundSince s p.origin with
    | none => none
    | some g =>
      let a := g + vg * tick / 2
      let x := a / p.step
      if p.count == 0 || decide (p.step ≤ 0) || decide (a < 0) || decide (((p.count - 1 : Nat) : Rat) < x) then none else
      let i := x.floor.toNat
      let f := x - (i : Rat)
      let d := if f == 0 then p.dens i j else p.dens i j + f * (p.dens (i + 1) j - p.dens i j)
      some (d * vg * tick * f32d s.cul.kCam, p.conf)
  match cam with
  | some x => (x.1, x.2, false, false)
  | none =>
    match usableQ s.cul.cfg.hdrLoad s with
    | some l => (l * 1000000 / 3600 * tick / (nActive : Rat), (s.view s.cul.cfg.hdrLoad).confidence / 2, true, false)
    | none =>
      let h := s.cul.history
      if h.isEmpty then (0, 0, false, true)
      else (h.foldl (· + ·) 0 / (h.length : Rat) * vg * tick, 32, false, true)

/-- A mass in 0.1 g, saturating (R117). -/
def mass16 (g : Rat) : Nat := min 65535 (roundEven (g * 10)).toNat

/-! ## Forecast (R131 to R134) -/

/-- Add a mass to the bin of an instant `q` seconds after t0. -/
def addBin (f : List Rat) (q g : Rat) : List Rat :=
  let i := roundEven (q / (1 / 20))
  if 0 ≤ i && i ≤ 80 then updAt f i.toNat (· + g) else f

/-- Time from the cut of section `j` until the material enters stage `k`, at present velocities. -/
def transitTo (s : State) (j k : Nat) : Option Rat :=
  if k == 0 then some 0 else
  sumOpt ([travel (f32d ((s.stage 0).side.getD j 0)) (beltV s 0), travel (stageLen s 0) (beltV s 7)]
    ++ ((upTo k).filter fun x => 1 ≤ x && x != k).map fun x => travel (stageLen s x) (beltV s x))

/-- The uncut crop ahead: (seconds until cut, section, grams) (R131). -/
def uncut (s : State) (active : List Nat) (vg : Rat) : List (Rat × Nat × Rat) :=
  if vg ≤ 0 then [] else
  match (profileOf s).bind fun p => (groundSince s p.origin).map fun g => (p, g) with
  | some (p, g) =>
    (List.range p.count).flatMap fun (i : Nat) =>
      let a := ((i : Nat) : Rat) * p.step - g
      if a < 0 then [] else active.map fun j => (a / vg, j, p.dens i j * p.step * f32d s.cul.kCam)
  | none =>
    match usableQ s.cul.cfg.hdrLoad s with
    | some l =>
      let g := l * 1000000 / 3600 * (1 / 20) / (active.length : Rat)
      (List.range 81).flatMap fun (i : Nat) => active.map fun j => (((i : Nat) : Rat) / 20, j, g)
    | none => []

/-- The first instant, in seconds, at which material of the new ledger reaches stage `k`; 0 where it has, and for the header, which all crop
that is still uncut enters (R137). -/
def firstTracked (s : State) (active : List Nat) (k : Nat) : Option Rat :=
  let secs := fun (w : When) => match w with | .past _ => some 0 | .ahead q => some q | .never => none
  if k == 0 then some 0 else
  let l := (openParcels s).flatMap fun p => (activeOf p).filterMap fun j => secs (intoStage s 6 k (leadIn s p j))
  let l := if l.isEmpty then active.filterMap fun j => transitTo s j k else l
  l.foldl (fun (m : Option Rat) q => match m with | some x => some (minR x q) | none => some q) none

/-- The flow into stage `k` over the horizon, t/h (R131, R137). -/
def forecastFlow (s : State) (active : List Nat) (vg : Rat) (k : Nat) : List Rat :=
  let f : List Rat := List.replicate 81 0
  let f := (uncut s active vg).foldl (fun f e => match transitTo s e.2.1 k with | some q => addBin f (e.1 + q) e.2.2 | none => f) f
  let f := if k == 0 then f else (openParcels s).foldl (fun f p => (activeOf p).foldl (fun f j =>
      match intoStage s 6 k (leadIn s p j) with
      | .ahead q => addBin f q ((p.blocks.getD j {}).predMass / 10 : Rat)
      | _ => f) f) f
  let f := f.map fun g => g / (1 / 20) * (36 / 10000)
  match s.cul.refill with
  | some (_, flow) =>
    let lim := firstTracked s active k
    f.zipIdx.map fun e => if (match lim with | some q => decide ((e.2 : Rat) / 20 < q) | none => true) then e.1 + f32d flow else e.1
  | none => f

/-- Quality and confidence of a forecast over the inputs it used (R134, R137). -/
def forecastQC (s : State) (k : Nat) : Quality × Nat :=
  let belt := fun (i : Nat) =>
    let r := s.view (beltInput s i).1
    let b := s.cul.belts.getD i {}
    (if b.fallback then Quality.substituted else r.quality, r.confidence)
  let belts := ((upTo k).flatMap fun i => if i == 0 then [0, 7] else [i]).map belt
  let g := s.view (groundHandle s)
  let src := match (profileOf s).bind fun p => (groundSince s p.origin).map fun _ => p with
    | some p => [(p.q, p.conf)]
    | none => match usableQ s.cul.cfg.hdrLoad s with
      | some _ => let r := s.view s.cul.cfg.hdrLoad; [(deriveQuality [r.quality, .substituted], r.confidence)]
      | none => []
  let all := (g.quality, g.confidence) :: src ++ belts
  let q := deriveQuality (all.map (·.1))
  (if s.cul.refill.isSome then deriveQuality [q, .substituted] else q, deriveConf (all.map (·.2)))

/-- Publish one forecast, through the ring of its stage (R132). -/
def publishForecast (active : List Nat) (vg : Rat) (k : Nat) (s : State) : State :=
  let flow := (forecastFlow s active vg k).flatMap fun q => le 4 (qf32 q).toNat
  let (q, c) := forecastQC s k
  pubRing (320 + k) (le 8 s.time ++ le 4 50000 ++ le 2 81 ++ le 2 k ++ zeros 48 ++ flow ++ zeros 60) q c s.time s

/-- A number of seconds as binary32, an infinity where it never ends. -/
def secs32 (o : Option Rat) : F32 := match o with | some q => qf32 q | none => f32Inf false

/-- The scalar signals of Couloir (R135). -/
def publishCulScalars (s : State) : State :=
  let pub := fun (loc : Nat) (v : F32) (s : State) => pubHw loc 3 (f32v v) .valid s.time 0 s
  let s := (List.range 7).foldl (fun s k =>
    pub (334 + k) (secs32 (if k == 0 then headerDelay s (beltV s 0) (beltV s 7) else travel (stageLen s k) (beltV s k)))
      (pub (327 + k) (qf32 (beltV s k)) s)) s
  let s := pub 341 (secs32 (chainNow s)) s
  let s := pubHw 342 0 (BitVec.ofNat 64 (openParcels s).length) .valid s.time 0 s
  let s := pubHw 343 0 (BitVec.ofNat 64 s.cul.lastClosed) .valid s.time 0 s
  let s := pub 344 s.cul.kCam s
  let s := pub 345 (qf32 (s.cul.unattr.getD 0 0)) s
  pubHw 346 0 (BitVec.ofNat 64 s.cul.st.code) .valid s.time 0 s

/-- The forecasts hold their last value and carry STALE (R134). -/
def staleForecasts (s : State) : State :=
  (List.range 7).foldl (fun s k =>
    let r := s.ownRec (320 + k)
    if r.quality == .noValue then s else s.setOwn (320 + k) { r with quality := .stale }) s

/-! ## States (R136, R137) -/

/-- Couloir changes its state; on a module that only holds its configuration nothing is published (R107, R137). A calibration ends when RUNNING is left (`CUL_CAL_RUN`), and no sample is taken any more
outside RUNNING and DRAINING. -/
def culEnter (st : CulSt) (s : State) : State :=
  if s.cul.st == st then s else
  let s := modCul (fun c => { c with st := st }) s
  if !s.acting then s else
  let s := culEvent 8 none noParcel s
  let s := match s.cul.cal with
    | some k => if st == .running then s else finish k.req .wrongState [] (modCul (fun c => { c with cal := none }) s)
    | none => s
  let s := if st.busy then s else { s with sig := { s.sig with watch := [], inbox := [] } }
  let s := pubHw 342 0 (BitVec.ofNat 64 (openParcels s).length) .valid s.time 0 s
  pubHw 346 0 (BitVec.ofNat 64 st.code) .valid s.time 0 s

/-- Couloir stops at once: every open parcel closes with `STOPPED` (R136). -/
def culStopNow (s : State) : State :=
  if !s.cul.st.busy then s else
  let s := modCul (fun c => { c with reported := [] }) s
  let s := (openParcels s).foldl (fun s p => forceClose 3 3 p s) s
  culEnter .stopped s

/-- A hardware fault of Couloir (R136, R138): it stops, and its forecasts are STALE. -/
def culFault (s : State) : State := if s.cul.st.busy then staleForecasts (culStopNow s) else s

/-- A module that is no manager any more runs no Couloir (R107): its signals read NO_VALUE. -/
def culStandDown (s : State) : State :=
  clearLocals 320 32 (modCul (fun c => { c with st := if c.configured then .stopped else .unconfigured, takeover := none }) (culStopNow s))

/-- The handles that Couloir takes samples and positions from. -/
def culWatch (s : State) : List Nat :=
  ((s.cul.sensors.filter (·.kind != 0)).map (·.handle)) ++ (List.range s.cul.cfg.sections).map (s.cul.cfg.poseBase + ·)

/-- Couloir starts with an empty ledger (R136). -/
def culBegin (kCam : F32) (s : State) : State :=
  let s := modCul (fun c => { c with
    ledger := [], nextNo := 0, kCam := kCam, odo := [], prev := List.replicate 32 none, belts := List.replicate 8 {}, slow := false
    overruns := 0, aged := 0, lateLost := 0, unattributed := 0, unattr := List.replicate 10 0, history := [], poses := [], refill := none }) s
  let s := { s with sig := { s.sig with watch := culWatch s, inbox := [] }, map := { s.map with prevAt := none } }
  culEnter .running s

/-- Takeover by the deputy (R137): RUNNING from its first tick where the mirrored state was RUNNING or DRAINING. -/
def culTakeover (s : State) : State :=
  match s.cul.mirror with
  | some (st, k, flow) =>
    if (st == 2 || st == 3) && s.cul.configured then modCul (fun c => { c with takeover := some (k, flow) }) s else s
  | none => s

/-- At its first tick after a takeover Couloir runs, with an empty ledger and the refill flag set (R137). -/
def culFirstTick (s : State) : State :=
  match s.cul.takeover with
  | some (k, flow) => modCul (fun c => { c with refill := some (0, flow), takeover := none }) (culBegin k s)
  | none => s

/-- REFILL_END (R137): one chain delay after the takeover's first tick. -/
def doRefillEnd (s : State) : State :=
  match s.cul.refill with
  | some (until_, _) => if until_ != 0 && until_ ≤ s.time then modCul (fun c => { c with refill := none }) s else s
  | none => s

/-! ## The tick (R120) -/

/-- Stages on fallback are reported, and their material's parcels are flagged (R111); both belts of the header are one stage. -/
def noteFallback (old : List BeltV) (s : State) : State :=
  let on := fun (l : List BeltV) (g : Nat) => (l.getD g {}).fallback || (g == 0 && (l.getD 7 {}).fallback)
  (List.range 7).foldl (fun s g =>
    let was := on old g
    let is := on s.cul.belts g
    let mark := fun (p : Parcel) =>
      if p.st == 1 && !bitOf p.flags 4 && parcelIn s p g then { p with flags := p.flags + 16 } else p
    let s := if is then modCul (fun c => { c with ledger := c.ledger.map mark }) s else s
    if was == is then s else culEvent (if is then 4 else 5) (some g) noParcel s) s

/-- Material against the conveying direction flags its parcels (R111). -/
def noteReversed (rev : List Nat) (s : State) : State :=
  rev.foldl (fun s k =>
    let mark := fun (p : Parcel) =>
      if p.st == 1 && !bitOf p.flags 7 && (upTo (beltStage k)).any (fun g => parcelIn s p g)
      then { p with flags := p.flags + 128 } else p
    modCul (fun c => { c with ledger := c.ledger.map mark }) s) s

/-- The cut signal, the active sections and the ground speed of a tick (R108, R109): whether it is a cutting tick. -/
def cutting (s : State) : Bool × List Nat × Option Rat :=
  let c := s.cul.cfg
  let r := s.view c.cut
  let cut := c.cut != 0 && r.fresh && r.value.toNat % 2 == 1
  let act := (List.range c.sections).filter fun j =>
    c.sectionBase == 0 || (let x := s.view (c.sectionBase + j); x.fresh && x.value.toNat % 2 == 1)
  let vg := usableQ (groundHandle s) s
  (cut && vg.any (fun v => decide (f32d c.minSpeed ≤ v)) && !act.isEmpty, act, vg.map (· * 5 / 18))

/-- Velocities and odometers advance (R111, R112). -/
def advance (vg : Option Rat) (s : State) : State :=
  let steps := (List.range 8).map fun k => beltStep s k
  let old := s.cul.belts
  let ground := vg.getD ((s.cul.odo.head?.map fun r => r.v.getD 8 0).getD 0)
  let v := (steps.map fun x => x.1.v) ++ [ground]
  let d := match s.cul.odo with
    | r :: _ => (r.d.zip r.v).map fun x => f64d (qf64 (x.1 + x.2 * (((s.time - r.t : Nat) : Rat) / 1000000000)))
    | [] => List.replicate 9 0
  let now := s.time
  let s := modCul (fun c => { c with belts := steps.map (·.1), odo := ({ t := now, d := d, v := v } :: c.odo).take 4097 }) s
  let s := modCul (fun c => { c with ledger := c.ledger.map fun p => if p.st == 1 then writeBounds p s else p }) s
  let s := noteFallback old s
  noteReversed ((steps.zipIdx.filter (·.1.2)).map (·.2)) s

/-- Parcels close at the tick start (R125, R126, R138). -/
def closeDue (s : State) : State :=
  (openParcels s).foldl (fun s p =>
    let p := { p with rear := rearOf s p }
    if p.poison then closePoisoned p s
    else if closesNow s p then closeParcel p s
    else if p.cut + s.cul.cfg.maxAge * sec ≤ s.time then forceClose 1 1 p s
    else setParcel p s) s

/-- The parcel of a cutting tick is allocated (R108, R115, R129). -/
def allocate (act : List Nat) (vg : Rat) (slow : Bool) (s : State) : State :=
  let no := s.cul.nextNo
  let s := match s.cul.ledger.find? fun p => p.no % 4096 == no % 4096 with
    | some p =>
      let s := if p.st == 1 then forceClose 0 0 p s else s
      modCul (fun c => { c with ledger := c.ledger.filter fun q => q.no != p.no }) s
    | none => s
  let blocks := (List.range s.cul.cfg.sections).map fun j =>
    if act.contains j then
      let x := predict s j act.length vg
      ({ active := true, predMass := mass16 x.1, conf := x.2.1, fromLoad := x.2.2.1, fromHistory := x.2.2.2 } : Section)
    else {}
  let p : Parcel := { no := no, st := 1, cut := s.time, sections := s.cul.cfg.sections, flags := if slow then 32 else 0
                      tickUs := s.cul.cfg.tick * 1000, speed := qf32 vg, kCam := s.cul.kCam, poseConf := 255, blocks := blocks }
  modCul (fun c => { c with ledger := p :: c.ledger, nextNo := (no + 1) % 2 ^ 32 }) s

/-- The flag `SLOW` (R111). -/
def slowStep (isCut : Bool) (s : State) : State :=
  let slow := isCut && (List.range 8).any fun k => decide (beltV s k < f32d (s.stage (beltStage k)).vMin)
  if slow == s.cul.slow then s else culEvent (if slow then 6 else 7) none noParcel (modCul (fun c => { c with slow := slow }) s)

/-- A calibration takes its part of a tick (R140). -/
def calTick (s : State) : State :=
  match s.cul.cal with
  | none => s
  | some k =>
    let x := s.cul.sensors.getD k.sensor {}
    let tick := s.cul.cfg.tick * ms
    let xs := ((s.cul.ledger.flatMap fun p => p.blocks.filterMap fun b => b.fhStart.map fun u => (p.cut + u * us, (b.predMass : Rat) / 10)).filter
      fun e => s.time ≤ e.1 + tick && e.1 < s.time && k.start ≤ e.1).foldl (fun l e =>
        let i := (e.1 - k.start) / tick
        aset l i ((aget l i).getD 0 + e.2)) k.xs
    if s.time < k.start then s else
    let tr := match backtrace s x.stage (f32d x.position) s.time with
      | some t => k.transits ++ [((s.time - t : Nat) : Rat)]
      | none => k.transits
    modCul (fun c => { c with cal := some { k with xs := xs, transits := tr, vels := k.vels ++ [beltV s k.stage] } }) s

/-- COULOIR_TICK (R120). The map's part of the tick follows in chapter 07's own definition. -/
def doCouloirTick (s : State) : State :=
  let tick := s.cul.cfg.tick * ms
  if !s.acting || !onGrid tick s then s
  else
    let s := culFirstTick s
    if !s.cul.st.busy then staleForecasts s else
    let s := modCul (fun c => { c with reported := [], lastTick := s.time }) s
    let (isCut, act, vg) := cutting s
    let s := takePoses (advance vg s)
    let s := match s.cul.refill with
      | some (0, f) =>
        let d := (chainNow s).getD (chainMin s)
        modCul (fun c => { c with refill := some (s.time + (d * 1000000000).floor.toNat, f) }) s
      | _ => s
    let s := closeDue s
    let s := attributeDue s
    let s := slowStep isCut s
    let s := modCul (fun c => { c with profileLost := c.cfg.profile != 0 && (profileOf s).isNone
                                       loadLost := c.cfg.hdrLoad != 0 && (usableQ c.cfg.hdrLoad s).isNone }) s
    let s := if isCut && s.cul.st == .running then allocate act (vg.getD 0) s.cul.slow s else s
    let s := calTick s
    let s := if s.cul.st == .running then (List.range 7).foldl (fun s k => publishForecast act (vg.getD 0) k s) s else staleForecasts s
    let s := publishCulScalars s
    if s.cul.st == .draining && (openParcels s).isEmpty then culEnter .stopped s else s

/-- VELOCITY_HOLD_EXPIRY (R111): belts unusable for their `hold` run on `v_fallback`. -/
def doVelocityHold (s : State) : State :=
  if !s.cul.st.busy then s else
  let old := s.cul.belts
  let new := old.zipIdx.map fun (b, k) =>
    let g := s.stage (beltStage k)
    if heldFor b.badSince s.time (g.hold * ms) then { b with v := f32d g.vFallback, fallback := true } else b
  noteFallback old (modCul (fun c => { c with belts := new }) s)

/-- The end of DRAINING: the last open parcel has closed (R136). -/
def culDrained (s : State) : State := if s.cul.st == .draining && (openParcels s).isEmpty then culEnter .stopped s else s

/-- PARCEL_AGED (R126): every parcel open for `max_age` closes with `AGED`. -/
def doParcelAged (s : State) : State :=
  if !s.cul.st.busy then s else
  culDrained <| (openParcels s).foldl (fun s p => if p.cut + s.cul.cfg.maxAge * sec ≤ s.time then forceClose 1 1 { p with rear := rearOf s p } s else s) s

/-! ## Cut positions (R130) -/

/-- The line through two publications at an instant, in mm. -/
def lineAt (a b : Nat × Int × Int) (t : Nat) : Int × Int :=
  let f : Rat := if a.1 == b.1 then 0 else (((t : Int) - (a.1 : Int) : Int) : Rat) / (((b.1 : Int) - (a.1 : Int) : Int) : Rat)
  (roundEven ((a.2.1 : Rat) + f * ((b.2.1 - a.2.1 : Int) : Rat)), roundEven ((a.2.2 : Rat) + f * ((b.2.2 - a.2.2 : Int) : Rat)))

/-- One section's cut position at an instant: position, quality, confidence, whether extrapolated; none while it must wait. -/
def cutPos (s : State) (j t : Nat) (waited : Bool) : Option ((Int × Int) × Quality × Nat × Bool) :=
  let l := (s.cul.poses.filter fun e => e.1 == j).map (·.2)
  let after := (l.filter fun e => t ≤ e.1).getLast?
  let before := l.find? fun e => e.1 ≤ t
  match before, after with
  | some a, some b => some (lineAt (a.1, a.2.1, a.2.2.1) (b.1, b.2.1, b.2.2.1) t, deriveQuality [a.2.2.2.1, b.2.2.2.1], min a.2.2.2.2 b.2.2.2.2, false)
  | _, _ =>
    if !waited then none else
    match l with
    | b :: a :: _ => some (lineAt (a.1, a.2.1, a.2.2.1) (b.1, b.2.1, b.2.2.1) t, deriveQuality [a.2.2.2.1, b.2.2.2.1], min a.2.2.2.2 b.2.2.2.2, true)
    | [b] => some (Config.cutPos j t, b.2.2.2.1, b.2.2.2.2, true)
    | [] => some (Config.cutPos j t, .noValue, 0, true)

/-- A parcel's cut positions are written once they are known or `pose_wait` has expired. -/
def writePose (p : Parcel) (s : State) : Parcel :=
  let t := p.cut + p.tickUs * us / 2
  let waited := decide (t + s.cul.cfg.poseWait * ms ≤ s.time)
  let got := (List.range p.sections).map fun j => cutPos s j t waited
  if !p.poseDue || got.any (·.isNone) then p else
  let l := got.filterMap id
  { p with
    poseDue := false, poseQ := deriveQuality (l.map fun e => e.2.1), poseConf := deriveConf (l.map fun e => e.2.2.1)
    blocks := (p.blocks.zip l).map fun e => { e.1 with east := e.2.1.1, north := e.2.1.2, extrapolated := e.2.2.2.2 } }

/-- POSE_WAIT (R130). -/
def doPoseWait (s : State) : State :=
  let s := takePoses s
  modCul (fun c => { c with ledger := c.ledger.map fun p => writePose p s, toMap := c.toMap.map fun p => writePose p s }) s

/-! ## Calibration (R140) -/

/-- Pearson correlation of pairs as its sign and its square; a constant series has none (log entry 113). -/
def pearson2 (l : List (Rat × Rat)) : Option (Bool × Rat) :=
  let n : Rat := (l.length : Rat)
  let sx := (l.map (·.1)).foldl (· + ·) 0
  let sy := (l.map (·.2)).foldl (· + ·) 0
  let sxy := (l.map fun e => e.1 * e.2).foldl (· + ·) 0
  let sxx := (l.map fun e => e.1 * e.1).foldl (· + ·) 0
  let syy := (l.map fun e => e.2 * e.2).foldl (· + ·) 0
  let c := n * sxy - sx * sy
  let v := (n * sxx - sx * sx) * (n * syy - sy * sy)
  if v ≤ 0 then none else some (decide (c < 0), c * c / v)

/-- A signed square as a number that orders correlations. -/
def corrKey (x : Bool × Rat) : Rat := if x.1 then -x.2 else x.2

/-- CAL_WINDOW_END (R140): the result is computed and the command ends. -/
def doCalWindowEnd (s : State) : State :=
  match s.cul.cal with
  | none => s
  | some k =>
    if s.time < k.endAt then s else
    let tickS : Rat := (s.cul.cfg.tick : Rat) / 1000
    let n := (k.endAt - k.start) / (s.cul.cfg.tick * ms)
    let mean := fun (l : List Rat) => if l.isEmpty then 0 else l.foldl (· + ·) 0 / (l.length : Rat)
    let m := roundEven (mean k.transits / 1000000000 / tickS)
    let h := roundEven (2 / tickS)
    let at_ := fun (l : List (Nat × Rat)) (i : Nat) => (aget l i).getD 0
    let corr := fun (lag : Int) => pearson2 ((List.range n).filterMap fun (i : Nat) =>
      let j := (i : Int) + lag
      if 0 ≤ j && j < (n : Int) then some (at_ k.xs i, at_ k.ys j.toNat) else none)
    let lags := (List.range (2 * h.toNat + 1)).map fun (i : Nat) => m - h + ((i : Nat) : Int)
    let best := lags.foldl (fun (b : Option (Int × (Bool × Rat))) lag => match corr lag, b with
      | some c, some x => if corrKey x.2 < corrKey c then some (lag, c) else b
      | some c, none => some (lag, c)
      | none, _ => b) none
    let (lag, c) := best.getD (m, (false, 0))
    let (flat, s) := takeFreeRat s
    let weak := decide (corrKey c < 1 / 4)
    let len := stageLen s k.stage
    let measured := (lag : Rat) * tickS
    let modelled := (m : Rat) * tickS
    let prop := if weak then len else clampR (len + (measured - modelled) * mean k.vels) (1 / 20) 20
    let peak : F32 := if best.isNone then qf32 flat else if c.1 then f32Neg (sqrt32 c.2) else sqrt32 c.2
    let s := modCul (fun x => { x with cal := none }) s
    finish k.req (if weak then .degraded else .done)
      (le 4 (qf32 measured).toNat ++ le 4 (qf32 modelled).toNat ++ le 4 (qf32 prop).toNat ++ le 4 peak.toNat) s

/-! ## Commands -/

/-- Whether a request names Couloir. -/
def culTarget (r : Req) : Bool := r.p.target.toNat == unit 0x04 0

/-- The declared encoding of a signal that has a record here; none without one (R34, R35). -/
def encodingOf (h : Nat) (s : State) : Option Nat :=
  if !handleOk h || !s.holds h then none else some (if s.isOwn h then s.typeOf (hLocal h) else (s.stored h).ty)

/-- Whether a handle is refused for a use that admits some encodings. -/
def handleBad (h : Nat) (types : List Nat) (s : State) : Bool := !((encodingOf h s).any fun t => types.contains t)

/-- Numeric encodings. -/
def numeric : List Nat := [0, 1, 2, 3]

/-- The parameters of `CUL_CONFIG`. -/
def culCfgOf (b : List Byte) : CulCfg :=
  { tick := u16 b 0, sections := u8 b 2, poseWait := u8 b 3, cut := u32 b 4, ground := some (u32 b 8), profile := u32 b 12
    hdrLoad := u32 b 16, poseBase := u32 b 20, sectionBase := u32 b 24, minSpeed := bits32 b 28, kGain := bits32 b 32
    kInit := bits32 b 36, maxAge := u16 b 40, lateLimit := u16 b 42 }

/-- What refuses `CUL_CONFIG`, in its order (step 8 of R73). -/
def chkCulConfig (r : Req) (s : State) : List (Bool × Status) :=
  let b := r.p.payload
  let c := culCfgOf b
  let s' := modCul (fun x => { x with cfg := c, configured := true }) s
  let opt := fun (h : Nat) (ty : List Nat) => h != 0 && handleBad h ty s
  [ (!culTarget r, .badParam), (!s.isHost r.port, .notOwner), (!s.configures, .wrongState),
    (notIn 5 40 c.tick || notIn 1 8 c.sections || notIn 10 200 c.poseWait || !f32In c.minSpeed 0 2 || !f32In c.kGain 0 (1 / 10)
      || !f32In c.kInit (1 / 10) 10 || notIn 10 600 c.maxAge || 2000 < c.lateLimit || reservedSet b [(44, 4)]
      || handleBad c.cut [4] s || handleBad (u32 b 8) numeric s || opt c.profile [5] || opt c.hdrLoad numeric
      || (List.range c.sections).any (fun j => handleBad (c.poseBase + j) [0] s || opt (if c.sectionBase == 0 then 0 else c.sectionBase + j) [4]), .badParam),
    (s.cul.st.busy, .wrongState), (tickRefused s' c.tick, .configRejected) ]

/-- `CUL_CONFIG` (R136). -/
def effCulConfig (r : Req) (s : State) : Res × State :=
  let b := r.p.payload
  let c := culCfgOf b
  let s' := modCul (fun x => { x with cfg := c, configured := true }) s
  check s (chkCulConfig r s) fun _ =>
    done (if s'.cul.st == .unconfigured then culEnter .stopped s' else s')

/-- The parameters of `CUL_STAGE_SET`. -/
def culStageOf (b : List Byte) : CulStage :=
  { handle := u32 b 0, coeff := bits32 b 4, length := bits32 b 8, vMin := bits32 b 12, vFallback := bits32 b 16, disp := bits32 b 20
    hold := u16 b 24, centre := u32 b 28, centreCoeff := bits32 b 32, side := (List.range 8).map fun i => bits32 b (36 + 4 * i) }

/-- The index of a Couloir unit between two bounds. -/
def culUnit (r : Req) (lo n : Nat) : Option Nat :=
  (unitIndex r.p.target 0x04).bind fun i => if lo ≤ i && i < lo + n then some (i - lo) else none

/-- What refuses `CUL_STAGE_SET`, in its order (step 8 of R73). -/
def chkCulStageSet (r : Req) (s : State) : List (Bool × Status) :=
  let b := r.p.payload
  let k := (culUnit r 0x10 7).getD 7
  let g := culStageOf b
  let s' := modCul (fun c => { c with stages := c.stages.set k g }) s
  let beyond := s.cul.sensors.any fun x => x.kind != 0 && x.stage == k && decide (f32d g.length < f32d x.position)
  [ (6 < k, .badParam), (!s.isHost r.port, .notOwner), (!s.configures, .wrongState),
    (handleBad g.handle numeric s || !f32Ok g.coeff || decide (f32d g.coeff ≤ 0)
      || !(if k == 0 then f32In g.length 0 5 else f32In g.length (1 / 20) 20) || !f32In g.vMin (1 / 100) 10 || !f32Ok g.vFallback
      || f32Lt g.vFallback g.vMin || !(if k == 0 then f32IsZero g.disp else f32In g.disp 0 2) || 5000 < g.hold || reservedSet b [(26, 2)]
      || (k != 0 && reservedSet b [(28, 40)])
      || (k == 0 && (handleBad g.centre numeric s || !f32Ok g.centreCoeff || g.side.any fun x => !f32In x 0 10)), .badParam),
    (s.cul.st.busy, .wrongState), (tickRefused s' s.cul.cfg.tick || beyond, .configRejected) ]

/-- `CUL_STAGE_SET`. -/
def effCulStageSet (r : Req) (s : State) : Res × State :=
  let b := r.p.payload
  let k := (culUnit r 0x10 7).getD 7
  let g := culStageOf b
  let s' := modCul (fun c => { c with stages := c.stages.set k g }) s
  check s (chkCulStageSet r s) fun _ => done s'

/-- Whether an entry is a combination that R121 allows by itself. -/
def sensorBad (x : CulSensor) (s : State) : Bool :=
  x.kind != 0 &&
    (3 < x.kind || x.stage < 1 || 6 < x.stage || 9 < x.slot || ((4 ≤ x.slot && x.slot ≤ 6) != (x.kind == 3)) || (x.slot == 9 && x.stage != 6)
      || !f32Ok x.position || decide (f32d x.position < 0) || decide (stageLen s x.stage < f32d x.position) || !f32Ok x.scale || f32IsZero x.scale
      || handleBad x.handle numeric s)

/-- What refuses `CUL_SENSOR_SET`, in its order (step 8 of R73). -/
def chkCulSensorSet (r : Req) (s : State) : List (Bool × Status) :=
  let b := r.p.payload
  let n := (culUnit r 0x100 32).getD 32
  let x : CulSensor := { handle := u32 b 0, kind := u8 b 4, stage := u8 b 5, slot := u8 b 6, position := bits32 b 8, scale := bits32 b 12 }
  let l := s.cul.sensors.set n x
  let alone := l.any fun y => y.kind != 0 && y.slot == 6 && !l.any fun z => z.kind != 0 && z.slot == 5 && z.stage == y.stage && f32d z.position == f32d y.position
  [ (31 < n, .badParam), (!s.isHost r.port, .notOwner), (!s.configures, .wrongState),
    (sensorBad x s || alone || reservedSet b [(7, 1)], .badParam), (s.cul.st.busy, .wrongState) ]

/-- `CUL_SENSOR_SET` (R121). -/
def effCulSensorSet (r : Req) (s : State) : Res × State :=
  let b := r.p.payload
  let n := (culUnit r 0x100 32).getD 32
  let x : CulSensor := { handle := u32 b 0, kind := u8 b 4, stage := u8 b 5, slot := u8 b 6, position := bits32 b 8, scale := bits32 b 12 }
  let l := s.cul.sensors.set n x
  check s (chkCulSensorSet r s) fun _ =>
    done (modCul (fun c => { c with sensors := l }) s)

/-- What refuses `CUL_START`, in its order (step 8 of R73). -/
def chkCulStart (r : Req) (s : State) : List (Bool × Status) :=
  [ (!culTarget r, .badParam), (!s.isHost r.port, .notOwner), (!s.acting || s.cul.st != .stopped || s.pwr.st != .run, .wrongState),
    (s.cul.stages.any (fun g => f32IsZero g.vMin) || tickRefused s s.cul.cfg.tick, .configRejected) ]

/-- `CUL_START` (R136). -/
def effCulStart (r : Req) (s : State) : Res × State :=
  check s (chkCulStart r s) fun _ =>
    done (culBegin s.cul.cfg.kInit s)

/-- What refuses `CUL_STOP`, in its order (step 8 of R73). -/
def chkCulStop (r : Req) (s : State) : List (Bool × Status) :=
  let b := r.p.payload
  [ (!culTarget r, .badParam), (!s.isHost r.port, .notOwner), (!s.acting, .wrongState), (1 < u8 b 0 || reservedSet b [(1, 3)], .badParam) ]

/-- `CUL_STOP` (R136). -/
def effCulStop (r : Req) (s : State) : Res × State :=
  let b := r.p.payload
  check s (chkCulStop r s) fun _ =>
    done (if u8 b 0 == 1 then culStopNow s
          else if s.cul.st == .running then
            let s := culEnter .draining s
            if (openParcels s).isEmpty then culEnter .stopped s else s
          else s)

/-- The smallest tick accepted under R119. -/
def minTick (s : State) : Nat := ((List.range 36).map (· + 5)).find? (fun t => !tickRefused s t) |>.getD 0xFFFF

/-- What refuses `CUL_STATUS`, in its order (step 8 of R73). -/
def chkCulStatus (r : Req) (s : State) : List (Bool × Status) :=
  [(!culTarget r, .badParam)]

/-- `CUL_STATUS`. -/
def effCulStatus (r : Req) (s : State) : Res × State :=
  let c := s.cul
  let fb := bitsN ((List.range 7).map fun k => (c.belts.getD k {}).fallback || (k == 0 && (c.belts.getD 7 {}).fallback))
  check s (chkCulStatus r s) fun _ =>
    answer (le 1 c.st.code ++ le 1 fb ++ le 2 (openParcels s).length ++ le 4 c.nextNo ++ le 4 c.kCam.toNat ++ le 4 (secs32 (chainNow s)).toNat
      ++ le 4 (qf32 (chainMin s)).toNat ++ le 2 (minTick s) ++ le 2 (bitsN [c.slow, c.profileLost, c.loadLost, c.refill.isSome])
      ++ le 4 c.overruns ++ le 4 c.aged ++ le 4 c.lateLost ++ le 4 c.unattributed ++ le 8 s.time) s

/-- The 56 bytes of a section block (R117). -/
def sectionBytes (b : Section) : List Byte :=
  let fl := bitsN [b.active, b.fhStart.isSome, b.fhEnd.isSome, b.extrapolated, b.fromLoad, b.fromHistory]
  let f := fun (i : Nat) => le 4 (b.slots.getD i 0).toNat
  leInt 4 b.east ++ leInt 4 b.north ++ le 2 b.predMass ++ le 1 b.conf ++ le 1 fl ++ le 4 (b.fhStart.getD 0) ++ le 4 (b.fhEnd.getD 0)
    ++ f 0 ++ f 1 ++ f 2 ++ f 3 ++ f 4 ++ le 4 b.moistW.toNat ++ f 5 ++ f 6 ++ le 4 b.camW.toNat

/-- The 512 bytes of a ledger entry (R116). -/
def parcelBytes (p : Parcel) : List Byte :=
  let head := le 8 p.cut ++ le 4 p.no ++ le 1 (p.st + 16 * p.rear) ++ le 1 p.sections
  if p.poison then head ++ le 2 (if bitOf p.flags 2 then p.flags else p.flags + 4) ++ zeros 496
  else head ++ le 2 p.flags ++ le 2 p.slotMask ++ le 2 p.tickUs ++ le 4 p.speed.toNat ++ le 8 p.closed ++ le 4 p.kCam.toNat
    ++ (p.user.flatMap fun x => le 4 x.toNat) ++ le 1 p.poseQ.code ++ le 1 p.poseConf ++ zeros 14
    ++ (p.blocks.flatMap sectionBytes) ++ zeros (56 * (8 - p.blocks.length))

/-- The consecutive entries that the ledger holds from a number on, at most `n`. -/
def ledgerFrom (s : State) : Nat → Nat → List Parcel
  | 0, _ => []
  | n + 1, no => match s.cul.ledger.find? fun p => p.no == no with
    | some p => p :: ledgerFrom s n ((no + 1) % 2 ^ 32)
    | none => []

/-- What refuses `CUL_LEDGER_READ`, in its order (step 8 of R73). -/
def chkCulLedgerRead (r : Req) (s : State) : List (Bool × Status) :=
  let b := r.p.payload
  let l := ledgerFrom s (u8 b 4) (u32 b 0)
  [ (!culTarget r, .badParam), (!s.acting, .wrongState), (notIn 1 7 (u8 b 4) || reservedSet b [(5, 3)], .badParam), (l.isEmpty, .badParam) ]

/-- `CUL_LEDGER_READ`. -/
def effCulLedgerRead (r : Req) (s : State) : Res × State :=
  let b := r.p.payload
  let l := ledgerFrom s (u8 b 4) (u32 b 0)
  check s (chkCulLedgerRead r s) fun _ =>
    answer (le 1 l.length ++ zeros 7 ++ l.flatMap parcelBytes) s

/-- What refuses `CUL_CAL_RUN`, in its order (step 8 of R73). -/
def chkCulCalRun (r : Req) (s : State) : List (Bool × Status) :=
  let b := r.p.payload
  let k := ((culUnit r 0x10 7).filter (1 ≤ ·)).getD 7
  let n := u8 b 0
  let x := s.cul.sensors.getD n {}
  [ (6 < k, .badParam), (!s.isHost r.port, .notOwner), (!s.acting, .wrongState),
    (31 < n || notIn 10 120 (u8 b 1) || reservedSet b [(2, 2)] || (x.kind != 1 && x.kind != 2) || !(upTo x.stage).contains k, .badParam),
    (s.cul.st != .running || s.cul.cal.isSome, .wrongState) ]

/-- `CUL_CAL_RUN` (R140): the window begins with the next tick, so that its ticks are those of Couloir. -/
def effCulCalRun (r : Req) (s : State) : Res × State :=
  let b := r.p.payload
  let k := ((culUnit r 0x10 7).filter (1 ≤ ·)).getD 7
  let n := u8 b 0
  let tick := s.cul.cfg.tick * ms
  let t := if onGrid tick s then s.time else nextGrid tick s
  check s (chkCulCalRun r s) fun _ =>
    (.interim .queued, modCul (fun c => { c with cal := some { req := r, stage := k, sensor := n, start := t, endAt := t + u8 b 1 * sec } }) s)

end Sys2Proof.Machine
end

