-- ==== Sys2Proof/Machine/Sen.lean ====
section
/-! DEFINITION. Chapter 06: the Chanter loss channels, yield sensing and the rules of the SEN commands. -/
namespace Sys2Proof.Machine

/-- Change the state of loss and grain sensing. -/
def modSen (f : SenState → SenState) (s : State) : State := { s with sen := f s.sen }

/-- A Chanter channel. -/
def State.senCh (s : State) (n : Nat) : SenCh := s.sen.ch.getD n {}

/-- Change a Chanter channel. -/
def modSenCh (n : Nat) (f : SenCh → SenCh) (s : State) : State := modSen (fun x => { x with ch := updAt x.ch n f }) s

/-- A flow source: 0 plate, 1 paddle, 2 camera. -/
def State.flowSrc (s : State) (i : Nat) : FlowSrc := s.sen.src.getD i {}

/-- Change a flow source. -/
def modSrc (i : Nat) (f : FlowSrc → FlowSrc) (s : State) : State := modSen (fun x => { x with src := updAt x.src i f }) s

/-- A `SEN_EVENT` (`0x0580`). -/
def senEvent (target cause index st : Nat) (s : State) : State :=
  event 0x0580 target (le 1 cause ++ le 1 index ++ le 1 st ++ zeros 5 ++ le 8 s.time) [] 0x31 s

/-- The yield unit. -/
def yieldUnit : Nat := unit 0x05 0x200

/-- Add to one of the counts of R145. -/
def bump (l : SenCounts) (i n : Nat) : SenCounts := updAt l i (· + n)

/-! ## Impacts (R143, R144) -/

/-- The table entry of an impact (R144). -/
def impactEntry (d : SenDet) : Nat :=
  let ab := min 15 ((d.peak * d.peak).log2 - 14)
  let db := if d.e1 == 0 then 15 else min 15 (16 * d.e2 / d.e1)
  16 * ab + db

/-- The class that a table gives an impact (R144). -/
def classify (table : List Byte) (zcMax : Nat) (d : SenDet) : Nat :=
  if zcMax < d.zc then 3
  else
    let i := impactEntry d
    ((table.getD (i / 4) 0).toNat / 2 ^ (2 * (i % 4))) % 4

/-- A sample enters the features of a capture at its index from the onset (R144). -/
def SenDet.add (x : Int) (d : SenDet) : SenDet :=
  let neg := decide (x < 0)
  let sq := x.natAbs * x.natAbs
  let first := decide (d.idx < d.window / 2)
  { d with zc := d.zc + b2n (0 < d.idx && neg != d.neg), neg := neg, peak := max d.peak x.natAbs
           e1 := d.e1 + (if first then sq else 0), e2 := d.e2 + (if first then 0 else sq) }

/-- The factor by which the envelope decays over `k` samples (R143). -/
def envDecay (envTau k : Nat) : Rat := expR (-((k : Rat) / (2 * (envTau : Rat))))

/-- The onset stamp of a sample (R143). -/
def onsetStamp (t : Nat) : Nat := pclkStamp t - 2500

/-- A count of R145 belongs to the interval that holds the onset stamp; `limit` is the next boundary. -/
def countAt (limit stamp : Nat) (f : SenCounts → SenCounts) (c : SenCh) : SenCh :=
  if stamp ≤ limit then { c with totals := f c.totals, counts := f c.counts } else { c with totals := f c.totals, ahead := f c.ahead }

/-- `start(n)` of R143: a detection, and its capture begins. -/
def startCapture (limit t : Nat) (x : Int) (c : SenCh) : SenCh :=
  let d : SenDet := { phase := 1, e := c.det.e, at_ := t, onset := t, window := c.cfg.window, rings := { peak := c.det.e } :: c.det.rings }
  { countAt limit (onsetStamp t) (fun l => bump l 0 1) c with det := d.add x, lastHit := onsetStamp t }

/-- The window of a capture is full (R143, R144, R149): the impact is classified, counted, and taken into a training phase. -/
def endCapture (limit : Nat) (c : SenCh) : SenCh :=
  let d := c.det
  let cls := classify c.table c.cfg.zcMax d
  let slot := if cls == 1 then 1 else if cls == 2 then 2 else if cls == 0 then 3 else 4
  let c := countAt limit (onsetStamp d.onset) (fun l => bump (bump l slot 1) 5 d.merged) c
  let keep := decide (d.zc ≤ c.cfg.zcMax)
  let kern := c.training == some 0 && keep
  let chaff := c.training == some 1 && keep
  let hit := fun (h : List (Nat × Nat)) => let i := impactEntry d; aset h i ((aget h i).getD 0 + 1)
  let rings := match d.rings with
    | r :: l => if kern then { r with kept := true } :: l else l
    | [] => []
  { c with det := { d with phase := 2, rings := rings }, hk := if kern then hit c.hk else c.hk, hn := if chaff then hit c.hn else c.hn }

/-- One more sample of the ring-downs under measurement (R146, R149): each ends where the envelope is 40 dB below its peak, at 400 samples
at the latest, and is recorded once its impact has been kept. -/
def ringStep (c : SenCh) : SenCh :=
  let step := fun (r : SenRing) =>
    let r := { r with age := r.age + 1, peak := maxR r.peak c.det.e }
    if r.found.isNone && (decide (100 * c.det.e ≤ r.peak) || 400 ≤ r.age) then { r with found := some (min r.age 400) } else r
  let l := c.det.rings.map step
  let done := fun (r : SenRing) => r.kept && r.found.isSome
  { c with rings := c.rings ++ (l.filter done).reverse.map (fun r => r.found.getD 0), det := { c.det with rings := l.filter fun r => !done r } }

/-- One filtered sample at module time `t` (R143). -/
def chSample (limit t : Nat) (x : Int) (c : SenCh) : SenCh :=
  let a := x.natAbs
  let prev := c.det.e
  let loud := decide (c.cfg.thrOn ≤ a)
  let again := loud && decide ((c.cfg.retrig : Rat) / 16 * prev ≤ (a : Rat))
  let c := ringStep { c with det := { c.det with e := maxR (a : Rat) (prev * envDecay c.cfg.envTau 1), at_ := t, idx := c.det.idx + 1 } }
  match c.det.phase with
  | 0 => if loud then startCapture limit t x c else c
  | 1 =>
    let d := c.det
    let d := if 8 ≤ d.idx && again then { d with merged := d.merged + 1 } else d
    let c := { c with det := d.add x }
    if d.idx == d.window - 1 then endCapture limit c else c
  | _ => if again then startCapture limit t x c else if decide (c.det.e < (c.cfg.thrOff : Rat)) then { c with det := { c.det with phase := 0 } } else c

/-- Filtered samples 0.5 µs apart, the first at module time `t`. -/
def chRun (limit : Nat) : Nat → List Int → SenCh → SenCh
  | _, [], c => c
  | t, x :: l, c => chRun limit (t + 500) l (chSample limit t x c)

/-- `k` samples of 0: a stretch for which no row gives samples (log entry 129). No capture and no ring-down lasts longer than 400. -/
def chQuiet (limit k : Nat) (c : SenCh) : SenCh :=
  if c.det.phase == 0 && c.det.e == 0 && c.det.rings.isEmpty then c else
  let c := chRun limit (c.det.at_ + 500) (List.replicate (min k 400) 0) c
  let e := if 400 < k then c.det.e * envDecay c.cfg.envTau (k - 400) else c.det.e
  { c with det := { c.det with e := e, phase := if c.det.phase == 2 && decide (e < (c.cfg.thrOff : Rat)) then 0 else c.det.phase } }

/-- IMPACT_DETECTED (R143 to R145, R149): the filtered samples of a channel up to now, the newest `age` ns
before the row's time. -/
def doImpact (n age : Nat) (samples : List Int) (s : State) : State :=
  let c := s.senCh n
  if 16 ≤ n || c.cfg.group == 0 || samples.isEmpty then s else
  let limit := s.sen.boundary + s.sen.interval * ms
  let first := s.time - age - 500 * (samples.length - 1)
  let late := if first ≤ c.det.at_ then (c.det.at_ - first) / 500 + 1 else 0
  let first := first + 500 * late
  let gap := (first - c.det.at_) / 500 - 1
  modSenCh n (fun c => chRun limit first (samples.drop late) (chQuiet limit gap c)) s

/-- Whether a captured impact that belongs to the interval up to `tb` has yet to be classified: the publication waits for it, 250 µs at most
(R143, R147). -/
def capturePends (tb : Nat) (s : State) : Bool :=
  decide (s.time < tb + 250000) && s.sen.ch.any fun c => c.det.phase == 1 && decide (onsetStamp c.det.onset ≤ tb) && decide (s.time < c.det.onset + 500 * c.det.window)

/-! ## The report boundary: Chanter (R145 to R148) -/

/-- Whether a channel is in a masking diagnostic state (R148). -/
def SenCh.masked (c : SenCh) : Bool := 2 ≤ c.diag

/-- Dead-time load `dr × w` of a channel (R147). -/
def SenCh.load (c : SenCh) : Rat := c.dr * (c.cfg.window : Rat) / 2000000

/-- Dead-time correction (R147). -/
def SenCh.corr (c : SenCh) : Rat := 1 / (1 - minR c.load (9 / 10))

/-- A number as the nearest binary32 has it. -/
def r32 (q : Rat) : Rat := f32d (qf32 q)

/-- The grain flow of the machine: local 352 of the yield module. -/
def flowHandle (s : State) : Nat :=
  if s.sen.isYield then s.handle 352
  else s.handle 0 / 65536 * 65536 + (s.id.cfg.yieldIndex.getD 0) * 8192 + 352

/-- A signal of the acting manager as this module sees it. -/
def managerHandle (s : State) (loc : Nat) : Nat :=
  if s.acting then s.handle loc else s.handle 0 / 65536 * 65536 + s.id.managerIs * 8192 + loc

/-- The conditions of R148 by code, for one channel: input voltage in V and saturated samples come with the boundary. -/
def diagConds (c : SenCh) (flowSince : Option Nat) (now : Nat) : List Nat :=
  let sum := fun (f : Nat × Nat × Nat × Nat → Nat) => (c.recent.map f).foldl (· + ·) 0
  let det := sum fun e => e.2.1
  let silent := c.cfg.silent != 0 && flowSince.any fun t => decide (max t c.lastHit + c.cfg.silent * sec ≤ now)
  (if c.cfg.group == 0 then [1] else []) ++ (if c.trained then [] else [2])
    ++ (if 3 ≤ c.short then [3] else []) ++ (if 3 ≤ c.open_ then [4] else [])
    ++ (if 20000 ≤ sum (fun e => e.2.2.2) then [5] else [])
    ++ (if 100 ≤ det && det < 2 * sum (fun e => e.2.2.1) then [6] else [])
    ++ (if silent then [7] else [])

/-- The diagnostic state of a channel moves (R148): the lowest code that holds; states 3 to 7 hold until their condition has been
absent for 5 s. -/
def diagStep (n : Nat) (s : State) : State :=
  let c := s.senCh n
  let holds := diagConds c s.sen.flowSince s.time
  let absent := decide (3 ≤ c.diag) && !holds.contains c.diag
  let clearSince := if absent then some (c.clearSince.getD s.time) else none
  let kept := absent && !(clearSince.any fun t => decide (t + 5 * sec ≤ s.time))
  let all := if kept then c.diag :: holds else holds
  let new := all.foldl min 8
  let new := if new == 8 then 0 else new
  let s := modSenCh n (fun c => { c with diag := new, clearSince := if new == c.diag then clearSince else none }) s
  if new == c.diag then s else senEvent (unit 0x05 n) 0 n new s

/-- One channel at a boundary: rates, corrected kernels and local 304 + n (R145 to R148). -/
def channelReport (n tb : Nat) (volts : Rat) (saturated : Nat) (s : State) : State :=
  let T : Rat := (s.sen.interval : Rat) / 1000
  let tau := f32d s.sen.cfg.lossTau
  let c := s.senCh n
  let counts := bump c.counts 6 saturated
  let det := counts.getD 0 0
  let dr := c.dr + ((det : Rat) / T - c.dr) * T / tau
  let c1 := { c with dr := dr }
  let k := r32 ((counts.getD 1 0 : Rat) * c1.corr)
  let kr := c.kr + (k / T - c.kr) * T / tau
  let rec_ := ((tb, det, counts.getD 4 0, saturated) :: c.recent).filter fun e => decide (tb < e.1 + sec)
  let s := modSenCh n (fun c => { c with
    dr := dr, k := k, kr := kr, recent := rec_, counts := c.ahead, ahead := List.replicate 7 0
    totals := (bump c.totals 6 saturated).map (· % 2 ^ 32)
    short := if c.cfg.bias && decide (volts < 1) then min 3 (c.short + 1) else 0
    open_ := if c.cfg.bias && decide (22 < volts) then min 3 (c.open_ + 1) else 0 }) s
  let s := diagStep n s
  let c := s.senCh n
  if c.cfg.group == 0 then s else
  let q : Quality := if c.masked then .masked else if decide (9 / 10 ≤ c.load) then .outOfRange else .valid
  pubHw (304 + n) 3 (q32v k) q tb (3 * s.sen.interval * 1000) s

/-- Configurations and tables that wait for the boundary come into force (R142, R149). -/
def applySen (s : State) : State :=
  let s := (List.range 16).foldl (fun s n =>
    let c := s.senCh n
    let s := modSenCh n (fun c => { c with cfg := c.next.getD c.cfg, next := none }) s
    match c.nextTable with
    | some (t, r) => senEvent (unit 0x05 n) 6 n c.diag (modSenCh n (fun c => { c with table := t, ringdown := r, trained := true, nextTable := none }) s)
    | none => s) s
  modSen (fun x => { x with cfg := x.next.getD x.cfg, next := none, active := x.crops.getD (x.next.getD x.cfg).crop {} }) s

/-! ## Loss computation (R150, R151) -/

/-- The kernels and the rate of a group, with quality and confidence from the channels (R150). -/
def groupLoss (g : Nat) (s : State) : Rat × Rat × Quality × Nat :=
  let all := (s.sen.ch.zipIdx.filter fun c => c.1.cfg.group == g)
  let used := all.filter fun c => !c.1.masked
  if used.isEmpty then (0, 0, .masked, 0) else
  let sum := fun (l : List (SenCh × Nat)) (f : SenCh → Rat) => (l.map fun c => f c.1).foldl (· + ·) 0
  let cov := fun (c : SenCh) => f32d c.cfg.cover
  let scale := sum all cov / sum used cov
  let recs := used.map fun c => s.sig1 (304 + c.2)
  let subset := used.length < all.length
  let q := deriveQuality (recs.map (·.quality))
  let conf := deriveConf (recs.map (·.confidence))
  let lim := (255 * sum used cov / sum all cov).floor.toNat
  (scale * sum used (fun c => cov c * c.k), scale * sum used (fun c => cov c * c.kr),
    if subset then deriveQuality [q, .substituted] else q, if subset then min conf lim else conf)

/-- Locals 362 to 366 (R150, R151). -/
def publishLoss (tb : Nat) (s : State) : State :=
  let fresh := 500000
  let pub := fun (loc : Nat) (v : Rat) (q : Quality) (c : Nat) (s : State) =>
    publish loc { value := q32v v, quality := q, confidence := c, ty := 3, stamp := tb } fresh s
  let a := groupLoss 1 s
  let b := groupLoss 2 s
  let s := pub 365 a.1 a.2.2.1 a.2.2.2 s
  let s := pub 366 b.1 b.2.2.1 b.2.2.2 s
  let r := s.sig1 352
  match (if r.fresh then valueQ 3 r.value else none) with
  | none => s
  | some flow =>
    if flow < f32d s.sen.cfg.flowMin then s else
    let gps := flow * 1000000 / 3600
    let (free, s) := takeFreeRat s
    let loss := fun (rate : Rat) => if gps == 0 then free else rate * f32d s.sen.active.tkw / 1000 / gps * 100
    let q := fun (x : Quality) => deriveQuality [x, r.quality]
    let s := pub 362 (loss a.2.1) (q a.2.2.1) (min r.confidence a.2.2.2) s
    let s := pub 363 (loss b.2.1) (q b.2.2.1) (min r.confidence b.2.2.2) s
    pub 364 (loss a.2.1 + loss b.2.1) (deriveQuality [a.2.2.1, b.2.2.1, r.quality]) (min r.confidence (min a.2.2.2 b.2.2.2)) s

/-! ## Yield sources (R152 to R154) -/

/-- Elevator velocity in m/s where it is usable and not 0. -/
def elevV (s : State) : Option Rat :=
  (usableQ (s.sen.cfg.elev.getD (managerHandle s 331)) s).filter fun v => decide (v ≠ 0)

/-- Position of a source in m from the elevator entry. -/
def srcPos (s : State) (i : Nat) : Rat := f32d (s.sen.cfg.pos.getD i 0)

/-- A stamp on the plate's time axis (R154). -/
def aligned (i t : Nat) (v : Rat) (s : State) : Nat := ((t : Rat) + (srcPos s 0 - srcPos s i) / v * 1000000000).floor.toNat

/-- Interpolation in the correction table, its ends held (R152, R158). -/
def corrAt : List (Rat × Rat) → Rat → Rat
  | [], _ => 1
  | [p], _ => p.2
  | p :: q :: l, x =>
    if x ≤ p.1 then p.2
    else if x ≤ q.1 then (if q.1 == p.1 then q.2 else p.2 + (q.2 - p.2) * (x - p.1) / (q.1 - p.1))
    else corrAt (q :: l) x

/-- A value of a source enters its list. -/
def pushVal (i t : Nat) (v : Rat) (s : State) : State :=
  modSrc i (fun x => { x with vals := ((t, v) :: x.vals).take 4096 }) s

/-- Whether a source is configured (`SEN_YIELD_CONFIG`). -/
def srcOn (i : Nat) (s : State) : Bool := s.sen.isYield && bitOf s.sen.cfg.sources i

/-- Change the running calibration load (R158). -/
def modLoad (f : CalLoad → CalLoad) (s : State) : State :=
  match s.sen.running with
  | some n => modSen (fun x => { x with loads := updAt x.loads n fun l => l.map f }) s
  | none => s

/-- Pitch or roll of the pose in degrees; a free value where the pose has none that can be used (log entry 131). -/
def tilt (loc : Nat) (s : State) : Rat × State :=
  let (free, s) := takeFreeRat s
  ((usableQ (managerHandle s loc) s).getD free, s)

/-- The 2 s over which a new tare is taken, from the end of 5 s of empty running (R153). -/
def tareFrom (s : State) : Option Nat := s.sen.tareSince.map (· + 5 * sec)

/-- The bridge is open below 1 mA of excitation; it is shorted above 40 mA, or where its sense lines depart by more than 10 % (R547). -/
def bridgeBad (mA depart : Rat) : Bool := decide (mA < 1) || decide (40 < mA) || decide (10 < depart)

/-- The plate is unusable once its bridge has been open or shorted throughout 10 ms (R547). -/
def plateWatch (b : BridgeMeas) (s : State) : State :=
  let since := sinceIf (bridgeBad b.amps b.depart) s.time s.sen.plateBadSince
  modSrc 0 (fun x => { x with failed := heldFor since s.time (10 * ms) }) (modSen (fun x => { x with plateBadSince := since }) s)

/-- PLATE_BLOCK (R152): 50 bridge samples in mV/V, and what the bridge shows. -/
def doPlateBlock (samples : List Rat) (bridge : BridgeMeas) (s : State) : State :=
  if !srcOn 0 s then s else
  let s := plateWatch bridge s
  let mean := samples.foldl (· + ·) 0 / 50
  let s := if (tareFrom s).any fun t => decide (t < s.time) && decide (s.time ≤ t + 2 * sec) then
      modSen (fun x => { x with tareReads := mean :: x.tareReads }) s else s
  let out := decide (4 < absR mean)
  let m := clampR mean (-4) 4
  let c := s.sen.cfg
  let (pitch, s) := tilt 455 s
  let (roll, s) := tilt 456 s
  let f := m - s.sen.tare - f32d c.kPitch * pitch - f32d c.kRoll * roll
  let (free, s) := takeFreeRat s
  let (raw, q, t) := match elevV s with
    | some v =>
      let x := f32d c.kMf * f / v
      (maxR 0 x, maxR 0 x * corrAt s.sen.corr x, aligned 0 s.time v s)
    | none => (maxR 0 free, maxR 0 free, s.time)
  let s := modSen (fun x => { x with plateRaw := raw, plateAt := s.time }) s
  let s := if out || decide (150 < q) then modSrc 0 (fun x => { x with oorAt := some t }) s else s
  let s := modLoad (fun l => { l with measured := l.measured + raw / 3600, outOfRange := l.outOfRange || out || decide (150 < q) }) s
  pushVal 0 t q s

/-- PADDLE_PASS (R152): the blocked time of one paddle in s. -/
def doPaddlePass (tb : Rat) (s : State) : State :=
  if !srcOn 1 s then s else
  let c := s.sen.cfg
  let (free, s) := takeFreeRat s
  let (vol, t) := match elevV s with
    | some v => (maxR 0 (v * tb * 100 - f32d c.h0) * f32d c.aPad, aligned 1 s.time v s)
    | none => (maxR 0 free, s.time)
  let s := modSen (fun x => { x with vol := (x.vol ++ [(s.time, vol)]) }) s
  let s := modLoad (fun l => { l with paddle := l.paddle + vol * f32d s.sen.active.testWeight / 100000 }) s
  pushVal 1 t vol s

/-- A kernel classification of the grain camera (R152, R356): kernels, broken kernels, MOG area in %, frame spacing in s. -/
def senFrame (kernels broken mog dt : Rat) (expose : Nat) (q : Quality) (s : State) : State :=
  if !srcOn 2 s then s else
  let c := s.sen.cfg
  let (free, s) := takeFreeRat s
  let g := kernels * f32d s.sen.active.tkw / 1000 * f32d c.kView
  let flow := if 0 < dt then g / dt * 36 / 10000 else free
  let t := match elevV s with | some v => aligned 2 expose v s | none => expose
  let s := modSen (fun x => { x with frameAt := some expose, frameKernels := x.frameKernels ++ [(s.time, kernels)] }) s
  let s := modLoad (fun l => { l with camera := l.camera + g / 1000 }) s
  let s := if 20 ≤ kernels then pubHw 359 3 (q32v (100 * broken / kernels)) q expose 500000 s else s
  let s := pubHw 360 3 (q32v mog) q expose 500000 s
  pushVal 2 t flow s

/-- Whether the camera's link CAM0 or its pipeline 0 has failed or its last frame was truncated (R155). -/
def cameraFailed (s : State) : Bool :=
  let l := (s.link 0).st
  (s.pipe 0).st == .faulted || l == .down || l == .excluded || (s.pipe 0).lastTrunc

/-- The instant since which the cell has been above 1.5 times its empty capacitance, after some readings (R152). -/
def fullAfter (cEmpty : Rat) (since : Option Nat) (readings : List (Nat × Rat)) : Option Nat :=
  readings.foldl (fun f r => if 3 / 2 * cEmpty < r.2 then some (f.getD r.1) else none) since

/-- MOISTURE_SAMPLE (R152): the cell's capacitance in pF, empty and reference, its temperature, the readings of the capacitance since the
last row with their module times, and whether the cell works. -/
def doMoisture (c cEmpty cRef temp : Rat) (readings : List (Nat × Rat)) (ok : Bool) (s : State) : State :=
  if !srcOn 3 s then s else
  let s := modSen (fun x => { x with fullSince := fullAfter cEmpty x.fullSince (readings ++ [(s.time, c)]) }) s
  if !onGrid (s.sen.cfg.moistPeriod * ms) s then s else
  let was := s.sen.moistFailed
  let s := modSen (fun x => { x with moistFailed := !ok }) s
  let s := if was == !ok then s else senEvent yieldUnit (if ok then 4 else 3) 3 (if ok then 1 else 3) s
  if !ok then pubHw 358 3 0 .masked s.time 500000 s
  else if !(s.sen.fullSince.any fun t => decide (t + 200 * ms ≤ s.time)) then s
  else
    let p := s.sen.active
    let (free, s) := takeFreeRat s
    let r := if cRef == 0 then free else (c - cEmpty) / cRef
    let m := fun (i : Nat) => f32d (p.m.getD i 0)
    let v := m 0 + m 1 * r + m 2 * r * r + m 3 * (temp - 20)
    let lo := f32d p.moistMin
    let hi := f32d p.moistMax
    pubHw 358 3 (q32v (clampR v lo hi)) (if decide (v < lo) || decide (hi < v) then .outOfRange else .valid) s.time 500000 s

/-! ## Fusing the sources (R155, R156) -/

/-- The flow of a source over (ta, tb] on the plate's time axis, t/h (R152, R155): the paddle's volumes over the time, the mean of
the others, or their last value where the time holds none. -/
def srcFlow (i ta tb : Nat) (s : State) : Rat :=
  let vals := (s.flowSrc i).vals
  let in_ := (vals.filter fun v => decide (ta < v.1) && decide (v.1 ≤ tb)).map (·.2)
  let sum := in_.foldl (· + ·) 0
  if i == 1 then
    let T : Rat := ((tb - ta : Nat) : Rat) / 1000000000
    sum / T * f32d s.sen.active.testWeight / 100 * 36 / 10000
  else if in_.isEmpty then ((vals.find? fun v => decide (v.1 ≤ tb)).map (·.2)).getD 0
  else sum / (in_.length : Rat)

/-- d(x, y) of R155. -/
def flowD (x y : Rat) : Rat := absR (x - y) / maxR y 10

/-- `forecast(stage, t)` of the manager's Couloir (R133): the value with its quality and confidence. -/
def forecastAt (stage t : Nat) (s : State) : Rat × Quality × Nat :=
  let h := managerHandle s (320 + stage)
  let r := s.view h
  let b := blockBytes h s
  let step := u32 b 8
  let t0 : Int := (u64 b 0 : Int) - (if s.isOwn h then 0 else s.id.managerOffset)
  let i : Rat := if step == 0 then 0 else clampR ((((t : Int) - t0 : Int) : Rat) / ((step * us : Nat) : Rat)) 0 80
  let k := i.floor.toNat
  let at_ := fun (j : Nat) => f32d (bits32 b (64 + 4 * j))
  let v := if 80 ≤ k then at_ 80 else at_ k + (i - (k : Rat)) * (at_ (k + 1) - at_ k)
  (v, r.quality, r.confidence)

/-- The sources in use. -/
def srcsInUse (s : State) : List Nat := (List.range 3).filter fun i => (s.flowSrc i).st == 1

/-- The fused flow of some source flows under a decision: value, quality, and how confidence follows (R155). -/
def fuse (rule pick : Nat) (flows : List (Nat × Rat)) (last : Rat) : Rat × Quality :=
  let v := fun (i : Nat) => (aget flows i).getD 0
  match rule with
  | 5 => (medianR (flows.map (·.2)), .valid)
  | 2 => (((flows.map (·.2)).foldl (· + ·) 0) / 2, .valid)
  | 1 | 3 => (v pick, .valid)
  | 4 => (last, .disputed)
  | _ => (0, .masked)

/-- Each source's configuration and hardware decide whether it is off, masked or may be compared (R155). -/
def srcAvail (i : Nat) (s : State) : State :=
  let x := s.flowSrc i
  let oor := x.oorAt.any fun t => decide (s.time < t + 100 * ms)
  let bad := x.failed || oor || decide (150 < srcFlow i (s.time - 100 * ms) s.time s)
  let new := if !srcOn i s then 0 else if bad then 3 else if x.st == 0 || x.st == 3 then 1 else x.st
  if new == x.st then s else
  let s := modSrc i (fun x => { x with st := new, since := none, agree := none, disputed := false }) s
  if new == 3 then senEvent yieldUnit 3 i 3 s else if x.st == 3 && new == 1 then senEvent yieldUnit 4 i 1 s else s

/-- A source is voted out. -/
def voteOutSrc (i : Nat) (s : State) : State :=
  senEvent yieldUnit 1 i 2 (modSrc i (fun x => { x with st := 2, since := none, agree := none }) s)

/-- Whether a condition has lasted. -/
def lasted (since : Option Nat) (dur now : Nat) : Bool := since.any fun t => decide (t + dur ≤ now)

/-- The disagreement of a source is noted: it began now, goes on, or has ended. -/
def noteApart (i : Nat) (apart : Bool) (s : State) : State :=
  modSrc i (fun x => { x with since := if apart then some (x.since.getD s.time) else none }) s

/-- Three sources (R155): the median; one that departs throughout `persist` is voted out, the farthest first. -/
def decide3 (flows : List (Nat × Rat)) (s : State) : State :=
  let med := medianR (flows.map (·.2))
  let tol := f32d s.sen.cfg.agreeTol
  let s := flows.foldl (fun s f => noteApart f.1 (decide (tol < flowD f.2 med)) s) s
  let due := flows.filter fun f => lasted (s.flowSrc f.1).since (s.sen.cfg.persist * sec) s.time
  let far := due.foldl (fun (b : Option (Nat × Rat)) f => match b with
    | some x => if flowD x.2 med ≤ flowD f.2 med then some f else b
    | none => some f) none
  match far with
  | some f => voteOutSrc f.1 s
  | none => s

/-- Two sources (R155): those that disagree throughout `persist` leave the one nearer the witness, or are disputed. -/
def decide2 (a b : Nat × Rat) (s : State) : State :=
  let tol := f32d s.sen.cfg.agreeTol
  let apart := decide (tol < flowD a.2 b.2) || decide (tol < flowD b.2 a.2)
  let s := noteApart b.1 apart (noteApart a.1 apart s)
  let (w, q, c) := forecastAt 4 s.time s
  let witness := (q == .valid || q == .substituted) && 64 ≤ c
  let far := if absR (a.2 - w) ≤ absR (b.2 - w) then b.1 else a.1
  let near := if far == b.1 then a.1 else b.1
  let dispute := apart && !witness
  let was := (s.flowSrc a.1).disputed
  let s := modSrc a.1 (fun x => { x with disputed := dispute }) s
  let s := modSrc b.1 (fun x => { x with disputed := dispute }) s
  if !apart then modSen (fun x => { x with rule := 2 }) s
  else if dispute then
    let s := modSen (fun x => { x with rule := 4 }) s
    if was then s else senEvent yieldUnit 5 b.1 1 (senEvent yieldUnit 5 a.1 1 s)
  else
    let s := modSen (fun x => { x with rule := 3, pick := near }) s
    if lasted (s.flowSrc far).since (s.sen.cfg.persist * sec) s.time then voteOutSrc far s else s

/-- No source departs any more: the sources that are compared have changed. -/
def newCompany (s : State) : State :=
  modSen (fun x => { x with src := x.src.map fun f => { f with since := none, disputed := false } }) s

/-- The mean flows of the sources in use over the last 100 ms (R155). -/
def flowsNow (s : State) : List (Nat × Rat) := (srcsInUse s).map fun i => (i, srcFlow i (s.time - 100 * ms) s.time s)

/-- The rule under which the sources in use are fused (R155): two of them are compared, and one of two may be voted out. -/
def decideRule (s : State) : State :=
  let s := match flowsNow s with
    | [a, b] => decide2 a b s
    | _ => s
  match srcsInUse s with
  | [] => modSen (fun x => { x with rule := 0 }) s
  | [a] => modSen (fun x => { x with rule := 1, pick := a }) s
  | [_, _] => s
  | _ => modSen (fun x => { x with rule := 5 }) s

/-- Since when the current of `YP_PWR` has lain outside 5 to 200 mA, after some readings (R547). -/
def beamBadAfter (since : Option Nat) (power : List (Nat × Rat)) : Option Nat :=
  power.foldl (fun f r => if r.2 < 5 || 200 < r.2 then some (f.getD r.1) else none) since

/-- The beam is lost where `YP_DET` has held one level for 5 s while the elevator ran at 1.0 m/s or more, or the current of `YP_PWR` has
lain outside its range throughout 10 ms (R547). -/
def beamWatch (b : BeamMeas) (s : State) : State :=
  let fast := sinceIf ((elevV s).any fun v => decide (1 ≤ v)) s.time s.sen.fastSince
  let bad := beamBadAfter s.sen.beamBadSince b.power
  let lost := (fast.any fun t => decide (max t b.edge + 5 * sec ≤ s.time)) || heldFor bad s.time (10 * ms)
  modSrc 1 (fun x => { x with failed := lost }) (modSen (fun x => { x with fastSince := fast, beamBadSince := bad }) s)

/-- FLOW_DECISION (R155): every 100 ms the sources are masked, compared, voted out and taken back. -/
def doFlowDecision (beam : BeamMeas) (s : State) : State :=
  if !s.sen.isYield || !onGrid (100 * ms) s || s.time < 100 * ms then s else
  let s := beamWatch beam s
  let s := modSrc 2 (fun x => { x with failed := cameraFailed s }) s
  let used := srcsInUse s
  let s := srcAvail 2 (srcAvail 1 (srcAvail 0 s))
  let s := if srcsInUse s == used then s else newCompany s
  let s := match flowsNow s with
    | [a, b, c] =>
      let s := decide3 [a, b, c] s
      if (srcsInUse s).length == 3 then s else newCompany s
    | _ => s
  let s := decideRule s
  let (fused, q) := fuse s.sen.rule s.sen.pick (flowsNow s) s.sen.fused
  let s := if q == .valid then modSen (fun x => { x with fused := fused }) s else s
  let tol := f32d s.sen.cfg.agreeTol
  let used := srcsInUse s
  let s := (List.range 3).foldl (fun s i =>
    if (s.flowSrc i).st != 2 then s else
    let ok := q == .valid && decide (flowD (srcFlow i (s.time - 100 * ms) s.time s) fused ≤ tol)
    let s := modSrc i (fun x => { x with agree := if ok then some (x.agree.getD s.time) else none }) s
    if lasted (s.flowSrc i).agree (s.sen.cfg.rejoin * sec) s.time then
      senEvent yieldUnit 2 i 1 (modSrc i (fun x => { x with st := 1, agree := none }) s)
    else s) s
  -- a source that has rejoined counts at once
  let s := if srcsInUse s == used then s else
    let s := decideRule (newCompany s)
    let (fused, q) := fuse s.sen.rule s.sen.pick (flowsNow s) s.sen.fused
    if q == .valid then modSen (fun x => { x with fused := fused }) s else s
  modLoad (fun l => { l with paddleUsed := l.paddleUsed && (s.flowSrc 1).st == 1, cameraUsed := l.cameraUsed && (s.flowSrc 2).st == 1 }) s

/-- The state of the moisture source (R157). -/
def moistState (s : State) : Nat := if !srcOn 3 s then 0 else if s.sen.moistFailed then 3 else 1

/-- The source states of local 369. -/
def srcStates (s : State) : Nat := (s.flowSrc 0).st + 4 * (s.flowSrc 1).st + 16 * (s.flowSrc 2).st + 64 * moistState s

/-- Locals 352 to 357, 361 and 367 to 369 for an interval (R156, R157). -/
def publishYield (tb : Nat) (s : State) : State :=
  let T := s.sen.interval * ms
  let fresh := 500000
  let srcQ := fun (i : Nat) => let x := s.flowSrc i
    (if x.st == 3 || x.st == 2 then .masked else if x.disputed then .disputed else .valid : Quality)
  let flowOf := fun (i : Nat) => srcFlow i (tb - T) tb s
  let left := (srcsInUse s).map fun i => (i, flowOf i)
  let (f, q) := fuse s.sen.rule s.sen.pick left s.sen.fused
  let q : Quality := if 150 < f then deriveQuality [q, .outOfRange] else q
  let f := minR f 150
  let s := (List.range 3).foldl (fun s i =>
    if (s.flowSrc i).st == 0 then s else pubHw (353 + i) 3 (q32v (flowOf i)) (srcQ i) tb fresh s) s
  let cs := left.map fun x => (s.sig1 (353 + x.1)).confidence
  let conf := match s.sen.rule with
    | 1 => (s.sig1 (353 + s.sen.pick)).confidence / 2
    | 3 => (s.sig1 (353 + s.sen.pick)).confidence
    | _ => deriveConf cs
  let pub := fun (loc ty : Nat) (v : BitVec 64) (q : Quality) (c : Nat) (s : State) =>
    publish loc { value := v, quality := q, confidence := c, ty := ty, stamp := tb } fresh s
  let s := pub 352 3 (q32v f) q conf s
  let s := pub 356 3 (q32v (f * 1000000 / 3600 * (s.sen.interval : Rat) / 1000)) q conf s
  let sum := fun (l : List (Nat × Rat)) => ((l.filter fun v => decide (v.1 ≤ tb)).map (·.2)).foldl (· + ·) 0
  let s := if bitOf s.sen.cfg.sources 1 then pubHw 357 3 (q32v (sum s.sen.vol)) (srcQ 1) tb fresh s else s
  let s := if bitOf s.sen.cfg.sources 2 then pubHw 361 3 (q32v (sum s.sen.frameKernels)) (srcQ 2) tb fresh s else s
  let m := s.sig1 358
  let mv := (valueQ 3 m.value).getD 0
  let std := f32d s.sen.active.stdMoist
  let s := if m.quality == .noValue then s else
    pub 367 3 (q32v (f * (100 - mv) / (100 - std))) (deriveQuality [q, m.quality]) (min conf m.confidence) s
  let s := pub 368 3 (f32v s.sen.active.testWeight) .valid 255 s
  let s := pub 369 0 (BitVec.ofNat 64 (srcStates s)) .valid 255 s
  let rest := fun (l : List (Nat × Rat)) => l.filter fun v => decide (tb < v.1)
  modSen (fun x => { x with vol := rest x.vol, frameKernels := rest x.frameKernels }) s

/-- The conditions of a new tare (R153) are followed until they have held for 5 s; the 2 s that follow are then averaged whatever comes. -/
def tareWatch (s : State) : State :=
  let open_ := usableQ (managerHandle s 342) s
  let cond := open_ == some 0 && (elevV s).any fun v => decide (1 ≤ v)
  let due := !s.sen.tareDone && (tareFrom s).any (· ≤ s.time)
  if due then s else
  modSen (fun x => { x with tareSince := if cond then some (x.tareSince.getD s.time) else none, tareDone := x.tareDone && cond
                            tareReads := [] }) s

/-- REPORT_INTERVAL (R142): the boundary that has just passed, with the input voltage and the saturated samples of each channel. -/
def doReport (m : List (Rat × Nat)) (s : State) : State :=
  let T := s.sen.interval * ms
  let tb := s.time - gridTime s % T
  if tb ≤ s.sen.boundary || capturePends tb s then s else
  let s := modSen (fun x => { x with boundary := tb }) s
  let r := s.view (flowHandle s)
  let flowing := r.fresh && (valueQ 3 r.value).any fun v => decide (f32d s.sen.cfg.flowMin ≤ v)
  let s := modSen (fun x => { x with flowSince := if flowing then some (x.flowSince.getD s.time) else none }) s
  let s := (List.range 16).foldl (fun s n => let x := m.getD n (12, 0); channelReport n tb x.1 x.2 s) s
  let s := if s.sen.isYield then publishLoss tb (publishYield tb (tareWatch s)) else s
  let s := applySen s
  let want := if s.cul.configured then s.cul.cfg.tick else 10
  if want != s.sen.interval && (gridTime s - gridTime s % T) % (want * ms) == 0 then modSen (fun x => { x with interval := want }) s else s

/-- The plate readings that a new tare is the mean of: those taken, and the block of this instant where its PLATE_BLOCK row has not
brought it. -/
def tareReadings (block : List Rat) (s : State) : List Rat :=
  if block.isEmpty || s.sen.plateAt == s.time || !((tareFrom s).any fun t => t + 2 * sec == s.time) then s.sen.tareReads
  else meanOf block :: s.sen.tareReads

/-- TARE_RETAKE (R153): the mean plate reading over the 2 s that follow 5 s of empty running. -/
def doTareRetake (block : List Rat) (s : State) : State :=
  let reads := tareReadings block s
  let n := reads.length
  if !srcOn 0 s || s.sen.tareDone || n == 0 || !((tareFrom s).any fun t => decide (t + 2 * sec ≤ s.time)) then s else
  let mean := reads.foldl (· + ·) 0 / (n : Rat)
  let s := modSen (fun x => { x with tareDone := true, tareReads := [] }) s
  if absR (mean - s.sen.tare) ≤ 1 / 20 then modSen (fun x => { x with tare := mean, tareJump := false }) s
  else senEvent yieldUnit 7 0 (s.flowSrc 0).st (modSen (fun x => { x with tareJump := true }) s)

/-! ## Commands -/

/-- The channel that a request names. -/
def senChTarget (r : Req) : Option Nat := (unitIndex r.p.target 0x05).filter fun i => decide (i < 16)

/-- Whether a window is too short for a ring-down (R146). -/
def windowShort (window ringdown : Nat) : Bool := window * 100 < ringdown * 135

/-- The channel's ring-down as it will be at the next boundary. -/
def SenCh.ringToCome (c : SenCh) : Nat := (c.nextTable.map (·.2)).getD c.ringdown
/-- The channel's configuration as it will be at the next boundary. -/
def SenCh.cfgToCome (c : SenCh) : SenChCfg := c.next.getD c.cfg

/-- What refuses `SEN_CHANNEL_SET`, in its order (step 8 of R73). -/
def chkSenChannelSet (r : Req) (s : State) : List (Bool × Status) :=
  let b := r.p.payload
  let n := (senChTarget r).getD 0
  let c := s.senCh n
  [ ((senChTarget r).isNone, .badParam), (!s.isHost r.port, .notOwner),
    (3 < u8 b 0 || 1 < u8 b 1 || notIn 60 400 (u16 b 2) || notIn 1000 20000 (u16 b 4) || notIn 64 16384 (u16 b 6)
      || notIn 32 (u16 b 6) (u16 b 8) || notIn 20 64 (u8 b 10) || notIn 4 80 (u8 b 11) || notIn 2 200 (u16 b 12) || 600 < u16 b 14
      || !f32In (bits32 b 16) (1 / 2) 100, .badParam),
    (c.training.isSome, .wrongState), (windowShort (u16 b 2) c.ringToCome, .configRejected) ]

/-- `SEN_CHANNEL_SET` (R146). -/
def effSenChannelSet (r : Req) (s : State) : Res × State :=
  let b := r.p.payload
  let n := (senChTarget r).getD 0
  check s (chkSenChannelSet r s) fun _ =>
    done (modSenCh n (fun c => { c with next := some { group := u8 b 0, bias := u8 b 1 == 1, window := u16 b 2, hp := u16 b 4, thrOn := u16 b 6, thrOff := u16 b 8, retrig := u8 b 10, zcMax := u8 b 11, envTau := u16 b 12, silent := u16 b 14, cover := bits32 b 16 } }) s)

/-- What refuses `SEN_CLASS_WRITE`, in its order (step 8 of R73). -/
def chkSenClassWrite (r : Req) (s : State) : List (Bool × Status) :=
  let b := r.p.payload
  let n := (senChTarget r).getD 0
  let c := s.senCh n
  [ ((senChTarget r).isNone, .badParam), (!s.isHost r.port, .notOwner), (reservedSet b [(66, 2)], .badParam),
    (c.training.isSome, .wrongState), (400 < u16 b 64 || windowShort c.cfgToCome.window (u16 b 64), .configRejected) ]

/-- `SEN_CLASS_WRITE` (R144, R146). -/
def effSenClassWrite (r : Req) (s : State) : Res × State :=
  let b := r.p.payload
  let n := (senChTarget r).getD 0
  check s (chkSenClassWrite r s) fun _ =>
    done (modSenCh n (fun c => { c with nextTable := some (b.take 64, u16 b 64) }) s)

/-- Total of a histogram. -/
def histTotal (h : List (Nat × Nat)) : Nat := (h.map (·.2)).foldl (· + ·) 0

/-- The median of the ring-down times (R149). -/
def medianRing (l : List Nat) : Nat :=
  let l := sortBy (fun a b => decide (a ≤ b)) l
  let n := l.length
  let hi := l.getD (n / 2) 0
  let lo := l.getD (n / 2 - 1) 0
  if n % 2 == 1 || lo == hi then hi else Config.midRing lo hi

/-- The ring-downs of a kernel phase are forgotten; the capture in progress measures on. -/
def dropRings (c : SenCh) : SenCh :=
  { c with rings := [], det := { c.det with rings := if c.det.phase == 1 then c.det.rings.take 1 else [] } }

/-- The class of a table entry under R149. -/
def trainEntry (hk hn nk nn margin minHits : Nat) : Nat :=
  if hk + hn < minHits then 0
  else if margin * hn * nk ≤ 16 * hk * nn then 1
  else if margin * hk * nn ≤ 16 * hn * nk then 2
  else 3

/-- 64 bytes of a table of 256 classes (R144). -/
def packTable (t : List Nat) : List Byte :=
  (List.range 64).map fun i => BitVec.ofNat 8 (t.getD (4 * i) 0 + 4 * t.getD (4 * i + 1) 0 + 16 * t.getD (4 * i + 2) 0 + 64 * t.getD (4 * i + 3) 0)

/-- What refuses `SEN_TRAIN`, in its order (step 8 of R73). -/
def chkSenTrain (r : Req) (s : State) : List (Bool × Status) :=
  let b := r.p.payload
  let op := u8 b 0
  let n := (senChTarget r).getD 0
  let c := s.senCh n
  let nk := histTotal c.hk
  let nn := histTotal c.hn
  [ ((senChTarget r).isNone, .badParam), (!s.isHost r.port, .notOwner),
    (3 < op || notIn 24 256 (u16 b 2) || notIn 1 1000 (u16 b 4) || reservedSet b [(1, 1), (6, 2)], .badParam),
    (op < 3 && c.cfg.group == 0, .wrongState),
    (op == 2 && (c.training.isNone || nk < 2000 || nn < 2000), .wrongState) ]

/-- `SEN_TRAIN` (R149). -/
def effSenTrain (r : Req) (s : State) : Res × State :=
  let b := r.p.payload
  let op := u8 b 0
  let n := (senChTarget r).getD 0
  let c := s.senCh n
  let nk := histTotal c.hk
  let nn := histTotal c.hn
  check s (chkSenTrain r s) fun _ =>
    if op == 0 then done (modSenCh n (fun c => { dropRings c with training := some 0, hk := [] }) s)
    else if op == 1 then done (modSenCh n (fun c => { c with training := some 1, hn := [] }) s)
    else if op == 3 then done (modSenCh n (fun c => { dropRings c with training := none, hk := [], hn := [] }) s)
    else
      let get := fun (h : List (Nat × Nat)) (i : Nat) => (aget h i).getD 0
      let t := (List.range 256).map fun i => trainEntry (get c.hk i) (get c.hn i) nk nn (u16 b 2) (u16 b 4)
      let kept : Nat := ((List.range 256).map fun i => if t.getD i 0 == 1 then get c.hk i else 0).foldl (· + ·) 0
      let leak : Nat := ((List.range 256).map fun i => if t.getD i 0 == 1 then get c.hn i else 0).foldl (· + ·) 0
      let ring := medianRing c.rings
      let s := modSenCh n (fun c => { dropRings c with training := none, hk := [], hn := [] }) s
      if windowShort c.cfgToCome.window ring then (.fin .configRejected [], s)
      else
        let weak := decide ((kept : Rat) / (nk : Rat) < 9 / 10) || decide (1 / 20 < (leak : Rat) / (nn : Rat))
        let reply := le 4 nk ++ le 4 nn ++ le 4 (qf32 ((kept : Rat) / (nk : Rat))).toNat ++ le 4 (qf32 ((leak : Rat) / (nn : Rat))).toNat ++ le 2 ring ++ zeros 2
        (.fin (if weak then .degraded else .done) reply, modSenCh n (fun c => { c with nextTable := some (packTable t, ring) }) s)

/-- What refuses `SEN_CHANNEL_READ`, in its order (step 8 of R73). -/
def chkSenChannelRead (r : Req) (s : State) : List (Bool × Status) :=
  [((senChTarget r).isNone, .badParam)]

/-- `SEN_CHANNEL_READ`. -/
def effSenChannelRead (r : Req) (s : State) : Res × State :=
  let c := s.senCh ((senChTarget r).getD 0)
  check s (chkSenChannelRead r s) fun _ =>
    answer (le 1 c.diag ++ le 1 (bitsN [c.trained, c.training.isSome, decide (9 / 10 ≤ c.load)]) ++ le 2 c.ringdown
      ++ (c.totals.flatMap fun v => le 4 v) ++ le 4 (qf32 c.dr).toNat ++ le 4 (qf32 c.corr).toNat ++ le 8 s.time) s

/-- The crop profile of a payload. -/
def cropOf (b : List Byte) : CropCfg :=
  { name := b.take 16, tkw := bits32 b 16, testWeight := bits32 b 20, stdMoist := bits32 b 24
    m := (List.range 4).map fun i => bits32 b (28 + 4 * i), moistMin := bits32 b 44, moistMax := bits32 b 48 }

/-- Whether 16 bytes are ASCII filled with zeros. -/
def nameBad (l : List Byte) : Bool :=
  l.any (fun x => decide (127 < x.toNat)) || (l.dropWhile (fun x => x != 0)).any (fun x => x != 0)

/-- What refuses `SEN_CROP_SET`, in its order (step 8 of R73). -/
def chkSenCropSet (r : Req) (s : State) : List (Bool × Status) :=
  let b := r.p.payload
  let p := ((unitIndex r.p.target 0x05).filter fun i => decide (0x100 ≤ i) && decide (i < 0x110)).map (· - 0x100)
  [ (p.isNone, .badParam), (!s.isHost r.port, .notOwner),
    (nameBad (b.take 16) || !f32In (bits32 b 16) 1 100 || !f32In (bits32 b 20) 30 90 || !f32In (bits32 b 24) 0 30
      || (List.range 4).any (fun i => !f32Ok (bits32 b (28 + 4 * i))) || !f32In (bits32 b 44) 0 30 || !f32In (bits32 b 48) 0 60
      || !f32Lt (bits32 b 44) (bits32 b 48), .badParam) ]

/-- `SEN_CROP_SET`. -/
def effSenCropSet (r : Req) (s : State) : Res × State :=
  let b := r.p.payload
  let p := ((unitIndex r.p.target 0x05).filter fun i => decide (0x100 ≤ i) && decide (i < 0x110)).map (· - 0x100)
  check s (chkSenCropSet r s) fun _ =>
    done (modSen (fun x => { x with crops := x.crops.set (p.getD 0) (cropOf b) }) s)

/-- Whether a request names the yield unit. -/
def yieldTarget (r : Req) : Bool := r.p.target.toNat == yieldUnit

/-- Whether a binary32 is a number above 0. -/
def f32Pos (b : F32) : Bool := (f32q b).any fun q => decide (0 < q)

/-- What refuses `SEN_YIELD_CONFIG`, in its order (step 8 of R73). -/
def chkSenYieldConfig (r : Req) (s : State) : List (Bool × Status) :=
  let b := r.p.payload
  [ (!yieldTarget r, .badParam), (!s.isHost r.port, .notOwner), (!s.sen.isYield, .wrongState),
    (15 < u8 b 0 || 15 < u8 b 1 || notIn 50 1000 (u16 b 2) || !f32Pos (bits32 b 4) || !f32Ok (bits32 b 8) || !f32Ok (bits32 b 12)
      || (List.range 4).any (fun i => !f32Ok (bits32 b (16 + 4 * i))) || !f32In (bits32 b 32) 0 5 || !f32In (bits32 b 36) 10 2000
      || !f32Pos (bits32 b 40) || !f32In (bits32 b 44) (1 / 50) (1 / 2) || notIn 1 60 (u16 b 48) || notIn 1 300 (u16 b 50)
      || !f32In (bits32 b 52) 0 50 || !f32In (bits32 b 56) (1 / 2) 60 || handleBad (u32 b 60) numeric s, .badParam),
    (s.sen.running.isSome, .wrongState) ]

/-- `SEN_YIELD_CONFIG`. -/
def effSenYieldConfig (r : Req) (s : State) : Res × State :=
  let b := r.p.payload
  check s (chkSenYieldConfig r s) fun _ =>
    done (modSen (fun x => { x with next := some { crop := u8 b 0, sources := u8 b 1, moistPeriod := u16 b 2, kMf := bits32 b 4, kPitch := bits32 b 8, kRoll := bits32 b 12, pos := (List.range 4).map (fun i => bits32 b (16 + 4 * i)), h0 := bits32 b 32, aPad := bits32 b 36, kView := bits32 b 40, agreeTol := bits32 b 44, persist := u16 b 48, rejoin := u16 b 50, flowMin := bits32 b 52, lossTau := bits32 b 56, elev := some (u32 b 60) } }) s)

/-- Duration of a load in s. -/
def CalLoad.secs (l : CalLoad) (now : Nat) : Rat := ((l.end_.getD now - l.start : Nat) : Rat) / 1000000000

/-- Mean flow of a load in t/h. -/
def CalLoad.flow (l : CalLoad) (now : Nat) : Rat := let d := l.secs now; if d == 0 then 0 else l.measured / d * 36 / 10

/-- Whether a load meets every condition of R158 but the weighed mass. -/
def CalLoad.sound (l : CalLoad) (now : Nat) : Bool := l.end_.isSome && decide (30 ≤ l.secs now) && decide (500 ≤ l.measured) && !l.outOfRange

/-- Whether a load is valid (R158). -/
def CalLoad.valid (l : CalLoad) (now : Nat) : Bool := l.sound now && l.weighed.isSome

/-- The reply of `SEN_CAL_LOAD`. -/
def calReply (n : Nat) (s : State) : List Byte :=
  let l := ((s.sen.loads.getD n none).getD {})
  let m := ((s.sen.loads.getD n none).map (·.measured)).getD 0
  let valid := bitsN (s.sen.loads.map fun x => x.any (·.valid s.time))
  le 4 (qf32 m).toNat ++ le 4 (qf32 (if (s.sen.loads.getD n none).isSome then l.flow s.time else 0)).toNat ++ le 4 s.sen.cfg.kMf.toNat ++ le 1 valid ++ zeros 3

/-- Apply of R158 over the valid loads; none where it is refused. -/
def calApply (s : State) : Option State :=
  let ls := (s.sen.loads.filterMap id).filter (·.valid s.time)
  let w := fun (l : CalLoad) => (l.weighed.map f32d).getD 0
  let sum := fun (f : CalLoad → Rat) => (ls.map f).foldl (· + ·) 0
  let ratio := sum w / sum (·.measured)
  let out := fun (x lo hi : Rat) => decide (x < lo) || decide (hi < x)
  let each := ls.map fun l => (w l / l.measured) / ratio
  if out ratio (7 / 10) (13 / 10) || each.any (fun f => out f (8 / 10) (125 / 100)) then none else
  let flows := ls.map fun l => l.flow s.time
  let span := flows.foldl maxR (flows.headD 0) - flows.foldl minR (flows.headD 0)
  let table := if 10 ≤ span then sortBy (fun (a b : Rat × Rat) => decide (a.1 ≤ b.1)) (ls.map fun l => (l.flow s.time * ratio, (w l / l.measured) / ratio)) else []
  let factor := fun (used : CalLoad → Bool) (mass : CalLoad → Rat) =>
    let m := sum mass
    if ls.all used && decide (0 < m) && !out (sum w / m) (85 / 100) (115 / 100) then sum w / m else 1
  let fp := factor (·.paddleUsed) (·.paddle)
  let fc := factor (·.cameraUsed) (·.camera)
  let scale := fun (x : F32) (f : Rat) => if f == 1 then x else qf32 (f32d x * f)
  some (modSen (fun x => { x with
    corr := table
    cfg := { x.cfg with kMf := qf32 (f32d x.cfg.kMf * ratio), kView := scale x.cfg.kView fc }
    next := x.next.map fun c => { c with kMf := qf32 (f32d c.kMf * ratio), kView := scale c.kView fc }
    crops := updAt x.crops x.cfg.crop fun c => { c with testWeight := scale c.testWeight fp }
    active := { x.active with testWeight := scale x.active.testWeight fp } }) s)

/-- What refuses `SEN_CAL_LOAD`, in its order (step 8 of R73). -/
def chkSenCalLoad (r : Req) (s : State) : List (Bool × Status) :=
  let b := r.p.payload
  let op := u8 b 0
  let n := u8 b 1
  let load := s.sen.loads.getD n none
  [ (!yieldTarget r, .badParam), (!s.isHost r.port, .notOwner), (!s.sen.isYield, .wrongState),
    (4 < op || 7 < n || (op == 2 && !f32Pos (bits32 b 4)) || reservedSet b [(2, 2)], .badParam),
    (op == 0 && s.sen.running.any (· != n), .wrongState), (op == 1 && s.sen.running != some n, .wrongState),
    (op == 2 && load.isNone, .wrongState),
    (op == 3 && !s.sen.loads.any (fun l => l.any (·.valid s.time)), .wrongState) ]

/-- `SEN_CAL_LOAD` (R158). -/
def effSenCalLoad (r : Req) (s : State) : Res × State :=
  let b := r.p.payload
  let op := u8 b 0
  let n := u8 b 1
  let fin := fun (st : Status) (s : State) => ((.fin st (calReply n s), s) : Res × State)
  check s (chkSenCalLoad r s) fun _ =>
    if op == 0 then
      let st := fun (i : Nat) => (s.flowSrc i).st == 1
      fin .done (modSen (fun x => { x with running := some n, loads := x.loads.set n (some { start := s.time, paddleUsed := st 1, cameraUsed := st 2 }) }) s)
    else if op == 1 then
      let s := modSen (fun x => { x with running := none, loads := updAt x.loads n fun l => l.map fun l => { l with end_ := some s.time } }) s
      fin (if (s.sen.loads.getD n none).any (·.sound s.time) then .done else .degraded) s
    else if op == 2 then
      fin .done (modSen (fun x => { x with loads := updAt x.loads n fun l => l.map fun l => { l with weighed := some (bits32 b 4) } }) s)
    else if op == 3 then
      match calApply s with
      | some s => fin .done s
      | none => (.fin .configRejected [], s)
    else fin .done (modSen (fun x => { x with running := none, loads := List.replicate 8 none }) s)

/-- What refuses `SEN_STATUS`, in its order (step 8 of R73). -/
def chkSenStatus (r : Req) (s : State) : List (Bool × Status) :=
  [(!yieldTarget r, .badParam), (!s.sen.isYield, .wrongState)]

/-- `SEN_STATUS`. -/
def effSenStatus (r : Req) (s : State) : Res × State :=
  check s (chkSenStatus r s) fun _ =>
    let v := fun (loc : Nat) => le 4 ((s.sig1 loc).value.toNat % 2 ^ 32)
    let q := (s.sig1 352).quality
    answer (le 1 (srcStates s) ++ le 1 (bitsN [true, s.sen.running.isSome, s.sen.tareJump, q == .outOfRange, q == .disputed])
      ++ le 2 (bitsN (s.sen.ch.map (·.masked))) ++ v 352 ++ v 362 ++ v 363 ++ v 358 ++ le 4 (qf32 s.sen.tare).toNat ++ le 8 s.time) s

end Sys2Proof.Machine
end

