-- ==== Sys2Proof/Machine/Fun.lean ====
section
/-! DEFINITION. Chapter 04: the machine functions, their interlocks, states, degraded modes and automatic crop-flow control, and
the rules of the FUN commands. -/
namespace Sys2Proof.Machine

/-- Change the state of the functions. -/
def modFun (f : FunState → FunState) (s : State) : State := { s with fun_ := f s.fun_ }

/-- A function. -/
def State.fn (s : State) (f : Nat) : Fn := s.fun_.fn.getD f {}

/-- Change a function. -/
def modFn (f : Nat) (g : Fn → Fn) (s : State) : State := modFun (fun x => { x with fn := updAt x.fn f g }) s

/-- A period index of R93 in ns. -/
def funNs (i : Nat) : Nat := ([1, 2, 5, 10, 20, 50, 100].getD i 1) * ms

/-- ENABLING, ACTIVE or DEGRADED (R96). -/
def FunSt.running (t : FunSt) : Bool := t == .enabling || t == .active || t == .degraded

/-- A row of the function table (R87): limits, rate limit, Auto stage, default interlocks and feedback mode. -/
structure FunRow where
  lo : Rat
  hi : Rat
  rate : Rat
  stage : Bool := false
  mask : Nat
  dm : Nat
deriving DecidableEq, Repr, Inhabited

/-- The function table, F00 to F15 (R87). -/
def funTableA : List FunRow :=
  [ ⟨-12, 30, 5 / 2, true, 0x03, 2⟩, ⟨0, 1500, 300, false, 0x01, 1⟩, ⟨-8, 8, 4, false, 0x01, 1⟩, ⟨-6, 10, 3, false, 0x01, 1⟩,
    ⟨0, 70, 30, false, 0x08, 3⟩, ⟨0, 1200, 200, false, 0x01, 1⟩, ⟨0, 600, 150, false, 0x01, 1⟩, ⟨0, 1300, 650, false, 0x0C, 4⟩,
    ⟨0, 5, 2, false, 0x08, 3⟩, ⟨0, 5, 2, false, 0x08, 3⟩, ⟨0, 550, 200, true, 0x84, 3⟩, ⟨0, 100, 50, false, 0x41, 4⟩,
    ⟨200, 1300, 50, true, 0x06, 1⟩, ⟨2, 50, 5, true, 0x04, 1⟩, ⟨2, 50, 5, true, 0x04, 1⟩, ⟨10, 40, 5, true, 0x04, 1⟩ ]

/-- The function table, F16 to F31 (R87). -/
def funTableB : List FunRow :=
  [ ⟨250, 1450, 40, true, 0x04, 1⟩, ⟨0, 25, 2, true, 0x04, 1⟩, ⟨0, 20, 2, true, 0x04, 1⟩, ⟨0, 200, 20, true, 0x04, 1⟩,
    ⟨-15, 15, 6, false, 0x04, 3⟩, ⟨0, 30, 2, true, 0x04, 1⟩, ⟨0, 500, 250, false, 0x04, 3⟩, ⟨0, 105, 15, false, 0x11, 1⟩,
    ⟨0, 1000, 400, false, 0x121, 4⟩, ⟨-20, 30, 10, false, 0x01, 1⟩, ⟨0, 3800, 300, true, 0x04, 3⟩, ⟨0, 80, 10, false, 0x04, 1⟩,
    ⟨0, 15, 2, false, 0x04, 3⟩, ⟨-100, 100, 50, false, 0x04, 1⟩, ⟨0, 100, 25, false, 0x04, 1⟩, ⟨0, 650, 100, true, 0x02, 3⟩ ]

/-- The row of a function. -/
def funRow (f : Nat) : FunRow := if f < 16 then funTableA.getD f ⟨0, 0, 0, false, 0, 1⟩ else funTableB.getD (f - 16) ⟨0, 0, 0, false, 0, 1⟩

/-- The defaults of a function, which apply until `FUN_CONFIG` (R87). -/
def funDefault (f : Nat) : FunCfg :=
  let w := funRow f
  { dmFeedback := w.dm, limMin := qf32 w.lo, limMax := qf32 w.hi, rateUp := qf32 w.rate, rateDown := qf32 w.rate
    rest := qf32 (if w.lo ≤ 0 && 0 ≤ w.hi then 0 else w.lo), tol := qf32 ((w.hi - w.lo) / 50), ovDead := qf32 ((w.hi - w.lo) / 100)
    ilMask := w.mask, ilShut := w.mask }

/-- The configuration of a function. -/
def State.fnConf (s : State) (f : Nat) : FunCfg := (s.fn f).cfg.getD (funDefault f)

/-! ## Inputs -/

/-- The value of a configured handle, where its record is usable (R92); handle 0 is not configured. -/
def funVal (h : Nat) (s : State) : Option F32 := if h == 0 then none else usable32 h s

/-- Whether the binary32 values lie within a distance of one another. -/
def within32 (a b tol : F32) : Bool := f32Le (f32Abs (f32Sub a b)) tol

/-- Whether an interlock class is satisfied (R95). -/
def ilOk (i : Nat) (s : State) : Bool :=
  let act := fun (f : Nat) => let r := s.sig1 (544 + f); if r.fresh then f32q (r.value.setWidth 32) else none
  if i < 6 then
    let h := s.fun_.il.bind.getD i 0
    let r := s.view h
    h != 0 && r.fresh && (r.value.toNat % 2 == 1) != bitOf s.fun_.il.polarity i
  else if i == 6 then (s.fn 10).st == .off && (act 10).any (fun v => decide (v ≤ 5))
  else if i == 7 then (s.fn 11).st == .off
  else (act 23).any fun v => decide (f32d s.fun_.il.asw ≤ v)

/-- The unsatisfied classes of a function's mask. -/
def ilUnsat (f : Nat) (s : State) : List Nat := (List.range 9).filter fun i => bitOf (s.fnConf f).ilMask i && !ilOk i s

/-! ## Points (R88) -/

/-- An actuator point. -/
inductive Point where
  | valve (n : Nat)
  | out (n : Nat)
  | node (loc : Nat)
  | remote (h : Nat)
deriving DecidableEq, Repr, Inhabited

/-- The point of a handle. -/
def pointOf (s : State) (h : Nat) : Point :=
  if !s.isOwn h then .remote h
  else if hLocal h < 144 then .valve (hLocal h - 96)
  else if hLocal h < 288 then .out (hLocal h - 256)
  else .node (hLocal h)

/-- The points of a function. -/
def fnPoints (f : Nat) (s : State) : List Point := (s.fnConf f).acts.map (pointOf s)

/-- The diagnostic word of a valve on another module, as an import gives it (log entry 58). -/
def remoteWord (h : Nat) (s : State) : Option Nat :=
  if 96 ≤ hLocal h && hLocal h < 142 then
    let r := s.view (h + 48)
    if r.fresh then some r.value.toNat else none
  else none

/-- Whether a point has latched off (R98, R255, R277). -/
def pointLatched (s : State) : Point → Bool
  | .valve n => (s.valve n).st == .latched
  | .out n => (s.dout n).st == .latched
  | .node _ => false
  | .remote h => (remoteWord h s).any fun w => bitOf w 11

/-- Whether a point is faulted (R98, R255, R276). -/
def pointFaulted (s : State) : Point → Bool
  | .valve n => (s.valve n).faulted || (s.valve n).st == .latched
  | .out n => (s.dout n).faulted || (s.dout n).st == .latched
  | .node _ => false
  | .remote h => (remoteWord h s).any fun w => decide (2 ≤ w % 16) && decide (w % 16 ≤ 14)

/-- Whether a point gives the actuator trigger (R101, R255). -/
def pointTrigger (s : State) (p : Point) : Bool :=
  match p with
  | .valve n => (s.valve n).trigger || (s.group (n / 12)).st == .excluded
  | _ => pointFaulted s p && !pointLatched s p

/-- Whether a point's switch-off is complete (R99): `ack` says that the node has acknowledged. A valve on another module shows it in its
imported status word, any other point there counts as a node does (log entry 58). -/
def pointOff (f : Nat) (ack : Bool) (s : State) : Point → Bool
  | .valve n => (s.valve n).offDone
  | .out n => let d := (s.dout n).st; d == .off || d == .latched || d == .unconfigured
  | .remote h => (match remoteWord h s with
      | some w => [ValveSt.deEnergised, .latched, .unconfigured].any fun t => t.code == w / 2 ^ 16 % 16
      | none => decide ((s.fn f).since + 100 * ms ≤ s.time))
  | .node _ => ack || decide ((s.fn f).since + 100 * ms ≤ s.time)

/-- A digital output's command (R275). -/
def commandOut (n : Nat) (on : Bool) (s : State) : State := pubBool (256 + n) on .valid 255 s.time s

/-- A point of another module is driven: a digital output is commanded on, a valve goes on from the set-point last sent (log entry 59). -/
def remoteOn (h : Nat) (s : State) : State :=
  if 256 ≤ hLocal h && hLocal h < 288 then publishRemote h 4 1 .valid 255 s
  else publishRemote h 3 ((aget s.sig.imported h).map (·.value) |>.getD 0) .valid (Config.hwConfidence (hLocal h)).toNat s

/-- The points are energised (R98). -/
def energise (f : Nat) (s : State) : State :=
  (fnPoints f s).foldl (fun s p => match p with
    | .valve n => setDrive n true s
    | .out n => commandOut n true s
    | .remote h => remoteOn h s
    | .node _ => s) s

/-- The digital outputs on other modules that a running function commands are commanded again in each sample, so that their records stay
fresh (R88, log entry 59). -/
def keepRemote (f : Nat) (s : State) : State :=
  if !((s.fn f).st.running || (s.fn f).st == .stopping) then s else
  (fnPoints f s).foldl (fun s p => match p with
    | .remote h => if 256 ≤ hLocal h && hLocal h < 288 then remoteOn h s else s
    | _ => s) s

/-- The points are switched off and the loop stops (R99). -/
def pointsOff (f : Nat) (s : State) : State :=
  let c := (s.fnConf f)
  let s := (fnPoints f s).foldl (fun s p => match p with
    | .valve n => setDrive n false s
    | .out n => commandOut n false s
    | .node loc => publishOut 0 c.rest s (s.handle loc)
    | .remote h => publishRemote h (if 256 ≤ hLocal h && hLocal h < 288 then 4 else 3) 0 .noValue 0 s) s
  stopOwned 3 f s

/-! ## States (R98) -/

/-- A `FUN_STATE_CHANGE` (`0x0380`), with its Cairn event where DEGRADED or FAULTED is entered or left (R102). -/
def funReport (f old new cause : Nat) (s : State) : State :=
  let x := s.fn f
  let target := unit 0x03 f
  let p := le 1 old ++ le 1 new ++ le 1 (x.dm.getD 0xFF) ++ le 1 cause ++ zeros 4 ++ le 8 s.time ++ le 4 x.eff.toNat ++ le 4 x.actual.toNat
  let s := toHosts 0x0380 (BitVec.ofNat 32 target) p s
  let s := match x.cfg with | some c => originate c.owner 0x0380 (BitVec.ofNat 32 target) p s | none => s
  let marks := fun (k : Nat) => k == 3 || k == 6
  if old != new && (marks old || marks new) then cairn 0x0380 (hwSource 0x0380) p s else s

/-- A function enters a state. -/
def funEnter (f : Nat) (st : FunSt) (cause : Nat) (s : State) : State :=
  let old := (s.fn f).st
  funReport f old.code st.code cause (modFn f (fun x => { x with st := st, since := s.time }) s)

/-- The loop's open-loop setting follows the degraded mode (R101). -/
def setOpen (f : Nat) (s : State) : State :=
  let on := (s.fn f).st == .degraded && (s.fn f).dm == some 2
  match s.findLoop 3 f with | some n => modLoop n (fun l => { l with openLoop := on }) s | none => s

/-- The effective set-point becomes the reference of the function's loop at once. -/
def refNow (f : Nat) (s : State) : State :=
  match s.findLoop 3 f with | some n => modLoop n (fun l => { l with spInt := (s.fn f).eff }) s | none => s

/-- Effective set-points whose release has come are the references of their loops (R93, R217). -/
def funRelease (s : State) : State :=
  (List.range 32).foldl (fun s f =>
    match (s.fn f).release with
    | some (t, u) =>
      if t ≤ s.time then
        let s := modFn f (fun x => { x with release := none }) s
        match s.findLoop 3 f with | some n => modLoop n (fun l => { l with spInt := u }) s | none => s
      else s
    | none => s) s

/-- A shut-down begins (R98). -/
def funStop (f cause : Nat) (dm : Option Nat) (s : State) : State :=
  if !(s.fn f).st.running then s else
  setOpen f (funEnter f .stopping cause (modFn f (fun x => { x with dm := dm, restAt := none, ilHold := false, override := false }) s))

/-- The point of no return: the points are switched off (R99). -/
def funFinish (f cause : Nat) (s : State) : State :=
  if !((s.fn f).st.running || (s.fn f).st == .stopping) then s else
  funEnter f .finishing cause (pointsOff f (modFn f (fun x => { x with release := none }) s))

/-- A pending enable ends. -/
def endPending (f : Nat) (st : Status) (s : State) : State :=
  match (s.fn f).pending with
  | some r => finish r st [] (modFn f (fun x => { x with pending := none }) s)
  | none => s

/-- An actuator point has latched off (R98). -/
def funFault (f : Nat) (s : State) : State :=
  let s := pointsOff f (modFn f (fun x => { x with dm := none, release := none }) s)
  endPending f .hwFault (funEnter f .faulted 11 s)

/-- Start of the enable sequence (R98, R100): from the actual value where it is usable, else from `rest`; a reversed stop goes on from the
present effective set-point. -/
def funGo (f : Nat) (reverse : Bool) (s : State) : State :=
  let c := (s.fnConf f)
  let eff := if reverse then (s.fn f).eff else (funVal c.feedback s).getD c.rest
  let s := modFn f (fun x => { x with eff := eff, dm := none, restAt := none, clearSince := none, timedOut := false, rf := none
                                      ilHold := false, inAuto := false, override := false, release := none }) s
  setOpen f (refNow f (funEnter f .enabling 0 (energise f s)))

/-- Whether an enable is refused (R98): not in RUN or an interlock unsatisfied, then a faulted point. -/
def funRefusal (f : Nat) (s : State) : Option Status :=
  if s.pwr.st != .run || !(ilUnsat f s).isEmpty then some .wrongState
  else if (fnPoints f s).any (pointFaulted s) then some .hwFault
  else none

/-- An enable of a function that is OFF, or a pending one at the end of its switch-off: the loop must run (log entry 53). -/
def funStart (f : Nat) (s : State) : Status × State :=
  let y := match s.findLoop 3 f with | some n => loopDest n s | none => 0
  let (st, s) := runOwned 3 f y s
  if st == .done then (.done, funGo f false s) else (.hwFault, s)

/-- The end of FINISHING (R98): every point's switch-off is complete. -/
def funFinished (f : Nat) (ack : Bool) (s : State) : State :=
  let x := s.fn f
  let ps := fnPoints f s
  if x.st != .finishing || !ps.all (pointOff f ack s) then s
  else if ps.any (pointLatched s) then funFault f s
  else match x.pending with
    | none => funEnter f .off Config.funOffCause.toNat (modFn f (fun x => { x with dm := none }) s)
    | some _ =>
      if s.pwr.st == .run && (ilUnsat f s).isEmpty then
        let (st, s) := funStart f s
        if st == .done then endPending f .done s
        else endPending f st (funEnter f .off Config.funOffCause.toNat (modFn f (fun x => { x with dm := none }) s))
      else endPending f .wrongState (funEnter f .off Config.funOffCause.toNat (modFn f (fun x => { x with dm := none }) s))

/-! ## Steps 1 and 2 of a sample (R93, R96, R101, R102) -/

/-- The actual value is read and published (R87). -/
def funActual (f : Nat) (s : State) : State :=
  let h := (s.fnConf f).feedback
  let v := funVal h s
  let r := s.view h
  let s := modFn f (fun x => { x with actual := v.getD x.actual, fbBad := if v.isSome then 0 else min 2 (x.fbBad + 1) }) s
  publish (544 + f) { value := f32v (s.fn f).actual, quality := if h == 0 then .noValue else r.quality
                      confidence := if h == 0 then 0 else r.confidence, ty := 3, stamp := r.stamp } 0 s

/-- Interlocks act (R96). -/
def funInterlocks (f : Nat) (s : State) : State :=
  let c := (s.fnConf f)
  let note := fun (old : List (Option Nat)) (i : Nat) =>
    if bitOf c.ilMask i && !ilOk i s then some ((old.getD i none).getD s.time) else none
  let s := modFn f (fun x => { x with unsat := (List.range 9).map (note x.unsat) }) s
  let x := s.fn f
  if !x.st.running then modFn f (fun x => { x with ilHold := false }) s else
  let due := (List.range 9).filter fun i => (x.unsat.getD i none).any fun t => decide (t + c.ilHold * ms ≤ s.time)
  if due.any (fun i => bitOf c.ilShut i) then funStop f 2 none s
  else modFn f (fun x => { x with ilHold := !due.isEmpty }) s

/-- A signal of the yield module. -/
def yieldHandle (s : State) (loc : Nat) : Nat := flowHandle s - 352 + loc

/-- A loss signal in % (R104): 1 rotor, 2 shoe, 3 total. -/
def lossAt (src : Nat) (s : State) : Option Rat := (usable32 (yieldHandle s (361 + src)) s).map f32d

/-- The loss target of a source (R104). -/
def lossTarget (src : Nat) (s : State) : Rat :=
  let a := s.fun_.auto_
  if src == 1 then f32d a.rotor else if src == 2 then f32d a.shoe else f32d a.rotor + f32d a.shoe

/-- The forecast of a function's stage at now + lead, where it is usable (R104, R133). -/
def funLoad (f stage : Nat) (s : State) : Option Rat :=
  let (v, q, _) := forecastAt stage (s.time + (s.fnConf f).lead * ms) s
  if q == .valid || q == .substituted || q == .outOfRange || q == .forced then some v else none

/-- Whether the inputs of automatic control are lost (R101); both losses are inputs of LOSS mode (R105). -/
def autoInputsLost (f : Nat) (s : State) : Bool :=
  let c := (s.fnConf f)
  s.fun_.auto_.mode == 0 || (funLoad f c.stage s).isNone || (c.lossSrc != 0 && (lossAt c.lossSrc s).isNone)
    || (f == 0 && s.fun_.auto_.mode == 3 && ((lossAt 1 s).isNone || (lossAt 2 s).isNone))

/-- The source in control, before the degraded mode's own choice (R90, R106). -/
def Fn.selected (x : Fn) : Nat := if x.override then 1 else x.source

/-- The triggers present as (cause, mode) (R101, R223, R428). -/
def funTriggers (f : Nat) (s : State) : List (Nat × Nat) :=
  let x := s.fn f
  let c := s.fnConf f
  let failed := (s.findLoop 3 f).any fun n => (s.loop n).st == .failed
  (if 2 ≤ x.fbBad then [(3, c.dmFeedback)] else [])
    ++ (if failed || (fnPoints f s).any (pointTrigger s) then [(4, if c.dmFeedback == 2 then 1 else c.dmFeedback)] else [])
    ++ (if x.timedOut then [(5, c.dmFeedback)] else [])
    ++ (if (x.selected == 1 && (funVal c.op s).isNone) || (x.selected == 3 && (funVal c.ext s).isNone) then [(6, 1)] else [])
    ++ (if x.selected == 2 && autoInputsLost f s then [(7, 0)] else [])
    ++ (if (s.part c.owner).st != .running then [(8, c.dmFeedback)] else [])

/-- The mode that is applied (R102): the first of PARK, OPEN_LOOP, FIXED, HOLD, REDUCED and AUTO_OFF called for, with its cause. -/
def pickMode (l : List (Nat × Nat)) : Option (Nat × Nat) :=
  ([4, 2, 3, 1, 5, 0].findSome? fun m => l.find? fun e => e.2 == m)

/-- A degraded mode is entered or changed (R98, R101). -/
def funDegrade (f cause mode : Nat) (s : State) : State :=
  let x := s.fn f
  if mode == 4 then funStop f cause (some 4) s
  else if x.st == .degraded && x.dm == some mode then s
  else
    let op := (funVal (s.fnConf f).op s).getD x.aoRef
    let s := modFn f (fun x => { x with dm := some mode, aoRef := if mode == 0 then op else x.aoRef, aoReleased := false
                                        inAuto := x.inAuto && mode != 0 }) s
    setOpen f (if x.st == .degraded then funReport f 3 3 cause s else funEnter f .degraded cause s)

/-- Degraded-mode triggers act on a running function (R98, R101, R102). -/
def funTrigger (f : Nat) (s : State) : State :=
  let l := funTriggers f s
  let s := modFn f (fun x => { x with
    autoLost := l.any (·.1 == 7), ownerLost := l.any (·.1 == 8)
    clearSince := if l.isEmpty then some (x.clearSince.getD s.time) else none }) s
  let x := s.fn f
  if !x.st.running then s
  else match pickMode l with
    | some (cause, mode) => funDegrade f cause mode s
    | none =>
      if x.st == .degraded && (s.fnConf f).autoRecover && x.clearSince.any (fun t => decide (t + (s.fnConf f).recoverHold * ms ≤ s.time)) then
        setOpen f (funEnter f .active 9 (modFn f (fun x => { x with dm := none }) s))
      else s

/-- Steps 1 and 2 of a sample: interlocks, latched points and triggers. -/
def funEvaluate (f : Nat) (s : State) : State :=
  let s := funActual f (modFn f (fun x => { x with seenAt := some s.time }) s)
  let s := funInterlocks f s
  let st := (s.fn f).st
  if st != .off && st != .faulted && (fnPoints f s).any (pointLatched s) then funFault f s
  else funTrigger f s

/-! ## Steps 4 and 5 (R90, R94, R104 to R106) -/

/-- Interpolation in a map, clamped to its end points (R104). -/
def mapAt : List (F32 × F32) → Rat → Rat
  | [], _ => 0
  | [p], _ => f32d p.2
  | p :: q :: l, x =>
    if x ≤ f32d p.1 then f32d p.2
    else if x ≤ f32d q.1 then f32d p.2 + (f32d q.2 - f32d p.2) * (x - f32d p.1) / (f32d q.1 - f32d p.1)
    else mapAt (q :: l) x

/-- The output of automatic crop-flow control, with the new trim, which is exact (R16, R104, R105). -/
def autoValue (f : Nat) (s : State) : Option F32 × Rat :=
  let x := s.fn f
  let c := s.fnConf f
  let a := s.fun_.auto_
  let p : Rat := (funNs c.period : Rat) / 1000000000
  if f == 0 then
    if a.mode == 1 then (funVal c.op s, x.trim)
    else match funLoad f 0 s, (funVal c.op s).map f32d with
      | some load, some op =>
        let q := if a.mode == 3 then s.fun_.qEff else f32d a.qTarget
        if load < 1 then (some a.speedMax, x.trim)
        else (some (qf32 (minR (f32d a.speedMax) (minR op (f32d x.actual * q / load)))), x.trim)
      | some load, none => (if load < 1 then some a.speedMax else none, x.trim)
      | _, _ => (none, x.trim)
  else match funLoad f c.stage s with
    | none => (none, x.trim)
    | some load =>
      let trim := match (if c.lossSrc == 0 then none else lossAt c.lossSrc s) with
        | some l =>
          if x.override || x.limited then x.trim
          else
            let lim := f32d c.trimLimit
            clampR (x.trim + f32d c.kLoss * (l - lossTarget c.lossSrc s) * p) (-lim) lim
        | none => x.trim
      (some (qf32 (mapAt c.map load + trim)), trim)

/-- AUTO takes control or has lost it; an operator value beyond the deadband begins or prolongs an override (R106). -/
def funOverride (f : Nat) (s : State) : State :=
  let x := s.fn f
  let c := s.fnConf f
  let op := funVal c.op s
  let far := fun (ref : F32) => op.any fun v => f32Lt c.ovDead (f32Abs (f32Sub v ref))
  if x.source != 2 || x.dm == some 0 then modFn f (fun x => { x with inAuto := false, override := x.override && x.source == 2 }) s
  else if x.override then
    if far x.ovRef then modFn f (fun x => { x with ovRef := op.getD x.ovRef, ovAt := s.time }) s else s
  else if !x.inAuto then modFn f (fun x => { x with inAuto := true, trim := 0, ovRef := op.getD 0 }) s
  else if far x.ovRef then
    if c.ovHold == 0 then modFn f (fun x => { x with source := 1, inAuto := false }) s
    else modFn f (fun x => { x with override := true, ovRef := op.getD x.ovRef, ovAt := s.time }) s
  else s

/-- An override whose hold has elapsed ends (R106). -/
def endOverride (f : Nat) (s : State) : State :=
  let x := s.fn f
  let c := s.fnConf f
  if !x.override || s.time < x.ovAt + c.ovHold * 100 * ms then s
  else if c.autoResume then modFn f (fun x => { x with override := false, inAuto := true, ovRef := (funVal c.op s).getD x.ovRef }) s
  else modFn f (fun x => { x with override := false, inAuto := false, source := 1 }) s

/-- The value of the EXTERNAL source (R90, R214). -/
def extValue (f : Nat) (s : State) : Option F32 :=
  let x := s.fn f
  let c := s.fnConf f
  (funVal c.ext s).map fun v =>
    let tgt := f32Add (f32Mul c.extRatio v) c.extOffset
    match x.rf with
    | none => tgt
    | some rf =>
      let p := qf32 ((funNs c.period : Rat) / 1000000000)
      if f32IsZero c.extTau then tgt else f32Add rf (f32Mul (f32Div p (f32Add c.extTau p)) (f32Sub tgt rf))

/-- Whether the operator record replaces the source (R94). -/
def Fn.onOperator (x : Fn) : Bool := x.dm == some 2 || (x.dm == some 0 && x.aoReleased)

/-- The active source as `FUN_STATE` reports it; 4 in OFF, FINISHING and FAULTED (log entry 55). -/
def Fn.activeSource (x : Fn) : Nat :=
  if x.st == .off || x.st == .finishing || x.st == .faulted then 4 else if x.onOperator then 1 else x.selected

/-- Steps 4 and 5: the raw value and the effective set-point (R94); answers the target too. -/
def conditionStep (f : Nat) (s : State) : F32 × State :=
  let c := (s.fnConf f)
  let op := funVal c.op s
  let moved := fun (x : Fn) => x.dm == some 0 && !x.aoReleased && op.any fun v => f32Lt c.ovDead (f32Abs (f32Sub v x.aoRef))
  let s := modFn f (fun x => if moved x then { x with aoReleased := true } else x) s
  let s := funOverride f (endOverride f s)
  let x := s.fn f
  let src := if x.onOperator then 1 else x.selected
  let (raw, s) := match src with
    | 0 => (usable32 (s.handle (512 + f)) s, s)
    | 1 => (op, s)
    | 2 => let (v, trim) := autoValue f s; (v, modFn f (fun x => { x with trim := trim }) s)
    | _ => let v := extValue f s; (v, modFn f (fun x => { x with rf := if v.isSome then v else x.rf }) s)
  let x := s.fn f
  let red := x.dm == some 5
  let lo := if red then c.redMin else c.limMin
  let hi := if red then c.redMax else c.limMax
  let ru := if red then f32Div c.rateUp 0x40000000 else c.rateUp
  let rd := if red then f32Div c.rateDown 0x40000000 else c.rateDown
  let frozen := x.ilHold || x.dm == some 1 || raw.isNone || (x.dm == some 0 && !x.aoReleased)
  let free := x.st != .stopping && x.dm != some 3 && !frozen
  let r := raw.getD 0
  let target := if x.st == .stopping then c.rest else if x.dm == some 3 then c.fixed else if frozen then x.eff else clampF r lo hi
  let p := qf32 ((funNs c.period : Rat) / 1000000000)
  let want := f32Sub target x.eff
  let step := clampF want (f32Mul (f32Neg rd) p) (f32Mul ru p)
  let eff := f32Add x.eff step
  (target, modFn f (fun x => { x with eff := eff, limited := free && (f32Lt r lo || f32Lt hi r), rateLimited := step != want
                                      release := some (s.time + funNs c.period, eff) }) s)

/-- What a conditioned sample completes: ENABLING, a timed-out enable, the point of no return (R98, R99). -/
def afterCondition (f : Nat) (target : F32) (s : State) : State :=
  let x := s.fn f
  let c := s.fnConf f
  let near := fun (v : F32) => x.fbBad == 0 && within32 x.actual v c.tol
  match x.st with
  | .enabling =>
    if near target then funEnter f .active 1 s
    else if x.since + c.enableTimeout * ms ≤ s.time then funDegrade f 5 c.dmFeedback (modFn f (fun x => { x with timedOut := true }) s)
    else s
  | .degraded => if near target then modFn f (fun x => { x with timedOut := false }) s else s
  | .stopping =>
    if f32d x.eff != f32d c.rest then modFn f (fun x => { x with restAt := none }) s
    else
      let s := modFn f (fun x => { x with restAt := some (x.restAt.getD s.time) }) s
      if near c.rest || (s.fn f).restAt.any (fun t => decide (t + 2 * sec ≤ s.time)) then funFinish f 10 s else s
  | _ => s

/-- `q_eff` moves (R105). -/
def moveQ (s : State) : State :=
  let a := s.fun_.auto_
  let q := f32d a.qTarget
  let dt : Rat := ((s.time - s.fun_.qAt : Nat) : Rat) / 1000000000
  let exc := fun (src : Nat) => (lossAt src s).any fun l => decide (lossTarget src s < l)
  let under := fun (src : Nat) => (lossAt src s).any fun l => decide (l < 8 / 10 * lossTarget src s)
  let qe := if a.mode != 3 then s.fun_.qEff
    else if exc 1 || exc 2 then s.fun_.qEff - q / 50 * dt
    else if under 1 && under 2 then s.fun_.qEff + q / 100 * dt
    else s.fun_.qEff
  modFun (fun x => { x with qAt := s.time, qEff := clampR qe (q / 2) q }) s

/-- A crop-flow setting comes into effect (`FUN_AUTO_SET`). -/
def applyAuto (s : State) : State :=
  match s.fun_.nextAuto with
  | some (t, a) =>
    if t ≤ s.time then modFun (fun x => { x with nextAuto := none, auto_ := a, qEff := if a.mode == x.auto_.mode then x.qEff else f32d a.qTarget }) s
    else s
  | none => s

/-- The own points of a copied configuration (R88). -/
def FunCopy.own (k : FunCopy) (s : State) : List Nat := (k.cfg.acts.filter s.isOwn).map hLocal

/-- Whether the set-point route of an own point is STALE, or has been since the last record (R101). -/
def FunCopy.stale (k : FunCopy) (loc : Nat) (s : State) : Bool :=
  (s.sig1 loc).quality == .stale || k.lost.contains (loc, (s.ownRec loc).seq)

/-- Change the copy of a function. -/
def modCopy (f : Nat) (g : FunCopy → FunCopy) (s : State) : State :=
  modFun (fun x => { x with copies := x.copies.map fun y => if y.fn == f then g y else y }) s

/-- A point of a copied function in its degraded mode (R101, log entry 253): PARK switches it off; in every other mode, which needs the loop
that only the owner's module runs, it keeps its last set-point. -/
def copyDegraded (k : FunCopy) (loc : Nat) (s : State) : State :=
  let r := s.ownRec loc
  let park := k.cfg.dmFeedback == 4
  let s := s.setOwn loc { r with quality := if park then .noValue else .substituted, confidence := 0, staleAt := none }
  if 96 ≤ loc && loc < 142 then setDrive (loc - 96) (!park && (s.valve (loc - 96)).drive) s else s

/-- A point of a copied function whose route is fresh follows it (R88): it is on while its record is usable. -/
def copyFollow (loc : Nat) (s : State) : State :=
  if 96 ≤ loc && loc < 142 then setDrive (loc - 96) ((s.sig1 loc).fresh && s.pwr.st == .run) s else s

/-- A copied function's points at a sample: those whose route is STALE take the owner trigger here, the others follow (R88, R101). -/
def copyStep (k : FunCopy) (s : State) : State :=
  let gone := (k.own s).filter fun loc => k.stale loc s
  let fresh := (k.own s).filter fun loc => !k.stale loc s
  let s := modCopy k.fn (fun y => { y with lost := gone.map fun loc => (loc, (s.ownRec loc).seq) }) s
  let s := if gone.isEmpty == k.lost.isEmpty then s else
    let a := if gone.isEmpty then 3 else 2
    let (free, s) := takeFreeBytes 8 s
    let p := le 1 a ++ le 1 (5 - a) ++ le 1 (if gone.isEmpty then 0xFF else k.cfg.dmFeedback) ++ le 1 (if gone.isEmpty then 9 else 8)
      ++ zeros 4 ++ le 8 s.time ++ free
    cairn 0x0380 (hwSource 0x0380) p (toHosts 0x0380 (BitVec.ofNat 32 (unit 0x03 k.fn)) p s)
  let s := fresh.foldl (fun s loc => copyFollow loc s) s
  gone.foldl (fun s loc => copyDegraded k loc s) s

/-- Every configured function. -/
def forFns (g : Nat → State → State) (s : State) : State :=
  (List.range 32).foldl (fun s f => if (s.fn f).cfg.isSome then g f s else s) s

/-- INTERLOCK_HOLD_EXPIRY (R96). -/
def doIlHold (s : State) : State := forFns funInterlocks s

/-- ENABLE_TIMEOUT (R98). -/
def doEnableTimeout (s : State) : State :=
  forFns (fun f s =>
    let x := s.fn f
    if x.st == .enabling && x.since + (s.fnConf f).enableTimeout * ms ≤ s.time then
      funDegrade f 5 (s.fnConf f).dmFeedback (modFn f (fun x => { x with timedOut := true }) s)
    else s) s

/-- RECOVER_HOLD (R98). -/
def doRecoverHold (s : State) : State := forFns (fun f s => if (s.fn f).st == .degraded then funTrigger f s else s) s

/-- PNR_TIMEOUT (R99): 2 s after the effective set-point has reached `rest`. -/
def doPnrTimeout (s : State) : State :=
  forFns (fun f s =>
    if (s.fn f).st == .stopping && (s.fn f).restAt.any (fun t => decide (t + 2 * sec ≤ s.time)) then funFinish f 10 s else s) s

/-- SWITCH_OFF_COMPLETE (R99): `ack` says that commanded nodes have acknowledged. -/
def doSwitchOff (ack : Bool) (s : State) : State := forFns (fun f s => funFinished f ack s) s

/-- OVERRIDE_END (R106). -/
def doOverrideEnd (s : State) : State := forFns endOverride s

/-- Leaving RUN (R502): each function that is not OFF switches off its points at once; pending enables are cancelled. -/
def funLeaveRun (s : State) : State := forFns (fun f s => funFinish f 0 (endPending f .superseded s)) s

/-- A drain sends `FUN_DISABLE` mode 0 to each function that is not OFF (R502). -/
def funDrain (s : State) : State := forFns (fun f s => funStop f 0 none (endPending f .superseded s)) s

/-- Whether the functions have drained. -/
def funDrained (s : State) : Bool := s.fun_.fn.all fun x => x.st == .off || x.st == .faulted

/-- Whether a function is degraded or faulted (`SYS_STATUS`). -/
def funDegraded (s : State) : Bool :=
  (s.fun_.fn.any fun x => x.st == .degraded || x.st == .faulted) || s.fun_.copies.any fun k => !k.lost.isEmpty

/-! ## Commands -/

/-- The function that a request names. -/
def funTarget (r : Req) : Option Nat := (unitIndex r.p.target 0x03).filter fun i => decide (i < 32)

/-- Whether a request comes from a function's owner partition. -/
def funOwner (f : Nat) (r : Req) (s : State) : Bool := (s.fn f).cfg.any fun c => partOfPort r.port == some c.owner

/-- Whether a function has samples: it is configured, and the main clock has not failed (R27: no loops run). -/
def funRuns (f : Nat) (s : State) : Bool := (s.fn f).cfg.isSome && !s.id.clockFail

/-- Whether a function's sample lies at this instant and is not over. -/
def funNow (f : Nat) (s : State) : Bool := onGrid (funNs (s.fnConf f).period) s && (s.fn f).doneAt != some s.time

/-- Whether a FUN command waits for the function's next sample (R93): one that comes at the instant of a sample starts in it. -/
def funWaits (r : Req) (s : State) : Bool :=
  match funTarget r with
  | some f => funRuns f s && !funNow f s
  | none => false

/-- Steps 1 and 2 of the sample in which a command starts (R93). -/
def funBefore (f : Nat) (s : State) : State :=
  if funRuns f s && funNow f s && (s.fn f).seenAt != some s.time then funEvaluate f s else s

/-- The configuration of a payload. -/
def funCfgOf (b : List Byte) : FunCfg :=
  let x := fun (o : Nat) => bits32 b o
  let n := u8 b 103
  { owner := u8 b 0, source := u8 b 1, dmFeedback := u8 b 2, period := u8 b 3, feedback := u32 b 4, op := u32 b 8, ext := u32 b 12
    limMin := x 16, limMax := x 20, rateUp := x 24, rateDown := x 28, rest := x 32, tol := x 36, fixed := x 40, redMin := x 44, redMax := x 48
    ovDead := x 52, extRatio := x 56, extOffset := x 60, extTau := x 64, enableTimeout := u16 b 68, recoverHold := u16 b 70, ovHold := u16 b 72
    ilMask := u16 b 74, ilShut := u16 b 76, ilHold := u8 b 78, autoResume := bitOf (u8 b 79) 0, autoRecover := bitOf (u8 b 79) 1
    critical := bitOf (u8 b 79) 2, acts := (List.range (min 4 (u8 b 80))).map fun i => u32 b (84 + 4 * i), lead := u16 b 100, stage := u8 b 102
    lossSrc := u8 b 104, kLoss := x 108, trimLimit := x 112, map := (List.range (min 16 n)).map fun i => (x (116 + 8 * i), x (120 + 8 * i)) }

/-- Whether a handle may be a point of a function of an owner (R88). -/
def actOk (owner h : Nat) (s : State) : Bool :=
  let l := hLocal h
  handleOk h && h / 65536 == s.handle 0 / 65536 &&
    ((96 ≤ l && l < 142) || (256 ≤ l && l < 288) ||
      (1024 ≤ l && s.isOwn h && (s.decl l).any fun d => d.producer == owner))

/-- Whether a configuration has a field out of range or order (`FUN_CONFIG`, R87), or a point that another function or guidance holds
(R88, R187). -/
def funCfgBad (f : Nat) (b : List Byte) (s : State) : Bool :=
  let c := funCfgOf b
  let w := funRow f
  let inLim := fun (x : F32) => f32In x (f32d c.limMin) (f32d c.limMax)
  let extOk := c.ext == 0 || (let l := hLocal c.ext; (288 ≤ l && l < 304) || (192 ≤ l && l < 208))
  let loads := c.map.map fun p => f32d p.1
  127 < c.owner || 3 < c.source || notIn 1 5 c.dmFeedback || 6 < c.period || !handleOk c.feedback || !handleOk c.op || !handleOk c.ext || !extOk
    || !f32In c.limMin w.lo w.hi || !f32In c.limMax w.lo w.hi || !f32Lt c.limMin c.limMax
    || !f32In c.rateUp (w.rate / 100) (w.rate * 4) || !f32In c.rateDown (w.rate / 100) (w.rate * 4)
    || !inLim c.rest || !f32Pos c.tol || !inLim c.fixed || !inLim c.redMin || !inLim c.redMax || !f32Lt c.redMin c.redMax
    || !f32Pos c.ovDead || !f32Ok c.extRatio || !f32Ok c.extOffset || !f32In c.extTau 0 10
    || notIn 100 60000 c.enableTimeout || 60000 < c.recoverHold || 6000 < c.ovHold || 0x1FF < c.ilMask || 0x1FF < c.ilShut || 250 < c.ilHold
    || 7 < u8 b 79 || notIn 1 4 (u8 b 80) || reservedSet b [(81, 3), (105, 3)]
    || (c.source == 2 && !w.stage)
    || (w.stage && (4000 < c.lead || 6 < c.stage || notIn 2 16 (u8 b 103) || 3 < c.lossSrc || !f32Ok c.kLoss || !f32Ok c.trimLimit
        || decide (f32d c.trimLimit < 0) || c.map.any (fun p => !f32Ok p.1 || !f32Ok p.2) || !(loads.zip (loads.drop 1)).all fun e => decide (e.1 < e.2)))
    || !c.acts.all (fun h => actOk c.owner h s) || !c.acts.Nodup
    || ((List.range 32).any fun g => g != f && (s.fnConf g).acts.any fun h => c.acts.contains h)
    || (s.fun_.copies.any fun k => k.fn != f && k.cfg.acts.any fun h => c.acts.contains h)
    || c.acts.any fun h => s.isOwn h && 256 ≤ hLocal h && hLocal h < 288 && (s.dout (hLocal h - 256)).gde

/-- The own points of a function are bound to it or released (R88, R240, R275). -/
def bindPoints (f : Nat) (owner : Option Nat) (s : State) : State :=
  (fnPoints f s).foldl (fun s p => match p with
    | .valve n => modValve n (fun v => { v with fn := owner.map fun _ => f, bindPart := owner }) s
    | .out n => modDo n (fun d => { d with fn := owner.map fun _ => f, bindPart := owner }) s
    | _ => s) s

/-- The loop of a function (R200, R215). -/
def funLoopCfg (f : Nat) (c : FunCfg) (s : State) : LoopCfg :=
  { kind := 3, index := f, owner := c.owner, classP := true, period := c.period, fbHandle := c.feedback, idleOut := c.rest
    outs := c.acts.filter fun h => match pointOf s h with | .valve _ => true | .node _ => true | _ => false }

/-- The points of a copy are bound to its function or released. -/
def bindCopy (k : FunCopy) (on : Bool) (s : State) : State :=
  let fn := if on then some k.fn else none
  (k.own s).foldl (fun s loc =>
    if loc < 142 then modValve (loc - 96) (fun v => { v with fn := fn, bindPart := none }) s
    else modDo (loc - 256) (fun d => { d with fn := fn, bindPart := none }) s) s

/-- A copy of a function's configuration is held where it has a point of this module (R88); it replaces an earlier one. -/
def takeCopy (f : Nat) (c : FunCfg) (s : State) : State :=
  let s := (s.fun_.copies.filter fun k => k.fn == f).foldl (fun s k => bindCopy k false s) s
  let rest := s.fun_.copies.filter fun k => k.fn != f
  let k : FunCopy := { fn := f, cfg := c }
  if (k.own s).isEmpty then modFun (fun x => { x with copies := rest }) s
  else bindCopy k true (modFun (fun x => { x with copies := rest ++ [k] }) s)

/-- A configuration goes to every module that carries a point of it (R88): as a `FUN_CONFIG` on that module's peer port. -/
def sendCopies (f : Nat) (c : FunCfg) (params : List Byte) (s : State) : State :=
  ((List.range 8).filter fun i => c.acts.any fun h => !s.isOwn h && h / 8192 % 8 == i).foldl
    (fun s i => originate (0xA0 + i) 0x0301 (BitVec.ofNat 32 (unit 0x03 f)) params s) s

/-- A function takes a configuration: its points and its loop (R88, R89, R200). -/
def installFn (f : Nat) (params : List Byte) (s : State) : State :=
  let c := funCfgOf params
  let s := bindPoints f none s
  let s := modFn f (fun x => { x with cfg := some c, params := params, source := c.source, eff := c.rest, fbBad := 0, rf := none
                                      unsat := List.replicate 9 none, inAuto := false, override := false, autoLost := false, ownerLost := false }) s
  let s := bindPoints f (some c.owner) s
  let lc := funLoopCfg f c s
  match s.findLoop 3 f with
  | some n => modLoop n (fun l => { l with cfg := lc }) s
  | none => match freeLoop s with | some n => allocLoop n lc s | none => s

/-- Whether a request comes from another module of the machine (R63). -/
def fromPeer (r : Req) : Bool := 0xA0 ≤ r.port && r.port < 0xA8

/-- What refuses `FUN_CONFIG`, in its order (step 8 of R73); one from another module brings a copy. -/
def chkFunConfig (r : Req) (s : State) : List (Bool × Status) :=
  let f := (funTarget r).getD 0
  [ ((funTarget r).isNone, .badParam), (!s.isHost r.port && !fromPeer r, .notOwner), (funCfgBad f r.p.payload s, .badParam),
    (!fromPeer r && (s.fn f).st != .off, .wrongState),
    (!fromPeer r && (s.findLoop 3 f).isNone && (freeLoop s).isNone, .configRejected) ]

/-- `FUN_CONFIG` (R88, R89). -/
def effFunConfig (r : Req) (s : State) : Res × State :=
  let f := (funTarget r).getD 0
  let c := funCfgOf r.p.payload
  check s (chkFunConfig r s) fun _ =>
    if fromPeer r then done (takeCopy f c s)
    else done (sendCopies f c (r.p.payload.take 244) (installFn f (r.p.payload.take 244) s))

/-! ## Critical functions (R103) -/

/-- The states of R97 by code. -/
def FunSt.ofCode (n : Nat) : FunSt := [FunSt.off, .enabling, .active, .degraded, .stopping, .finishing, .faulted].getD n .off

/-- A mirrored function goes on here after a takeover, in its mirrored state (R103, log entry 257). -/
def resumeFn (m : FnMirror) (s : State) : State :=
  let s := installFn m.fn m.params s
  let st := FunSt.ofCode m.st
  let s := modFn m.fn (fun x => { x with source := m.source, dm := m.dm, eff := m.eff, trim := m.trim, st := st, since := s.time }) s
  if !(st.running || st == .stopping) then s else
  let y := match s.findLoop 3 m.fn with | some n => loopDest n s | none => 0
  setOpen m.fn (refNow m.fn (energise m.fn (runOwned 3 m.fn y s).2))

/-- The mirrored functions go on after a takeover (R103). -/
def funTakeover (s : State) : State := s.col.mirrors.foldl (fun s m => m.fns.foldl (fun s x => resumeFn x s) s) s

/-- The critical functions leave with the partitions that own them (R434): their own points are switched off. -/
def funHandOver (s : State) : State :=
  ((List.range 32).filter fun f => (s.fnConf f).critical).foldl (fun s f =>
    let s := bindPoints f none (pointsOff f (endPending f .superseded s))
    let s := match s.findLoop 3 f with | some n => modLoop n (fun _ => {}) s | none => s
    modFn f (fun _ => {}) (clearLocals (512 + f) 1 (clearLocals (544 + f) 1 s))) s

/-- What refuses `FUN_ENABLE`, in its order (step 8 of R73). -/
def chkFunEnable (r : Req) (s : State) : List (Bool × Status) :=
  let f := (funTarget r).getD 0
  [((funTarget r).isNone, .badParam), (!funOwner f r s, .notOwner)]

/-- `FUN_ENABLE` (R98, R100). -/
def effFunEnable (r : Req) (s : State) : Res × State :=
  let f := (funTarget r).getD 0
  check s (chkFunEnable r s) fun _ =>
    let s := funBefore f s
    match (s.fn f).st with
    | .off =>
      match funRefusal f s with
      | some st => (.fin st [], s)
      | none => let (st, s) := funStart f s; (.fin st [], s)
    | .stopping => if (ilUnsat f s).isEmpty then done (funGo f true s) else (.fin .wrongState [], s)
    | .finishing => (.interim .held, modFn f (fun x => { x with pending := some r }) (endPending f .superseded s))
    | .faulted => (.fin .hwFault [], s)
    | _ => done s

/-- What refuses `FUN_DISABLE`, in its order (step 8 of R73). -/
def chkFunDisable (r : Req) (s : State) : List (Bool × Status) :=
  let f := (funTarget r).getD 0
  let b := r.p.payload
  [ ((funTarget r).isNone, .badParam), (!(funOwner f r s || s.isHost r.port), .notOwner), (1 < u8 b 0 || reservedSet b [(1, 3)], .badParam) ]

/-- `FUN_DISABLE` (R98, R100). -/
def effFunDisable (r : Req) (s : State) : Res × State :=
  let f := (funTarget r).getD 0
  let b := r.p.payload
  check s (chkFunDisable r s) fun _ =>
    let s := endPending f .superseded (funBefore f s)
    done (if u8 b 0 == 1 then funFinish f 0 s else funStop f 0 none s)

/-- What refuses `FUN_SOURCE_SET`, in its order (step 8 of R73). -/
def chkFunSourceSet (r : Req) (s : State) : List (Bool × Status) :=
  let f := (funTarget r).getD 0
  let b := r.p.payload
  let src := u8 b 0
  let c := (s.fnConf f)
  [ ((funTarget r).isNone, .badParam), (!funOwner f r s, .notOwner),
    (3 < src || reservedSet b [(1, 3)] || (src == 2 && !(funRow f).stage) || (src == 1 && c.op == 0) || (src == 3 && c.ext == 0), .badParam),
    ((s.fn f).st == .faulted, .wrongState) ]

/-- `FUN_SOURCE_SET` (R91). -/
def effFunSourceSet (r : Req) (s : State) : Res × State :=
  let f := (funTarget r).getD 0
  let b := r.p.payload
  let src := u8 b 0
  check s (chkFunSourceSet r s) fun _ =>
    done (modFn f (fun x => { x with source := src, override := false, inAuto := false, rf := none }) (funBefore f s))

/-- The flags of `FUN_STATE`. -/
def Fn.flags (x : Fn) : Nat :=
  bitsN [x.limited, x.rateLimited, x.override, x.pending.isSome, x.autoLost, x.ownerLost, x.ilHold]

/-- What refuses `FUN_STATE`, in its order (step 8 of R73). -/
def chkFunState (r : Req) (s : State) : List (Bool × Status) :=
  [((funTarget r).isNone, .badParam)]

/-- `FUN_STATE` (R97). -/
def effFunState (r : Req) (s : State) : Res × State :=
  let f := (funTarget r).getD 0
  let x := s.fn f
  check s (chkFunState r s) fun _ =>
    let un := (ilUnsat f s).foldl (fun a i => a + 2 ^ i) 0
    answer (le 1 x.st.code ++ le 1 x.activeSource ++ le 1 (x.dm.getD 0xFF) ++ zeros 1 ++ le 2 un ++ le 2 x.flags ++ le 4 x.eff.toNat
      ++ le 4 x.actual.toNat ++ le 4 (qf32 x.trim).toNat ++ zeros 4 ++ le 8 x.since) s

/-- What refuses `FUN_CLEAR`, in its order (step 8 of R73). -/
def chkFunClear (r : Req) (s : State) : List (Bool × Status) :=
  [((funTarget r).isNone, .badParam), (!s.isHost r.port, .notOwner)]

/-- `FUN_CLEAR` (R98). -/
def effFunClear (r : Req) (s : State) : Res × State :=
  let f := (funTarget r).getD 0
  check s (chkFunClear r s) fun _ =>
    let s := funBefore f s
    if (s.fn f).st != .faulted || (fnPoints f s).any (pointLatched s) then (.fin .wrongState [], s)
    else done (funEnter f .off 0 s)

/-- Whether a request names the interlocks and the crop-flow controller. -/
def ilTarget (r : Req) : Bool := r.p.target.toNat == unit 0x03 0x100

/-- What refuses `FUN_INTERLOCK_SET`, in its order (step 8 of R73). -/
def chkFunInterlockSet (r : Req) (s : State) : List (Bool × Status) :=
  let b := r.p.payload
  let new : IlCfg := { bind := (List.range 6).map fun i => u32 b (4 * i), polarity := u8 b 24, asw := bits32 b 28 }
  let old := s.fun_.il
  let changed := (List.range 6).filter fun i => new.bind.getD i 0 != old.bind.getD i 0 || bitOf new.polarity i != bitOf old.polarity i
  let changed := if new.asw == old.asw then changed else changed ++ [8]
  [ (!ilTarget r, .badParam), (!s.isHost r.port, .notOwner),
    (new.bind.any (fun h => h != 0 && handleBad h [4] s) || 63 < u8 b 24 || reservedSet b [(25, 3)] || !f32In new.asw 0 105, .badParam),
    ((List.range 32).any (fun f => (s.fn f).st != .off && changed.any fun i => bitOf (s.fnConf f).ilMask i), .wrongState) ]

/-- `FUN_INTERLOCK_SET` (R95). -/
def effFunInterlockSet (r : Req) (s : State) : Res × State :=
  let b := r.p.payload
  let new : IlCfg := { bind := (List.range 6).map fun i => u32 b (4 * i), polarity := u8 b 24, asw := bits32 b 28 }
  check s (chkFunInterlockSet r s) fun _ =>
    done (modFun (fun x => { x with il := new }) s)

/-- What refuses `FUN_AUTO_SET`, in its order (step 8 of R73). -/
def chkFunAutoSet (r : Req) (s : State) : List (Bool × Status) :=
  let b := r.p.payload
  let a : AutoCfg := { mode := u8 b 0, qTarget := bits32 b 4, rotor := bits32 b 8, shoe := bits32 b 12, speedMax := bits32 b 16 }
  [ (!ilTarget r, .badParam), (!s.isHost r.port, .notOwner),
    (3 < a.mode || reservedSet b [(1, 3)] || !f32In a.qTarget 10 150 || !f32In a.rotor (1 / 10) 5 || !f32In a.shoe (1 / 10) 5
      || !f32In a.speedMax 0 30, .badParam) ]

/-- `FUN_AUTO_SET` (R105). -/
def effFunAutoSet (r : Req) (s : State) : Res × State :=
  let b := r.p.payload
  let a : AutoCfg := { mode := u8 b 0, qTarget := bits32 b 4, rotor := bits32 b 8, shoe := bits32 b 12, speedMax := bits32 b 16 }
  check s (chkFunAutoSet r s) fun _ =>
    done (modFun (fun x => { x with nextAuto := some (nextGrid ms s, a) }) s)

/-! ## The sample (R93) -/

/-- The rules of the FUN commands that a sample starts (step 3 of R93). -/
def effOfFun (r : Req) (s : State) : Res × State :=
  match r.op with
  | .funConfig => effFunConfig r s
  | .funEnable => effFunEnable r s
  | .funDisable => effFunDisable r s
  | .funSourceSet => effFunSourceSet r s
  | .funState => effFunState r s
  | .funClear => effFunClear r s
  | _ => (.silent, s)

/-- Whether a request is a FUN command of a function. -/
def startsInFn (f : Nat) (r : Req) : Bool :=
  funTarget r == some f && [Op.funConfig, .funEnable, .funDisable, .funSourceSet, .funState, .funClear].contains r.op

/-- FUNCTION_SAMPLE (R93): every function whose period has an instant now. -/
def doFunctionSample (s : State) : State :=
  let s := moveQ (applyAuto (funRelease s))
  let s := (List.range 32).foldl (fun s f =>
    if !funRuns f s || !funNow f s then s else
    let s := startAwaiting (startsInFn f) effOfFun (funBefore f s)
    let s := modFn f (fun x => { x with doneAt := some s.time }) s
    let s := if (s.fn f).st.running || (s.fn f).st == .stopping then
        let (target, s) := conditionStep f s
        keepRemote f (afterCondition f target s)
      else s
    funFinished f false s) s
  if s.id.clockFail then s else
  s.fun_.copies.foldl (fun s k => if onGrid (funNs k.cfg.period) s then copyStep k s else s) s

end Sys2Proof.Machine
end

