-- ==== Sys2Proof/Machine/Map.lean ====
section
/-! DEFINITION. Chapter 07: the yield and coverage map: footprints, cells, the tile cache, flash, export and the rules of
the MAP commands. -/
namespace Sys2Proof.Machine

/-- Change the state of the map. -/
def modMap (f : MapState → MapState) (s : State) : State := { s with map := f s.map }

/-- A `MAP_EVENT` (`0x0680`). -/
def mapEvent (cause parcel : Nat) (te tn : Int) (cell : Nat) (s : State) : State :=
  event 0x0680 (unit 0x06 0) (le 1 cause ++ zeros 3 ++ le 4 parcel ++ leInt 2 te ++ leInt 2 tn ++ le 2 cell ++ zeros 2 ++ le 8 s.time) [] 0x70 s

/-- The side of a cell in m (R162). -/
def cellSide (code : Nat) : Rat := if code == 0 then 1 / 2 else if code == 1 then 1 else 2

/-- The field of an identifier. -/
def State.field (s : State) (id : Nat) : Option Field := s.map.fields.find? fun f => f.id == id

/-- The open field. -/
def State.openField (s : State) : Option Field := if s.map.open_ == 0 then none else s.field s.map.open_

/-- Replace a field. -/
def setField (f : Field) (s : State) : State :=
  modMap (fun m => { m with fields := m.fields.map fun g => if g.id == f.id then f else g }) s

/-! ## Cells (R163, R164) -/

/-- Whether a cell has been written (R163). -/
def Cell.isWritten (c : Cell) : Bool := !(f32IsZero c.cover && f32IsZero c.remote)

/-- The 64 bytes of a cell; a poisoned one reads as R172 says. -/
def Cell.fix (c : Cell) : Cell := if c.poison then { flags := 3 } else c

/-- The 64 bytes of a cell (R163). -/
def Cell.bytes (c : Cell) : List Byte :=
  let c := c.fix
  ([c.mass, c.yieldArea, c.cover, c.remote, c.overlap, c.rotor, c.shoe, c.fill, c.moistX, c.moistM, c.brokenX, c.mogX, c.camM].flatMap
    fun x => le 4 x.toNat) ++ le 4 c.firstUtc ++ le 4 c.lastUtc ++ le 1 c.conf ++ le 1 c.crop ++ le 2 c.flags

/-- The cell that 64 bytes spell. -/
def Cell.ofBytes (b : List Byte) : Cell :=
  let x := fun (o : Nat) => bits32 b o
  { mass := x 0, yieldArea := x 4, cover := x 8, remote := x 12, overlap := x 16, rotor := x 20, shoe := x 24, fill := x 28
    moistX := x 32, moistM := x 36, brokenX := x 40, mogX := x 44, camM := x 48, firstUtc := u32 b 52, lastUtc := u32 b 56
    conf := u8 b 60, crop := u8 b 61, flags := u16 b 62 }

/-- Set bits of the cell flags (R164); flags accumulate. -/
def Cell.flag (c : Cell) (n : Nat) : Cell := { c with flags := c.flags ||| n }

/-- Indices of a cell's tile and its number within it (R162). -/
def cellPlace (ce cn : Int) : Int × Int × Nat :=
  let te := ce / 64
  let tn := cn / 64
  (te, tn, (64 * (cn - 64 * tn) + (ce - 64 * te)).toNat)

/-- Whether a tile lies in the range of R162. -/
def tileInside (te tn : Int) : Bool := decide (-512 ≤ te) && decide (te ≤ 511) && decide (-512 ≤ tn) && decide (tn ≤ 511)

/-! ## Footprints (R165, R166) -/

/-- A point of the map plane in m. -/
abbrev Pt := Rat × Rat

/-- Twice the signed area of a polygon. -/
def shoelace (ps : List Pt) : Rat :=
  match ps with
  | [] => 0
  | p :: _ => ((ps.zip (ps.drop 1 ++ [p])).map fun e => e.1.1 * e.2.2 - e.2.1 * e.1.2).foldl (· + ·) 0

/-- The part of a polygon where `f` is at least 0; `f` is affine. -/
def clipBy (f : Pt → Rat) (ps : List Pt) : List Pt :=
  match ps with
  | [] => []
  | p :: _ => (ps.zip (ps.drop 1 ++ [p])).flatMap fun e =>
      let a := f e.1
      let b := f e.2
      let cross : Pt := let k := a / (a - b); (e.1.1 + k * (e.2.1 - e.1.1), e.1.2 + k * (e.2.2 - e.1.2))
      let start := if 0 ≤ a then [e.1] else []
      if (0 ≤ a && b < 0 && 0 < a) || (a < 0 && 0 < b) then start ++ [cross] else start

/-- The area of a polygon inside a cell of side `c`. -/
def areaIn (ps : List Pt) (c : Rat) (ce cn : Int) : Rat :=
  let e0 := (ce : Rat) * c
  let n0 := (cn : Rat) * c
  absR (shoelace (clipBy (fun p => n0 + c - p.2) (clipBy (fun p => p.2 - n0) (clipBy (fun p => e0 + c - p.1) (clipBy (fun p => p.1 - e0) ps))))) / 2

/-- A unit vector, its components in binary64; none for the zero vector. -/
def unitVec (e n : Rat) : Option (Rat × Rat) :=
  if e == 0 && n == 0 then none else
  let l := f64d (sqrt64 (e * e + n * n))
  some (r64 (e / l), r64 (n / l))

/-- A parcel that has closed before its cut positions were known takes the ones its last publications give (log entry 125). -/
def settlePose (p : Parcel) (s : State) : Parcel :=
  if !p.poseDue then p else
  let t := p.cut + p.tickUs * us / 2
  let l := (List.range p.sections).filterMap fun j => cutPos s j t true
  { p with
    poseDue := false, poseQ := deriveQuality (l.map fun e => e.2.1), poseConf := deriveConf (l.map fun e => e.2.2.1)
    blocks := (p.blocks.zip l).map fun e => { e.1 with east := e.2.1.1, north := e.2.1.2, extrapolated := e.2.2.2.2 } }

/-- The direction of travel of a parcel (R165); none for a parcel that is skipped. -/
def directionOf (p : Parcel) (s : State) : Option (Rat × Rat) :=
  let at_ := fun (q : Parcel) (j : Nat) => let b := q.blocks.getD j {}; ((b.east : Rat), (b.north : Rat))
  let dflt := (unitVec (Config.footDir p.no).1 (Config.footDir p.no).2).getD (0, 1)
  if 2 ≤ p.sections then
    let a := at_ p 0
    let b := at_ p (p.sections - 1)
    some ((unitVec (-(b.2 - a.2)) (b.1 - a.1)).getD dflt)
  else
    let before := (s.map.prevAt.filter fun q => (q.1 + 1) % 2 ^ 32 == p.no).map fun q => ((q.2.1 : Rat), (q.2.2 : Rat))
    let before := match s.cul.ledger.find? fun q => (q.no + 1) % 2 ^ 32 == p.no && q.st != 0 with
      | some q => some (at_ (settlePose q s) 0)
      | none => before
    before.map fun a =>
      let b := at_ p 0
      (unitVec (b.1 - a.1) (b.2 - a.2)).getD dflt

/-- The footprint of a section (R165): its four corners in m. -/
def footprint (p : Parcel) (j : Nat) (dir : Rat × Rat) (s : State) : List Pt :=
  let b := p.blocks.getD j {}
  let e := (b.east : Rat) / 1000
  let n := (b.north : Rat) / 1000
  let d := maxR (f32d p.speed * (p.tickUs : Rat) / 1000000) (1 / 1000)
  let w := f32d (s.map.width.getD j 0)
  let pt := fun (x y : Rat) => ((e + dir.1 * x - dir.2 * y, n + dir.2 * x + dir.1 * y) : Pt)
  [pt (-d / 2) (-w / 2), pt (d / 2) (-w / 2), pt (d / 2) (w / 2), pt (-d / 2) (w / 2)]

/-- The cells that a footprint meets, with their areas (R166). -/
def touched (ps : List Pt) (c : Rat) : List (Int × Int × Rat) :=
  let lo := fun (f : Pt → Rat) => (ps.map f).foldl minR ((ps.map f).headD 0)
  let hi := fun (f : Pt → Rat) => (ps.map f).foldl maxR ((ps.map f).headD 0)
  let e0 := (lo (·.1) / c).floor
  let n0 := (lo (·.2) / c).floor
  let ne := ((hi (·.1) / c).floor - e0).toNat + 1
  let nn := ((hi (·.2) / c).floor - n0).toNat + 1
  (List.range nn).flatMap fun (y : Nat) => (List.range ne).filterMap fun (x : Nat) =>
    let ce : Int := e0 + ((x : Nat) : Int)
    let cn : Int := n0 + ((y : Nat) : Int)
    let a := r64 (areaIn ps c ce cn)
    if a == 0 then none else some (ce, cn, a)

/-! ## The tile cache (R170) -/

/-- The tile of the cache. -/
def State.tile (s : State) (te tn : Int) : Option Tile := s.map.cache.find? fun t => t.te == te && t.tn == tn

/-- Replace a tile of the cache, or put one into it. -/
def setTile (t : Tile) (s : State) : State :=
  let same := fun (x : Tile) => x.te == t.te && x.tn == t.tn
  let l := if s.map.cache.any same then s.map.cache.map (fun x => if same x then t else x) else s.map.cache ++ [t]
  modMap (fun m => { m with cache := l }) s

/-- The least recently written tile of some. -/
def oldestTile (l : List Tile) : Option Tile :=
  l.foldl (fun (b : Option Tile) t => match b with | some x => if t.written < x.written then some t else b | none => some t) none

/-- The stored tile of a field. -/
def Field.stored (f : Field) (te tn : Int) : Option StoredTile := f.tiles.find? fun t => t.te == te && t.tn == tn

/-- A poisoned cell of a tile that a read meets is replaced, with its event (R172). -/
def healCells (te tn : Int) (ks : List Nat) (s : State) : State :=
  match s.tile te tn with
  | none => s
  | some t =>
    let sick := fun (l : List (Nat × Cell)) (k : Nat) => (aget l k).any (·.poison)
    let heal := fun (l : List (Nat × Cell)) => l.map fun e => if ks.contains e.1 then (e.1, e.2.fix) else e
    let bad := ks.filter fun k => sick t.cells k || sick t.snap k
    if bad.isEmpty then s else
    bad.foldl (fun s k => mapEvent 3 noParcel te tn k s) (setTile { t with cells := heal t.cells, snap := heal t.snap } s)

/-- Whether a flush can store a tile (R175). -/
def storable (t : Tile) (s : State) : Bool :=
  !t.refused && (s.openField.any fun f => (f.stored t.te t.tn).isSome || f.tiles.length < 4096)

/-- A flush of one dirty tile of the open field (R171, R173): its snapshot is written over the older generation, with a generation number one
higher than the newer one, and a copy goes to the deputy. A new tile beyond 4,096 is refused once and stays in the cache (R175). -/
def flushTile (t : Tile) (s : State) : State :=
  let s := healCells t.te t.tn (t.snap.map (·.1)) s
  let t := (s.tile t.te t.tn).getD t
  match s.openField with
  | none => s
  | some f =>
    let put := fun (f : Field) (gen : Nat) (s : State) =>
      let s := setTile { t with dirtySince := if t.snap == t.cells then none else some s.time } (setField f s)
      modMap (fun m => { m with copies := (f.id, { te := t.te, tn := t.tn, generation := gen, cells := t.snap }) :: m.copies }) s
    match f.stored t.te t.tn with
    | some x =>
      let gen := x.new.1 + 1
      put { f with tiles := f.tiles.map fun y => if y.te == t.te && y.tn == t.tn then { y with old := some y.new, new := (gen, t.snap) } else y } gen s
    | none =>
      if t.refused then s
      else if 4096 ≤ f.tiles.length then
        mapEvent 4 noParcel t.te t.tn 0xFFFF (setTile { t with refused := true } (modMap (fun m => { m with storeFull := true }) s))
      else put { f with tiles := f.tiles ++ [{ te := t.te, tn := t.tn, new := (1, t.snap) }] } 1 s

/-- Every dirty tile is flushed. -/
def flushAll (s : State) : State := (s.map.cache.filter (·.dirtySince.isSome)).foldl (fun s t => flushTile t s) s

/-- A tile enters the cache; a full cache gives up its least recently written clean tile, but for those in use (R170). -/
def cacheTile (inUse : List (Int × Int)) (t : Tile) (s : State) : State :=
  let s := if s.map.cache.length < 256 then s else
    match oldestTile (s.map.cache.filter fun x => x.dirtySince.isNone && !inUse.contains (x.te, x.tn)) with
    | some x => modMap (fun m => { m with cache := m.cache.filter fun y => !(y.te == x.te && y.tn == x.tn) }) s
    | none => s
  setTile t s

/-- Whether the open field has a tile in flash. -/
def tileStored (te tn : Int) (s : State) : Bool := (s.openField.bind fun f => f.stored te tn).isSome

/-- Whether a tile is resident, or new to the field so that nothing has to be loaded. -/
def tileReady (te tn : Int) (s : State) : Bool := (s.tile te tn).isSome || !tileStored te tn s

/-- Whether a cell of a tile can be written: after `STORE_FULL` no later tile is created (R175). -/
def tileAllowed (te tn : Int) (s : State) : Bool :=
  tileInside te tn && ((s.tile te tn).isSome || tileStored te tn s || !s.map.storeFull)

/-- The tiles that a piece of work writes enter the cache before it where they are new to the field, so that none of them leaves it on the
way (R170). -/
def admitTiles (ts : List (Int × Int)) (s : State) : State :=
  ts.foldl (fun s t => if (s.tile t.1 t.2).isSome || tileStored t.1 t.2 s || !tileAllowed t.1 t.2 s then s
    else cacheTile ts { te := t.1, tn := t.2 } s) s

/-- A tile is requested from flash. -/
def requestTile (te tn : Int) (s : State) : State :=
  if tileReady te tn s || s.map.loading.contains (te, tn) then s
  else modMap (fun m => { m with loading := m.loading ++ [(te, tn)] }) s

/-- The tile becomes dirty (R170): a 65th dirty tile is made room for by flushing the least recently written one that can be stored. -/
def makeDirty (te tn : Int) (s : State) : State :=
  match s.tile te tn with
  | some t =>
    if t.dirtySince.isSome then s else
    let dirty := s.map.cache.filter (·.dirtySince.isSome)
    let s := if dirty.length < 64 then s else
      match oldestTile (dirty.filter fun x => storable x s) with | some x => flushTile x s | none => s
    setTile { t with dirtySince := some s.time } s
  | none => s

/-- Change one cell of the open field: its tile becomes dirty, and a poisoned cell is replaced first (R172). -/
def writeCell (ce cn : Int) (f : Cell → Cell) (s : State) : State :=
  let (te, tn, k) := cellPlace ce cn
  let s := makeDirty te tn s
  match s.tile te tn with
  | none => s
  | some t =>
    let c := (aget t.cells k).getD {}
    let s := if c.poison then mapEvent 3 noParcel te tn k s else s
    let s := modMap (fun m => { m with clock := m.clock + 1 }) s
    setTile { t with cells := aset t.cells k (f c.fix), written := s.map.clock } s

/-- The snapshot of the tick (R171). -/
def takeSnapshot (s : State) : State :=
  modMap (fun m => { m with cache := m.cache.map fun t => { t with snap := t.cells } }) s

/-- The cell of the open field as the cache has it. -/
def readCell (ce cn : Int) (s : State) : Cell :=
  let (te, tn, k) := cellPlace ce cn
  ((s.tile te tn).bind fun t => aget t.cells k).map Cell.fix |>.getD {}

/-! ## Writing parcels (R165 to R168) -/

/-- The UTC second of an instant of module time; 0 where no UTC is available (R163, R168). -/
def utcSecond (t : Nat) (s : State) : Nat :=
  if s.tim.st == .free then 0 else
  let g := ((t : Int) + (mappingAt t s).1) / 1000000000
  let (l, _) := leapAt g s
  if l < 0 then 0 else (g + 315964800 - l).toNat

/-- The flags of a parcel's writes (R164), but `OVERLAP_MASS` and `SHARED`. -/
def writeFlags (p : Parcel) (b : Section) (yielding : Bool) : Nat :=
  let f := fun (i : Nat) => bitOf p.flags i
  bitsN [f 0 || f 1 || f 3 || f 6, !yielding, b.extrapolated, f 4 || f 5 || f 7, false, false, p.poseQ != .valid]

/-- A share added in binary32 (R166). -/
def addTo (a : F32) (q : Rat) : F32 := f32Add a (qf32 (r64 q))

/-- One section of a parcel is laid onto the cells (R166 to R168). -/
def writeSection (p : Parcel) (dir : Rat × Rat) (utc j : Nat) (s : State) : State :=
  match s.openField with
  | none => s
  | some fld =>
    let c := cellSide fld.cell
    let b := p.blocks.getD j {}
    let all := touched (footprint p j dir s) c
    let inside := all.filter fun x => let (te, tn, _) := cellPlace x.1 x.2.1; tileInside te tn
    let s := if inside.length < all.length then modMap (fun m => { m with outOfField := true }) s else s
    let cells := inside.filter fun x => let (te, tn, _) := cellPlace x.1 x.2.1; tileAllowed te tn s
    let s0 := s
    let fresh := fun (x : Int × Int × Rat) =>
      let k := readCell x.1 x.2.1 s0
      r64 (clampR (r64 (r64 (c * c - f32d k.cover) - f32d k.remote)) 0 x.2.2)
    let sumF := r64 ((cells.map fresh).foldl (· + ·) 0)
    let sumA := r64 ((cells.map fun x => x.2.2).foldl (· + ·) 0)
    let yielding := !bitOf p.flags 2 && bitOf p.slotMask 0
    let onFresh := yielding && decide (0 < sumF)
    let exc := yielding && !onFresh && decide (0 < sumA)
    let v := fun (i : Nat) => f32d (b.slots.getD i 0)
    let fl := writeFlags p b yielding + (if exc then 16 else 0)
    cells.foldl (fun s x =>
      let fr := fresh x
      let w := if onFresh then r64 (fr / sumF) else if exc then r64 (x.2.2 / sumA) else 0
      let m := r64 (w * v 0)
      let mw := f32d b.moistW
      let cw := f32d b.camW
      writeCell x.1 x.2.1 (fun k =>
        let first := !k.isWritten
        let k := { k with cover := addTo k.cover fr, overlap := addTo k.overlap (x.2.2 - fr) }
        let k := if yielding then { k with yieldArea := addTo k.yieldArea fr, mass := addTo k.mass m } else k
        let k := { k with rotor := addTo k.rotor (w * v 1), shoe := addTo k.shoe (w * v 2), fill := addTo k.fill (w * v 3) }
        let k := if 0 < mw then { k with moistX := addTo k.moistX (m * v 4 / mw), moistM := addTo k.moistM m } else k
        let k := if 0 < cw then { k with brokenX := addTo k.brokenX (m * v 5 / cw), mogX := addTo k.mogX (m * v 6 / cw)
                                         camM := addTo k.camM m } else k
        { (k.flag fl).flag (if f32IsZero k.remote then 0 else 32) with
          lastUtc := utc, firstUtc := if first then utc else k.firstUtc, conf := min k.conf p.poseConf, crop := s0.map.crop }) s) s

/-- The tiles that a parcel touches. -/
def parcelTiles (p : Parcel) (dir : Rat × Rat) (s : State) : List (Int × Int) :=
  match s.openField with
  | none => []
  | some f => (((activeOf p).flatMap fun j => touched (footprint p j dir s) (cellSide f.cell)).map fun x =>
      let y := cellPlace x.1 x.2.1; (y.1, y.2.1)).eraseDups.filter fun t => tileInside t.1 t.2

/-- A parcel is written into the open field, its active sections in ascending order (R166). -/
def writeParcel (p : Parcel) (dir : Rat × Rat) (s : State) : State :=
  let utc := utcSecond p.cut s
  let s := admitTiles (parcelTiles p dir s) s
  let s := (activeOf p).foldl (fun s j => writeSection p dir utc j s) s
  modMap (fun m => { m with written := m.written + 1 }) s

/-- One parcel meets the map: written, skipped, held until its tiles are resident, or dropped (R165, R171). -/
def offerParcel (p : Parcel) (dir : Rat × Rat) (s : State) : State :=
  let ts := parcelTiles p dir s
  if ts.all (fun t => tileReady t.1 t.2 s) then writeParcel p dir s
  else
    let s := ts.foldl (fun s t => requestTile t.1 t.2 s) s
    if s.map.queue.length < 256 then modMap (fun m => { m with queue := m.queue ++ [(p, dir)] }) s
    else mapEvent 2 p.no 0 0 0xFFFF (modMap (fun m => { m with dropped := m.dropped + 1 }) s)

/-- The parcels that wait and those that have closed meet the map in ascending number (R171). -/
def writeParcels (s : State) : State :=
  let new := (sortBy (fun (a b : Parcel) => decide (a.no ≤ b.no)) s.cul.toMap).map fun p => settlePose p s
  let s := modCul (fun c => { c with toMap := [] }) s
  let (placed, s) := new.foldl (fun (x : List (Parcel × Option (Rat × Rat)) × State) p =>
    let b := p.blocks.getD 0 {}
    (x.1 ++ [(p, directionOf p x.2)], modMap (fun m => { m with prevAt := some (p.no, b.east, b.north) }) x.2)) ([], s)
  if s.openField.isNone then modMap (fun m => { m with noField := m.noField + new.length }) s
  else
    let skip := (placed.filter fun x => x.2.isNone).length
    let held := s.map.queue
    let s := modMap (fun m => { m with skipped := m.skipped + skip, queue := [] }) s
    let jobs := held ++ placed.filterMap fun x => x.2.map fun d => (x.1, d)
    (sortBy (fun a b => decide (a.1.no ≤ b.1.no)) jobs).foldl (fun s j => offerParcel j.1 j.2 s) s

/-! ## Remote tiles (R169) -/

/-- A remote tile is applied to one cell. -/
def remoteCell (c : Rat) (cover : F32) (k : Cell) : Cell :=
  let room := qf32 (r64 (c * c - f32d k.cover))
  let lim := if f32d cover ≤ f32d room then cover else room
  let rem := if f32d k.remote < f32d lim then lim else k.remote
  { k with remote := rem }.flag (if f32IsZero k.cover || f32IsZero rem then 0 else 32)

/-- Received remote tiles are applied in order of arrival; one whose tile is not resident waits for it. -/
def applyRemote (s : State) : State :=
  match s.openField with
  | none => modMap (fun m => { m with remote := [] }) s
  | some f =>
    let l := s.map.remote
    l.foldl (fun s t =>
      if !tileAllowed t.te t.tn s then s
      else if !tileReady t.te t.tn s then
        modMap (fun m => { m with remote := m.remote ++ [t] }) (requestTile t.te t.tn s)
      else (t.cells.filter fun e => !f32IsZero e.2.cover).foldl (fun s e =>
        writeCell (64 * t.te + (e.1 % 64 : Nat)) (64 * t.tn + (e.1 / 64 : Nat)) (remoteCell (cellSide f.cell) e.2.cover) s)
        (admitTiles [(t.te, t.tn)] s))
      (modMap (fun m => { m with remote := [] }) s)

/-! ## The tick (R170, R171) -/

/-- Whether the segment from `p` along `d` over 100 m meets the tile of side `a` at index (te, tn). -/
def meetsTile (p d : Rat × Rat) (a : Rat) (te tn : Int) : Bool :=
  let slab := fun (x v : Rat) (i : Int) (r : Rat × Rat) =>
    let lo := (i : Rat) * a - x
    let hi := lo + a
    if v == 0 then (if 0 < lo || hi < 0 then (1, 0) else r)
    else
      let t0 := minR (lo / v) (hi / v)
      let t1 := maxR (lo / v) (hi / v)
      (maxR r.1 t0, minR r.2 t1)
  let r := slab p.2 d.2 tn (slab p.1 d.1 te (0, 100))
  decide (r.1 ≤ r.2)

/-- The machine's position in the map frame and its direction of travel, as the pose gives them: that of its velocity, or its heading at
rest (R340, log entry 128). -/
def machineAhead (s : State) : Option ((Rat × Rat) × (Rat × Rat)) :=
  let at_ := fun (loc : Nat) => usableQ (s.handle loc) s
  match at_ 449, at_ 450 with
  | some e, some n =>
    let d := match at_ 458, at_ 459 with
      | some ve, some vn => unitVec ve vn
      | _, _ => none
    let d := match d, at_ 454 with
      | some d, _ => some d
      | none, some h => some (cosDeg h, sinDeg h)
      | none, none => none
    d.map fun d => ((e, n), d)
  | _, _ => none

/-- Tiles within 100 m ahead of the machine are requested (R170). -/
def prefetch (s : State) : State :=
  match s.openField, machineAhead s with
  | some f, some (p, d) =>
    let a := 64 * cellSide f.cell
    let i := fun (x : Rat) => (x / a).floor
    let e := (i p.1, i (p.1 + 100 * d.1))
    let n := (i p.2, i (p.2 + 100 * d.2))
    let span := fun (x : Int × Int) => (List.range ((max x.1 x.2 - min x.1 x.2).toNat + 1)).map fun (k : Nat) => min x.1 x.2 + ((k : Nat) : Int)
    ((span e).flatMap fun te => (span n).filterMap fun tn => if meetsTile p d a te tn then some (te, tn) else none).foldl
      (fun s t => requestTile t.1 t.2 s) s
  | _, _ => s

/-- The open field closes (`MAP_FIELD_CLOSE`). -/
def closeField (s : State) : State :=
  let s := flushAll (takeSnapshot s)
  mapEvent 1 noParcel 0 0 0xFFFF (modMap (fun m => { m with open_ := 0, cache := [], loading := [], queue := [], remote := [] }) s)

/-- Close commands that wait for the holding queue end (R171, `MAP_FIELD_CLOSE`). -/
def endClosing (s : State) : State :=
  if !s.map.queue.isEmpty || s.openField.isNone then s else
  match s.waitingOf .mapFieldClose with
  | [] => s
  | l => l.foldl (fun s r => finish r .done [] s) (closeField s)

/-- The map's part of a tick (R171). -/
def doMapTick (s : State) : State :=
  if !s.acting || !onGrid (s.cul.cfg.tick * ms) s then s else takeSnapshot (endClosing (prefetch (applyRemote (writeParcels s))))

/-- TILE_LOAD_COMPLETE (R170, R171, R173): the newer generation of a requested tile becomes resident. -/
def doTileLoad (te tn : Int) (s : State) : State :=
  if !s.map.loading.contains (te, tn) then s else
  let s := modMap (fun m => { m with loading := m.loading.filter fun x => x != (te, tn) }) s
  match s.openField.bind fun f => f.stored te tn with
  | some x => if (s.tile te tn).isSome then s else cacheTile [] { te := te, tn := tn, cells := x.new.2, snap := x.new.2, written := s.map.clock } s
  | none => s

/-- TILE_FLUSH (R173): every tile whose first unflushed write is `flush_period` old is flushed. -/
def doTileFlush (s : State) : State :=
  (s.map.cache.filter fun t => t.dirtySince.any fun d => decide (d + s.map.flushPeriod * sec ≤ s.time)).foldl (fun s t => flushTile t s) s

/-! ## Takeover (R174) -/

/-- The deputy reopens the open field from the tile copies it holds. -/
def mapTakeover (s : State) : State :=
  match s.map.deputy with
  | none => s
  | some (f, crop) =>
    if (s.field f.id).isNone && 64 ≤ s.map.fields.length then
      mapEvent 4 noParcel 0 0 0xFFFF (modMap (fun m => { m with deputy := none }) s)
    else
    let s := modMap (fun m => { m with
      fields := m.fields.filter (fun g => g.id != f.id) ++ [f], open_ := f.id, crop := crop, cache := [], loading := [], queue := []
      remote := [], outOfField := false, storeFull := false, written := 0, noField := 0, skipped := 0, dropped := 0, deputy := none }) s
    mapEvent 0 noParcel 0 0 0xFFFF (setOrigin (f64d f.origin.1, f64d f.origin.2.1, f64d f.origin.2.2) s)

/-- A module that is no manager any more runs no map (R159): the open field is left with what its tiles hold. -/
def mapStandDown (s : State) : State :=
  let s := if s.openField.isSome then flushAll (takeSnapshot s) else s
  let s := (s.waitingOf .mapFieldClose).foldl (fun s r => finish r .wrongState [] s) s
  modMap (fun m => { m with open_ := 0, cache := [], loading := [], queue := [], remote := [] }) s

/-! ## Export (R176, R177) -/

/-- The 64-byte header of a tile or of a field, with its CRC over itself and the cells that follow (R177). -/
def tileHeader (magic : List Byte) (machine : Nat) (f : Field) (te tn : Int) (generation written : Nat) (cells : List Byte) : List Byte :=
  let h := magic ++ le 2 1 ++ le 1 f.cell ++ le 1 machine ++ le 4 f.id ++ leInt 2 te ++ leInt 2 tn ++ le 4 generation ++ le 4 written
    ++ le 8 f.origin.1.toNat ++ le 8 f.origin.2.1.toNat ++ le 8 f.origin.2.2.toNat ++ zeros 12
  h ++ le 4 (Crypto.crc32c (h ++ zeros 4 ++ cells))

/-- `OBTL`. -/
def magicTile : List Byte := [0x4F, 0x42, 0x54, 0x4C]
/-- `OBFD`. -/
def magicField : List Byte := [0x4F, 0x42, 0x46, 0x44]

/-- The 4,096 cell records of a tile. -/
def cellsBytes (cells : List (Nat × Cell)) : List Byte :=
  (List.range 4096).flatMap fun k => ((aget cells k).getD {}).bytes

/-- A tile in the layout of R177. -/
def tileFile (machine : Nat) (f : Field) (t : TileMsg) : List Byte :=
  let c := cellsBytes t.cells
  tileHeader magicTile machine f t.te t.tn t.generation (t.cells.filter fun e => e.2.isWritten).length c ++ c

/-- A field in the tile format (R177). -/
def fieldFile (machine : Nat) (f : Field) : List Byte :=
  let ts := sortBy (fun (a b : StoredTile) => decide (a.tn < b.tn || (a.tn == b.tn && a.te ≤ b.te))) f.tiles
  tileHeader magicField machine f 0 0 f.tiles.length 0 [] ++
    ts.flatMap fun t => tileFile machine f { te := t.te, tn := t.tn, generation := t.new.1, cells := t.new.2 }

/-- The time-log record of a cell (R176): the time of its last write, the cell centre in WGS 84, and its values: mass per area, moisture,
mass and area, or the area alone for a cell with `NO_YIELD`. -/
def logRecord (f : Field) (t : StoredTile) (e : Nat × Cell) : Nat × Rat × Rat × List Rat :=
  let c := cellSide f.cell
  let mid := fun (i : Int) (k : Nat) => (((64 * i + (k : Int) : Int) : Rat) + 1 / 2) * c
  let o := (f64d f.origin.1, f64d f.origin.2.1, f64d f.origin.2.2)
  let p := ofEcef (mapToEcef o.1 o.2.1 o.2.2 (mid t.te (e.1 % 64), mid t.tn (e.1 / 64), 0))
  let x := e.2.fix
  let values := if bitOf x.flags 1 then [f32d x.cover] else
    [f32d x.mass / f32d x.yieldArea] ++ (if f32IsZero x.moistM then [] else [f32d x.moistX / f32d x.moistM]) ++ [f32d x.mass, f32d x.cover]
  (x.lastUtc, p.1, p.2.1, values)

/-- The time log of a field (R176): one record for each written cell that has yield, or only coverage. -/
def timeLog (f : Field) : List (Nat × Rat × Rat × List Rat) :=
  f.tiles.flatMap fun t => (t.new.2.filter fun e => e.2.isWritten && (!f32IsZero e.2.yieldArea || bitOf e.2.flags 1)).map (logRecord f t)

/-- The three files of an ISO 11783-10 task data set, each preceded by its length (R176): one task, the partfield named after the field, the
crop type from the profile's name, the module as device, and the time log. Their coding is the standard's (log entry 126). -/
def taskData (f : Field) (s : State) : List Byte :=
  let newest := (f.tiles.flatMap fun t => t.new.2.filter fun e => e.2.isWritten).foldl (fun (b : Option Cell) e =>
    match b with | some x => if x.lastUtc ≤ e.2.lastUtc then some e.2 else b | none => some e.2) none
  let crop := (s.sen.crops.getD ((newest.map (·.crop)).getD s.map.crop) {}).name
  (List.range 3).flatMap fun k =>
    let b := Config.taskFile k f.id crop (timeLog f)
    le 8 b.length ++ b

/-- EXPORT_BUILT (R176). -/
def doExportBuilt (s : State) : State :=
  match s.map.exporting with
  | none => s
  | some (r, f, fmt) =>
    let b := if fmt == 1 then fieldFile (s.id.machine % 16) f else taskData f s
    let s := modMap (fun m => { m with exporting := none, export_ := some b }) s
    finish r .done (le 8 b.length ++ le 4 (Crypto.crc32c b)) s

/-! ## Commands -/

/-- Whether a request names the map. -/
def mapTarget (r : Req) : Bool := r.p.target.toNat == unit 0x06 0

/-- What refuses `MAP_FIELD_OPEN`, in its order (step 8 of R73). -/
def chkMapFieldOpen (r : Req) (s : State) : List (Bool × Status) :=
  let b := r.p.payload
  let id := u32 b 0
  let create := u8 b 4 == 0
  let found := s.field id
  [ (!mapTarget r, .badParam), (!s.isHost r.port, .notOwner), (!s.acting, .wrongState),
    (id == 0 || id == 0xFFFFFFFF || 1 < u8 b 4 || 15 < u8 b 6 || reservedSet b [(7, 1)], .badParam),
    (create && (2 < u8 b 5 || !f64In (bits64 b 8) (-90) 90 || !f64In (bits64 b 16) (-180) 180 || !f64In (bits64 b 24) (-500) 9000), .badParam),
    (create == found.isSome, .badParam),
    (s.map.open_ != 0 || s.cul.st.busy, .wrongState) ]

/-- `MAP_FIELD_OPEN` (R161). -/
def effMapFieldOpen (r : Req) (s : State) : Res × State :=
  let b := r.p.payload
  let id := u32 b 0
  let create := u8 b 4 == 0
  let found := s.field id
  let full := create && 64 ≤ s.map.fields.length
  check s (chkMapFieldOpen r s) fun _ =>
    if full then (.fin .noResource [], mapEvent 4 noParcel 0 0 0xFFFF s) else
    let f : Field := found.getD { id := id, cell := u8 b 5, origin := (bits64 b 8, bits64 b 16, bits64 b 24) }
    let s := modMap (fun m => { m with
      fields := if create then m.fields ++ [f] else m.fields, open_ := id, crop := u8 b 6, cache := [], loading := [], queue := []
      remote := [], outOfField := false, storeFull := false, written := 0, noField := 0, skipped := 0, dropped := 0 }) s
    let s := modCul (fun c => { c with toMap := [] }) s
    let s := setOrigin (f64d f.origin.1, f64d f.origin.2.1, f64d f.origin.2.2) s
    (.fin .done (le 4 f.tiles.length), mapEvent 0 noParcel 0 0 0xFFFF s)

/-- What refuses `MAP_FIELD_CLOSE`, in its order (step 8 of R73). -/
def chkMapFieldClose (r : Req) (s : State) : List (Bool × Status) :=
  [ (!mapTarget r, .badParam), (!s.isHost r.port, .notOwner), (!s.acting, .wrongState),
    (s.map.open_ == 0 || s.cul.st.busy, .wrongState) ]

/-- `MAP_FIELD_CLOSE`: parcels that have closed are written first; a parcel that waits for a tile keeps the command in flight. -/
def effMapFieldClose (r : Req) (s : State) : Res × State :=
  check s (chkMapFieldClose r s) fun _ =>
    let s := applyRemote (writeParcels s)
    if s.map.queue.isEmpty then (.fin .done [], closeField s) else (.interim .queued, s)

/-- What refuses `MAP_CONFIG`, in its order (step 8 of R73). -/
def chkMapConfig (r : Req) (s : State) : List (Bool × Status) :=
  let b := r.p.payload
  [ (!mapTarget r, .badParam), (!s.isHost r.port, .notOwner), (!s.configures, .wrongState),
    ((List.range 8).any (fun i => !f32In (bits32 b (4 * i)) (1 / 10) 5) || notIn 1 60 (u16 b 32) || reservedSet b [(34, 2)], .badParam),
    (s.cul.st.busy, .wrongState) ]

/-- `MAP_CONFIG`. -/
def effMapConfig (r : Req) (s : State) : Res × State :=
  let b := r.p.payload
  check s (chkMapConfig r s) fun _ =>
    done (modMap (fun m => { m with width := (List.range 8).map fun i => bits32 b (4 * i), flushPeriod := u16 b 32 }) s)

/-- What refuses `MAP_TILE_READ`, in its order (step 8 of R73). -/
def chkMapTileRead (r : Req) (s : State) : List (Bool × Status) :=
  let b := r.p.payload
  let id := if u32 b 0 == 0 then s.map.open_ else u32 b 0
  let te := i16 b 4
  let tn := i16 b 6
  let fld := s.field id
  [ (!mapTarget r, .badParam), (!s.acting, .wrongState),
    (id == 0 || fld.isNone || !tileInside te tn || 4095 < u16 b 8 || notIn 1 63 (u8 b 10) || reservedSet b [(11, 1)], .badParam) ]

/-- `MAP_TILE_READ` (R163, R171). -/
def effMapTileRead (r : Req) (s : State) : Res × State :=
  let b := r.p.payload
  let id := if u32 b 0 == 0 then s.map.open_ else u32 b 0
  let te := i16 b 4
  let tn := i16 b 6
  let fld := s.field id
  check s (chkMapTileRead r s) fun _ =>
    let ks := (List.range (min (u8 b 10) (4096 - u16 b 8))).map (u16 b 8 + ·)
    let show_ := fun (gen : Nat) (cells : List (Nat × Cell)) =>
      le 1 ks.length ++ zeros 3 ++ le 4 gen ++ ks.flatMap fun k => ((aget cells k).getD {}).bytes
    let cached := if id == s.map.open_ then s.tile te tn else none
    match cached, fld.bind fun f => f.stored te tn with
    | some t, _ => (.fin .done (show_ 0 t.snap), healCells te tn ks s)
    | none, some x => (.fin .done (show_ x.new.1 x.new.2), s)
    | none, none => (.fin .done (zeros 8), s)

/-- What refuses `MAP_STATUS`, in its order (step 8 of R73). -/
def chkMapStatus (r : Req) (s : State) : List (Bool × Status) :=
  [(!mapTarget r, .badParam)]

/-- `MAP_STATUS`. -/
def effMapStatus (r : Req) (s : State) : Res × State :=
  check s (chkMapStatus r s) fun _ =>
    let m := s.map
    answer (le 4 m.open_ ++ le 2 m.cache.length ++ le 2 (m.cache.filter (·.dirtySince.isSome)).length ++ le 2 m.queue.length
      ++ le 2 (bitsN [m.outOfField, m.storeFull, m.exporting.isSome]) ++ le 4 m.written ++ le 4 m.noField ++ le 4 m.skipped ++ le 4 m.dropped
      ++ le 4 m.fields.length ++ le 8 s.time) s

/-- What refuses `MAP_EXPORT`, in its order (step 8 of R73). -/
def chkMapExport (r : Req) (s : State) : List (Bool × Status) :=
  let b := r.p.payload
  let id := u32 b 0
  [ (!mapTarget r, .badParam), (!s.isHost r.port, .notOwner), (!s.acting, .wrongState),
    ((s.field id).isNone || 1 < u8 b 4 || reservedSet b [(5, 3)], .badParam),
    (s.map.exporting.isSome, .wrongState) ]

/-- `MAP_EXPORT` (R176, R177). -/
def effMapExport (r : Req) (s : State) : Res × State :=
  let b := r.p.payload
  let id := u32 b 0
  check s (chkMapExport r s) fun _ =>
    let s := if id == s.map.open_ then flushAll s else s
    match s.field id with
    | some f => (.interim .queued, modMap (fun m => { m with exporting := some (r, f, u8 b 4), export_ := none }) s)
    | none => (.fin .badParam [], s)

/-- What refuses `MAP_EXPORT_READ`, in its order (step 8 of R73). -/
def chkMapExportRead (r : Req) (s : State) : List (Bool × Status) :=
  let b := r.p.payload
  let data := s.map.export_.getD []
  [ (!mapTarget r, .badParam), (!s.acting, .wrongState), (notIn 1 4064 (u16 b 8) || reservedSet b [(10, 2)], .badParam),
    (s.map.exporting.isSome || s.map.export_.isNone, .wrongState),
    (data.length ≤ u64 b 0, .badParam) ]

/-- `MAP_EXPORT_READ`. -/
def effMapExportRead (r : Req) (s : State) : Res × State :=
  let b := r.p.payload
  let data := s.map.export_.getD []
  check s (chkMapExportRead r s) fun _ =>
    answer ((data.drop (u64 b 0)).take (u16 b 8)) s

end Sys2Proof.Machine
end

