-- ==== Sys2Proof/Machine/Gde.lean ====
section
/-! DEFINITION. Chapter 08: guidance and steering: lines and passes, the tracking law, the dual steering valve, the wheel-angle
sensors, engagement and release, and the rules of the GDE commands. -/
namespace Sys2Proof.Machine

/-- Change guidance. -/
def modGde (f : GdeState → GdeState) (s : State) : State := { s with gde := f s.gde }

/-- The configuration, the defaults where there is none. -/
def State.gcfg (s : State) : GdeCfg := s.gde.cfg.getD {}

/-- Whether guidance runs on this module (R178). -/
def gdeOn (s : State) : Bool := s.acting

/-- The state codes of R196. -/
def GdeSt.code : GdeSt → Nat
  | .off => 0 | .standby => 1 | .ready => 2 | .engaged => 3 | .coasting => 4 | .releasing => 5 | .finishing => 6 | .faulted => 7

/-- ENGAGED, COASTING or RELEASING. -/
def gdeSteering (s : State) : Bool := s.gde.st == .engaged || s.gde.st == .coasting || s.gde.st == .releasing

/-- ENGAGED or COASTING. -/
def gdeActive (s : State) : Bool := s.gde.st == .engaged || s.gde.st == .coasting

/-- A configured handle of `GDE_CONFIG`. -/
def gdeHandle (i : Nat) (s : State) : Nat := s.gcfg.handles.getD i 0

/-! ## binary64 arithmetic (R185, R186) -/

/-- Sum, difference, product and quotient in binary64. -/
def dA (a b : Rat) : Rat := r64 (a + b)
def dS (a b : Rat) : Rat := r64 (a - b)
def dM (a b : Rat) : Rat := r64 (a * b)
def dD (a b : Rat) : Rat := r64 (a / b)
/-- Length of a vector. -/
def hypot (x y : Rat) : Rat := f64d (sqrt64 (x * x + y * y))
/-- An angle in degrees wrapped to (-180, 180]. -/
def wrap180 (a : Rat) : Rat := a - 360 * ((a - 180) / 360).ceil

/-! ## Lines and passes (R181 to R184) -/

/-- One straight piece of a pass: its start, its unit direction, its length and the arc position of its start. -/
structure Seg where
  x : Rat
  y : Rat
  tx : Rat
  ty : Rat
  len : Rat
  at_ : Rat
deriving DecidableEq, Repr, Inhabited

/-- The geometry of a pass. -/
inductive Pass where
  | circle (x y r : Rat)
  | path (segs : List Seg) (open_ : Bool) (loop : Bool)
deriving DecidableEq, Repr, Inhabited

/-- Vertices in metres. -/
def GdeLine.pts (l : GdeLine) : List (Rat × Rat) := l.verts.map fun v => ((v.1 : Rat) / 1000, (v.2 : Rat) / 1000)

/-- The straight pieces between points, from an arc position on. -/
def segsFrom : Rat → List (Rat × Rat) → List Seg
  | a, p :: q :: l =>
    let n := hypot (q.1 - p.1) (q.2 - p.2)
    if n == 0 then segsFrom a (q :: l)
    else { x := p.1, y := p.2, tx := dD (q.1 - p.1) n, ty := dD (q.2 - p.2) n, len := n, at_ := a } :: segsFrom (dA a n) (q :: l)
  | _, _ => []

/-- Points of a closed figure with the first one again at the end. -/
def closed (l : List (Rat × Rat)) : List (Rat × Rat) := l ++ l.take 1

/-- The places where the offsets of two adjacent pieces are joined (R183): their intersection; pieces that turn back have none, and
both offset ends stand. -/
def joinAt (d : Rat) (a b : Seg) : List (Rat × Rat) :=
  let vx := b.x
  let vy := b.y
  let c := 1 + a.tx * b.tx + a.ty * b.ty
  if c ≤ 0 then [(vx - d * a.ty, vy + d * a.tx), (vx - d * b.ty, vy + d * b.tx)]
  else [(dS vx (dD (d * (a.ty + b.ty)) c), dA vy (dD (d * (a.tx + b.tx)) c))]

/-- The joints between the pieces of a list. -/
def joints (d : Rat) : List Seg → List (Rat × Rat)
  | a :: b :: l => joinAt d a b ++ joints d (b :: l)
  | _ => []

/-- The offset of a polyline by d to the left, before loops are removed (R183). -/
def offsetOpen (d : Rat) (l : List Seg) : List (Rat × Rat) :=
  match l.head?, l.getLast? with
  | some a, some z =>
    [(a.x - d * a.ty, a.y + d * a.tx)] ++ joints d l ++ [(z.x + z.len * z.tx - d * z.ty, z.y + z.len * z.ty + d * z.tx)]
  | _, _ => []

/-- The offset of a polygon by d to the left, before loops are removed. -/
def offsetClosed (d : Rat) (l : List Seg) : List (Rat × Rat) :=
  match l.head?, l.getLast? with
  | some a, some z => joinAt d z a ++ joints d l
  | _, _ => []

/-- Where two pieces cross, both ends excluded at the start; none where they do not. -/
def crossing (p q u v : Rat × Rat) : Option (Rat × Rat) :=
  let dx := q.1 - p.1
  let dy := q.2 - p.2
  let ex := v.1 - u.1
  let ey := v.2 - u.2
  let den := dx * ey - dy * ex
  if den == 0 then none
  else
    let a := ((u.1 - p.1) * ey - (u.2 - p.2) * ex) / den
    let b := ((u.1 - p.1) * dy - (u.2 - p.2) * dx) / den
    if 0 ≤ a && a ≤ 1 && 0 ≤ b && b ≤ 1 then some (dA p.1 (a * dx), dA p.2 (a * dy)) else none

/-- The first pair of pieces that are not adjacent and cross: their numbers and the crossing. -/
def firstCrossing (closed_ : Bool) (l : List (Rat × Rat)) : Option (Nat × Nat × (Rat × Rat)) :=
  let n := l.length - 1
  (List.range n).findSome? fun i => (List.range n).findSome? fun j =>
    if j < i + 2 || (closed_ && i == 0 && j + 1 == n) then none
    else (crossing (l.getD i (0, 0)) (l.getD (i + 1) (0, 0)) (l.getD j (0, 0)) (l.getD (j + 1) (0, 0))).map fun x => (i, j, x)

/-- Length of a polyline. -/
def lenOf (l : List (Rat × Rat)) : Rat := ((segsFrom 0 l).map (·.len)).sum

/-- Loops formed by self-intersection are removed (R183); of the two loops of a closed figure the shorter one. -/
def unloop (closed_ : Bool) : Nat → List (Rat × Rat) → List (Rat × Rat)
  | 0, l => l
  | n + 1, l => match firstCrossing closed_ l with
    | none => l
    | some (i, j, x) =>
      let inner := x :: ((l.take (j + 1)).drop (i + 1)) ++ [x]
      let outer := l.take (i + 1) ++ [x] ++ l.drop (j + 1)
      unloop closed_ n (if closed_ && lenOf outer < lenOf inner then inner else outer)

/-- Whether any offset piece keeps the direction of its original: where none does, the offset leaves no line. -/
def keepsWay (segs : List Seg) (pts : List (Rat × Rat)) : Bool :=
  (segs.zip (pts.zip (pts.drop 1))).any fun x => decide (0 < (x.2.2.1 - x.2.1.1) * x.1.tx + (x.2.2.2 - x.2.1.2) * x.1.ty)

/-- A pass of a line (R183); none where no line is left or a circle has a radius below 5 m. -/
def passOf (l : GdeLine) (n : Int) (shift : F32) : Option Pass :=
  let d := (n : Rat) * f32d l.spacing + f32d shift
  match l.type with
  | 2 =>
    let r := f32d l.radius + (n : Rat) * f32d l.spacing
    match l.pts.head? with
    | some c => if r < 5 then none else some (.circle c.1 c.2 r)
    | none => none
  | 0 =>
    let seg := segsFrom 0 l.pts
    if seg.isEmpty then none else some (.path (segsFrom 0 (offsetOpen d seg)) true false)
  | 1 =>
    let seg := segsFrom 0 l.pts
    let raw := offsetOpen d seg
    let pts := if d == 0 then raw else unloop false l.verts.length raw
    let out := segsFrom 0 pts
    if out.isEmpty || !keepsWay seg raw then none else some (.path out true false)
  | _ =>
    let seg := segsFrom 0 (closed l.pts)
    let raw := closed (offsetClosed d seg)
    let pts := if d == 0 then raw else unloop true l.verts.length raw
    let out := segsFrom 0 pts
    if out.length < 3 || !keepsWay seg raw then none else some (.path out false true)

/-- Length of a pass. -/
def Pass.length : Pass → Rat
  | .circle _ _ r => 360 * radPerDeg * r
  | .path segs _ _ => (segs.map (·.len)).sum

/-- A projection: arc position, offset to the left in vertex order, direction of the line in degrees. -/
structure Foot where
  s : Rat
  off : Rat
  head : Rat
deriving DecidableEq, Repr, Inhabited

/-- The projection onto one piece, within an arc range; its squared distance comes first. -/
def footOn (x y : Rat) (lower upper : Bool) (win : Option (Rat × Rat)) (g : Seg) : Option (Rat × Foot) :=
  let u := (x - g.x) * g.tx + (y - g.y) * g.ty
  let lo := win.map fun w => w.1 - g.at_
  let hi := win.map fun w => w.2 - g.at_
  let lo := if lower then some (maxR 0 (lo.getD 0)) else lo
  let hi := if upper then some (minR g.len (hi.getD g.len)) else hi
  if (match lo, hi with | some a, some b => decide (b < a) | _, _ => false) then none else
  let p := match hi with | some h => minR u h | none => u
  let p := match lo with | some l => maxR p l | none => p
  let ex := x - (g.x + p * g.tx)
  let ey := y - (g.y + p * g.ty)
  let cr := g.tx * ey - g.ty * ex
  let d2 := ex * ex + ey * ey
  some (d2, { s := r64 (g.at_ + p), off := if p == u then r64 cr else signR cr * f64d (sqrt64 d2), head := headingDeg g.tx g.ty })

/-- The projection of a point (R184): the nearest place, within 50 m of arc length of the previous one where there is one. -/
def project (p : Pass) (x y : Rat) (prev : Option Rat) : Option Foot :=
  match p with
  | .circle cx cy r =>
    let dist := hypot (x - cx) (y - cy)
    let h := headingDeg (x - cx) (y - cy)
    some { s := r64 (h * radPerDeg * r), off := dS r dist, head := wrap180 (h + 90) }
  | .path segs open_ loop =>
    let n := segs.length
    let total := (segs.map (·.len)).sum
    let wins : List (Option (Rat × Rat)) := match prev with
      | none => [none]
      | some a => if loop then [some (a - 50, a + 50), some (a - 50 + total, a + 50 + total), some (a - 50 - total, a + 50 - total)]
          else [some (a - 50, a + 50)]
    let one := fun (w : Option (Rat × Rat)) => (List.range n).filterMap fun i =>
      footOn x y (!open_ || i != 0) (!open_ || i + 1 != n) w (segs.getD i ⟨0, 0, 0, 0, 0, 0⟩)
    let best := (wins.flatMap one).foldl (fun (a : Option (Rat × Foot)) c =>
      match a with | some b => if c.1 < b.1 then some c else some b | none => some c) none
    best.map (·.2)

/-- The lines of the open field. -/
def gdeLine (n : Nat) (s : State) : Option GdeLine :=
  if s.map.open_ == 0 then none
  else (s.gde.lines.find? fun l => l.field == s.map.open_ && l.no == n).map (·.line)

/-- The selection in use, where its field is open. -/
def gdeSel (s : State) : Option GdeSel := s.gde.sel.filter fun x => x.field == s.map.open_ && s.map.open_ != 0

/-- The pass in use. -/
def gdePass (s : State) : Option Pass := do
  let x ← gdeSel s
  let l ← gdeLine x.line s
  passOf l x.pass x.shift

/-- A selection comes into effect (R183): that of the same or an adjacent pass at the next sample, any other one once prepared, at
most 50 ms after its command. -/
def takeSelection (ready : Bool) (s : State) : State :=
  match s.gde.nextSel with
  | none => s
  | some (t, x) =>
    let near := (gdeSel s).any fun y => y.line == x.line && y.shift == x.shift && (x.pass - y.pass).natAbs ≤ 1
    if t < s.time && (near || ready || t + 50 * ms ≤ s.time) then
      modGde (fun g => { g with sel := some x, nextSel := none, arc := none }) s
    else s

/-! ## Pose (R185) -/

/-- Quality, confidence and accuracy of the pose that guidance reads. -/
def gdePoseQC (s : State) : Quality × Nat × Rat :=
  let a := s.sig1 449
  let b := s.sig1 454
  let acc := s.sig1 461
  (deriveQuality [a.quality, b.quality, acc.quality], min a.confidence b.confidence, f32d (acc.value.setWidth 32))

/-- Whether a pose is there and no older than 30 ms. -/
def gdePoseUsable (s : State) : Bool :=
  posePublished s && s.fus.origin.isSome && s.fus.pose.any fun p => decide (s.time ≤ p.1 + 30 * ms)

/-- The pose of the guided frame. -/
def guidedPose (s : State) : Option GdePose :=
  s.fus.pose.map fun p =>
    let pl := placeInMap s.gcfg.frame p.2.1 p.2.2 s
    { t := p.1, x := r64 pl.tr.1, y := r64 pl.tr.2.1, th := r64 p.2.1.theta }

/-- One step of the propagation (R185): speed in m/s, rate in degrees/s, time in s. -/
def poseMove (v w dt : Rat) (p : GdePose) : GdePose :=
  let th := dA p.th (dD (dM w dt) 2)
  let x := dA p.x (dM (dM v dt) (cosDeg th))
  let y := dA p.y (dM (dM v dt) (sinDeg th))
  { p with x := x, y := y, th := dA th (dD (dM w dt) 2) }

/-- Seconds between two instants. -/
def secsBetween (a b : Nat) : Rat := (((b : Int) - (a : Int) : Int) : Rat) / 1000000000

/-- A pose moved along the ego-motion samples after it up to now; answers the distance travelled too. -/
def poseAlong (p : GdePose) (s : State) : GdePose × Rat :=
  s.gde.ego.foldl (fun (a : GdePose × Rat) j =>
    if a.1.t < j.1 && j.1 ≤ s.time then
      let dt := r64 (secsBetween a.1.t j.1)
      ({ poseMove j.2.1 j.2.2 dt a.1 with t := j.1 }, a.2 + absR (j.2.1 * dt))
    else a) (p, 0)

/-- The pose at the instant at which this sample's output takes effect at the wheels. -/
def poseAhead (p : GdePose) (s : State) : GdePose :=
  match s.gde.ego.getLast? with
  | some j => poseMove j.2.1 j.2.2 (dA (1 / 100) (f32d s.gcfg.actLead)) p
  | none => p

/-- Ego-motion of an instant is kept for the law (R185); hooked on FUSION_INSTANT. -/
def gdeEgo (s : State) : State :=
  let v := s.sig1 464
  let w := s.sig1 463
  if !fusOn s || !v.fresh || !w.fresh then s else
  let entry := (s.time, f32d (v.value.setWidth 32), f32d (w.value.setWidth 32) / radPerDeg)
  modGde (fun g => { g with ego := (g.ego.filter fun j => decide (s.time < j.1 + 50 * ms) && j.1 != s.time) ++ [entry] }) s

/-- Ground speed in m/s: that of the pose, or ego-motion's where the pose is unusable. -/
def gdeSpeed (s : State) : Rat :=
  if gdePoseUsable s then f32d ((s.sig1 457).value.setWidth 32)
  else match s.gde.ego.getLast? with | some j => j.2.1 | none => s.gde.speed

/-- m/s as km/h. -/
def kmh (v : Rat) : Rat := v * 18 / 5

/-! ## Events -/

/-- `GDE_EVENT` (`0x0780`). -/
def gdeEvent (cause : Nat) (index : Option Nat) (s : State) : State :=
  let g := s.gde
  event 0x0780 (unit 0x07 0) (le 1 cause ++ le 1 g.st.code ++ le 1 g.path ++ le 1 (index.getD 0xFF) ++ le 4 (qf32 g.e).toNat ++ le 8 s.time)
    (if g.cfg.isSome then [s.gcfg.owner] else []) (hwSource 0x0780) s

/-- Guidance enters a state (R196), with its event; a cause that the table does not name is free (log entry 148). -/
def gdeEnter (st : GdeSt) (cause : Option Nat) (s : State) : State :=
  let old := s.gde.st
  if old == st then s else
  gdeEvent (cause.getD (Config.gdeCause old.code st.code).toNat) none (modGde (fun g => { g with st := st }) s)

/-! ## The steering valve (R187, R188) -/

/-- The valve channel of a path. -/
def pathValve (p : Nat) : Nat := 46 + p
/-- The set-point handle of a path. -/
def pathSp (p : Nat) (s : State) : Nat := s.handle (142 + p)
/-- The digital output that enables a path. -/
def pathEn (p : Nat) (s : State) : Nat := hLocal (gdeHandle (5 + p) s) - 256
/-- The spool position of a path, where it is usable (R92). -/
def pathSpool (p : Nat) (s : State) : Option Rat := (usable32 (s.handle (48 + pathValve p)) s).bind f32q

/-- Whether the channel or the enable output of a path shows a fault. -/
def pathBroken (p : Nat) (s : State) : Bool :=
  let d := s.dout (pathEn p s)
  (s.valve (pathValve p)).faulted || (s.valve (pathValve p)).st == .latched || d.faulted || d.st == .latched

/-- Whether a path has been the active one since the last engagement and its switch-off is not complete. -/
def pathInUse (p : Nat) (s : State) : Bool := s.gde.lastPath == p && (gdeSteering s || s.gde.pnrAt.isSome)

/-- Whether a path is healthy (R188). -/
def pathHealthy (p : Nat) (s : State) : Bool :=
  !pathBroken p s && (match pathSpool p s with
    | some x => pathInUse p s || decide (absR x ≤ f32d s.gcfg.spoolTol)
    | none => false)

/-- Whether supply group FSD is excluded. -/
def fsdExcluded (s : State) : Bool := (s.group 3).st == .excluded

/-- A set-point of a path is published. -/
def putSp (p : Nat) (u : F32) (s : State) : State := publishOut 0 u s (pathSp p s)

/-- The output of the wheel-angle loop goes to a path, or nowhere. -/
def loopTo (p : Option Nat) (s : State) : State :=
  match s.findLoop 2 0 with
  | some n => modLoop n (fun l => { l with cfg := { l.cfg with outs := p.toList.map fun q => pathSp q s } }) s
  | none => s

/-- The active path's spool is watched (R188). -/
def watchSpool (s : State) : State :=
  let g := s.gde
  let off := gdeSteering s && g.path < 2 && (pathSpool g.path s).any fun x =>
    decide (4 * f32d s.gcfg.spoolTol < absR (x - f32d (destValue (pathSp g.path s) s)))
  modGde (fun g => { g with spoolSince := sinceIf off s.time g.spoolSince }) s

/-- Whether the active path is faulted (R188). -/
def activeFaulted (s : State) : Bool :=
  gdeSteering s && s.gde.path < 2 && (pathBroken s.gde.path s || heldFor s.gde.spoolSince s.time (50 * ms))

/-- Switch over to the standby path (R188). -/
def switchOver (s : State) : State :=
  let a := s.gde.path
  let b := 1 - a
  let s := setDrive (pathValve a) false (commandOut (pathEn a s) false (putSp a 0 s))
  let s := commandOut (pathEn b s) true s
  gdeEvent 16 none (loopTo (some b) (modGde (fun g => { g with path := b, lastPath := b, singlePath := true, spoolSince := none }) s))

/-- Switch-off: both set-points 0, both enables off, V46 and V47 switched off (R195). -/
def gdeOutputsOff (s : State) : State :=
  let s := stopOwned 2 0 (loopTo none s)
  (List.range 2).foldl (fun s p => setDrive (pathValve p) false (commandOut (pathEn p s) false (putSp p 0 s)))
    (modGde (fun g => { g with path := 2, pnrAt := some s.time, ramp := none, release := none, spoolSince := none, coastSince := none }) s)

/-- The alert output. -/
def gdeAlert (on : Bool) (s : State) : State :=
  let h := gdeHandle 7 s
  if h == 0 then s else commandOut (hLocal h - 256) on s

/-- The alert is driven for 1.0 s on a release with cause 5 to 14 (R194). -/
def releaseAlert (cause : Nat) (s : State) : State :=
  if 5 ≤ cause && cause ≤ 14 then gdeAlert true (modGde (fun g => { g with alertUntil := s.time + sec }) s) else s

/-- A pending engage request ends. -/
def gdeEndPending (st : Status) (s : State) : State :=
  match s.gde.pending with
  | some (some r) => finish r st [] (modGde (fun g => { g with pending := none }) s)
  | some none => modGde (fun g => { g with pending := none }) s
  | none => s

/-- An immediate release (R194, R195). -/
def releaseNow (cause : Nat) (s : State) : State :=
  let s := gdeOutputsOff s
  releaseAlert cause (gdeEnter .finishing (some cause) (modGde (fun g => { g with lastCause := cause }) s))

/-- The point of no return of a ramp (R195). -/
def rampEnd (s : State) : State := gdeEnter .finishing none (gdeOutputsOff s)

/-- The ramp at this instant: linear from the set-point at its start to 0 (R195). -/
def rampStep (s : State) : State :=
  match s.gde.ramp with
  | none => s
  | some (t, u) =>
    if s.gde.st != .releasing then s
    else if t + s.gcfg.ramp * ms ≤ s.time then rampEnd s
    else putSp s.gde.path (qf32 (f32d u * (1 - secsBetween t s.time * 1000 / (s.gcfg.ramp : Rat)))) s

/-- A ramp release (R194, R195). -/
def releaseRamp (cause : Nat) (s : State) : State :=
  let u := destValue (pathSp s.gde.path s) s
  let s := stopOwned 2 0 (loopTo none s)
  let s := modGde (fun g => { g with lastCause := cause, ramp := some (s.time, u), coastSince := none, release := none }) s
  rampStep (releaseAlert cause (gdeEnter .releasing (some cause) s))

/-- FAULTED (R194, R196): cause 12 or 13 where guidance was steering. -/
def gdeFault (cause : Nat) (s : State) : State :=
  let was := gdeSteering s
  let s := gdeOutputsOff s
  let s := if was then releaseAlert cause (gdeEvent cause none (modGde (fun g => { g with st := .faulted, lastCause := cause }) s)) else s
  gdeEndPending .hwFault (gdeEvent 22 none (modGde (fun g => { g with st := .faulted }) s))

/-! ## Wheel angles (R189, R190) -/

/-- The angle of a raw value by two linear segments through three points (R190). -/
def wasAngle (pts : List (Rat × Rat)) (raw : Rat) : Option Rat :=
  match pts with
  | [(r0, a0), (r1, a1), (r2, a2)] =>
    let first := if r0 < r1 then decide (raw ≤ r1) else decide (r1 ≤ raw)
    some (if first then a0 + (a1 - a0) * (raw - r0) / (r1 - r0) else a1 + (a2 - a1) * (raw - r1) / (r2 - r1))
  | _ => none

/-- The raw value of a sensor, where it is usable. -/
def wasRaw (k : Nat) (s : State) : Option Rat := (funVal (gdeHandle k s) s).bind f32q

/-- The angle of a sensor in this sample. -/
def wasNow (k : Nat) (s : State) : Option Rat := do
  let raw ← wasRaw k s
  let a ← wasAngle (s.gde.cal.map fun p => (if k == 0 then p.rawA else p.rawB, f32d p.angle)) raw
  return a

/-- The witness of R189. -/
def wasWitness (s : State) : Option Rat :=
  let v := gdeSpeed s
  let w := s.sig1 463
  let c := s.gcfg
  if w.quality != .valid || kmh v < f32d c.witnessVmin || v ≤ 0 then none
  else
    let d := atanDeg (f32d c.wheelbase * f32d (w.value.setWidth 32) / v)
    some (if c.front then d else -d)

/-- A sensor of a list. -/
def wasAt (l : List WasSensor) (k : Nat) : WasSensor := l.getD k {}

/-- A sensor takes its value; masked and voted-out sensors rejoin (R189). `other` is the angle of the other sensor, where it is in use. -/
def wasTake (k : Nat) (other : Option Rat) (s : State) : State :=
  let x := wasAt s.gde.was k
  let v := wasNow k s
  let conf := (s.view (gdeHandle k s)).confidence
  let near := match v, other with | some a, some b => decide (absR (a - b) ≤ f32d s.gcfg.wasTol) | _, _ => false
  let agree := if x.st == 1 then sinceIf near s.time x.agree else none
  let back := v.isSome && (x.st == 2 || (x.st == 1 && heldFor agree s.time (s.gcfg.wasRejoin * sec)))
  let st := if v.isNone then 2 else if back then 0 else x.st
  let s := modGde (fun g => { g with was := updAt g.was k fun _ => { st := st, agree := agree, angle := v, conf := conf } }) s
  if back then gdeEvent 18 (some k) s else s

/-- The wheel angles are fused (R189). -/
def fuseAngles (s : State) : State :=
  let inUse := fun (k : Nat) (s : State) => let x := wasAt s.gde.was k; if x.st == 0 then x.angle else none
  let s := wasTake 0 (inUse 1 s) s
  let s := wasTake 1 (inUse 0 s) s
  let w := wasWitness s
  let s := modGde (fun g => { g with witness := w }) s
  let a := wasAt s.gde.was 0
  let b := wasAt s.gde.was 1
  let rq := fun (k : Nat) => (s.view (gdeHandle k s)).quality
  let put := fun (v : Option Rat) (q : Quality) (c : Nat) (single disputed : Bool) (s : State) =>
    modGde (fun g => { g with fused := v, fusedQ := q, fusedConf := c, singleWas := single, disputed := disputed }) s
  let one := fun (x : WasSensor) (k : Nat) (s : State) =>
    put x.angle (rq k) (x.conf / 2) true false (modGde (fun g => { g with disagree := none }) s)
  match inUse 0 s, inUse 1 s with
  | some x, some y =>
    let mean := some ((x + y) / 2)
    if absR (x - y) ≤ f32d s.gcfg.wasTol then
      put mean (deriveQuality [rq 0, rq 1]) (deriveConf [a.conf, b.conf]) false false (modGde (fun g => { g with disagree := none }) s)
    else
      let since := sinceIf true s.time s.gde.disagree
      let s := modGde (fun g => { g with disagree := since }) s
      if !heldFor since s.time (s.gcfg.wasPersist * ms) then
        put mean (if s.gde.disputed then .disputed else deriveQuality [rq 0, rq 1])
          (if s.gde.disputed then 0 else deriveConf [a.conf, b.conf]) false s.gde.disputed s
      else match w with
        | some z =>
          let out := if absR (x - z) > absR (y - z) then 0 else 1
          let s := modGde (fun g => { g with was := updAt g.was out fun k => { k with st := 1, agree := none } }) s
          gdeEvent 17 (some out) (if out == 0 then one b 1 s else one a 0 s)
        | none =>
          let new := !s.gde.disputed
          let s := put mean .disputed 0 false true s
          if new then gdeEvent 19 none s else s
  | some _, none => one a 0 s
  | none, some _ => one b 1 s
  | none, none => put none .masked 0 false false (modGde (fun g => { g with disagree := none }) s)

/-- A calibration accepted earlier is installed (R190). -/
def takeCal (s : State) : State :=
  match s.gde.nextCal with
  | some (t, c) => if t < s.time then modGde (fun g => { g with nextCal := none, cal := c }) s else s
  | none => s

/-- A calibration point is recorded over 1 s (R190); the machine must stand still. -/
def recordPoint (s : State) : State :=
  match s.gde.recording with
  | none => s
  | some x =>
    if 1 / 10 < kmh (absR (gdeSpeed s)) then finish x.req .wrongState [] (modGde (fun g => { g with recording := none }) s)
    else
      let a := wasRaw 0 s
      let b := wasRaw 1 s
      let x := { x with sumA := x.sumA + a.getD 0, sumB := x.sumB + b.getD 0, nA := x.nA + b2n a.isSome, nB := x.nB + b2n b.isSome }
      if s.time < x.start + sec then modGde (fun g => { g with recording := some x }) s
      else if x.nA == 0 || x.nB == 0 then finish x.req .wrongState [] (modGde (fun g => { g with recording := none }) s)
      else
        let p : WasPoint := { angle := x.angle, rawA := x.sumA / (x.nA : Rat), rawB := x.sumB / (x.nB : Rat) }
        finish x.req .done [] (modGde (fun g => { g with recording := none, points := g.points.set x.op (some p) }) s)

/-! ## Engagement (R191, R195, R196) -/

/-- The direction that an engagement would set (R184): heading within 90 degrees of the line. -/
def dirFor (head : Rat) (th : Rat) : Bool := decide (absR (wrap180 (th - head)) ≤ 90)

/-- Cross-track and heading error of a projection in a direction of travel (R184). -/
def errorsOf (f : Foot) (th : Rat) (dir : Bool) : Rat × Rat :=
  (if dir then f.off else -f.off, r64 (wrap180 (th - (f.head + if dir then 0 else 180))))

/-- The pose that this sample steers by, propagated to the instant of its effect: from the last usable pose while COASTING. -/
def gdeAhead (s : State) : Option GdePose :=
  if s.gde.st == .coasting then s.gde.base.map fun p => poseAhead p s
  else if gdePoseUsable s then (guidedPose s).map fun p => poseAhead (poseAlong p s).1 s
  else none

/-- The projection of this sample. -/
def gdeFoot (s : State) : Option (Foot × GdePose) := do
  let p ← gdePass s
  let x ← gdeAhead s
  let f ← project p x.x x.y s.gde.arc
  return (f, x)

/-- The blockers of R191 as they stand. -/
def gdeBlockers (s : State) : Nat :=
  let g := s.gde
  let c := s.gcfg
  let (q, conf, acc) := gdePoseQC s
  let v := kmh (gdeSpeed s)
  let far := match gdeFoot s with
    | some (f, x) => decide (f32d c.eAcq < absR f.off) || decide (f32d c.psiAcq < absR (errorsOf f x.th (dirFor f.head x.th)).2)
    | none => false
  bitsN
    [ s.pwr.st != .run, s.map.open_ == 0, (gdePass s).isNone || g.nextSel.isSome,
      q != .valid || !gdePoseUsable s || conf < c.confEngage || f32d c.accEngage < acc,
      decide (v < -1 / 10) || decide (f32d c.vMax < v), far,
      (wasAt g.was 0).st != 0 || (wasAt g.was 1).st != 0 || g.disputed,
      !pathHealthy 0 s || !pathHealthy 1 s || fsdExcluded s,
      !ilOk 0 s || !ilOk 4 s,
      (funVal (gdeHandle 2 s) s).any (fun r => decide (f32d c.intRate ≤ absR (f32d r)))
        || (let h := gdeHandle 4 s; h != 0 && (s.view h).fresh && (s.view h).value.toNat % 2 == 1),
      g.st == .releasing || g.pnrAt.isSome,
      g.cfg.isNone || g.cal.isEmpty ]

/-- The path of a new engagement (R187): the standby of the previous one, where it is healthy. -/
def choosePath (s : State) : Nat :=
  let want := if s.gde.lastPath == 0 then 1 else 0
  if pathHealthy want s then want else 1 - want

/-- The loop starts on a path; its set-point starts at the fused angle. -/
def startSteering (p : Nat) (s : State) : Status × State :=
  let s := loopTo (some p) s
  let now := qf32 (s.gde.fused.getD 0)
  let s := match s.findLoop 2 0 with | some n => modLoop n (fun l => { l with spInt := now }) s | none => s
  let (st, s) := runOwned 2 0 (destValue (pathSp p s) s) s
  if st == .done then (.done, modGde (fun g => { g with target := now, release := none }) s) else (.hwFault, loopTo none s)

/-- Engagement (R196): the path is chosen, `ie` is 0, both channels are driven. -/
def gdeEngageNow (s0 : State) : Status × State :=
  let p := choosePath s0
  let (st, s) := startSteering p (putSp (1 - p) 0 (putSp p 0 s0))
  if st != .done then (st, s0) else
  let s := commandOut (pathEn (1 - p) s) false (commandOut (pathEn p s) true (setDrive 47 true (setDrive 46 true s)))
  let dir := (gdeFoot s).map fun x => dirFor x.1.head x.2.th
  (.done, gdeEnter .engaged (some 15) (modGde (fun g => { g with
    path := p, lastPath := p, singlePath := false, ie := 0, dir := dir, spoolSince := none, handSince := none, devSince := none
    revSince := none, stopSince := none, opBad := 0, coastSince := none }) s))

/-- An engagement that goes on from RELEASING on the same path, with `ie` kept (R195). -/
def gdeReEngage (s0 : State) : Status × State :=
  let (st, s) := startSteering s0.gde.path s0
  if st != .done then (st, s0) else (.done, gdeEnter .engaged (some 15) (modGde (fun g => { g with ramp := none, opBad := 0 }) s))

/-- An engage request (R195, R196): its status; HELD where it stays pending. An edge in the sample of a pending command makes one request with
it (R191). -/
def engageRequest (r : Option Req) (s : State) : Status × State :=
  match s.gde.st with
  | .off | .standby => (.wrongState, s)
  | .ready => gdeEngageNow s
  | .engaged | .coasting => (.done, s)
  | .releasing => if gdeBlockers s == 0x400 then gdeReEngage s else (.wrongState, s)
  | .finishing =>
    if r.isNone && s.gde.pending.isSome && s.gde.pendingAt == s.time then (.held, s)
    else
      let t := s.time
      (.held, modGde (fun g => { g with pending := some r, pendingAt := t }) (gdeEndPending .superseded s))
  | .faulted => (.hwFault, s)

/-! ## Steps 1 to 3 of a sample (R192 to R194) -/

/-- Whether the pose fails the limits of R193. -/
def poseFails (s : State) : Bool :=
  let (q, conf, acc) := gdePoseQC s
  let c := s.gcfg
  q != .valid || conf < c.confHold || f32d c.accHold < acc || !gdePoseUsable s

/-- The last usable pose is kept, and moved on while COASTING. -/
def keepBase (s : State) : State :=
  if !poseFails s then modGde (fun g => { g with base := (guidedPose s).map fun p => (poseAlong p s).1, speed := gdeSpeed s }) s
  else match s.gde.base with
    | some p => let (q, d) := poseAlong p s; modGde (fun g => { g with base := some q, coastRun := g.coastRun + d }) s
    | none => s

/-- COASTING is entered and left (R193). -/
def coastStep (s : State) : State :=
  if s.gde.st == .engaged && poseFails s then
    gdeAlert true (gdeEnter .coasting (some 20) (modGde (fun g => { g with coastSince := some s.time, coastRun := 0 }) s))
  else if s.gde.st == .coasting && !poseFails s then
    gdeEnter .engaged (some 21) (modGde (fun g => { g with coastSince := none }) s)
  else s

/-- The timers of the release triggers (R194). -/
def gdeTimers (s : State) : State :=
  let c := s.gcfg
  let v := kmh (gdeSpeed s)
  let hand := (funVal (gdeHandle 2 s) s).any fun r => decide (f32d c.intRate ≤ absR (f32d r))
  let dev := s.gde.fused.any fun a => decide (f32d c.intDev ≤ absR (a - s.gde.deltaSet))
  let op := !ilOk 0 s || !ilOk 4 s
  let act := gdeActive s
  modGde (fun g => { g with
    handSince := sinceIf hand s.time g.handSince
    devSince := sinceIf (dev && gdeSteering s) s.time g.devSince
    revSince := sinceIf (decide (v < -1 / 10)) s.time g.revSince
    stopSince := sinceIf (g.stopped && act) s.time g.stopSince
    opBad := if op then min 2 (g.opBad + 1) else 0 }) s

/-- Whether the arc position lies beyond a curved line's end plus `end_ext` (R194 cause 9). -/
def beyondEnd (s : State) : Bool :=
  match gdePass s, gdeSel s, s.gde.arc with
  | some p, some x, some a =>
    (gdeLine x.line s).any (·.type == 1) && (decide (a < -f32d s.gcfg.endExt) || decide (p.length + f32d s.gcfg.endExt < a))
  | _, _, _ => false

/-- The immediate triggers present, by cause (R194), without 12 and 13. -/
def immediateCauses (s : State) : List Nat :=
  let g := s.gde
  let c := s.gcfg
  let dis := let h := gdeHandle 4 s; h != 0 && (s.view h).fresh && (s.view h).value.toNat % 2 == 1
  [ (1, heldFor g.handSince s.time (c.intTime * ms)), (2, heldFor g.devSince s.time (c.intDevTime * ms)), (3, dis), (4, g.opBad == 2),
    (11, g.fused.isNone || g.fusedQ == .disputed), (14, s.pwr.st != .run) ].filterMap fun x => if x.2 then some x.1 else none

/-- The ramp triggers present, by cause (R193, R194). -/
def rampCauses (s : State) : List Nat :=
  let g := s.gde
  let c := s.gcfg
  let v := kmh (gdeSpeed s)
  let coastEnd := g.st == .coasting && (heldFor g.coastSince s.time (c.coast * ms) || decide (f32d c.coastDist ≤ g.coastRun))
  [ (5, coastEnd), (6, heldFor g.revSince s.time (500 * ms)), (7, decide (f32d c.vMax + 2 < v)),
    (8, g.stopSince.any fun t => decide (t + c.stopHold * sec < s.time)), (9, beyondEnd s), (10, g.proj && decide (f32d c.eMax < absR g.e)) ].filterMap
    fun x => if x.2 then some x.1 else none

/-- The conditions of FAULTED (R196): cause 13 is FSD, 12 the paths. -/
def faultCause (s : State) : Option Nat :=
  if fsdExcluded s then some 13
  else if !pathHealthy 0 s && !pathHealthy 1 s then some 12
  else if activeFaulted s && !pathHealthy (1 - s.gde.path) s then some 12
  else none

/-- Step 2: release triggers and coasting. -/
def gdeTriggers (s : State) : State :=
  let st := s.gde.st
  if st == .off then s
  else if st == .faulted then
    if !fsdExcluded s && (pathHealthy 0 s || pathHealthy 1 s) then gdeEnter .standby (some 23) s else s
  else match faultCause s with
    | some c => gdeFault c s
    | none =>
      let s := rampStep s
      let s := coastStep s
      if !gdeSteering s then s
      else match immediateCauses s with
        | c :: _ => releaseNow c s
        | [] =>
          if !gdeActive s then s else match rampCauses s with
            | c :: _ => releaseRamp c s
            | [] => s

/-- Steps 1 to 3 of a law sample. -/
def gdeEvaluate (ready : Bool) (s : State) : State :=
  let s := modGde (fun g => { g with seenAt := some s.time }) s
  let s := takeCal (takeSelection ready s)
  let s := watchSpool (gdeTimers (keepBase s))
  let s := gdeTriggers s
  let s := recordPoint (fuseAngles s)
  let s := if gdeActive s && activeFaulted s && pathHealthy (1 - s.gde.path) s then switchOver s else s
  let b := gdeBlockers s
  let s := modGde (fun g => { g with blockers := b }) s
  if s.gde.st == .standby && b == 0 then gdeEnter .ready none s
  else if s.gde.st == .ready && b != 0 then gdeEnter .standby none s
  else s

/-- Whether a law sample lies at this instant and is not over. -/
def gdeNow (s : State) : Bool := onGrid (10 * ms) s && s.gde.doneAt != some s.time

/-- Whether a GDE command waits for the next law sample (R192): one that comes at the instant of a sample starts in it. -/
def gdeWaits (s : State) : Bool := gdeOn s && !gdeNow s

/-- Steps 1 to 3 where a command comes at a sample's instant before the sample itself (R192). -/
def gdeBefore (s : State) : State :=
  if gdeOn s && gdeNow s && s.gde.seenAt != some s.time then gdeEvaluate false s else s

/-! ## Step 5: the law (R186) -/

/-- The curvature of a pass in the direction of travel. -/
def Pass.curvature (p : Pass) (dir : Bool) : Rat :=
  match p with | .circle _ _ r => (if dir then 1 else -1) / r | .path .. => 0

/-- A set-point whose release time has come reaches the wheel-angle loop (R179). -/
def takeRelease (s : State) : State :=
  match s.gde.release with
  | some (t, u) => if t ≤ s.time then modGde (fun g => { g with release := none, target := u }) s else s
  | none => s

/-- The law of R186. -/
def gdeLaw (s : State) : State :=
  let s := takeRelease s
  let c := s.gcfg
  let v := gdeSpeed s
  let stopped := decide (kmh (absR v) < 3 / 10)
  let s := modGde (fun g => { g with stopped := stopped }) s
  match gdePass s, gdeFoot s with
  | some p, some (f, x) =>
    let dir := s.gde.dir.getD (dirFor f.head x.th)
    let (e, psi) := errorsOf f x.th dir
    let vv := maxR (absR v) (1 / 2)
    let la := clampR (dM (f32d c.tLook) vv) (f32d c.laMin) (f32d c.laMax)
    let yla := dA e (dM la (sinDeg psi))
    let lim := f32d c.intLimit
    let raw := dA s.gde.ie (dM (dM (f32d c.kInt) e) (1 / 100))
    let run := s.gde.st == .engaged && decide (absR e < 3 / 10)
    let ie := if run then clampR raw (-lim) lim else s.gde.ie
    let kap := dS (dS (r64 (p.curvature dir)) (dD (dM 2 yla) (dM la la))) ie
    let d := atanDeg (dM (f32d c.wheelbase) kap)
    let d := if c.front then d else -d
    let dmax := f32d c.deltaMax
    let set := clampR d (-dmax) dmax
    modGde (fun g => { g with
      arc := some f.s, e := e, psi := psi, proj := true, la := la, ie := ie, kappa := kap
      intLimited := run && (decide (lim ≤ absR raw)), curveLimited := if stopped then g.curveLimited else decide (dmax < absR d)
      deltaSet := if stopped then g.deltaSet else set
      release := if gdeActive s then some (s.time + 10 * ms, qf32 (if stopped then g.deltaSet else set)) else none }) s
  | none, _ => modGde (fun g => { g with proj := false, arc := none }) s
  | _, none => modGde (fun g => { g with proj := false }) s

/-- The flags of local 591. -/
def gdeFlags (s : State) : Nat :=
  let g := s.gde
  bitsN [g.singlePath, g.singleWas, g.curveLimited, g.intLimited, g.st == .coasting || decide (s.time < g.alertUntil),
    (match gdePass s, gdeSel s, g.arc with
      | some p, some x, some a => (gdeLine x.line s).any (·.type == 1) && decide ((if g.dir == some false then a else p.length - a) < 30)
      | _, _, _ => false), g.pending.isSome, g.stopped]

/-- Coast time remaining in ms. -/
def coastLeft (s : State) : Nat :=
  match s.gde.coastSince with | some t => (t + s.gcfg.coast * ms - s.time) / ms | none => 0

/-- Locals 576 to 594 (R198). -/
def gdePublish (s : State) : State :=
  let g := s.gde
  let pub := fun (loc ty : Nat) (v : BitVec 64) (q : Quality) (c : Nat) (s : State) =>
    publish loc { value := v, quality := q, confidence := c, ty := ty, stamp := s.time } 30000 s
  let n := fun (loc v : Nat) (s : State) => pub loc 0 (BitVec.ofNat 64 v) .valid 255 s
  let (pq, pc, _) := gdePoseQC s
  let q := if g.proj then (if g.st == .coasting then (s.sig1 464).quality else pq) else .noValue
  let c := if g.proj then (if g.st == .coasting then (s.sig1 464).confidence else pc) else 0
  let was := fun (k : Nat) (s : State) =>
    let x := wasAt g.was k
    pub (582 + k) 3 (q32v (x.angle.getD 0))
      (if x.st == 0 then (if g.disputed then .disputed else (s.view (gdeHandle k s)).quality) else .masked) x.conf s
  let s := n 576 g.st.code s
  let s := pub 577 3 (q32v g.e) q c s
  let s := pub 578 3 (q32v g.psi) q c s
  let s := pub 579 3 (q32v g.kappa) q c s
  let s := pub 580 3 (q32v g.deltaSet) q c s
  let s := pub 581 3 (q32v (g.fused.getD 0)) g.fusedQ g.fusedConf s
  let s := was 1 (was 0 s)
  let s := pub 584 3 (q32v (g.witness.getD 0)) (if g.witness.isSome then .valid else .masked) (s.sig1 463).confidence s
  let s := n 585 (((gdeSel s).map (·.line)).getD 0xFF) s
  let s := pub 586 1 (BitVec.ofInt 64 (((gdeSel s).map (·.pass)).getD 0)) .valid 255 s
  let s := pub 587 3 (q32v (g.arc.getD 0)) q c s
  let curved := (gdeSel s).any fun x => (gdeLine x.line s).any (·.type == 1)
  let left : Rat := match gdePass s, g.arc with
    | some p, some a => if curved then (if g.dir == some false then a else p.length - a) else 65535
    | _, _ => 65535
  let s := pub 588 3 (q32v left) (if curved then q else .valid) (if curved then c else 255) s
  let s := pub 589 3 (q32v g.la) q c s
  let s := n 590 g.path s
  let s := n 591 (gdeFlags s) s
  let s := n 592 (coastLeft s) s
  let s := n 593 g.blockers s
  n 594 g.lastCause s

/-- What a sample of the wheel-angle loop finds first (R186, R195): the released set-point, moved at most `delta_rate`, and the fused
angle; or the ramp's next value. -/
def gdeLoopHook (n : Nat) (s : State) : State :=
  if (s.loop n).cfg.kind != 2 || (s.loop n).st == .free then s else
  let s := takeRelease s
  let step := f32Mul s.gcfg.deltaRate (qf32 (1 / 1000))
  let g := s.gde
  rampStep (modLoop n (fun l => { l with
    spInt := f32Add l.spInt (clampF (f32Sub g.target l.spInt) (f32Neg step) step)
    fbInt := if g.fusedQ == .disputed then none else g.fused.map qf32 }) s)

/-- Whether the switch-off is complete (R195). -/
def gdeOffDone (s : State) : Bool :=
  let near := fun (p : Nat) => (pathSpool p s).any fun x => decide (absR x ≤ f32d s.gcfg.spoolTol)
  match s.gde.pnrAt with
  | some t => ((s.valve 46).offDone && (s.valve 47).offDone && near 0 && near 1) || decide (t + 300 * ms ≤ s.time)
  | none => false

/-- GDE_SWITCH_OFF_COMPLETE (R195, R196). -/
def doGdeSwitchOff (s : State) : State :=
  if !gdeOffDone s then s else
  let s := modGde (fun g => { g with pnrAt := none }) s
  if s.gde.st != .finishing then s
  else if s.gde.pending.isSome && gdeBlockers s == 0 then
    let (st, s) := gdeEngageNow s
    gdeEndPending st (if st == .done then s else gdeEnter .standby none s)
  else gdeEndPending .wrongState (gdeEnter .standby none s)

/-- Leaving RUN (R194 cause 14). -/
def gdeLeaveRun (s : State) : State := if gdeSteering s then releaseNow 14 s else s

/-- A drain releases guidance as `GDE_DISENGAGE` mode 0 does (R502). -/
def gdeDrain (s : State) : State := let s := gdeEndPending .superseded s; if gdeActive s then releaseRamp 0 s else s

/-- Whether guidance has drained. -/
def gdeDrained (s : State) : Bool := !gdeSteering s && s.gde.st != .finishing

/-- Guidance starts on the acting manager with its configuration: STANDBY; a deputy never engages on its own (R180, R196). -/
def gdeStart (s : State) : State := if gdeOn s && s.gde.cfg.isSome && s.gde.st == .off then gdeEnter .standby none s else s

/-- A module that is no manager any more runs no guidance (R178): its outputs are off, a pending request ends, and its signals read
NO_VALUE. -/
def gdeStandDown (s : State) : State :=
  let s := if gdeSteering s then gdeOutputsOff s else s
  let s := gdeEnter .off none (gdeEndPending .wrongState s)
  clearLocals 576 64 (modGde (fun g => { g with pnrAt := none, sel := none, nextSel := none, release := none, ramp := none }) s)

/-! ## Commands -/

/-- Whether a request names G. -/
def gdeTarget (r : Req) : Bool := r.p.target.toNat == unit 0x07 0

/-- Whether a request comes from the host or the owner partition. -/
def gdeOwner (r : Req) (s : State) : Bool := s.isHost r.port || (s.gde.cfg.isSome && partOfPort r.port == some s.gcfg.owner)

/-- The parameters of `GDE_CONFIG`. -/
def gdeCfgOf (b : List Byte) : GdeCfg :=
  let x := fun (o : Nat) => bits32 b o
  { front := u8 b 0 == 1, owner := u8 b 1, frame := u8 b 2, wheelbase := x 4, deltaMax := x 8, deltaRate := x 12, tLook := x 16, laMin := x 20
    laMax := x 24, kInt := x 28, intLimit := x 32, eAcq := x 36, psiAcq := x 40, eMax := x 44, vMax := x 48, accEngage := x 52, accHold := x 56
    confEngage := u8 b 60, confHold := u8 b 61, coast := u16 b 62, coastDist := x 64, wasTol := x 68, wasPersist := u16 b 72
    wasRejoin := u16 b 74, witnessVmin := x 76, intRate := x 80, intDev := x 84, intTime := u16 b 88, intDevTime := u16 b 90, ramp := u16 b 92
    stopHold := u16 b 94, spoolTol := x 96, endExt := x 100, actLead := x 104, handles := (List.range 8).map fun i => u32 b (108 + 4 * i) }

/-- Whether a handle names an own signal, or one of the manager's that stands for it where the machine configuration brings this module what the
acting manager holds (R180, R392). -/
def managerOwn (h : Nat) (s : State) : Bool := s.isOwn h || (s.id.holding && handleOk h && h / 8192 == s.handle 0 / 65536 * 8)

/-- Whether a handle may be an enable output or the alert: a digital output of the acting manager not bound to a function (R187). On a module
to which the machine configuration brings the mirrored configuration, the manager's outputs stand for its own (R180). -/
def gdeOutOk (h : Nat) (s : State) : Bool :=
  managerOwn h s && 256 ≤ hLocal h && hLocal h < 288 && (s.dout (hLocal h - 256)).fn.isNone

/-- Whether a configuration has a value out of range or order (`GDE_CONFIG`). -/
def gdeCfgBad (b : List Byte) (s : State) : Bool :=
  let c := gdeCfgOf b
  let h := fun (i : Nat) => c.handles.getD i 0
  let optional := fun (i : Nat) (types : List Nat) => h i != 0 && handleBad (h i) types s
  1 < u8 b 0 || 127 < c.owner || u8 b 3 != 0
    || !f32In c.wheelbase (3 / 2) 8 || !f32In c.deltaMax 10 60 || !f32In c.deltaRate 5 60 || !f32In c.tLook (1 / 2) 3
    || !f32In c.laMin 1 10 || !f32In c.laMax (f32d c.laMin) 30 || !f32In c.kInt 0 (1 / 20) || !f32In c.intLimit 0 (1 / 50)
    || !f32In c.eAcq (1 / 10) 5 || !f32In c.psiAcq 5 60 || !f32In c.eMax (f32d c.eAcq) 5 || !f32In c.vMax 1 30
    || !f32In c.accEngage (1 / 50) 1 || !f32In c.accHold (f32d c.accEngage) 2 || c.confEngage == 0 || c.confHold == 0
    || c.confEngage < c.confHold || 5000 < c.coast || !f32In c.coastDist 0 50 || !f32In c.wasTol (1 / 5) 5 || notIn 20 2000 c.wasPersist
    || notIn 1 60 c.wasRejoin || !f32In c.witnessVmin 1 10 || !f32In c.intRate 5 200 || !f32In c.intDev 1 15
    || notIn 10 500 c.intTime || c.intTime % 10 != 0 || notIn 50 2000 c.intDevTime || c.intDevTime % 10 != 0 || 1000 < c.ramp
    || 600 < c.stopHold || !f32In c.spoolTol (1 / 50) (1 / 2) || !f32In c.endExt 0 500 || !f32In c.actLead 0 (1 / 2)
    || handleBad (h 0) numeric s || handleBad (h 1) numeric s || optional 2 numeric || optional 3 [4] || optional 4 [4]
    || !gdeOutOk (h 5) s || !gdeOutOk (h 6) s || h 5 == h 6 || (h 7 != 0 && (!gdeOutOk (h 7) s || h 7 == h 5 || h 7 == h 6))

/-- V46, V47 and the outputs are bound to guidance or released (R187, R240). -/
def gdeBind (on : Bool) (s : State) : State :=
  let part := if on then some s.gcfg.owner else none
  let s := modValve 47 (fun v => { v with gde := on, bindPart := part }) (modValve 46 (fun v => { v with gde := on, bindPart := part }) s)
  [5, 6, 7].foldl (fun s i =>
    let h := gdeHandle i s
    if h == 0 then s else modDo (hLocal h - 256) (fun d => { d with gde := on, bindPart := part }) s) s

/-- The wheel-angle loop (R179, R200). -/
def gdeLoopCfg (s : State) : LoopCfg := { kind := 2, index := 0, owner := s.gcfg.owner, classP := true, period := 0 }

/-- A configuration is installed. -/
def gdeInstall (c : GdeCfg) (s : State) : State :=
  let old := s.gde.cfg
  let s := if old.isSome then gdeBind false s else s
  let moved := old.any fun o => o.handles.take 2 != c.handles.take 2
  let s := gdeBind true (modGde (fun g => { g with cfg := some c, cal := if moved then [] else g.cal
                                                   nextCal := if moved then none else g.nextCal }) s)
  match s.findLoop 2 0, freeLoop s with
  | some n, _ => modLoop n (fun l => { l with cfg := { gdeLoopCfg s with outs := l.cfg.outs } }) s
  | none, some n => allocLoop n (gdeLoopCfg s) s
  | none, none => s

/-- What refuses `GDE_CONFIG`, in its order (step 8 of R73). -/
def chkGdeConfig (r : Req) (s : State) : List (Bool × Status) :=
  [ (!gdeTarget r, .badParam), (!s.isHost r.port, .notOwner), (!s.configures, .wrongState), (gdeCfgBad r.p.payload s, .badParam) ]

/-- `GDE_CONFIG` (R187, R196). -/
def effGdeConfig (r : Req) (s : State) : Res × State :=
  check s (chkGdeConfig r s) fun _ =>
    let s := gdeBefore s
    if gdeSteering s || s.gde.st == .finishing then (.fin .wrongState [], s)
    else if (s.findLoop 2 0).isNone && (freeLoop s).isNone then (.fin .configRejected [], s)
    else done (gdeStart (gdeInstall (gdeCfgOf r.p.payload) s))

/-- The line that a request names. -/
def lineTarget (r : Req) : Option Nat := ((unitIndex r.p.target 0x07).filter fun i => decide (0x100 ≤ i) && decide (i < 0x140)).map (· - 0x100)

/-- Vertices of a packet. -/
def vertsOf (b : List Byte) (n : Nat) : List (Int × Int) := (List.range n).map fun i => (i32 b (32 + 8 * i), i32 b (36 + 8 * i))

/-- Vertices that a type admits (R181). -/
def totalOk (type total : Nat) : Bool :=
  match type with | 0 => total == 2 | 1 => !notIn 2 65536 total | 2 => total == 1 | _ => !notIn 3 65536 total

/-- The orientation of three vertices: twice the signed area of their triangle. -/
def turnOf (p q r : Int × Int) : Int := (q.1 - p.1) * (r.2 - p.2) - (q.2 - p.2) * (r.1 - p.1)

/-- Whether a vertex that lies in line with a piece lies on it. -/
def between (p q r : Int × Int) : Bool :=
  decide (min p.1 q.1 ≤ r.1) && decide (r.1 ≤ max p.1 q.1) && decide (min p.2 q.2 ≤ r.2) && decide (r.2 ≤ max p.2 q.2)

/-- Whether two pieces have a point in common. -/
def piecesMeet (p q u v : Int × Int) : Bool :=
  let a := turnOf p q u
  let b := turnOf p q v
  let c := turnOf u v p
  let d := turnOf u v q
  (decide (a * b < 0) && decide (c * d < 0)) || (a == 0 && between p q u) || (b == 0 && between p q v) || (c == 0 && between u v p)
    || (d == 0 && between u v q)

/-- Whether a piece turns straight back over the one before it. -/
def foldsBack (p q r : Int × Int) : Bool :=
  turnOf p q r == 0 && decide ((q.1 - p.1) * (r.1 - q.1) + (q.2 - p.2) * (r.2 - q.2) < 0)

/-- Whether a closed polygon meets itself (R181): two pieces that are not adjacent have a point in common, or one folds back. -/
def selfMeets (l : List (Int × Int)) : Bool :=
  let n := l.length
  let at_ := fun (i : Nat) => l.getD (i % n) (0, 0)
  (List.range n).any fun i => foldsBack (at_ i) (at_ (i + 1)) (at_ (i + 2)) ||
    (List.range n).any fun j => decide (i + 2 ≤ j) && !(i == 0 && j + 1 == n) && piecesMeet (at_ i) (at_ (i + 1)) (at_ j) (at_ (j + 1))

/-- Whether a line meets R181: consecutive vertices 0.05 to 500 m apart, a headland loop without self-intersection. -/
def lineOk (l : GdeLine) : Bool :=
  let gaps := (l.verts.zip (l.verts.drop 1)) ++ (if l.type == 3 then ((l.verts.getLast?.toList).zip (l.verts.take 1)) else [])
  let ok := gaps.all fun g =>
    let d2 := (g.2.1 - g.1.1) * (g.2.1 - g.1.1) + (g.2.2 - g.1.2) * (g.2.2 - g.1.2)
    decide (2500 ≤ d2) && decide (d2 ≤ 250000000000)
  ok && (l.type != 3 || !selfMeets l.verts)

/-- A list of a field's lines without one. -/
def withoutLine (field n : Nat) (l : List FieldLine) : List FieldLine := l.filter fun x => !(x.field == field && x.no == n)

/-- Whether a line is selected. -/
def lineSelected (n : Nat) (s : State) : Bool :=
  (gdeSel s).any (·.line == n) || s.gde.nextSel.any fun x => x.2.field == s.map.open_ && x.2.line == n

/-- Whether a name is ASCII, zero-filled. -/
def asciiName (l : List Byte) : Bool := l.all (fun c => c.toNat < 128) && (l.dropWhile (· != 0)).all (· == 0)

/-- What refuses `GDE_LINE_WRITE`, in its order (step 8 of R73). -/
def chkGdeLineWrite (r : Req) (s : State) : List (Bool × Status) :=
  let b := r.p.payload
  let n := (lineTarget r).getD 0
  let op := u8 b 0
  let field := s.map.open_
  let draft := (s.gde.drafts.find? fun x => x.field == field && x.no == n).map (·.line)
  let total := u32 b 4
  let add := vertsOf b (u16 b 2)
  let fresh : GdeLine := { type := u8 b 1, spacing := bits32 b 8, radius := bits32 b 12, name := (b.drop 16).take 16, total := total }
  let have_ := (draft.map (·.verts.length)).getD 0
  let want := (draft.map (·.total)).getD 0
  let stored := ((s.gde.lines.filter fun x => x.field == field && x.no != n).map fun x => x.line.verts.length).sum
  [ ((lineTarget r).isNone, .badParam), (!s.isHost r.port, .notOwner), (!gdeOn s, .wrongState),
    (3 < op || 500 < u16 b 2, .badParam),
    (op == 0 && (3 < fresh.type || !totalOk fresh.type total || !f32In fresh.spacing 1 60
      || (fresh.type == 2 && !f32In fresh.radius 5 2000) || !asciiName fresh.name), .badParam),
    (field == 0 || lineSelected n s || ((op == 1 || op == 2) && draft.isNone), .wrongState),
    (op == 1 && want < have_ + add.length, .badParam),
    (op == 2 && (have_ < want || !draft.any lineOk), .badParam),
    (op == 2 && 1048576 < stored + have_, .noResource) ]

/-- `GDE_LINE_WRITE` (R181, R182). -/
def effGdeLineWrite (r : Req) (s : State) : Res × State :=
  let b := r.p.payload
  let n := (lineTarget r).getD 0
  let op := u8 b 0
  let field := s.map.open_
  let draft := (s.gde.drafts.find? fun x => x.field == field && x.no == n).map (·.line)
  let total := u32 b 4
  let add := vertsOf b (u16 b 2)
  let fresh : GdeLine := { type := u8 b 1, spacing := bits32 b 8, radius := bits32 b 12, name := (b.drop 16).take 16, total := total }
  check s (chkGdeLineWrite r s) fun _ =>
    let rest := withoutLine field n s.gde.drafts
    done (modGde (fun g => match op, draft with
      | 0, _ => { g with drafts := rest ++ [{ field := field, no := n, line := fresh }] }
      | 1, some d => { g with drafts := rest ++ [{ field := field, no := n, line := { d with verts := d.verts ++ add } }] }
      | 2, some d => { g with drafts := rest, lines := withoutLine field n g.lines ++ [{ field := field, no := n, line := d }] }
      | _, _ => { g with lines := withoutLine field n g.lines }) s)

/-- The nearest pass at the guided point (`GDE_LINE_SELECT`): ties go to the lower number. -/
def nearestPass (l : GdeLine) (shift : F32) (s : State) : Option Int := do
  let p ← passOf l 0 0
  let x ← if gdePoseUsable s then guidedPose s else none
  let f ← project p x.x x.y none
  let off := if l.type == 2 then -f.off else f.off
  return ((off - f32d shift) / f32d l.spacing - 1 / 2).ceil

/-- What refuses `GDE_LINE_SELECT`, in its order (step 8 of R73). -/
def chkGdeLineSelect (r : Req) (s : State) : List (Bool × Status) :=
  let b := r.p.payload
  let n := u8 b 0
  let shift := bits32 b 4
  [ (!gdeTarget r, .badParam), (!gdeOwner r s, .notOwner), (!gdeOn s, .wrongState),
    (63 < n || 1 < u8 b 1 || !f32In shift (-5) 5 || (u8 b 1 == 1 && (i16 b 2 < -4096 || 4095 < i16 b 2)), .badParam) ]

/-- `GDE_LINE_SELECT` (R183). -/
def effGdeLineSelect (r : Req) (s : State) : Res × State :=
  let b := r.p.payload
  let n := u8 b 0
  let shift := bits32 b 4
  check s (chkGdeLineSelect r s) fun _ =>
    let s := gdeBefore s
    let sel := (gdeSel s).map (·.line)
    match gdeLine n s with
    | none => (.fin (if s.map.open_ == 0 then .wrongState else .badParam) [], s)
    | some l =>
      if gdeSteering s && sel != some n then (.fin .wrongState [], s) else
      match (if u8 b 1 == 1 then some (i16 b 2) else nearestPass l shift s) with
      | none => (.fin .wrongState [], s)
      | some k =>
        if k < -4096 || 4095 < k || (passOf l k shift).isNone then (.fin .badParam [], s) else
        (.fin .done (leInt 2 k ++ zeros 2),
          modGde (fun g => { g with nextSel := some (s.time, { field := s.map.open_, line := n, pass := k, shift := shift }) }) s)

/-- What refuses `GDE_ENGAGE`, in its order (step 8 of R73). -/
def chkGdeEngage (r : Req) (s : State) : List (Bool × Status) :=
  [(!gdeTarget r, .badParam), (!gdeOwner r s, .notOwner), (!gdeOn s, .wrongState)]

/-- `GDE_ENGAGE` (R195, R196). -/
def effGdeEngage (r : Req) (s : State) : Res × State :=
  check s (chkGdeEngage r s) fun _ =>
    let (st, s) := engageRequest (some r) (gdeBefore s)
    (if st == .held then .interim .held else .fin st [], s)

/-- What refuses `GDE_DISENGAGE`, in its order (step 8 of R73). -/
def chkGdeDisengage (r : Req) (s : State) : List (Bool × Status) :=
  let b := r.p.payload
  [(!gdeTarget r, .badParam), (!gdeOn s, .wrongState), (1 < u8 b 0 || reservedSet b [(1, 3)], .badParam)]

/-- `GDE_DISENGAGE` (R194). -/
def effGdeDisengage (r : Req) (s : State) : Res × State :=
  let b := r.p.payload
  check s (chkGdeDisengage r s) fun _ =>
    let s := gdeEndPending .superseded (gdeBefore s)
    if u8 b 0 == 1 then done (if gdeSteering s then releaseNow 0 s else s)
    else done (if gdeActive s then releaseRamp 0 s else s)

/-- What refuses `GDE_STATUS`, in its order (step 8 of R73). -/
def chkGdeStatus (r : Req) (s : State) : List (Bool × Status) :=
  [(!gdeTarget r, .badParam)]

/-- `GDE_STATUS`. -/
def effGdeStatus (r : Req) (s : State) : Res × State :=
  let g := s.gde
  check s (chkGdeStatus r s) fun _ =>
    answer (le 1 g.st.code ++ le 1 g.path ++ le 1 g.lastCause ++ le 1 (((gdeSel s).map (·.line)).getD 0xFF) ++ le 2 (gdeFlags s)
      ++ le 2 g.blockers ++ leInt 2 (((gdeSel s).map (·.pass)).getD 0) ++ le 2 (coastLeft s) ++ le 4 (qf32 g.e).toNat ++ le 4 (qf32 g.psi).toNat
      ++ le 4 (qf32 g.deltaSet).toNat ++ le 4 (qf32 (g.fused.getD 0)).toNat ++ le 4 (qf32 (g.arc.getD 0)).toNat ++ le 8 s.time) s

/-- Strictly monotonic numbers. -/
def monotone (l : List Rat) : Bool :=
  let p := l.zip (l.drop 1)
  p.all (fun x => decide (x.1 < x.2)) || p.all (fun x => decide (x.2 < x.1))

/-- What refuses `GDE_WAS_CAL`, in its order (step 8 of R73). -/
def chkGdeWasCal (r : Req) (s : State) : List (Bool × Status) :=
  let b := r.p.payload
  let op := u8 b 0
  [ (!gdeTarget r, .badParam), (!s.isHost r.port, .notOwner), (!gdeOn s, .wrongState),
    (4 < op || reservedSet b [(1, 3)] || (op < 3 && !f32In (bits32 b 4) (-60) 60), .badParam) ]

/-- `GDE_WAS_CAL` (R190). -/
def effGdeWasCal (r : Req) (s : State) : Res × State :=
  let b := r.p.payload
  let op := u8 b 0
  check s (chkGdeWasCal r s) fun _ =>
    let s := gdeBefore s
    let pts := s.gde.points.filterMap id
    let angles := pts.map fun p => f32d p.angle
    if gdeSteering s || s.gde.st == .finishing || 1 / 10 < kmh (absR (gdeSpeed s)) || (op < 3 && s.gde.recording.isSome)
        || (op == 3 && pts.length < 3) then (.fin .wrongState [], s)
    else if op < 3 then
      (.interim .queued, modGde (fun g => { g with recording := some { req := r, op := op, angle := bits32 b 4, start := s.time } }) s)
    else if op == 4 then done (modGde (fun g => { g with points := [none, none, none], cal := [], nextCal := none }) s)
    else if !monotone (pts.map (·.rawA)) || !monotone (pts.map (·.rawB)) || angles.foldl maxR (-60) - angles.foldl minR 60 < 20 then
      (.fin .configRejected [], s)
    else done (modGde (fun g => { g with nextCal := some (s.time, pts) }) s)

/-! ## The sample (R192) -/

/-- The rules of the GDE commands that a law sample starts (step 4 of R192). -/
def effOfGde (r : Req) (s : State) : Res × State :=
  match r.op with
  | .gdeConfig => effGdeConfig r s
  | .gdeLineWrite => effGdeLineWrite r s
  | .gdeLineSelect => effGdeLineSelect r s
  | .gdeEngage => effGdeEngage r s
  | .gdeDisengage => effGdeDisengage r s
  | .gdeWasCal => effGdeWasCal r s
  | _ => (.silent, s)

/-- The GDE commands that wait for a law sample start. -/
def gdeStartDue (s : State) : State := startAwaiting (fun r => opCode r.op / 256 == 7) effOfGde s

/-- LAW_SAMPLE (R192): one 10 ms sample; `ready` says that a newly selected pass is prepared. On a module that guidance has left the
commands that waited end. -/
def doLawSample (ready : Bool) (s : State) : State :=
  if !gdeNow s then s else
  if !gdeOn s then gdeStartDue s else
  let s := if s.gde.seenAt == some s.time then s else gdeEvaluate ready s
  let h := gdeHandle 3 s
  let level := h != 0 && (s.view h).fresh && (s.view h).value.toNat % 2 == 1
  let rise := level && !s.gde.swLevel
  let s := gdeStartDue (modGde (fun g => { g with swLevel := level }) s)
  let s := if rise then (engageRequest none s).2 else s
  let s := gdeLaw s
  let s := if s.gde.alertUntil ≤ s.time && s.gde.st != .coasting && s.gde.cfg.isSome then gdeAlert false s else s
  modGde (fun g => { g with doneAt := g.seenAt }) (gdePublish s)

end Sys2Proof.Machine
end

