-- ==== Sys2Proof/Machine/Flt.lean ====
section
/-! DEFINITION. Chapter 17: the massif fleet link: members, the exchange every 100 ms, hazards, lines, unloading, and the rules of the
FLT commands. -/
namespace Sys2Proof.Machine

/-- Change the fleet link. -/
def modFlt (f : FltState → FltState) (s : State) : State := { s with flt := f s.flt }

/-- A member. -/
def State.member (s : State) (m : Nat) : FltMember := s.flt.members.getD m {}

/-- Change a member. -/
def modMember (m : Nat) (f : FltMember → FltMember) (s : State) : State := modFlt (fun x => { x with members := updAt x.members m f }) s

/-- The module's own machine number (R392). -/
def ownMember (s : State) : Nat := s.id.machine

/-- Whether the fleet link works: enabled, on the acting manager. -/
def fltOn (s : State) : Bool := s.flt.cfg.enable && gdeOn s

/-- `FLT_EVENT` (`0x1080`). -/
def fltEvent (cause member st : Nat) (s : State) : State :=
  event 0x1080 (unit 0x10 0) (le 1 cause ++ le 1 member ++ le 1 st ++ zeros 5 ++ le 8 s.time) [s.flt.cfg.owner] (hwSource 0x1080) s

/-- GPS time now, ns (R395). -/
def gpsNow (s : State) : Int := (s.time : Int) + (mappingAt s.time s).1

/-- A GPS time as module time (R395): the mapping in force now. -/
def fromGps (g : Int) (s : State) : Nat := (g - (mappingAt s.time s).1).toNat

/-- Whether the time state is FREE: nothing is sent and nothing stored (R395). -/
def timeFree (s : State) : Bool := s.tim.st == .free

/-- The member states that time gives (R403); a member that was set and has sent nothing yet is SILENT (log entry 218). -/
def memberState (x : FltMember) (c : FltCfg) (now : Nat) : Nat :=
  if x.kind == 0 then 0
  else if x.seen && now < x.heard + c.linkTimeout * ms then 1
  else if now < x.heard + c.lostTime * sec then 2
  else 3

/-- The state of one member follows time; with `late` only a loss is taken (MEMBER_TIMEOUT). -/
def memberStep (late : Bool) (m : Nat) (s : State) : State :=
  let x := s.member m
  let st := memberState x s.flt.cfg s.time
  if st == x.st || (late && st < x.st) then s else fltEvent 0 m st (modMember m (fun x => { x with st := st }) s)

/-- MEMBER_TIMEOUT (R403). -/
def doMemberTimeout (s : State) : State := if fltOn s then (List.range 16).foldl (fun s m => memberStep true m s) s else s

/-- Every DTLS session closes (R393, `FLT_KEY_SET`). -/
def closeDtls (s : State) : State := modFlt (fun x => { x with members := x.members.map fun m => { m with session := false, seq := 1 } }) s

/-- DTLS_HANDSHAKE (R393, R525): a session with a member under the massif key replaces the old one; none starts while the random
source gives nothing. -/
def doDtls (m : Nat) (s : State) : State :=
  if !fltOn s || s.sum.randomFault || s.id.summitLost || 16 ≤ m || (s.member m).kind == 0 || s.flt.key.isNone then s else modMember m (fun x => { x with session := true, seq := 1 }) s

/-- FLEET_DATAGRAM (R392, R394, R395): `ip` and `addr` are its source. -/
def doFleetDatagram (ip : Nat) (addr : List Byte) (d : FleetDatagram) (s : State) : State :=
  if !fltOn s then s else
  let x := s.member d.sender
  let n := if ip == 4 then 4 else 16
  let known := d.sender < 16 && x.kind != 0 && x.ip == ip && x.addr.take n == addr.take n && x.session
  if !known || d.massif != s.flt.cfg.massif || d.magic != 0x464D424F || d.version != 1 || d.records.isEmpty || 64 < d.records.length then
    modFlt (fun f => { f with discarded := f.discarded + 1 }) s
  else
    let s := modMember d.sender (fun x => { x with heard := s.time, seen := true }) s
    if timeFree s then s
    else modFlt (fun f => { f with received := f.received ++ d.records.map fun r => (d.sender, s.time, r) }) s

/-! ## Records applied (R396 to R400) -/

/-- Whether a member states an uncertainty above `time_tol` (R395); µs against ns. -/
def unsure (m : Nat) (s : State) : Bool :=
  decide (f32d s.flt.cfg.timeTol * 1000 < f32d (bits32 (s.member m).status 12))

/-- A status record is published as a detection (R398); what the spec does not give of the detection is free. -/
def publishMember (m : Nat) (b : List Byte) (s : State) : State :=
  let h := s.flt.cfg.det
  match s.fus.origin with
  | none => s
  | some o =>
    if h == 0 || !bitOf (u8 b 3) 0 then s else
    let stamp := fromGps (i64 b 4) s
    let p := toMap o.1 o.2.1 o.2.2 (f64d (bits64 b 16)) (f64d (bits64 b 24)) o.2.2
    let (free, s) := takeFreeBytes 9 s
    let poor := unsure m s
    let conf := (free.getD 0 0).toNat / (if poor then 2 else 1)
    let cls := if u8 b 1 == 1 then 4 else 3
    let det := le 1 cls ++ le 1 conf ++ le 1 m ++ le 1 1 ++ le 4 (qf32 p.1).toNat ++ le 4 (qf32 p.2.1).toNat ++ free.drop 1
      ++ (b.drop 36).take 8 ++ zeros 4
    -- the blocks form a ring of 32
    let loc := hLocal h
    pubBlockAt 32 (Config.ringAddr loc (((s.ownRec loc).seq + 1) % 32)) loc (le 8 stamp ++ le 2 1 ++ zeros 54 ++ det)
      (if poor then .substituted else .valid) conf stamp s

/-- A status record (R397, R398): a second one in a 100 ms interval is discarded. -/
def applyStatus (m : Nat) (b : List Byte) (s : State) : State :=
  let now := s.time / (100 * ms)
  if b.length != 64 || (s.member m).statusAt == some now then s else
  publishMember m b (modMember m (fun x => { x with status := b, statusAt := some now }) s)

/-- An unload record of a cart (R401, R402). -/
def applyUnload (m at_ : Nat) (b : List Byte) (s : State) : State :=
  let code := u8 b 2
  if b.length != 32 || u8 b 0 != 1 || u8 b 1 != ownMember s then s
  else if s.flt.unl != .idle && m == s.flt.cart then
    modFlt (fun f => { f with cartCode := some (code, at_), fresh := f.fresh ++ [code] }) s
  else if code == 1 && s.flt.unl == .idle && (s.flt.endTo.contains m || m == s.flt.cart) then
    modFlt (fun f => { f with endTo := (f.endTo.filter (· != m)) ++ [m] }) s
  else if code == 5 then modFlt (fun f => { f with endTo := f.endTo.filter (· != m) }) s
  else s

/-- Whether a version is newer under the rule of R52. -/
def newerBy (new old : Nat) : Bool := let d := (new + 65536 - old) % 65536; decide (1 ≤ d) && decide (d ≤ 32767)

/-- A marker enters the table, or it is dropped (R400): a full table gives up the marker with the earliest expiry. -/
def putHazard (h : Hazard) (s : State) : Option State :=
  let rest := s.flt.hazards.filter fun x => !(x.issuer == h.issuer && x.number == h.number)
  if rest.length < 64 then some (modFlt (fun f => { f with hazards := rest ++ [h] }) s)
  else match rest.foldl (fun (a : Option Hazard) x => match a with | some y => if x.expiry < y.expiry then some x else a | none => some x) none with
    | some y => if h.expiry < y.expiry then none
        else some (modFlt (fun f => { f with hazards := (rest.filter fun x => !(x.issuer == y.issuer && x.number == y.number)) ++ [h] }) s)
    | none => none

/-- A hazard record (R400). -/
def applyHazard (m : Nat) (b : List Byte) (s : State) : State :=
  let issuer := u8 b 0
  let number := u16 b 2
  let ps := b.drop 4
  let old := s.flt.hazards.find? fun x => x.issuer == issuer && x.number == number
  if b.length != 40 || issuer == ownMember s then s
  else if u8 ps 2 == 0 then
    if m == issuer then modFlt (fun f => { f with hazards := f.hazards.filter fun x => !(x.issuer == issuer && x.number == number) }) s else s
  else if old.any fun x => !newerBy (u16 ps 0) x.version then s
  else if i64 ps 24 ≤ gpsNow s then s
  else match putHazard { issuer := issuer, number := number, version := u16 ps 0, params := ps, expiry := i64 ps 24 } s with
    | some s => s
    | none => modFlt (fun f => { f with drops := f.drops + 1 }) s

/-- A signal record (R395, R396): the imported record under its source handle, stamped with the converted GPS stamp. -/
def applySignal (m : Nat) (b : List Byte) (s : State) : State :=
  if b.length != 72 then s else
  let r := b.drop 8
  let stamp := fromGps (i64 b 0) s
  let age : Int := (u64 r 56 : Int) - (u64 r 8 : Int)
  let poor := unsure m s
  let q := u8 r 17
  doRecordReceived (u32 r 20) (u64 r 0) stamp (u8 r 16 / (if poor then 2 else 1)) (if poor then 5 else q % 16) (q / 16) (u16 r 18) (u32 r 20)
    (u32 r 24) ((stamp : Int) + age).toNat 0 s

/-- A chunk is discarded and counted (R399). -/
def dropChunk (s : State) : State := modFlt (fun f => { f with chunks := f.chunks + 1 }) s

/-- Whether a sender works in the open field (R399). -/
def sameField (m : Nat) (s : State) : Bool := s.map.open_ != 0 && (s.member m).status.length == 64 && u32 (s.member m).status 48 == s.map.open_

/-- A tile chunk (R399): sixteen cells go to the map's remote updates. -/
def applyTile (m : Nat) (b : List Byte) (s : State) : State :=
  match s.openField with
  | none => dropChunk s
  | some f =>
    let hdr := b.take 60
    let cells := b.drop 64
    let first := u32 b 20
    let good := b.length == 64 + 1024 && b.take 4 == magicTile && u16 b 4 == 1 && u8 b 6 == f.cell && u32 b 8 == f.id
      && bits64 b 24 == f.origin.1 && bits64 b 32 == f.origin.2.1 && bits64 b 40 == f.origin.2.2
      && u32 b 60 == Crypto.crc32c (hdr ++ zeros 4 ++ cells) && first ≤ 4080 && tileInside (i16 b 12) (i16 b 14)
    if !good || !sameField m s then dropChunk s else
    let t : TileMsg := { te := i16 b 12, tn := i16 b 14, generation := u32 b 16
                         cells := (List.range 16).map fun i => (first + i, Cell.ofBytes ((cells.drop (64 * i)).take 64)) }
    modMap (fun x => { x with remote := x.remote ++ [t] }) s

/-- A line chunk (R399): it enters the inbox, where a new line replaces the oldest complete one. -/
def applyLine (m : Nat) (c : LineChunk) (s : State) : State :=
  match s.openField with
  | none => dropChunk s
  | some f =>
    if !sameField m s || c.fieldId != f.id || c.origin != f.origin || 128 < c.verts.length then dropChunk s else
    let box := s.flt.inbox
    let mine := fun (x : InboxLine) => x.member == m && x.no == c.line && x.complete.isNone
    let n := s.flt.lineCount
    let put := fun (x : InboxLine) => if x.verts.length == c.total then { x with complete := some n } else x
    let count := fun (x : InboxLine) => if x.complete.isSome then n + 1 else n
    match box.find? mine with
    | some x =>
      -- a line that is sent again from its first vertex on starts again
      let x : InboxLine := if c.first == 0 then { x with chunk := c, verts := [] } else x
      if c.first != x.verts.length || c.total < x.verts.length + c.verts.length then dropChunk s else
      let y := put { x with verts := x.verts ++ c.verts }
      modFlt (fun f => { f with inbox := box.map (fun z => if mine z then y else z), lineCount := count y }) s
    | none =>
      if c.first != 0 || c.total < c.verts.length then dropChunk s else
      let y := put { member := m, no := c.line, chunk := c, verts := c.verts }
      let oldest := box.foldl (fun (a : Option Nat) x => match a, x.complete with
        | some p, some q => some (min p q) | none, q => q | p, none => p) none
      if box.length < 8 then modFlt (fun f => { f with inbox := box ++ [y], lineCount := count y }) s
      else match oldest with
        | some k => modFlt (fun f => { f with inbox := box.map (fun z => if z.complete == some k then y else z), lineCount := count y }) s
        | none => dropChunk s

/-- One record is applied. -/
def applyRecord (m at_ : Nat) (r : FleetRecord) (s : State) : State :=
  match r with
  | .line c => applyLine m c s
  | .body t b =>
    match t with
    | 1 => applyStatus m b s
    | 2 => applyUnload m at_ b s
    | 3 => applyHazard m b s
    | 4 => applySignal m b s
    | 5 => applyTile m b s
    | _ => s

/-- Step 1 of an instant: records received since the previous one, in arrival order; none is stored while the time state is FREE. -/
def fltApply (s : State) : State :=
  let l := if timeFree s then [] else s.flt.received
  let s := modFlt (fun f => { f with received := [], appliedAt := some s.time, fresh := [] }) s
  l.foldl (fun s x => applyRecord x.1 x.2.1 x.2.2 s) s

/-- Whether an exchange instant lies at this time and is not over. -/
def fltNow (s : State) : Bool := onGrid (100 * ms) s && s.flt.doneAt != some s.time

/-- Whether an FLT command waits for the next exchange instant (R396): one that comes at an instant starts in it. -/
def fltWaits (s : State) : Bool := fltOn s && !fltNow s

/-- Step 1 where a command comes at an exchange instant before the instant's own row (R396). -/
def fltBefore (s : State) : State := if fltOn s && fltNow s && s.flt.appliedAt != some s.time then fltApply s else s

/-- HAZARD_EXPIRY (R400). -/
def doHazardExpiry (s : State) : State :=
  if timeFree s then s else modFlt (fun f => { f with hazards := f.hazards.filter fun x => decide (gpsNow s < x.expiry) }) s

/-! ## Unloading (R401, R402) -/

/-- The state codes of R402. -/
def UnlSt.code : UnlSt → Nat
  | .idle => 0 | .requested => 1 | .granted => 2 | .alongside => 3 | .unloading => 4 | .lost => 5 | .ending => 6

/-- A state of unloading is entered, with its event. -/
def unlEnter (st : UnlSt) (s : State) : State :=
  if s.flt.unl == st then s else
  fltEvent 1 s.flt.cart st.code (modFlt (fun f => { f with unl := st, since := s.time }) s)

/-- Local 502, where it is usable. -/
def cartLocal (s : State) : Option Nat := let r := s.sig1 502; if r.fresh then some r.value.toNat else none

/-- No grant within `grant_timeout` (R402). -/
def grantTimeout (s : State) : State :=
  if s.flt.unl == .requested && !s.flt.fresh.contains 1 && s.flt.since + s.flt.cfg.grantTimeout * sec ≤ s.time then unlEnter .idle s else s

/-- `lost_hold` has elapsed (R402). -/
def lostHold (s : State) : State :=
  if s.flt.unl == .lost && s.flt.since + s.flt.cfg.lostHold * ms ≤ s.time then unlEnter .idle s else s

/-- The step of unloading at an instant (R402): one transition at most. -/
def unlStep (s : State) : State :=
  let f := s.flt
  let c := f.cfg
  let got := fun (k : Nat) => f.fresh.contains k
  let at2 := cartLocal s == some 2
  let s := modFlt (fun f => { f with awaySince := sinceIf (!at2) s.time f.awaySince }) s
  let away := heldFor s.flt.awaySince s.time (c.grace * ms)
  let silent := match f.cartCode with | some (_, t) => decide (t + c.linkTimeout * ms ≤ s.time) | none => false
  let ready := (f.cartCode.map (·.1)) == some 3
  match f.unl with
  | .idle => s
  | .requested => if got 1 then unlEnter .granted s else if got 2 then unlEnter .idle s else grantTimeout s
  | .granted =>
    if got 4 then unlEnter .ending s else if silent then unlEnter .lost s else if at2 && ready then unlEnter .alongside s else s
  | .alongside =>
    let f24 := (usable32 (s.handle 568) s).bind f32q
    if got 4 then unlEnter .ending s else if silent then unlEnter .lost s else if away then unlEnter .granted s
    else if f24.any (fun v => decide (50 < v)) then unlEnter .unloading s else s
  | .unloading => if got 4 then unlEnter .ending s else if silent then unlEnter .lost s else if away then unlEnter .granted s else s
  | .lost => if !f.fresh.isEmpty && s.time < f.since + c.lostHold * ms then unlEnter .granted s else lostHold s
  | .ending => if got 5 || f.since + sec ≤ s.time then unlEnter .idle s else s

/-- The signals of unloading (R402). -/
def unlPublish (s : State) : State :=
  let c := s.flt.cfg
  let yes := s.flt.unl == .alongside || s.flt.unl == .unloading
  let s := if c.unl == 0 then s else publish (hLocal c.unl) { value := if yes then 1 else 0, quality := .valid, confidence := 255, ty := 4 } 300000 s
  if c.unlState == 0 then s
  else publish (hLocal c.unlState) { value := BitVec.ofNat 64 s.flt.unl.code, quality := .valid, confidence := 255, ty := 0 } 0 s

/-! ## Sending (R394, R396, R397) -/

/-- The bits of a binary32 signal, 0 where it is unusable. -/
def sigBits (loc : Nat) (s : State) : Nat := ((usable32 (s.handle loc) s).getD 0).toNat

/-- The status record (R397). -/
def statusBody (s : State) : List Byte :=
  let lat := s.sig1 452
  let ok := lat.quality == .valid
  let fill := if s.flt.cfg.fill == 0 then 0 else ((usable32 s.flt.cfg.fill s).getD 0).toNat
  le 1 (ownMember s) ++ le 1 1 ++ le 1 s.tim.st.code ++ le 1 (b2n ok + 2 * b2n (s.map.open_ != 0)) ++ leInt 8 (gpsNow s) ++ le 4 (qf32 s.tim.u).toNat
    ++ le 8 lat.value.toNat ++ le 8 (s.sig1 453).value.toNat ++ le 4 (sigBits 454 s) ++ le 4 (sigBits 458 s) ++ le 4 (sigBits 459 s)
    ++ le 4 fill ++ le 4 s.map.open_ ++ zeros 12

/-- The unload record that goes to a cart (R401); a code that the spec does not state is free (log entry 165). -/
def unloadBody (dst : Nat) (code : Nat) (s : State) : List Byte :=
  let flow := ((usable32 (flowHandle s) s).getD 0).toNat
  let fill := if s.flt.cfg.fill == 0 then 0 else ((usable32 s.flt.cfg.fill s).getD 0).toNat
  le 1 0 ++ le 1 dst ++ le 1 code ++ zeros 1 ++ leInt 8 (gpsNow s) ++ le 4 (sigBits 499 s) ++ le 4 (sigBits 500 s) ++ le 4 (sigBits 501 s)
    ++ le 4 flow ++ le 4 fill

/-- The code of the unload record in a state. -/
def unlCode (st : UnlSt) : Nat :=
  match st with
  | .requested => 1 | .unloading => 2 | .ending => 3 | .idle => 0
  | _ => (Config.unloadCode st.code).toNat

/-- Members to which records go: those with a session, of some kinds. -/
def peersOf (s : State) (p : FltMember → Bool) : List Nat :=
  (List.range 16).filter fun m => let x := s.member m; x.kind != 0 && x.session && p x

/-- A harvester. -/
def harvester (x : FltMember) : Bool := x.kind == 1

/-- The harvesters in the open field (R396). -/
def fieldPeers (s : State) : List Nat := (peersOf s harvester).filter fun m => sameField m s

/-- A record is queued for some members. -/
def enqueue (ms_ : List Nat) (type : Nat) (body : List Byte) (job : Option Req) (s : State) : State :=
  modFlt (fun f => { f with queue := f.queue ++ ms_.map fun m => { member := m, type := type, body := body, job := job } }) s

/-- Status and unload records of this instant. -/
def queueOwn (s : State) : State :=
  let s := enqueue (peersOf s fun _ => true) 1 (statusBody s) none s
  let s := if s.flt.unl == .idle then s else
    enqueue ((peersOf s fun _ => true).filter (· == s.flt.cart)) 2 (unloadBody s.flt.cart (unlCode s.flt.unl) s) none s
  s.flt.endTo.foldl (fun s m => enqueue ((peersOf s fun _ => true).filter (· == m)) 2 (unloadBody m 3 s) none s) s

/-- Own hazard markers: each change, then every 10 s. -/
def queueHazards (s : State) : State :=
  s.flt.hazards.foldl (fun s h =>
    if h.issuer != ownMember s || !(h.sent.all fun t => decide (t + 10 * sec ≤ s.time)) then s else
    let s := enqueue (peersOf s fun _ => true) 3 (le 1 h.issuer ++ zeros 1 ++ le 2 h.number ++ h.params) none s
    modFlt (fun f => { f with hazards := f.hazards.map fun x =>
      if x.issuer == h.issuer && x.number == h.number then { x with sent := some s.time } else x }) s) s

/-- Massif exports that are due (R51, R396). -/
def queueSignals (s : State) : State :=
  (s.sig.routes.filter fun r => !r.isImport && r.massif).foldl (fun s r =>
    let x := s.view r.handle
    let last := aget s.flt.lastSignal r.entry
    let changed := last.all fun l => l.2.value != x.value || l.2.quality != x.quality || l.2.confidence != x.confidence
    let due := (r.period != 0 && last.all fun l => decide (l.1 + r.period * us ≤ s.time)) || ((r.onChange || r.period == 0) && changed)
    if !due then s else
    let g := (x.stamp : Int) + (mappingAt x.stamp s).1
    enqueue (peersOf s harvester) 4 (leInt 8 g ++ x.bytes) none
      (modFlt (fun f => { f with lastSignal := aset f.lastSignal r.entry (s.time, x) }) s)) s

/-- Tiles flushed since the last instant, in chunks of sixteen cells (R396, R399). -/
def queueTiles (s : State) : State :=
  let n := s.map.copies.length
  let new := (s.map.copies.take (n - s.flt.copiesSeen)).reverse
  let s := modFlt (fun f => { f with copiesSeen := n }) s
  let dst := fieldPeers s
  match s.openField with
  | none => s
  | some f => new.foldl (fun s t =>
      if t.1 != f.id then s else
      (List.range 256).foldl (fun s i =>
        let cells := (List.range 16).flatMap fun k => ((aget t.2.cells (16 * i + k)).getD {}).bytes
        enqueue dst 5 (tileHeader magicTile (ownMember s) f t.2.te t.2.tn t.2.generation (16 * i) cells ++ cells) none s) s) s

/-- A record with its header (R394). -/
def recordBytes (x : FltOut) : List Byte := le 1 x.type ++ zeros 1 ++ le 2 x.body.length ++ x.body

/-- Records of one member packed into datagrams of at most 1,200 bytes and 64 records, within a budget of bytes; answers those that are
left. -/
def packRecords : Nat → List FltOut → List (List Byte) → List (List (List Byte)) × List FltOut
  | _, [], cur => (if cur.isEmpty then [] else [cur.reverse], [])
  | budget, x :: l, cur =>
    let r := recordBytes x
    let used := (cur.map (·.length)).sum
    let fits := !cur.isEmpty && 16 + used + r.length ≤ 1200 && cur.length < 64
    let cost := r.length + if fits then 0 else 16
    if budget < cost then (if cur.isEmpty then [] else [cur.reverse], x :: l)
    else if fits then packRecords (budget - cost) l (r :: cur)
    else
      let (d, rest) := packRecords (budget - cost) l [r]
      ((if cur.isEmpty then d else cur.reverse :: d), rest)

/-- The datagrams of one member leave (R394, R396). -/
def sendMember (m : Nat) (s : State) : State :=
  let mine := sortBy (fun (a b : FltOut) => decide (a.type ≤ b.type)) (s.flt.queue.filter fun x => x.member == m)
  let (ds, rest) := packRecords (s.flt.cfg.bw * 1024) mine []
  let s := modFlt (fun f => { f with queue := (f.queue.filter fun x => x.member != m) ++ rest }) s
  ds.foldl (fun s recs =>
    let h := le 4 0x464D424F ++ le 1 1 ++ le 1 (ownMember s) ++ le 1 recs.length ++ zeros 1 ++ le 4 s.flt.cfg.massif ++ le 4 (s.member m).seq
    let s := modFlt (fun f => { f with sent := { time := s.time, member := m, bytes := h ++ recs.flatten } :: f.sent }) s
    modMember m (fun x => { x with seq := (x.seq + 1) % 2 ^ 32 }) s) s

/-- Waiting records are served by peer under R56, with the member number as ID: the member after the one last served comes first. -/
def serveOrder (s : State) : List Nat :=
  let last := (aget s.flt.lastServed 0).getD 15
  (List.range 16).map fun i => (last + 1 + i) % 16

/-- `FLT_LINE` sends whose chunks have all left end (R399). -/
def endLineSends (before : List FltOut) (s : State) : State :=
  let jobs := (before.filterMap (·.job)).eraseDups
  jobs.foldl (fun s r => if s.flt.queue.any (fun x => x.job == some r) then s else finish r .done [] s) s

/-- Step 4: sending. -/
def fltSend (s : State) : State :=
  if timeFree s then s else
  let s := queueTiles (queueSignals (queueHazards (queueOwn s)))
  let before := s.flt.queue
  let order := serveOrder s
  let s := order.foldl (fun s m => if s.flt.queue.any (fun x => x.member == m) then
    modFlt (fun f => { f with lastServed := aset f.lastServed 0 m }) (sendMember m s) else s) s
  endLineSends before s

/-- A module that is no manager any more runs no fleet link (R391): its sessions close and what waits to be sent is dropped. -/
def fltStandDown (s : State) : State :=
  let s := ((s.flt.queue.filterMap (·.job)).eraseDups).foldl (fun s r => finish r .wrongState [] s) s
  modFlt (fun f => { f with unl := .idle, received := [], queue := [], fresh := [], cartCode := none, endTo := [] }) (closeDtls s)

/-- The link starts: every member that is set is SILENT from now on until it sends (R403, log entry 218). -/
def fltBegin (s : State) : State :=
  modFlt (fun f => { f with members := f.members.map fun x => { x with heard := s.time, seen := false, st := if x.kind == 0 then 0 else 2 } }) s

/-- A deputy that takes over opens new sessions; unloading starts IDLE (R392). -/
def fltTakeover (s : State) : State := fltBegin (fltStandDown s)

/-! ## Commands -/

/-- The index of a target of the FLT group. -/
def fltTarget (r : Req) : Nat := (unitIndex r.p.target 0x10).getD 0xFFFF

/-- Whether a handle may be published by the fleet link: 0, or an own signal of an encoding. -/
def fltHandleOk (h ty : Nat) (s : State) : Bool := h == 0 || (managerOwn h s && !handleBad (s.handle (hLocal h)) [ty] s)

/-- What refuses `FLT_CONFIG`, in its order (step 8 of R73). -/
def chkFltConfig (r : Req) (s : State) : List (Bool × Status) :=
  let b := r.p.payload
  let c : FltCfg := { enable := u8 b 0 == 1, gwPort := u8 b 1, owner := u8 b 2, massif := u32 b 4, udpPort := u16 b 8, bw := u16 b 10
                      linkTimeout := u16 b 12, lostTime := u16 b 14, lostHold := u16 b 16, grantTimeout := u16 b 18, grace := u16 b 20
                      timeTol := bits32 b 24, det := u32 b 28, unl := u32 b 32, unlState := u32 b 36, fill := u32 b 40 }
  [ (fltTarget r != 0, .badParam), (!s.isHost r.port, .notOwner), (!s.configures, .wrongState),
    (1 < u8 b 0 || 1 < c.gwPort || 127 < c.owner || reservedSet b [(3, 1), (22, 2)] || c.massif == 0 || c.udpPort < 1024 || notIn 1 64 c.bw
      || notIn 200 5000 c.linkTimeout || notIn 1 600 c.lostTime || 30000 < c.lostHold || notIn 1 60 c.grantTimeout || 5000 < c.grace
      || !f32In c.timeTol 1 10000 || !fltHandleOk c.det 5 s || !fltHandleOk c.unl 4 s || !fltHandleOk c.unlState 0 s
      || (c.fill != 0 && handleBad c.fill numeric s), .badParam),
    (s.flt.unl != .idle, .wrongState) ]

/-- `FLT_CONFIG` (R391, R392). -/
def effFltConfig (r : Req) (s : State) : Res × State :=
  let b := r.p.payload
  let c : FltCfg := { enable := u8 b 0 == 1, gwPort := u8 b 1, owner := u8 b 2, massif := u32 b 4, udpPort := u16 b 8, bw := u16 b 10
                      linkTimeout := u16 b 12, lostTime := u16 b 14, lostHold := u16 b 16, grantTimeout := u16 b 18, grace := u16 b 20
                      timeTol := bits32 b 24, det := u32 b 28, unl := u32 b 32, unlState := u32 b 36, fill := u32 b 40 }
  check s (chkFltConfig r s) fun _ =>
    let s := fltBefore s
    done (modFlt (fun f => { f with cfg := c }) (if c.enable && !s.flt.cfg.enable then fltBegin s else s))

/-- What refuses `FLT_KEY_SET`, in its order (step 8 of R73). -/
def chkFltKeySet (r : Req) (s : State) : List (Bool × Status) :=
  [(fltTarget r != 0, .badParam), (!s.isHost r.port, .notOwner), (!s.configures, .wrongState)]

/-- `FLT_KEY_SET` (R393). -/
def effFltKeySet (r : Req) (s : State) : Res × State :=
  check s (chkFltKeySet r s) fun _ =>
    done (closeDtls (modFlt (fun f => { f with key := some (r.p.payload.take 32) }) (fltBefore s)))

/-- What refuses `FLT_MEMBER_SET`, in its order (step 8 of R73). -/
def chkFltMemberSet (r : Req) (s : State) : List (Bool × Status) :=
  let b := r.p.payload
  let m := fltTarget r - 0x10
  [ (fltTarget r < 0x10 || 0x1F < fltTarget r, .badParam), (!s.isHost r.port, .notOwner), (!s.configures, .wrongState),
    (m == ownMember s || 3 < u8 b 0 || (u8 b 0 != 0 && u8 b 1 != 4 && u8 b 1 != 6), .badParam) ]

/-- `FLT_MEMBER_SET` (R392). -/
def effFltMemberSet (r : Req) (s : State) : Res × State :=
  let b := r.p.payload
  let m := fltTarget r - 0x10
  check s (chkFltMemberSet r s) fun _ =>
    done (modMember m (fun _ => { kind := u8 b 0, ip := u8 b 1, port := u16 b 2, addr := (b.drop 4).take 16, heard := s.time
                                  st := if u8 b 0 == 0 then 0 else 2 }) (fltBefore s))

/-- What refuses `FLT_HAZARD_SET`, in its order (step 8 of R73). -/
def chkFltHazardSet (r : Req) (s : State) : List (Bool × Status) :=
  let b := r.p.payload
  let kind := u8 b 2
  [ (fltTarget r != 0x100, .badParam), (!s.isHost r.port, .notOwner), (!gdeOn s, .wrongState),
    (5 < kind || reservedSet b [(3, 1), (34, 2)] || !f32In (bits32 b 4) (1 / 2) 500 || !f64In (bits64 b 8) (-90) 90
      || !f64In (bits64 b 16) (-180) 180, .badParam) ]

/-- `FLT_HAZARD_SET` (R400): the module sets the version. -/
def effFltHazardSet (r : Req) (s : State) : Res × State :=
  let b := r.p.payload
  let kind := u8 b 2
  let number := u16 b 32
  check s (chkFltHazardSet r s) fun _ =>
    let s := fltBefore s
    let v := (s.flt.version + 1) % 65536
    let ps := le 2 v ++ (b.drop 2).take 34
    let s1 := modFlt (fun f => { f with version := v }) s
    if kind == 0 then
      let s1 := modFlt (fun f => { f with hazards := f.hazards.filter fun x => !(x.issuer == ownMember s && x.number == number) }) s1
      done (if fltOn s1 then
        enqueue (peersOf s1 fun _ => true) 3 (le 1 (ownMember s1) ++ zeros 1 ++ le 2 number ++ ps) none s1 else s1)
    else match putHazard { issuer := ownMember s, number := number, version := v, params := ps, expiry := i64 b 24 } s1 with
      | some s => done s
      | none => (.fin .noResource [], s)

/-- A vertex of a received line in the open field's frame, mm (`FLT_LINE`). -/
def convertVertex (a b : BitVec 64 × BitVec 64 × BitVec 64) (v : Int × Int) : Int × Int :=
  if a == b then v else
  let o := fun (x : BitVec 64 × BitVec 64 × BitVec 64) => (f64d x.1, f64d x.2.1, f64d x.2.2)
  let p := mapShift (o a) (o b) ((v.1 : Rat) / 1000) ((v.2 : Rat) / 1000)
  (roundEven (p.1 * 1000), roundEven (p.2 * 1000))

/-- The chunks of a line that is sent, 128 vertices each; the layout of their header is free (log entry 163). -/
def lineChunks : Nat → List (Int × Int) → State → List (List Byte) × State
  | 0, _, s => ([], s)
  | n + 1, vs, s =>
    if vs.isEmpty then ([], s) else
    let (h, s) := takeFreeBytes 64 s
    let (rest, s) := lineChunks n (vs.drop 128) s
    ((h ++ (vs.take 128).flatMap fun v => leInt 4 v.1 ++ leInt 4 v.2) :: rest, s)

/-- What refuses `FLT_LINE`, in its order (step 8 of R73). -/
def chkFltLine (r : Req) (s : State) : List (Bool × Status) :=
  let b := r.p.payload
  let op := u8 b 0
  let i := u8 b 1
  let first := u32 b 2
  [ (fltTarget r != 0, .badParam), (!s.isHost r.port, .notOwner), (!gdeOn s, .wrongState),
    (1 < op || (if op == 0 then 63 else 7) < i, .badParam), (s.openField.isNone, .wrongState),
    ((if op == 0 then (gdeLine i s).isNone else !(s.flt.inbox[i]?).any fun x => x.complete.isSome && decide (first < x.verts.length)), .badParam) ]

/-- `FLT_LINE` (R399). -/
def effFltLine (r : Req) (s : State) : Res × State :=
  let b := r.p.payload
  let op := u8 b 0
  let i := u8 b 1
  let first := u32 b 2
  check s (chkFltLine r s) fun _ =>
    let s := fltBefore s
    if op == 0 then
      let (cs, s) := lineChunks 512 (((gdeLine i s).map (·.verts)).getD []) s
      let dst := if fltOn s then fieldPeers s else []
      if dst.isEmpty then done s
      else (.interim .queued, cs.foldl (fun s c => enqueue dst 6 c (some r) s) s)
    else
      match s.flt.inbox[i]?, s.openField with
      | some x, some f =>
        let vs := ((x.verts.drop first).take 500).map (convertVertex x.chunk.origin f.origin)
        let c := x.chunk
        answer (le 1 0 ++ le 1 c.type ++ le 2 vs.length ++ le 4 c.total ++ le 4 c.spacing.toNat ++ le 4 c.radius.toNat
          ++ (c.name ++ zeros 16).take 16 ++ vs.flatMap fun v => leInt 4 v.1 ++ leInt 4 v.2) s
      | _, _ => (.fin .badParam [], s)

/-- What refuses `FLT_UNLOAD`, in its order (step 8 of R73). -/
def chkFltUnload (r : Req) (s : State) : List (Bool × Status) :=
  let b := r.p.payload
  let cart := u8 b 1
  [ (fltTarget r != 0, .badParam), (!s.isHost r.port && partOfPort r.port != some s.flt.cfg.owner, .notOwner), (!gdeOn s, .wrongState),
    (1 < u8 b 0 || reservedSet b [(2, 2)] || (u8 b 0 == 0 && (s.member cart).kind != 2), .badParam) ]

/-- `FLT_UNLOAD` (R391, R402). -/
def effFltUnload (r : Req) (s : State) : Res × State :=
  let b := r.p.payload
  let cart := u8 b 1
  check s (chkFltUnload r s) fun _ =>
    let s := fltBefore s
    if u8 b 0 == 0 then
      if s.flt.unl != .idle then (.fin .wrongState [], s)
      else done (unlEnter .requested (modFlt (fun f => { f with cart := cart, cartCode := none, fresh := []
                                                                endTo := f.endTo.filter (· != cart) }) s))
    else done (if s.flt.unl == .idle then s else unlEnter .ending s)

/-- What refuses `FLT_STATUS`, in its order (step 8 of R73). -/
def chkFltStatus (r : Req) (s : State) : List (Bool × Status) :=
  let t := fltTarget r
  [(t != 0 && (t < 0x10 || 0x1F < t), .badParam)]

/-- `FLT_STATUS` (R403). -/
def effFltStatus (r : Req) (s : State) : Res × State :=
  let t := fltTarget r
  check s (chkFltStatus r s) fun _ =>
    if t != 0 then answer (((s.member (t - 0x10)).status ++ zeros 64).take 64) s
    else
      let st := ((s.flt.members.zipIdx).map fun x => x.1.st * 4 ^ x.2).sum
      answer (le 4 st ++ le 1 s.flt.unl.code ++ zeros 3 ++ le 4 s.flt.discarded ++ le 4 s.flt.chunks ++ le 4 s.flt.drops ++ le 8 s.time) s

/-! ## The instant (R396) -/

/-- The rules of the FLT commands that an exchange instant starts (step 2 of R396). -/
def effOfFlt (r : Req) (s : State) : Res × State :=
  match r.op with
  | .fltConfig => effFltConfig r s
  | .fltKeySet => effFltKeySet r s
  | .fltMemberSet => effFltMemberSet r s
  | .fltHazardSet => effFltHazardSet r s
  | .fltLine => effFltLine r s
  | .fltUnload => effFltUnload r s
  | _ => (.silent, s)

/-- The FLT commands that wait for an exchange instant start. -/
def fltStartDue (s : State) : State := startAwaiting (fun r => opCode r.op / 256 == 0x10) effOfFlt s

/-- What an exchange instant evaluates, after the records received and the commands due (R396). -/
def atInstant (f : State → State) (s : State) : State := if fltOn s && fltNow s then f (fltStartDue (fltBefore s)) else s

/-- GRANT_TIMEOUT (R402): evaluated at an exchange instant. -/
def doGrantTimeout (s : State) : State := atInstant grantTimeout s

/-- LOST_HOLD_EXPIRY (R402): evaluated at an exchange instant. -/
def doLostHold (s : State) : State := atInstant lostHold s

/-- EXCHANGE_INSTANT (R396): every 100 ms. On a module that the fleet link has left the commands that waited end. -/
def doExchange (s : State) : State :=
  if !fltNow s then s else
  if !fltOn s then fltStartDue s else
  let s := if s.flt.appliedAt == some s.time then s else fltApply s
  let s := fltStartDue s
  let s := (List.range 16).foldl (fun s m => memberStep false m s) s
  modFlt (fun f => { f with doneAt := f.appliedAt }) (fltSend (unlPublish (unlStep s)))

end Sys2Proof.Machine
end

