-- ==== Sys2Proof/Machine/Cairn.lean ====
section
/-! DEFINITION. Chapter 21: Summit's record queue, the ring and the origin log, cursors, and the rules of the CRN commands. -/
namespace Sys2Proof.Machine

/-- Lines of the recent ring (R468). -/
def ringLines : Nat := 131072
/-- Lines of the origin log (R468). -/
def originCap : Nat := 655360

/-- Summit has supply: a logic input is present, or the bank carries the module (chapter 24). -/
def State.summitFed (s : State) : Bool := !(s.pwr.st == .off && s.pwr.sawSupplyLost)

/-- Summit runs (R517). -/
def State.summitOn (s : State) : Bool := s.summitFed && !s.id.summitLost

/-- Operating time now, ms (R472): it stands still while Summit has no supply. -/
def opNow (s : State) : Nat := if !s.summitFed then s.crn.opTime else (s.crn.opTime + (s.time - s.crn.opBase) / ms) % 2 ^ 48

/-- The fewest lines that hold a payload (R471). -/
def recLines (n : Nat) : Nat := if n ≤ 32 then 1 else 1 + (n - 32 + 63) / 64

/-- The bytes of a record with its CRC (R471). -/
def CRec.bytes (r : CRec) : List Byte :=
  let head := le 6 r.opTime ++ le 2 r.code ++ le 4 r.powerCycle ++ le 4 r.seq ++ le 1 r.lines ++ le 1 r.source
    ++ le 2 r.payload.length ++ le 8 r.moduleTime
  let body := r.payload ++ zeros ((r.lines - 1) * 64 + 32 - r.payload.length)
  let first := body.take 32
  let rest := body.drop 32
  let crc := Crypto.crc32c (head ++ first ++ zeros 4 ++ rest)
  head ++ first ++ le 4 crc ++ rest

/-- A record enters the ring (R470): it starts over where it does not fit before the end, and any record it overwrites is
no longer held. -/
def ringPut (r : CRec) (s : State) : State :=
  let fits := s.crn.ringPos + r.lines ≤ ringLines
  let start := if fits then s.crn.ringPos else 0
  let exc := fun (x : CRec) =>
    (start < x.start + x.lines && x.start < start + r.lines) || (!fits && s.crn.ringPos < x.start + x.lines)
  let kept := s.crn.ring.filter fun x => !exc x
  { s with crn := { s.crn with ring := kept ++ [{ r with start := start }], ringPos := (start + r.lines) % ringLines } }

/-- `CRN_EVENT` payload. -/
def crnPayload (cause part count seq t : Nat) : List Byte :=
  le 1 cause ++ le 1 part ++ zeros 2 ++ le 4 count ++ le 4 seq ++ zeros 4 ++ le 8 t

/-- Summit writes a record of a number of lines with the next `seq` to the ring and, while it is open and has room, to the origin log
(R470, R476). The origin log closes at the first record that does not fit. -/
def writeLines (lines code source : Nat) (payload : List Byte) (moduleTime opTime : Nat) (s : State) : State :=
  let seq := (s.crn.seq + 1) % 2 ^ 32
  let r : CRec := { opTime := opTime, code := code, powerCycle := s.crn.powerCycles, seq := seq, lines := lines
                    source := source, moduleTime := moduleTime, payload := payload }
  let s := ringPut r { s with crn := { s.crn with seq := seq } }
  if s.crn.originFull then s
  else if s.crn.originLines + r.lines ≤ originCap then
    { s with crn := { s.crn with origin := s.crn.origin ++ [r], originLines := s.crn.originLines + r.lines } }
  else
    let seq2 := (seq + 1) % 2 ^ 32
    let pl := crnPayload 0 0 0 0 s.time
    let r2 : CRec := { opTime := opTime, code := 0x1480, powerCycle := s.crn.powerCycles, seq := seq2, lines := 1, source := 0x70
                       moduleTime := s.time, payload := pl }
    toHosts 0x1480 (BitVec.ofNat 32 (unit 0x14 0x10)) pl
      (ringPut r2 { s with crn := { s.crn with originFull := true, seq := seq2 } })

/-- A record in the fewest lines that hold its payload (R471). -/
def writeRecord (code source : Nat) (payload : List Byte) (moduleTime opTime : Nat) (s : State) : State :=
  writeLines (recLines payload.length) code source payload moduleTime opTime s

/-- A record of Summit's own, with its `CRN_EVENT` packet. -/
def crnEvent (cause part count seq target : Nat) (s : State) : State :=
  let pl := crnPayload cause part count seq s.time
  toHosts 0x1480 (BitVec.ofNat 32 target) pl (writeRecord 0x1480 0x70 pl s.time (opNow s) s)

/-- Cairn as a target. -/
def crnUnit : Nat := unit 0x14 0

/-- Summit takes an event into its queue or drops it (R475). -/
def acceptEvent (ev : CairnEv) (s : State) : State :=
  if 256 ≤ s.crn.queue.length then
    { s with crn := { s.crn with dropped := s.crn.dropped + 1, dropsToReport := s.crn.dropsToReport + 1 } }
  else { s with crn := { s.crn with queue := s.crn.queue ++ [{ ev := ev, opTime := opNow s }] } }

/-- Remove the first element that satisfies a test. -/
def eraseFirst {α : Type} (f : α → Bool) : List α → List α
  | [] => []
  | x :: l => if f x then l else x :: eraseFirst f l

/-- CAIRN_EVENT_ACCEPT (R475, R477): events of one instant are ordered under R56. While Summit is excluded nothing is
recorded. -/
def doEventAccept (s : State) : State :=
  match s.crn.raised with
  | [] => s
  | e :: _ =>
    let same := s.crn.raised.filter fun x => x.moduleTime == e.moduleTime
    let (w, s) := arbitrate 0x14 (same.map fun x => (x.source, 1)) s
    let pick := fun (x : CairnEv) => x.moduleTime == e.moduleTime && some x.source == w
    let ev := (s.crn.raised.find? pick).getD e
    let s : State := { s with crn := { s.crn with raised := eraseFirst pick s.crn.raised } }
    if s.summitOn then acceptEvent ev s else s

/-- RECORD_WRITTEN (R475, R476): the oldest queued record is written; drops are reported once the queue is short. -/
def doRecordWritten (s : State) : State :=
  if !s.crn.mounted || !s.summitOn then s else
  match s.crn.queue with
  | [] => s
  | q :: rest =>
    let s := writeRecord q.ev.code q.ev.source q.ev.payload q.ev.moduleTime q.opTime { s with crn := { s.crn with queue := rest } }
    if s.crn.dropsToReport != 0 && s.crn.queue.length < 128 then
      let n := s.crn.dropsToReport
      crnEvent 2 0xFF n ((s.crn.seq + 1) % 2 ^ 32) crnUnit { s with crn := { s.crn with dropsToReport := 0 } }
    else s

/-- Write every queued record, as SAVE does (R477, R507). -/
def writeAllQueued : Nat → State → State
  | 0, s => s
  | n + 1, s => if s.crn.queue.isEmpty then s else writeAllQueued n (doRecordWritten s)

/-- Accept every raised event, as before the record of a SAVE (R477). -/
def acceptAllRaised : Nat → State → State
  | 0, s => s
  | n + 1, s => if s.crn.raised.isEmpty then s else acceptAllRaised n (doEventAccept s)

/-- CURSOR_TIMEOUT (R479): a cursor unread for 600 s is released. -/
def doCursorTimeout (k : Nat) (s : State) : State :=
  match s.crn.cursors.getD k none with
  | some c => if c.lastRead + 600 * sec ≤ s.time then { s with crn := { s.crn with cursors := s.crn.cursors.set k none } } else s
  | none => s

/-! ## Commands -/

/-- Records of a part: 0 the origin log, 1 the ring. -/
def State.partRecs (s : State) (part : Nat) : List CRec := if part == 0 then s.crn.origin else s.crn.ring

/-- The `seq` after the newest record of a part; of the module where the part holds none. -/
def afterNewest (part : Nat) (s : State) : Nat := ((((s.partRecs part).getLast?).map (·.seq)).getD s.crn.seq + 1) % 2 ^ 32

/-- What refuses `CRN_STATUS`, in its order (step 8 of R73). -/
def chkCrnStatus (r : Req) (s : State) : List (Bool × Status) :=
  [(r.p.target.toNat != crnUnit, .badParam), (s.id.summitLost, .hwFault)]

/-- `CRN_STATUS`. -/
def effCrnStatus (r : Req) (s : State) : Res × State :=
  check s (chkCrnStatus r s) fun _ =>
    answer (le 1 (b2n s.crn.mounted) ++ le 1 (bitsN [s.crn.originFull, s.crn.rebuilt])
      ++ le 2 (s.crn.cursors.filter (·.isSome)).length ++ le 4 s.crn.seq ++ le 4 ((s.crn.ring.head?.map (·.seq)).getD 0)
      ++ le 4 ((s.crn.origin.head?.map (·.seq)).getD 0) ++ le 4 s.crn.originLines ++ le 4 s.crn.dropped ++ le 8 (opNow s)
      ++ le 4 s.crn.powerCycles ++ zeros 4 ++ le 8 s.time) s

/-- What refuses `CRN_CURSOR_OPEN`, in its order (step 8 of R73). -/
def chkCrnCursorOpen (r : Req) (s : State) : List (Bool × Status) :=
  let b := r.p.payload
  let from_ := u8 b 0
  let mine := (s.crn.cursors.filter fun c => c.any (·.port == r.port)).length
  let slot := (s.crn.cursors.zipIdx.find? fun e => e.1.isNone).map (·.2)
  [ (!(r.p.target.toNat == unit 0x14 0x10 || r.p.target.toNat == unit 0x14 0x11), .badParam), (s.id.summitLost, .hwFault),
    (3 < from_ || 0x17 < u8 b 1 || reservedSet b [(2, 6)], .badParam), (!s.crn.mounted, .wrongState),
    (2 ≤ mine || slot.isNone, .noResource) ]

/-- `CRN_CURSOR_OPEN` (R479). -/
def effCrnCursorOpen (r : Req) (s : State) : Res × State :=
  let b := r.p.payload
  let part := (unitIndex r.p.target 0x14).getD 0xFFFF - 0x10
  let from_ := u8 b 0
  let v := u64 b 8
  let recs := s.partRecs part
  let slot := (s.crn.cursors.zipIdx.find? fun e => e.1.isNone).map (·.2)
  check s (chkCrnCursorOpen r s) fun _ =>
    let next :=
      if from_ == 0 then (recs.head?.map (·.seq)).getD (afterNewest part s)
      else if from_ == 1 then afterNewest part s
      else if from_ == 2 then v % 2 ^ 32
      else ((recs.find? fun x => v ≤ x.opTime).map (·.seq)).getD (afterNewest part s)
    let k := slot.getD 0
    let c : Cursor := { port := r.port, part := part, next := next, group := u8 b 1, lastRead := s.time }
    (.fin .done (le 1 k ++ zeros 3 ++ le 4 next), { s with crn := { s.crn with cursors := s.crn.cursors.set k (some c) } })

/-- Whether `a` comes before `b` in `seq` order modulo 2^32. -/
def seqBefore (a b : Nat) : Bool := let d := (b + 2 ^ 32 - a) % 2 ^ 32; d != 0 && d < 2 ^ 31

/-- The records a read takes: those that pass the filter, within the line limit; with the `next` after the last one examined. -/
def takeRecs (group : Nat) : List CRec → Nat → Nat → List CRec × Nat
  | [], _, next => ([], next)
  | x :: l, room, next =>
    if group != 0 && x.code / 256 != group then takeRecs group l room ((x.seq + 1) % 2 ^ 32)
    else if room < x.lines then ([], next)
    else
      let (rest, n) := takeRecs group l (room - x.lines) ((x.seq + 1) % 2 ^ 32)
      (x :: rest, n)

/-- The cursor that a target of `CRN_READ` names. -/
def cursorOf (r : Req) (s : State) : Option Cursor :=
  let i := (unitIndex r.p.target 0x14).getD 0xFFFF
  if 0x100 ≤ i && i < 0x108 then s.crn.cursors.getD (i - 0x100) none else none

/-- The sequence number at which a cursor reads on: records may be lost to it (R480). -/
def cursorStart (c : Cursor) (s : State) : Bool × Nat × Nat :=
  let oldest := (((s.partRecs c.part).head?).map (·.seq)).getD ((s.crn.seq + 1) % 2 ^ 32)
  let lost := seqBefore c.next oldest
  (lost, oldest, if lost then oldest else c.next)

/-- The records that a cursor has before it. -/
def cursorRecs (c : Cursor) (s : State) : List CRec := (s.partRecs c.part).filter fun x => !seqBefore x.seq (cursorStart c s).2.2

/-- What refuses `CRN_READ`, in its order (step 8 of R73). -/
def chkCrnRead (r : Req) (s : State) : List (Bool × Status) :=
  let b := r.p.payload
  let i := (unitIndex r.p.target 0x14).getD 0xFFFF
  let max := u8 b 0
  match cursorOf r s with
  | none => [ (i < 0x100 || 0x107 < i, .badParam), (s.id.summitLost, .hwFault), (!s.crn.mounted, .wrongState), (true, .badParam) ]
  | some c =>
    let first := (cursorRecs c s).find? fun x => c.group == 0 || x.code / 256 == c.group
    [ (s.id.summitLost, .hwFault), (!s.crn.mounted, .wrongState), (c.port != r.port, .notOwner),
      (max == 0 || 63 < max || reservedSet b [(1, 3)], .badParam), (first.any fun x => max < x.lines, .badParam) ]

/-- `CRN_READ` (R480, R481). -/
def effCrnRead (r : Req) (s : State) : Res × State :=
  check s (chkCrnRead r s) fun _ =>
    match cursorOf r s with
    | none => (.fin .badParam [], s)
    | some c =>
      let recs := s.partRecs c.part
      let (lost, oldest, start) := cursorStart c s
      let (got, next) := takeRecs c.group (cursorRecs c s) (u8 r.p.payload 0) start
      let last := !recs.any fun x => !seqBefore x.seq next
      let skipped := if lost then (oldest + 2 ^ 32 - c.next) % 2 ^ 32 else 0
      let c' : Cursor := { c with next := next, lastRead := s.time, cleared := false }
      let k := (unitIndex r.p.target 0x14).getD 0xFFFF - 0x100
      (.fin .done (le 2 got.length ++ le 2 (bitsN [lost || c.cleared, last]) ++ le 4 next ++ le 4 skipped ++ zeros 4
        ++ got.flatMap CRec.bytes), { s with crn := { s.crn with cursors := s.crn.cursors.set k (some c') } })

/-- What refuses `CRN_CURSOR_CLOSE`, in its order (step 8 of R73). -/
def chkCrnCursorClose (r : Req) (s : State) : List (Bool × Status) :=
  let i := (unitIndex r.p.target 0x14).getD 0xFFFF
  let k := i - 0x100
  [ (i < 0x100 || 0x107 < i, .badParam), (s.id.summitLost, .hwFault), (!s.crn.mounted, .wrongState),
    (!((s.crn.cursors.getD k none).any (·.port == r.port)), .notOwner) ]

/-- `CRN_CURSOR_CLOSE` (R479). -/
def effCrnCursorClose (r : Req) (s : State) : Res × State :=
  let i := (unitIndex r.p.target 0x14).getD 0xFFFF
  let k := i - 0x100
  check s (chkCrnCursorClose r s) fun _ =>
    done { s with crn := { s.crn with cursors := s.crn.cursors.set k none } }

/-- A part is emptied (R481). -/
def emptyPart (part : Nat) (s : State) : State :=
  let s : State := { s with crn := { s.crn with cursors := s.crn.cursors.map fun c => c.map fun c =>
    if c.part == part then { c with cleared := true } else c } }
  if part == 0 then { s with crn := { s.crn with origin := [], originLines := 0, originFull := false } }
  else { s with crn := { s.crn with ring := [], ringPos := 0 } }

/-- What refuses `CRN_CLEAR`, in its order (step 8 of R73). -/
def chkCrnClear (r : Req) (s : State) : List (Bool × Status) :=
  let b := r.p.payload
  let i := (unitIndex r.p.target 0x14).getD 0xFFFF
  let part := i - 0x10
  [ (i != 0x10 && i != 0x11, .badParam), (s.id.summitLost, .hwFault), (!s.isHost r.port, .notOwner),
    (part == 0 && u32 b 0 != Config.serial.toNat % 2 ^ 32, .badParam),
    (part == 0 && (r.port != 0x88 || s.pwr.st != .standby), .wrongState) ]

/-- `CRN_CLEAR` (R478, R481). -/
def effCrnClear (r : Req) (s : State) : Res × State :=
  let i := (unitIndex r.p.target 0x14).getD 0xFFFF
  let part := i - 0x10
  check s (chkCrnClear r s) fun _ =>
    let s := emptyPart part s
    if s.crn.mounted then done (crnEvent 1 part 0 0 (unit 0x14 i) s)
    else
      let parts := part :: s.crn.clearedUnmounted.filter (· != part)
      if parts.length < 2 then done { s with crn := { s.crn with clearedUnmounted := parts } }
      else
        let s : State := { s with crn := { s.crn with clearedUnmounted := [], mounted := true, pendingRec := none } }
        done (crnEvent 1 1 0 0 (unit 0x14 0x11) (crnEvent 1 0 0 0 (unit 0x14 0x10) s))

/-- The admission rule of `CRN_APP_WRITE` (R475): at most 10 records of a partition in each whole second. -/
def appAdmit (r : Req) (s : State) : Option Status × State :=
  let now := s.time / sec
  let n : Nat := ((s.crn.appRate.find? fun e => e.1 == r.port && e.2.1 == now).map fun e => e.2.2).getD 0
  if 10 ≤ n then (some .noResource, s)
  else (none, { s with crn := { s.crn with appRate := (r.port, now, n + 1) :: s.crn.appRate.filter fun e => e.1 != r.port } })

/-- What refuses `CRN_APP_WRITE`, in its order (step 8 of R73). -/
def chkCrnAppWrite (r : Req) (s : State) : List (Bool × Status) :=
  let b := r.p.payload
  [ (r.p.target.toNat != crnUnit, .badParam), ((partOfPort r.port).isNone, .notOwner), (s.id.summitLost, .hwFault),
    (b.length < 4 || 996 < b.length, .badLength), (u8 b 0 < 0xC0 || reservedSet b [(1, 3)], .badParam),
    (!s.crn.mounted, .wrongState) ]

/-- `CRN_APP_WRITE` (R475): executed at the release boundary, where Summit accepts the record, after the events raised before it, or
drops it. -/
def effCrnAppWrite (r : Req) (s : State) : Res × State :=
  let b := r.p.payload
  check s (chkCrnAppWrite r s) fun _ =>
    let s := acceptAllRaised s.crn.raised.length s
    let full := 256 ≤ s.crn.queue.length
    let s := acceptEvent { code := 0x1400 + u8 b 0, source := 0x80 + r.port, payload := b.drop 4, moduleTime := s.time } s
    (.fin (if full then .noResource else .done) [], s)

/-- A record left pending is replaced at the mount by one of the same length, which takes its `seq` (R478). -/
def replacePending (s : State) : State :=
  match s.crn.pendingRec with
  | none => s
  | some p =>
    let s : State := { s with crn := { s.crn with pendingRec := none } }
    let pl := crnPayload 3 0xFF 0 ((s.crn.seq + 1) % 2 ^ 32) s.time
    toHosts 0x1480 (BitVec.ofNat 32 crnUnit) pl (writeLines p 0x1480 0x70 pl s.time (opNow s) s)

/-- Mount Cairn in stage 7 of start-up (R478): 0 a valid copy of the state, 1 rebuilt by scanning, which knows of no pending mark, any
other value failed. Operating time has passed its stored value and the newest record's by then. -/
def mountCairn (how : Nat) (s : State) : State :=
  let newest := ((s.crn.ring.getLast?).map (·.opTime)).getD 0
  let s : State := { s with crn := { s.crn with opTime := max (opNow s) ((max s.crn.opTime newest + 1) % 2 ^ 48), opBase := s.time } }
  if 1 < how then { s with crn := { s.crn with mounted := false } } else
  let s : State := { s with crn := { s.crn with mounted := true, rebuilt := how == 1, closed := false } }
  if how == 1 then crnEvent 4 0xFF 0 0 crnUnit { s with crn := { s.crn with pendingRec := none } } else replacePending s

end Sys2Proof.Machine
end

