-- ==== Sys2Proof/Machine/Upd.lean ====
section
/-! DEFINITION. Chapter 22: the transfer of an image, the manifest, installing, commit and rollback, and the rules of the
UPD commands. -/
namespace Sys2Proof.Machine

/-- Change the state of field update. -/
def modUpd (f : UpdState → UpdState) (s : State) : State := { s with upd := f s.upd }

/-- The state codes of R495. -/
def UpdSt.code : UpdSt → Nat
  | .idle => 0 | .receiving => 1 | .received => 2 | .installing => 3 | .staged => 4 | .committing => 5 | .failed => 6

/-- The module acts as manager. -/
def updManager (s : State) : Bool := s.acting

/-- The indexes of the modules of the machine under R21, rising. -/
def machineModules (s : State) : List Nat :=
  let l := (s.id.peers.map (·.index)) ++ s.id.index.toList
  (List.range 8).filter fun i => l.contains i

/-- A change of state (R495): `UPD_EVENT` and its Cairn event. -/
def updEnter (st : UpdSt) (reason component module : Nat) (s : State) : State :=
  let image := s.upd.image
  let s := modUpd (fun u => { u with st := st, reason := reason, component := component }) s
  event 0x1580 (unit 0x15 0)
    (le 1 st.code ++ le 1 reason ++ le 1 component ++ le 1 module ++ zeros 4 ++ le 8 image ++ le 8 s.time) [] 0x70 s

/-! ## Pieces and the manifest -/

/-- The lowest absent pieces at or above a number (R488). -/
def missingFrom (k : Nat) (s : State) : List Nat := ((List.range s.upd.pieces).drop k).filter fun i => !s.upd.held.contains i

/-- The plaintext of a piece as it travels: 64 header bytes, then ciphertext (R483); none where the header or the tag is
wrong. -/
def openPiece (image index : Nat) (b : List Byte) (s : State) : Option (List Byte) :=
  let ct := u16 b 6
  if u32 b 0 != 0x43505358 || u16 b 4 != 1 || ct == 0 || 16384 < ct || u64 b 8 != image || u32 b 16 != index then none else
  match s.sum.imageKey with
  | none => none
  | some k => Config.gcmOpen k ((b.drop 8).take 8 ++ (b.drop 16).take 4) (b.take 48 ++ zeros 16) ((b.drop 64).take ct) ((b.drop 48).take 16)

/-- A stored piece's plaintext. -/
def piecePlain (i : Nat) (s : State) : List Byte := ((aget s.upd.store i).bind fun b => openPiece s.upd.image i b s).getD []

/-- The plaintext of a component (R482). -/
def compPlain (c : UpdComp) (s : State) : List Byte :=
  (((List.range c.count).map fun k => piecePlain (c.first + k) s).flatten).take c.bytes

/-- A component entry (R485). -/
def compOf (b : List Byte) : UpdComp :=
  { kind := u8 b 0, order := u8 b 1, modules := u8 b 2, number := u32 b 4, version := u32 b 8, first := u32 b 12, count := u32 b 16
    bytes := u32 b 20, digest := (b.drop 24).take 48
    needs := ((List.range 4).filter fun k => u8 b (72 + 12 * k) != 0xFF).map fun k =>
      (u8 b (72 + 12 * k), u32 b (72 + 12 * k + 4), u32 b (72 + 12 * k + 8)) }

/-- A manifest's fields (R484). -/
def manifestOf (b : List Byte) : Manifest :=
  { setId := u16 b 6, setVersion := u32 b 8, hwMin := u16 b 12, hwMax := u16 b 14, image := u64 b 24, pieces := u32 b 32
    comps := (List.range (u16 b 16)).map fun k => compOf ((b.drop (64 + 128 * k)).take 128) }

/-- The components of the set that this module runs (R4). -/
def ownSet (s : State) : List CompVer := s.upd.active.own.getD Config.ownSet

/-- The components of a module (R489): what the last set left installed, else the factory set's (R4). -/
def installedOn (n : Nat) (s : State) : List CompVer :=
  if s.id.index == some n then ownSet s else (aget s.upd.installed n).getD (Config.factorySet n)

/-- The `version` of the module firmware that the module runs (R4). -/
def firmwareOf (s : State) : Nat := (((ownSet s).find? fun x => x.1 == 1).map fun x => x.2.2).getD 0

/-- The resulting set of a module: installed components with those of the image in place of their equals. -/
def resultingSet (m : Manifest) (n : Nat) (s : State) : List CompVer :=
  let new := (m.comps.filter fun c => bitOf c.modules n).map fun c => (c.kind, c.number, c.version)
  (installedOn n s).filter (fun x => !new.any fun y => y.1 == x.1 && y.2.1 == x.2.1) ++ new

/-- A `requires` entry is met by a set (R485). -/
def needMet (set : List CompVer) (r : Nat × Nat × Nat) : Bool :=
  set.any fun x => x.1 == r.1 && x.2.1 == r.2.1 && decide (r.2.2 ≤ x.2.2)

/-- Two piece runs share a piece. -/
def runsMeet (a b : UpdComp) : Bool := decide (a.first < b.first + b.count) && decide (b.first < a.first + a.count)

/-- The signature of a manifest is valid under the key of its slot (R485). -/
def manifestSigned (b : List Byte) (s : State) : Bool :=
  let n := 64 + 128 * u16 b 16
  let count := u16 b 16
  let sig := b.drop n
  decide (1 ≤ count) && decide (count ≤ 64) && b.length == n + 104 && decide (u8 sig 0 < 4) &&
    (((s.sum.signKeys.getD (u8 sig 0) none).map fun k => Config.ecdsaOk k (Config.sha384 (b.take n)) ((sig.drop 8).take 96)).getD false)

/-- The first check of R489 that fails; 0 where the manifest passes. -/
def manifestReason (b : List Byte) (s : State) : Nat :=
  let m := manifestOf b
  let mods := machineModules s
  let hw := Config.hwIssue.toNat :: s.id.peers.map (·.hwIssue)
  let cs := m.comps
  if u32 b 0 != 0x464D5358 || u16 b 4 != 1 || m.image != s.upd.image || m.pieces != s.upd.pieces then 1
  else if !manifestSigned b s then 2
  else if hw.any fun h => decide (h < m.hwMin) || decide (m.hwMax < h) then 3
  else if m.setVersion ≤ s.upd.rollback then 4
  else if (cs.any fun c => c.first == 0 || decide (s.upd.pieces < c.first + c.count) || decide (c.count * 16384 < c.bytes)) ||
      (cs.zipIdx.any fun x => cs.zipIdx.any fun y => decide (x.2 < y.2) && runsMeet x.1 y.1) then 5
  else if cs.any fun c => (List.range 8).any fun n => bitOf c.modules n && !mods.contains n then 6
  else if cs.any fun c => (List.range 8).any fun n => bitOf c.modules n && c.needs.any fun r => !needMet (resultingSet m n s) r then 7
  else 0

/-- The transfer enters RECEIVED when every piece is held and the manifest has passed (R489). -/
def updReceived (s : State) : State :=
  if s.upd.st == .receiving && s.upd.held.length == s.upd.pieces && s.upd.manifest.isSome then updEnter .received 0 0xFF 0xFF s else s

/-- The manifest is checked when piece 0 is held (R489). -/
def updManifest (s : State) : State :=
  let b := piecePlain 0 s
  match manifestReason b s with
  | 0 => modUpd (fun u => { u with manifest := some (manifestOf b) }) s
  | k + 1 => updEnter .failed (k + 1) 0xFF 0xFF s

/-- A piece has been written to the transfer area and read back (R487, R488). -/
def pieceHeld (i : Nat) (b : List Byte) (s : State) : State :=
  let s := modUpd (fun u => { u with store := aset u.store i b, held := insertBy (fun x y => decide (x ≤ y)) i u.held
                                     bufs := u.bufs.filter fun x => x.index != i }) s
  updReceived (if i == 0 then updManifest s else s)

/-- Bytes laid over a partly received piece. -/
def overlay (b : List (Option Byte)) (o : Nat) (d : List Byte) : List (Option Byte) :=
  b.take o ++ d.map some ++ b.drop (o + d.length)

/-- The bytes of a piece once every byte up to 64 + `ct_len` is present (R487). -/
def pieceComplete (b : List (Option Byte)) : Option (List Byte) :=
  match (b.take 64).mapM id with
  | none => none
  | some h => (b.take (min (64 + u16 h 6) 16448)).mapM id

/-- A fragment goes to its piece's buffer (R487): the result of `UPD_PIECE` and the state, or none where no buffer is free. -/
def pieceFragment (i o : Nat) (d : List Byte) (s : State) : Option (Nat × State) :=
  if s.upd.held.contains i then some (2, s) else
  match s.upd.bufs.find? fun x => x.index == i with
  | none =>
    if 8 ≤ s.upd.bufs.length then none
    else some (pieceStore (overlay (List.replicate 16448 none) o d) s)
  | some x => some (pieceStore (overlay x.bytes o d) s)
where
  /-- The buffer with the fragment laid in, checked where it is complete. -/
  pieceStore (bytes : List (Option Byte)) (s : State) : Nat × State :=
    let rest := s.upd.bufs.filter fun x => x.index != i
    match pieceComplete bytes with
    | none => (0, modUpd (fun u => { u with bufs := rest ++ [{ index := i, bytes := bytes, last := s.time }] }) s)
    | some b =>
      if (openPiece s.upd.image i b s).isSome then (1, pieceHeld i b s)
      else (3, modUpd (fun u => { u with bufs := rest, tagFails := u.tagFails + 1 }) s)

/-- PIECE_BUFFER_TIMEOUT (R487): buffers without a fragment for 60 s are freed. -/
def doPieceTimeout (s : State) : State := modUpd (fun u => { u with bufs := u.bufs.filter fun x => decide (s.time < x.last + 60 * sec) }) s

/-! ## Installing -/

/-- The component writes of a manifest in their order (R490): on a worker its own only. -/
def installQueue (m : Manifest) (s : State) : List (Nat × Nat) :=
  let order := sortBy (fun a b => decide (a.1.order ≤ b.1.order)) m.comps.zipIdx
  order.flatMap fun x => ((List.range 8).filter fun n => bitOf x.1.modules n && (updManager s || s.id.index == some n)).map fun n => (x.2, n)

/-- The command that waits for the install ends. -/
def updEndReq (st : Status) (s : State) : State :=
  match s.upd.req with
  | some r => finish r st [] (modUpd (fun u => { u with req := none }) s)
  | none => s

/-- The transfer, the bitmap and every standby bank are emptied (R495). -/
def updClear (s : State) : State :=
  modUpd (fun u => { u with image := 0, pieces := 0, feeder := 0xFF, held := [], store := [], bufs := [], manifest := none, queue := []
                            retried := false, staged := 0, standby := none, abortDue := false }) s

/-- An abort takes effect (R495). -/
def updAbortNow (s : State) : State :=
  let was := s.upd.st
  let s := if was == .idle then s else updEnter .idle 0 0xFF 0xFF s
  updEndReq .wrongState (updClear s)

/-- The transfer fails while installing (reasons 8 and 9). -/
def updFail (reason component module : Nat) (s : State) : State :=
  updEndReq .wrongState (modUpd (fun u => { u with queue := [], retried := false, standby := none })
    (updEnter .failed reason component module s))

/-- Every module has verified its last component: every module is STAGED (R490). -/
def updStaged (s : State) : State :=
  let mask := ((machineModules s).map (2 ^ ·)).sum
  let set : ImageSet := { setId := s.upd.manifest.map (·.setId), image := s.upd.image }
  updEndReq .done (updEnter .staged 0 0xFF 0xFF (modUpd (fun u => { u with staged := mask, standby := some set }) s))

/-- The head of the queue is being written: `component` shows it. -/
def updNext (s : State) : State :=
  match s.upd.queue with
  | [] => updStaged s
  | (e, _) :: _ => modUpd (fun u => { u with component := e, retried := false }) s

/-- COMPONENT_INSTALLED (R490): the component at the head of the queue has been written to a module's standby bank and read
back. `good` says that what was read back, or what a worker reports, is right; on the module itself the digest is compared. -/
def doComponent (good : Bool) (s : State) : State :=
  if s.id.summitLost then s else
  match s.upd.st, s.upd.queue, s.upd.manifest with
  | .installing, (e, n) :: rest, some m =>
    let own := s.id.index == some n
    let ok := good && (!own || ((m.comps[e]?).map fun c => Config.sha384 (compPlain c s) == c.digest).getD false)
    if s.upd.abortDue then updAbortNow s
    else if ok then updNext (modUpd (fun u => { u with queue := rest }) s)
    else if s.upd.retried then updFail 8 e n s
    else modUpd (fun u => { u with retried := true }) s
  | _, _, _ => s

/-- A target module that leaves the machine during the install (R490). -/
def updPeerCheck (s : State) : State :=
  if s.upd.st != .installing then s else
  let targets := ((s.upd.manifest.map (·.comps)).getD []).map (·.modules)
  match (List.range 8).find? fun n => targets.any (bitOf · n) && !(machineModules s).contains n with
  | some n => updFail 9 s.upd.component n s
  | none => s

/-- SAVE, a supply loss or a restart during an install (R491, R495); pieces partly assembled are lost (R488). -/
def updSave (s : State) : State :=
  let s := modUpd (fun u => { u with bufs := [], req := none, restartDue := false }) s
  if s.upd.st != .installing then s else
  modUpd (fun u => { u with queue := [], retried := false, standby := none, abortDue := false }) (updEnter .received 0 0xFF 0xFF s)

/-! ## Commit and rollback -/

/-- The banks are switched to the new set (R492). -/
def updSwitch (s : State) : State :=
  match s.upd.standby, s.upd.manifest with
  | some set, some m =>
    let new := (machineModules s).map fun n => (n, resultingSet m n s)
    let own := s.id.index.map fun n => resultingSet m n s
    modUpd (fun u => { u with active := { set with own := own }, standby := some u.active, previous := u.installed
                              installed := new.foldl (fun l x => aset l x.1 x.2) u.installed }) s
  | _, _ => s

/-- The previous set becomes active again (R493, R494); the new one stays in the standby bank: STAGED. A worker that has not yet
switched only forgets `pending`. -/
def updReturn (s : State) : State :=
  let switched := s.upd.active.image == s.upd.image
  let s := modUpd (fun u => { u with pending := 0 }) s
  match (if switched then s.upd.standby else none) with
  | some set => updEnter .staged 0 0xFF 0xFF (modUpd (fun u => { u with active := set, standby := some u.active, installed := u.previous }) s)
  | none => updEnter .staged 0 0xFF 0xFF s

/-- The conditions of R492: every module STAGED and in IDLE, F00 at rest, guidance and Couloir not at work. -/
def commitOk (s : State) : Bool :=
  let mods := machineModules s
  s.upd.st == .staged && s.pwr.st == .idle && mods.all (fun n => bitOf s.upd.staged n) && s.id.peers.all (fun p => p.power == 3)
    && ((usable32 (s.handle 544) s).map fun v => f32Le v (qf32 (1 / 10))).getD false
    && !gdeSteering s && (s.cul.st == .stopped || s.cul.st == .unconfigured)

/-- ROLLBACK_RAISE (R494): READY on the new set with `selftest` clear, and every worker has reported the same image. -/
def doRollbackRaise (s : State) : State :=
  match s.upd.st, s.upd.manifest with
  | .committing, some m =>
    let all := !updManager s || s.id.peers.all fun p => p.image == s.upd.active.image
    if !(!s.id.summitLost && s.pwr.ready && s.pwr.selftest == 0 && s.upd.active.image == s.upd.image && all) then s else
    let s := modUpd (fun u => { u with rollback := max u.rollback m.setVersion }) s
    let s := { s with sys := { s.sys with imageSet := some m.setId } }
    let prev := s.upd.standby
    modUpd (fun u => { u with standby := prev }) (updClear (updEnter .idle 0 0xFF 0xFF s))
  | _, _ => s

/-- PENDING_RESOLVE (R493): a worker with `pending` set takes its active set from the manager's; one that has switched follows a manager
that has gone back. -/
def doPendingResolve (managerImage : Nat) (s : State) : State :=
  if updManager s || s.id.summitLost then s
  else if s.upd.pending == 0 then
    (if s.upd.st == .committing && s.upd.active.image == s.upd.image && managerImage != s.upd.image then updReturn s else s)
  else
  let same := managerImage == s.upd.pending
  let s := modUpd (fun u => { u with pending := 0 }) s
  if same then updSwitch s else if s.upd.st == .committing then updEnter .staged 0 0xFF 0xFF s else s

/-- A manager whose selected bank fails image authentication, or that has failed two start-ups, returns to its previous bank
(R493). -/
def updBankFailed (s : State) : State :=
  if updManager s && s.upd.st == .committing then modUpd (fun u => { u with restartDue := true }) (updReturn s) else s

/-! ## Commands -/

/-- The index of a target of the UPD group. -/
def updTarget (r : Req) : Nat := (unitIndex r.p.target 0x15).getD 0xFFFF

/-- A port number of R63. -/
def portNumber (p : Nat) : Bool := p ≤ 0x88 || (0x90 ≤ p && p ≤ 0x9B) || (0xA0 ≤ p && p ≤ 0xA7)

/-- The checks every UPD command begins with: the target, the port of a worker, the requester, Summit (R518). -/
def updChecks (r : Req) (open_ : Bool) (feeder : Bool) (s : State) : List (Bool × Status) :=
  [ (updTarget r != 0, .badParam),
    (!updManager s && r.port != 0xA0, .wrongState),
    (updManager s && !open_ && !s.isHost r.port && !(feeder && r.port == s.upd.feeder), .notOwner),
    (s.id.summitLost, .wrongState) ]

/-- What refuses `UPD_BEGIN`, in its order (step 8 of R73). -/
def chkUpdBegin (r : Req) (s : State) : List (Bool × Status) :=
  let b := r.p.payload
  let image := u64 b 0
  let n := u32 b 8
  let f := u8 b 12
  updChecks r false false s ++
    [ (image == 0 || notIn 2 262144 n || !(f == 0xFF || portNumber f) || reservedSet b [(13, 3)], .badParam),
      (s.upd.image != 0 && s.upd.image != image, .wrongState) ]

/-- `UPD_BEGIN` (R486). -/
def effUpdBegin (r : Req) (s : State) : Res × State :=
  let b := r.p.payload
  let image := u64 b 0
  let n := u32 b 8
  let f := u8 b 12
  check s (chkUpdBegin r s) fun _ =>
    if s.upd.image == image then answer (le 4 s.upd.held.length) s
    else
      let s := modUpd (fun u => { u with image := image, pieces := n, feeder := f, held := [], store := [], bufs := [], manifest := none, staged := 0 }) s
      answer (le 4 0) (updEnter .receiving 0 0xFF 0xFF s)

/-- What refuses `UPD_PIECE`, in its order (step 8 of R73). -/
def chkUpdPiece (r : Req) (s : State) : List (Bool × Status) :=
  let b := r.p.payload
  let i := u32 b 8
  let o := u16 b 12
  let d := b.drop 16
  updChecks r false true s ++
    [ (reservedSet b [(14, 2)] || o % 64 != 0 || decide (16384 < o) || decide (16448 < o + d.length), .badParam),
      (s.upd.st != .receiving && s.upd.st != .received, .wrongState),
      (u64 b 0 != s.upd.image || decide (s.upd.pieces ≤ i), .badParam) ]

/-- `UPD_PIECE` (R487, R488). -/
def effUpdPiece (r : Req) (s : State) : Res × State :=
  let b := r.p.payload
  let i := u32 b 8
  let o := u16 b 12
  let d := b.drop 16
  check s (chkUpdPiece r s) fun _ =>
    match pieceFragment i o d s with
    | some (k, s) => answer (le 1 k ++ zeros 3) s
    | none => (.fin .noResource [], s)

/-- What refuses `UPD_STATUS`, in its order (step 8 of R73). -/
def chkUpdStatus (r : Req) (s : State) : List (Bool × Status) :=
  [(updTarget r != 0, .badParam)]

/-- `UPD_STATUS`, accepted from any port. -/
def effUpdStatus (r : Req) (s : State) : Res × State :=
  check s (chkUpdStatus r s) fun _ =>
    let u := s.upd
    answer (le 1 u.st.code ++ le 1 u.reason ++ le 1 u.component ++ le 1 u.staged ++ le 8 u.image ++ le 4 u.held.length
      ++ le 4 ((missingFrom 0 s).headD 0xFFFFFFFF) ++ le 4 u.tagFails ++ le 4 u.rollback ++ le 2 (u.active.setId.getD Config.factoryImageSet) ++ zeros 2 ++ le 8 s.time) s

/-- What refuses `UPD_MISSING`, in its order (step 8 of R73). -/
def chkUpdMissing (r : Req) (s : State) : List (Bool × Status) :=
  let k := u32 r.p.payload 0
  updChecks r true false s ++ [(s.upd.image == 0, .wrongState), (decide (s.upd.pieces ≤ k), .badParam)]

/-- `UPD_MISSING`, accepted from any port of the manager. -/
def effUpdMissing (r : Req) (s : State) : Res × State :=
  let k := u32 r.p.payload 0
  check s (chkUpdMissing r s) fun _ =>
    let l := (missingFrom k s).take 1000
    answer (le 2 l.length ++ zeros 2 ++ l.flatMap fun i => le 4 i) s

/-- What refuses `UPD_INSTALL`, in its order (step 8 of R73). -/
def chkUpdInstall (r : Req) (s : State) : List (Bool × Status) :=
  let cs := (s.upd.manifest.map (·.comps)).getD []
  let absent := cs.any fun c => (List.range 8).any fun n => bitOf c.modules n && !(machineModules s).contains n
  updChecks r false false s ++ [(s.upd.st != .received || absent, .wrongState)]

/-- `UPD_INSTALL` (R490). -/
def effUpdInstall (r : Req) (s : State) : Res × State :=
  check s (chkUpdInstall r s) fun _ =>
    match s.upd.manifest with
    | none => (.fin .wrongState [], s)
    | some m =>
      let q := installQueue m s
      let s := updEnter .installing 0 ((q.map (·.1)).headD 0xFF) 0xFF (modUpd (fun u => { u with queue := q, retried := false }) s)
      if q.isEmpty then done (updStaged s)
      else (.interim .queued, modUpd (fun u => { u with req := some r }) s)

/-- What refuses `UPD_COMMIT`, in its order (step 8 of R73). -/
def chkUpdCommit (r : Req) (s : State) : List (Bool × Status) :=
  let b := r.p.payload
  let op := u8 b 0
  updChecks r false false s ++
    [ (1 < op || reservedSet b [(1, 3)], .badParam),
      (op == 0 && updManager s && !commitOk s, .wrongState),
      (op == 0 && !updManager s && s.upd.st != .staged, .wrongState),
      (op == 1 && s.upd.st != .committing, .wrongState) ]

/-- `UPD_COMMIT` (R492 to R494): both replies go out before the restart. -/
def effUpdCommit (r : Req) (s : State) : Res × State :=
  let b := r.p.payload
  let op := u8 b 0
  check s (chkUpdCommit r s) fun _ =>
    let s := interimReply r .queued s
    let s :=
      if op == 1 then updReturn s
      else if updManager s then updEnter .committing 0 0xFF 0xFF (updSwitch s)
      else updEnter .committing 0 0xFF 0xFF (modUpd (fun u => { u with pending := u.image }) s)
    done (modUpd (fun u => { u with restartDue := true }) s)

/-- What refuses `UPD_ABORT`, in its order (step 8 of R73). -/
def chkUpdAbort (r : Req) (s : State) : List (Bool × Status) :=
  updChecks r false false s ++ [(s.upd.st == .committing, .wrongState)]

/-- `UPD_ABORT` (R495): during INSTALLING after the component write in progress. -/
def effUpdAbort (r : Req) (s : State) : Res × State :=
  check s (chkUpdAbort r s) fun _ =>
    if s.upd.st == .installing then done (modUpd (fun u => { u with abortDue := true }) s)
    else done (updAbortNow s)

end Sys2Proof.Machine
end

