-- ==== Sys2Proof/Machine/Sum.lean ====
section
/-! DEFINITION. Chapter 24: Summit's oscillator and heartbeat, its sensors, health signals, keys, the service window, and the
rules of the SUM commands. -/
namespace Sys2Proof.Machine

/-- Change Summit's state. -/
def modSum (f : SumState → SumState) (s : State) : State := { s with sum := f s.sum }

/-- Change a temperature sensor. -/
def modSensor (i : Nat) (f : SumSensor → SumSensor) (s : State) : State :=
  modSum (fun m => { m with sensors := updAt m.sensors i f }) s

/-- A temperature sensor. -/
def State.sensor (s : State) (i : Nat) : SumSensor := s.sum.sensors.getD i {}

/-- Change a region of the window. -/
def modRegion (r : Nat) (f : WinRegion → WinRegion) (s : State) : State :=
  modSum (fun m => { m with regions := updAt m.regions r f }) s

/-- A region of the window. -/
def State.region (s : State) (r : Nat) : WinRegion := s.sum.regions.getD r {}

/-- Summit as a target. -/
def sumUnit : Nat := unit 0x17 0

/-- The payload of `SUM_EVENT`; what a new state is, 0 or 1, has no code in the spec (log entry 179). -/
def sumPayload (cause index what : Nat) (value : F32) (t : Nat) : List Byte :=
  le 1 cause ++ le 1 index ++ le 1 (Config.sumState cause what).toNat ++ zeros 1 ++ le 4 value.toNat ++ le 8 t

/-- `SUM_EVENT` with its Cairn event. -/
def sumEvent (cause index what target : Nat) (value : F32) (s : State) : State :=
  event 0x1780 target (sumPayload cause index what value s.time) [] 0x70 s

/-- The window takes no text any more: commands that wait for one end `HW_FAULT` (log entry 276). -/
def endTexts (s : State) : State :=
  let texts := (s.sum.regions.filterMap fun g => g.slot.bind (·.text)) ++ (s.sum.running.bind (·.text)).toList
  let bare := fun (x : WinSlot) => { x with text := none }
  texts.foldl (fun s r => finish r .hwFault [] s)
    (modSum (fun m => { m with regions := m.regions.map fun g => { g with slot := g.slot.map bare }, running := m.running.map bare }) s)

/-- Summit is excluded (R517, R518): the main domain reports it, and Cairn records nothing. -/
def sumExclude (s : State) : State :=
  if s.id.summitLost then s else
  let s := endTexts s
  toHosts 0x1780 (BitVec.ofNat 32 sumUnit) (sumPayload 7 0xFF 1 0 s.time)
    (regionFault { s with id := { s.id with summitLost := true } })

/-- The main domain runs (R498). -/
def State.mainOn (s : State) : Bool := s.pwr.st == .standby || s.pwr.st == .idle || s.pwr.st == .run

/-- SUMMIT_HEARTBEAT (R517): a heartbeat arrives, or the main domain finds that none has for 10 ms. -/
def doHeartbeatSum (arrived : Bool) (s : State) : State :=
  if !s.mainOn then s
  else if arrived then modSum (fun m => { m with heartbeat := s.time }) s
  else if s.sum.heartbeat + 10 * ms ≤ s.time then sumExclude s else s

/-- SUMMIT_OSC_CHECK (R516): while LOCKED, the oscillator's count of a 1 s window against module time. -/
def doOscCheck (count : Nat) (s : State) : State :=
  if !s.mainOn || s.id.summitLost then s else
  let bad := s.tim.st == .locked && (count + 10000 < 50000000 || 50010000 < count)
  let n := if bad then s.sum.oscBad + 1 else 0
  let s := modSum (fun m => { m with oscBad := n }) s
  if 3 ≤ n then sumExclude s else s

/-! ## Sensors (R519 to R522) -/

/-- One reading of a sensor (R519). -/
def sensorRead (i : Nat) (r : Option Rat) (s : State) : State :=
  let ok := r.any fun v => decide (-55 ≤ v) && decide (v ≤ 175)
  let x := s.sensor i
  let since := sinceIf ok s.time x.goodSince
  let masked := !ok || (x.masked && !heldFor since s.time sec)
  let value := r.getD x.value
  let s := modSensor i (fun x => { x with value := value, masked := masked, goodSince := since }) s
  if masked == x.masked then s else sumEvent 0 i (b2n masked) (unit 0x17 (0x10 + i)) (qf32 value) s

/-- Baseplate sensors in use (R520). -/
def baseInUse (s : State) : List Nat := (List.range 4).filter fun i => !(s.sensor i).masked && !(s.sensor i).out

/-- Distance of a sensor from the median of the others in use. -/
def baseAway (i : Nat) (s : State) : Option Rat :=
  let others := (baseInUse s).filter (· != i)
  if others.isEmpty then none else some (absR ((s.sensor i).value - medianR (others.map fun k => (s.sensor k).value)))

/-- The timers of R520. -/
def baseTimers (s : State) : State :=
  let many := decide (3 ≤ (baseInUse s).length)
  let away := (List.range 4).map fun i => baseAway i s
  (List.range 4).foldl (fun s i =>
    let a := away.getD i none
    modSensor i (fun x => { x with
      depart := sinceIf (many && !x.masked && !x.out && a.any fun d => decide (5 < d)) s.time x.depart
      agree := sinceIf (x.out && !x.masked && a.any fun d => decide (d ≤ 5)) s.time x.agree }) s) s

/-- The sensor to vote out: of those that have departed throughout 10 s, the farthest (R520). -/
def baseVictim (s : State) : Option Nat :=
  let c := (baseInUse s).filter fun i => heldFor (s.sensor i).depart s.time (10 * sec)
  c.find? fun i => c.all fun k => decide ((baseAway k s).getD 0 ≤ (baseAway i s).getD 0)

/-- Votes and rejoins (R520). -/
def baseVotes (s : State) : State :=
  let s := baseTimers s
  let s := match baseVictim s with
    | some i => sumEvent 1 i 1 (unit 0x17 (0x10 + i)) (qf32 (s.sensor i).value) (modSensor i (fun x => { x with out := true, depart := none, agree := none }) s)
    | none => s
  (List.range 4).foldl (fun s i =>
    if (s.sensor i).out && heldFor (s.sensor i).agree s.time (60 * sec) then
      sumEvent 1 i 0 (unit 0x17 (0x10 + i)) (qf32 (s.sensor i).value) (modSensor i (fun x => { x with out := false, agree := none, depart := none }) s)
    else s) s

/-- The confidence that Summit's hardware gives a sensor (R36, log entry 36). -/
def sensorConf (i : Nat) : Nat := (Config.hwConfidence (640 + i)).toNat

/-- tb (R520): value, quality, confidence. -/
def baseFuse (s : State) : Rat × Quality × Nat :=
  let v := fun i => (s.sensor i).value
  match baseInUse s with
  | [] => (86, .masked, 0)
  | [i] => (v i, .valid, sensorConf i / 2)
  | [i, j] => if absR (v i - v j) ≤ 5 then ((v i + v j) / 2, .valid, (Config.hwConfidence 664).toNat) else (86, .disputed, 0)
  | l => (medianR (l.map v), .valid, (Config.hwConfidence 664).toNat)

/-- The fused baseplate temperature; a dispute that begins or ends is reported. -/
def baseStep (s : State) : State :=
  let s := baseVotes s
  let (v, q, c) := baseFuse s
  let was := s.sum.tbQ == .disputed
  let s := modSum (fun m => { m with tb := v, tbQ := q, tbConf := c }) s
  if was == (q == .disputed) then s else sumEvent 1 0xFF (2 + b2n was) sumUnit (qf32 v) s

/-- The humidity alert (R522). -/
def humStep (rh : Rat) (s : State) : State :=
  let c := s.sum.cfg
  let m := s.sum
  let high := sinceIf (decide (f32d c.rhLimit < rh)) s.time m.rhHigh
  let low := sinceIf (decide (rh < f32d c.rhLimit - 5)) s.time m.rhLow
  let alert := if m.rhAlert then !heldFor low s.time (3600 * sec) else heldFor high s.time (c.rhTime * 3600 * sec)
  let s := modSum (fun m => { m with rh := rh, rhHigh := high, rhLow := low, rhAlert := alert }) s
  if alert == m.rhAlert then s else sumEvent 2 0xFF (b2n alert) sumUnit (qf32 rh) s

/-- TEMP_HOLD follows the panel's sensor 23 (R529). -/
def tempHoldStep (s : State) : State :=
  let x := s.sensor 23
  let hold := x.masked || decide (x.value < -20) || decide (60 < x.value)
  if hold == s.sum.tempHold then s
  else sumEvent 5 0xFF (b2n hold) sumUnit (qf32 x.value)
    (modSum (fun m => { m with tempHold := hold, freeAt := if hold then m.freeAt else max m.freeAt s.time }) s)

/-- `flags` of local 687. -/
def sumFlags (s : State) : Nat :=
  bitsN [(s.sum.sensors.take 4).any (·.out), s.sum.tbQ == .disputed, s.sum.rhAlert, s.sum.faulted, s.sum.tempHold, s.sum.randomFault]

/-- The quality of a sensor's signal. -/
def sensorQ (i : Nat) (s : State) : Quality :=
  let x := s.sensor i
  if x.masked || (i < 4 && x.out) then .masked
  else if i < 4 && s.sum.tbQ == .disputed && (baseInUse s).contains i then .disputed else .valid

/-- One binary32 health signal. -/
def pubHealth (loc : Nat) (v : Rat) (q : Quality) (s : State) : State := pubHw loc 3 (q32v v) q 0 300000 s

/-- Locals 640 to 687 (R523). -/
def healthPublish (m : HealthMeas) (s : State) : State :=
  let s := (List.range 24).foldl (fun s i => pubHealth (640 + i) (s.sensor i).value (sensorQ i s) s) s
  let s := publish 664 { value := q32v s.sum.tb, quality := s.sum.tbQ, confidence := s.sum.tbConf, ty := 3 } 300000 s
  let s := pubHealth 665 s.sum.rh .valid s
  let s := (List.range 2).foldl (fun s i => pubHealth (666 + i) (s.pwr.paths.getD i {}).volts .valid s) s
  let s := pubHealth 670 m.bankV .valid (pubHealth 669 s.pwr.power .valid (pubHealth 668 m.logicA .valid s))
  let s := (List.range 4).foldl (fun s g => pubHealth (675 + g) (s.group g).amps .valid (pubHealth (671 + g) (s.group g).volts .valid s)) s
  let s := (List.range 4).foldl (fun s k => pubHealth (679 + k) (s.supply k).volts .valid s) s
  let s := pubHw 683 3 (f32v s.sum.shockPeak) .valid 0 300000 s
  let s := pubHw 684 0 (BitVec.ofNat 64 s.sum.shocks) .valid 0 300000 s
  let s := pubHw 685 0 (BitVec.ofNat 64 (opNow s)) .valid 0 300000 s
  let s := pubHw 686 0 (BitVec.ofNat 64 s.sum.lclk) .valid 0 300000 s
  pubHw 687 0 (BitVec.ofNat 64 (sumFlags s)) .valid 0 300000 s

/-- HEALTH_PUBLISH (R519 to R523): Summit reads its sensors, and publishes while the main domain runs. -/
def doHealth (m : HealthMeas) (s : State) : State :=
  if !s.summitOn then s else
  let s := (List.range 24).foldl (fun s i => sensorRead i (m.temps.getD i none) s) s
  let s := tempHoldStep (humStep m.rh (baseStep { s with pwr := { s.pwr with bankV := m.bankV } }))
  if s.mainOn then healthPublish m s else s

/-- SHOCK_EVENT (R521): above the threshold for at least 0.5 ms; in every power state. -/
def doShock (x y z peak : Rat) (us : Nat) (s : State) : State :=
  if !s.summitOn || us < 500 || decide (peak ≤ f32d s.sum.cfg.shockThr) then s else
  let b := fun (v : Rat) => le 4 (qf32 v).toNat
  let s := cairn 0x1781 0x70 (b x ++ b y ++ b z ++ le 4 us) s
  sumEvent 3 0xFF 1 sumUnit (qf32 peak) (modSum (fun m => { m with shocks := m.shocks + 1, shockPeak := qf32 peak }) s)

/-- HUMIDITY_ALERT (R522): a reading of the humidity sensor. -/
def doHumidity (rh : Rat) (s : State) : State := if !s.summitOn then s else humStep rh s

/-- RANDOM_SOURCE_FAULT (R525). -/
def doRandomFault (s : State) : State :=
  if !s.summitOn || s.sum.randomFault then s
  else sumEvent 8 0xFF 1 sumUnit 0 (modSum (fun m => { m with randomFault := true }) s)

/-! ## The service window (R526 to R530) -/

/-- The four newest Cairn records of the groups shown (R526). -/
def shownFaults (s : State) : List CRec :=
  ((s.crn.ring.filter fun x => bitOf s.sum.cfg.faultGroups (x.code / 256)).reverse).take 4

/-- What a region shows now (R526), as the list of its values. -/
def regionShows (r : Nat) (s : State) : List Nat :=
  match r with
  | 0 => [Config.serial.toNat, s.id.index.getD 0xFF, s.id.role.code, s.id.machine, s.pwr.st.code]
  | 1 =>
    let red := s.pwr.selftest != 0 || s.id.roleUnlatched || s.id.dupIndex
    [firmwareOf s, s.sys.imageSet.getD Config.factoryImageSet, s.tim.st.code, b2n s.pwr.ready, s.pwr.selftest, b2n red]
  | 2 => (shownFaults s).flatMap fun x => [x.code, x.powerCycle, x.opTime]
  | _ =>
    if s.upd.st != .idle then [1, s.upd.st.code, if s.upd.pieces == 0 then 0 else s.upd.held.length * 100 / s.upd.pieces]
    else 0 :: s.sum.appText

/-- A region may be updated in this power state (R526). -/
def regionOn (r : Nat) (s : State) : Bool := s.mainOn || (r == 0 && s.pwr.st == .sleep)

/-- A request takes a region's slot (R527): what was there is replaced, and a text ends `SUPERSEDED`. -/
def queueRegion (r : Nat) (x : WinSlot) (s : State) : State :=
  let old := (s.region r).slot
  let since := match old with
    | some o => if x.text.isSome && o.text.isNone then s.time else o.since
    | none => s.time
  let s := modRegion r (fun g => { g with slot := some { x with since := since }, composed := x.content }) s
  match old.bind (·.text) with
  | some q => finish q .superseded [] s
  | none => s

/-- REGION_RECOMPOSE (R526): a value that the region shows has changed. -/
def doRecompose (r : Nat) (s : State) : State :=
  if s.id.summitLost || 3 < r || !regionOn r s then s else
  let c := regionShows r s
  if c == (s.region r).composed then s else queueRegion r { content := c } s

/-- When a queued region can be served on the free panel (R526, R527): its gap has passed, or it carries text. -/
def regionReady (s : State) (r : Nat) : Option Nat :=
  let g := s.region r
  let gap := (if r == 0 then s.sum.cfg.stripGap else s.sum.cfg.composeGap) * sec
  if !regionOn r s then none else
  g.slot.map fun x => max (max s.sum.freeAt x.since) (if x.text.isSome then 0 else (g.started.map (· + gap)).getD 0)

/-- The regions that compete for the panel: those that could be served when the first of them was, 20 ms ago at the latest (R527). -/
def regionsServed (s : State) : List Nat :=
  let l := (List.range 4).filterMap fun r => (regionReady s r).map fun t => (r, t)
  (l.filter fun x => decide (x.2 + 20 * ms ≤ s.time) && l.all fun y => decide (x.2 ≤ y.2)).map (·.1)

/-- Bias levels have failed (R528): the slot is kept; the third failure in a row makes the window FAULTED. -/
def biasFail (r : Nat) (s : State) : State :=
  let n := s.sum.biasFails + 1
  let s := modSum (fun m => { m with biasFails := n, retryAt := some (s.time + sec) }) s
  if 3 ≤ n then sumEvent 4 r 1 (unit 0x17 (0x100 + r)) 0 (endTexts (modSum (fun m => { m with faulted := true }) s)) else s

/-- A frame that fails its second check is skipped (R528). -/
def frameFail (r : Nat) (x : WinSlot) (s : State) : State :=
  let s := modRegion r (fun g => { g with slot := none }) (modSum (fun m => { m with windowFault := true, freeAt := s.time }) s)
  let s := sumEvent 4 r 0 (unit 0x17 (0x100 + r)) 0 s
  match x.text with
  | some q => finish q .hwFault [] s
  | none => s

/-- A waveform is due on the free panel (R527 to R530). `frame`: 0 the frame memory matches its CRC, 1 it matches after it has
been composed again, 2 it does not match either time. -/
def startWaveform (frame : Nat) (bias : Bool) (s : State) : State :=
  if s.id.summitLost || s.sum.faulted || s.sum.tempHold || s.sum.busy.isSome then s else
  let (w, s) := arbitrate 0x17 ((regionsServed s).map fun r => (r, 1)) s
  match w.bind fun r => (s.region r).slot.map fun x => (r, x) with
  | none => s
  | some (r, x) =>
    if !bias then biasFail r s
    else if 2 ≤ frame then frameFail r x s
    else modSum (fun m => { m with busy := some (r, false), running := some x, biasFails := 0, retryAt := none })
      (modRegion r (fun g => { g with slot := none, flag := true, started := some s.time }) s)

/-- WAVEFORM_START (R527). -/
def doWaveformStart (frame : Nat) (bias : Bool) (s : State) : State := if s.sum.retryAt.isSome then s else startWaveform frame bias s

/-- BIAS_RETRY (R528): 1 s after a bias failure. -/
def doBiasRetry (frame : Nat) (bias : Bool) (s : State) : State :=
  if s.sum.retryAt.any fun t => decide (t ≤ s.time) then startWaveform frame bias s else s

/-- The length of a waveform (R526, R530). -/
def waveTime (r : Nat) (clean : Bool) : Nat := if clean then 20 * sec else if r == 0 then 1600 * ms else 16 * sec

/-- A cleaning refresh of the lowest region whose journal flag is set (R530). -/
def startCleaning (s : State) : State :=
  match (List.range 4).find? fun r => (s.region r).flag with
  | some r => modSum (fun m => { m with busy := some (r, true) }) (modRegion r (fun g => { g with started := some s.time }) s)
  | none => s

/-- WAVEFORM_COMPLETE (R530). -/
def doWaveformComplete (s : State) : State :=
  match s.sum.busy with
  | none => s
  | some (r, clean) =>
    if !s.summitOn || !(s.region r).started.any (fun t => decide (t + waveTime r clean ≤ s.time)) then s else
    let x := s.sum.running
    let s := modSum (fun m => { m with busy := none, running := none, freeAt := s.time }) s
    if clean then startCleaning (modRegion r (fun g => { g with flag := false }) s)
    else
      let s := modRegion r (fun g => { g with flag := false, shown := (x.map (·.content)).getD [] }) s
      match x.bind (·.text) with
      | some q => finish q .done [] s
      | none => s

/-! ## Commands -/

/-- The index of a target of the SUM group. -/
def sumTarget (r : Req) : Nat := (unitIndex r.p.target 0x17).getD 0xFFFF

/-- What refuses `SUM_STATUS`, in its order (step 8 of R73). -/
def chkSumStatus (r : Req) (s : State) : List (Bool × Status) :=
  [(sumTarget r != 0, .badParam)]

/-- `SUM_STATUS`; while Summit is excluded the main domain answers (R518). -/
def effSumStatus (r : Req) (s : State) : Res × State :=
  check s (chkSumStatus r s) fun _ =>
    let m := s.sum
    if s.id.summitLost then answer (le 1 1 ++ zeros 31 ++ le 8 s.time) s
    else answer (le 1 0 ++ le 1 (if m.faulted then 2 else if m.tempHold then 1 else 0) ++ le 1 ((m.busy.map (·.1)).getD 0xFF)
      ++ le 1 (bitsN (m.regions.map (·.slot.isSome))) ++ le 4 (sumFlags s) ++ le 1 (bitsN (m.sessionKeys.map (·.isSome)))
      ++ le 1 (bitsN (m.imageKey.isSome :: m.signKeys.map (·.isSome))) ++ zeros 2 ++ le 4 (qf32 m.tb).toNat ++ le 4 m.shocks ++ zeros 4
      ++ le 8 (opNow s) ++ le 8 s.time) s

/-- What refuses `SUM_CONFIG`, in its order (step 8 of R73). -/
def chkSumConfig (r : Req) (s : State) : List (Bool × Status) :=
  let b := r.p.payload
  let c : SumCfg := { shockThr := bits32 b 0, rhLimit := bits32 b 4, rhTime := u16 b 8, composeGap := u16 b 10, stripGap := u16 b 12
                      faultGroups := u32 b 16 }
  [ (sumTarget r != 0, .badParam), (!s.isHost r.port, .notOwner), (s.id.summitLost, .hwFault),
    (!f32In c.shockThr 5 200 || !f32In c.rhLimit 30 95 || notIn 1 24 c.rhTime || notIn 5 600 c.composeGap
      || notIn 1 60 c.stripGap || reservedSet b [(14, 2)] || bitOf c.faultGroups 0 || decide (2 ^ 24 ≤ c.faultGroups), .badParam) ]

/-- `SUM_CONFIG`. -/
def effSumConfig (r : Req) (s : State) : Res × State :=
  let b := r.p.payload
  let c : SumCfg := { shockThr := bits32 b 0, rhLimit := bits32 b 4, rhTime := u16 b 8, composeGap := u16 b 10, stripGap := u16 b 12
                      faultGroups := u32 b 16 }
  check s (chkSumConfig r s) fun _ =>
    done (modSum (fun m => { m with cfg := c }) s)

/-- A session closes: its commands in flight end without a reply (R71, `SUM_KEY_SET`), and its cursors are released (R479). -/
def dropSession (port : Nat) (s : State) : State :=
  let gone := s.sys.flights.filter fun f => f.req.port == port
  let s := gone.foldl (fun s f => endFlight port f.req.p.tag false s) s
  { s with sys := { s.sys with sessions := s.sys.sessions.filter fun x => x.port != port, chains := s.sys.chains.filter fun e => e.1 != port }
           crn := { s.crn with cursors := s.crn.cursors.map fun c => if c.any (·.port == port) then none else c } }

/-- The session that carries a command closes after its reply: the other commands in flight end at once without one. -/
def closeAfter (r : Req) (s : State) : State :=
  let gone := s.sys.flights.filter fun f => f.req.port == r.port && f.req.p.tag != r.p.tag
  let s := gone.foldl (fun s f => endFlight r.port f.req.p.tag false s) s
  { s with sys := { s.sys with sessions := s.sys.sessions.map fun x => if x.port == r.port then { x with last := true } else x } }

/-- Sessions of a slot close. -/
def closeSlot (slot : Nat) (r : Req) (s : State) : State :=
  (s.sys.sessions.filter fun x => x.slot == slot).foldl (fun s x => if x.port == r.port then closeAfter r s else dropSession x.port s) s

/-- What refuses `SUM_KEY_SET`, in its order (step 8 of R73). -/
def chkSumKeySet (r : Req) (s : State) : List (Bool × Status) :=
  let b := r.p.payload
  let kind := u8 b 0
  let slot := u8 b 1
  let load := u8 b 2 == 0
  let groups := u32 b 4
  let key := b.drop 8
  let carrying := ((s.session r.port).map (·.slot)) == some slot
  [ (sumTarget r != 0, .badParam), (r.port != 0x88, .notOwner), (s.id.summitLost, .hwFault),
    (2 < kind || (if kind == 0 then 8 else if kind == 1 then 1 else 4) ≤ slot || 1 < u8 b 2 || reservedSet b [(3, 1)], .badParam),
    (load && kind == 0 && (bitOf groups 0 || decide (2 ^ 24 ≤ groups)), .badParam),
    (load && kind == 2 && !Config.onP384 (key.take 96), .badParam),
    (s.pwr.st != .standby || (kind == 0 && !load && carrying) || (kind != 0 && s.upd.st != .idle), .wrongState) ]

/-- `SUM_KEY_SET` (R524). -/
def effSumKeySet (r : Req) (s : State) : Res × State :=
  let b := r.p.payload
  let kind := u8 b 0
  let slot := u8 b 1
  let load := u8 b 2 == 0
  let groups := u32 b 4
  let key := b.drop 8
  check s (chkSumKeySet r s) fun _ =>
    let s := match kind with
      | 0 => closeSlot slot r (modSum (fun m => { m with sessionKeys := m.sessionKeys.set slot (if load then some (key.take 32, groups) else none) }) s)
      | 1 => modSum (fun m => { m with imageKey := if load then some (key.take 32) else none }) s
      | _ => modSum (fun m => { m with signKeys := m.signKeys.set slot (if load then some (key.take 96) else none) }) s
    done (sumEvent 6 slot (b2n load) sumUnit 0 s)

/-- What refuses `SUM_WINDOW_TEXT`, in its order (step 8 of R73). -/
def chkSumWindowText (r : Req) (s : State) : List (Bool × Status) :=
  let b := r.p.payload
  let n := u8 b 1
  let text := ((b.drop 4).take 40).map (·.toNat)
  let bad := ((text.take n).any fun c => c < 0x20 || 0x7E < c) || (text.drop n).any (· != 0)
  [ (sumTarget r != 0x103, .badParam), (!s.isHost r.port && !(s.supervisory.isSome && partOfPort r.port == s.supervisory), .notOwner),
    (s.id.summitLost, .hwFault),
    (1 < u8 b 0 || 37 < n || reservedSet b [(2, 2)] || bad, .badParam),
    (s.upd.st != .idle || !s.mainOn || s.sum.faulted, .wrongState) ]

/-- `SUM_WINDOW_TEXT` (R527): the footer's slot takes the text. -/
def effSumWindowText (r : Req) (s : State) : Res × State :=
  let b := r.p.payload
  let n := u8 b 1
  let text := ((b.drop 4).take 40).map (·.toNat)
  check s (chkSumWindowText r s) fun _ =>
    let s := modSum (fun m => { m with appText := u8 b 0 :: text.take n }) s
    (.interim .queued, queueRegion 3 { content := regionShows 3 s, text := some r } s)

end Sys2Proof.Machine
end

