-- ==== Sys2Proof/Machine/Start.lean ====
section
/-! DEFINITION. Chapters 01 and 23: the role and what holds the outputs safe, the supply-on start-up, the allocation of loops,
main-clock failure, the straps and the modules of the machine. -/
namespace Sys2Proof.Machine

/-- Change identity and role. -/
def modId (f : IdState → IdState) (s : State) : State := { s with id := f s.id }

/-- Change the power state's record. -/
def modPwr (f : PwrState → PwrState) (s : State) : State := { s with pwr := f s.pwr }

/-! ## Safe state -/

/-- Every output goes to its declared safe state (R27, R249, R279, R507): valve channels open with fast demagnetisation, digital
outputs switch, the guidance enables go off. -/
def outputsSafe (s : State) : State :=
  let s := (List.range 48).foldl (fun s n =>
    let s := endOn n .superseded (modValve n (fun v => { v with drive := false, heldOn := false }) s)
    match (s.valve n).st with
    | .testing | .energised => vlvSync n (enterDemag n s)
    | .retryWait => vlvSync n (modValve n (fun v => { v with st := .offTime, since := s.time }) s)
    | _ => s) s
  driveSafe (if gdeSteering s then gdeOutputsOff s else s)

/-- Outputs are held in their safe state until `freeOutputs`. -/
def holdOutputs (s : State) : State := if s.id.outputsHeld then s else modId (fun d => { d with outputsHeld := true }) (outputsSafe s)

/-- Outputs are driven again. -/
def freeOutputs (s : State) : State :=
  if !s.id.outputsHeld || s.id.clockFail || s.id.roleUnlatched || s.id.dupIndex then s else
  (List.range 32).foldl (fun s n => modDo n (fun d => { d with forcedSafe := false }) s) (modId (fun d => { d with outputsHeld := false }) s)

/-- Partitions that run stop at once: nothing of their period is released (R24, R27). -/
def stopPartitions (s : State) : State :=
  (s.col.parts.filter fun e => e.2.st == .running || e.2.st == .restoring).foldl (fun s e =>
    let s := if (s.part e.1).inPeriod then discardPeriod e.1 s else dropHeld e.1 s
    let s := match (s.part e.1).run.bind (·.req) with | some r => finish r .done [] s | none => s
    s.modPart e.1 fun p => { p with st := .stopped, inPeriod := false, committing := false, committed := false, replaying := false, run := none }) s

/-- Main-clock failure (R27, R431). -/
def clockFailure (s : State) : State :=
  if s.id.clockFail then s else
  let s := modId (fun d => { d with outputsHeld := true }) (outputsSafe s)
  let s := cairn 0x0183 0x70 (le 4 s.sum.lclk) s
  sendNotice (stopPartitions (modId (fun d => { d with clockFail := true }) s))

/-- CLOCK_WINDOW (R26). -/
def doClockWindow (count : Nat) (s : State) : State :=
  if s.id.summitLost || !s.mainOn then s else
  let bad := count + 300 < 600000 || 600300 < count
  let n := if bad then s.id.badWindows + 1 else 0
  let s := modId (fun d => { d with badWindows := n }) (modSum (fun m => { m with lclk := count }) s)
  if 3 ≤ n then clockFailure s else s

/-- PLL_LOSS_OF_LOCK (R26, R512). -/
def doPllLoss (s : State) : State := if s.id.summitLost || !s.mainOn then s else clockFailure s

/-- STRAP_READ (R20): a difference is flagged, and each change of the reading writes a Cairn event. -/
def doStrapRead (v : Nat) (s : State) : State :=
  match s.id.index with
  | none => s
  | some i =>
    if s.id.summitLost then s else
    let v := v % 8
    let new := v != i && s.id.straps != some v
    let s := modId (fun d => { d with straps := some v, strapChanged := v != i }) s
    if new then cairn 0x0182 0x70 (le 1 i ++ le 1 v ++ zeros 2) s else s

/-! ## Loops (R200) -/

/-- The loops that the configuration needs, in their order (R200): owner kinds 0 valve current, 1 valve position, 2 wheel angle,
3 function, 4 partition. -/
def wantedLoops (s : State) : List LoopCfg :=
  let valves := (List.range 48).filter fun n => (s.valve n).mode != 0
  (valves.map fun n => { kind := 0, index := n, owner := (s.valve n).cfg.owner, period := 0 })
    ++ ((valves.filter fun n => (s.valve n).mode == 2).map fun n => { kind := 1, index := n, owner := (s.valve n).cfg.owner, period := 3 })
    ++ (if s.gde.cfg.isSome then [gdeLoopCfg s] else [])
    ++ ((List.range 32).filterMap fun f => (s.fn f).cfg.map fun c => funLoopCfg f c s)
    ++ s.lpe.partLoops

/-- A loop keeps what it holds when its owner gets it again (log entry 25); a FAILED one becomes FREE first (R219). -/
def keptLoop (old : List Loop) (c : LoopCfg) : Loop :=
  match old.find? fun l => l.st != .free && l.cfg.kind == c.kind && (if c.kind == 4 then l.cfg == c else l.cfg.index == c.index) with
  | some l =>
    let c := if c.kind == 2 then { c with outs := l.cfg.outs } else c
    if l.st == .failed then { cfg := c, st := .idle, idleDue := true, bankA := l.bankA, bankB := l.bankB, bankPoison := l.bankPoison }
    else { l with cfg := c }
  | none => { cfg := c, st := .idle, idleDue := true }

/-- A loop that comes to lie on a logical engine that is lost with no spare fails at once (R219; log entry 25). -/
def onEngine (s : State) (n : Nat) (l : Loop) : Loop :=
  if s.engineUp (n / 16) || s.lpe.loading.any (·.1 == n / 16) then l else { l with st := .failed, idleDue := false }

/-- Loop numbers are allocated anew (R200): none where more than 128 are needed. `old` holds what the loops were. -/
def reallocLoops (old : List Loop) (s : State) : Option State :=
  let w := wantedLoops s
  if 128 < w.length then none else
  let l := (w.map (keptLoop old)).mapIdx (onEngine s)
  some { s with lpe := { s.lpe with loops := l ++ List.replicate (128 - l.length) {} } }

/-- The engines go on over a restart that is no supply-on start-up, a takeover in progress included; their loops do not (R199). -/
def restartLpe (x b : LpeState) : LpeState :=
  { b with spare := x.spare, excluded := x.excluded, map := x.loading.foldl (fun m e => m.set e.1 e.2) x.map }

/-! ## Supply-on start-up (R501, R512) -/

/-- The signal space after a start-up: declarations and routes, those accepted and not yet in effect included; every import holds a
NO_VALUE record (R35, R38, R52, log entry 251). -/
def bootSig (s : State) : SigState :=
  let routes := s.routesToCome
  { decls := s.sig.decls, routes := routes, exports := s.sig.exports
    imported := (routes.filter (·.isImport)).foldl (fun l r => aset l r.handle { source := r.handle }) [] }

/-- The valves as a start-up leaves them: configurations are kept in MRAM (R247). -/
def bootValve (v : Valve) : Valve := { cfg := v.cfg, fn := v.fn, gde := v.gde, bindPart := v.bindPart }

/-- A function after a start-up: configured, OFF (R89). -/
def bootFn (x : Fn) : Fn := match x.cfg with | some c => { cfg := some c, params := x.params, source := c.source, eff := c.rest } | none => {}

/-- A configuration after a start-up: one that was accepted and not yet in effect applies. -/
def bootCfg {α : Type} (next : Option (Nat × α)) (cfg : α) : α := (next.map (·.2)).getD cfg

/-- A partition after a start-up (R427): its configuration, its inputs and its placement, STOPPED. A placement on a pair that is not
active is lost (log entry 189). -/
def bootPart (pairs : List PairSt) (p : Part) : Part :=
  match p.cfg with
  | none => {}
  | some c =>
    let q : Part := { cfg := some c, inputs := p.inputs, st := .stopped }
    if p.admitted && p.pair.any fun k => pairs.getD k .excluded == .active then
      { q with admitted := true, pair := p.pair, stateBase := p.stateBase, images := p.images, resp := p.resp } else q

/-- A CAN channel after a start-up: its configuration, joining the bus where it is enabled. -/
def bootCan (x : CanCh) : CanCh :=
  { cfg := x.cfg, joining := x.cfg.enable, isoBlock := x.isoBlock, isoStMin := x.isoStMin, wake := x.wake, wuf := x.wuf, claim := x.claim, tt := x.tt, filters := x.filters
    bufs := x.bufs.map fun b => { dir := b.dir, owner := b.owner, xlBase := b.xlBase } }

/-- Cairn after a start-up, before its mount (R472, R478, R509): what MRAM holds. -/
def bootCrn (s : State) : CrnState :=
  let c := s.crn
  { originFull := c.originFull, opTime := opNow s, seq := c.seq, powerCycles := (c.powerCycles + 1) % 2 ^ 32, ring := c.ring, ringPos := c.ringPos
    origin := c.origin, originLines := c.originLines, pendingRec := c.pendingRec }

/-- The map after a start-up: settings and flash; no field is open (R160, R173). -/
def bootMap (m : MapState) : MapState := { width := m.width, flushPeriod := m.flushPeriod, fields := m.fields }

/-- Yield sensing after a start-up: what MRAM holds, and what waits for the next boundary (R142, R149); the report interval is the Couloir
tick. -/
def bootSen (s : State) : SenState :=
  let x := s.sen
  { ch := x.ch.map fun c => { cfg := c.cfg, next := c.next, table := c.table, trained := c.trained, ringdown := c.ringdown, nextTable := c.nextTable }
    crops := x.crops, cfg := x.cfg, next := x.next, isYield := x.isYield, tare := x.tare, corr := x.corr, loads := x.loads
    active := x.crops.getD x.cfg.crop {}, interval := if s.cul.configured then s.cul.cfg.tick else 10 }

/-- Cameras after a start-up: configurations only. -/
def bootCam (c : CamState) : CamState :=
  { links := c.links.map fun l => { gear := l.gear, poc := l.poc, routes := l.routes }
    pipes := c.pipes.map fun p => { cfg := p.cfg, params := p.cfg.params }
    fsync := c.fsync.map fun f => match f.next with
      | some (_, p, w, l) => { period := p, width := w, polarity := l }
      | none => { period := f.period, width := f.width, polarity := f.polarity }
    pairs := c.pairs.map fun p => { a := p.a, b := p.b, tol := p.tol, handle := p.handle }
    jobs := c.jobs.map fun j => { enable := j.enable, prio := j.prio, decim := j.decim, minConf := j.minConf, handle := j.handle, edge := j.edge } }

/-- Summit after a start-up: keys, configuration, shocks, the window's records and flags (R521, R524, R530). -/
def bootSum (m : SumState) : SumState :=
  { cfg := m.cfg, shocks := m.shocks, shockPeak := m.shockPeak, sessionKeys := m.sessionKeys, imageKey := m.imageKey, signKeys := m.signKeys
    regions := m.regions.map fun r => { shown := r.shown, flag := r.flag }, appText := [] }

/-- Field update after a start-up (R488, R491): everything but the piece buffers; an install has gone back to RECEIVED. -/
def bootUpd (u : UpdState) : UpdState :=
  { u with bufs := [], req := none, abortDue := false, restartDue := false, queue := [], retried := false, failedStarts := u.failedStarts + 1
           st := if u.st == .installing then .received else u.st, standby := if u.st == .installing then none else u.standby }

/-- The power record of a start-up: `PWR_CONFIG`, the last wake and the input levels. -/
def bootPwr (p : PwrState) : PwrState :=
  { stage := 1, hostBits := p.hostBits, hostSlots := p.hostSlots, wakeEn := p.wakeEn, drainDefault := p.drainDefault, addrs := p.addrs
    saveComplete := p.saveComplete, ign := p.ign, wake := p.wake, checkpointBytes := p.checkpointBytes
    paths := p.paths.map fun x => { st := if x.st == .excluded then .ok else x.st, volts := x.volts } }

/-- Memory after a start-up: the remap entries apply (R448), DRAM with its spare lines is cleared in stage 4, SRAM reads as a byte that nothing has written (log entry 7), MRAM keeps
its bytes; declared device failures survive (R439), and so does the configuration. -/
def bootMem (m : MemState) : MemState :=
  { remap := m.remap.map fun e => e.map fun r => { line := r.line, data := zeros 64 }, remapFull := m.remap.all (·.isSome)
    bytes := m.bytes.filter fun c => areaOf c.1 == .mram, poison := m.poison.filter fun l => areaOf l == .mram, failed := m.failed
    nextParams := m.nextParams, scrubHours := m.scrubHours, devThresh := m.devThresh, devWindow := m.devWindow, ueLimit := m.ueLimit, sramScrub := m.sramScrub
    regions := m.regions }

/-- Everything that a supply-on start-up leaves (R89, R136, R450, R501): configuration in MRAM and flash is kept, the rest is as
after reset. Module time starts at 0 (R28). -/
def bootState (s : State) : State :=
  let s0 : State := { pending := s.pending, out := s.out, free := s.free }
  { s0 with
    id := { machine := s.id.machine, cfg := s.id.cfg }
    sys := { imageSet := s.sys.imageSet, udpPort := s.sys.udpPort, credits := s.sys.credits, nextTag := s.sys.nextTag }
    sig := bootSig s
    mem := bootMem s.mem
    dma := { ch := s.dma.ch.map fun c => { enabled := c.enabled, owner := c.owner } }
    crn := bootCrn s
    col := { parts := s.col.parts.map (fun e => (e.1, bootPart ({} : ColState).pairs e.2)), checkpoints := s.col.checkpoints
             toResume := if s.pwr.saveComplete then s.col.checkpoints.map (·.1) else [] }
    pwr := bootPwr s.pwr
    lpe := { partLoops := s.lpe.partLoops }
    vlv := { ch := s.vlv.ch.map bootValve }
    fio := { di := s.fio.di.map fun d => { cfg := bootCfg d.next d.cfg }, ai := s.fio.ai.map fun a => { cfg := bootCfg a.next a.cfg }
             dout := s.fio.dout.map fun d => { enable := d.enable, owner := d.owner, safe := d.safe, test := d.test, fn := d.fn, gde := d.gde
                                               bindPart := d.bindPart, st := if d.enable then .off else .unconfigured
                                               demagEnd := if d.enable then some 0 else none } }
    gns := { cfg := s.gns.next.getD s.gns.cfg
             ports := (s.gns.next.getD s.gns.cfg).bias.map fun b => { st := if b == 3 then .unused else if b == 0 then .passive else .ok }
             almanac := s.gns.almanac, lastPos := s.gns.lastPos }
    tim := { cfg := bootCfg s.tim.next s.tim.cfg }
    can := { ch := s.can.ch.map bootCan }
    fus := { cfg := bootCfg s.fus.next s.fus.cfg, frames := s.fus.frameWrites.foldl (fun l e => aset l e.2.1 e.2.2) s.fus.frames
             groups := s.fus.groups.map fun g => { cfg := bootCfg g.next g.cfg }, sources := s.fus.sources }
    cam := bootCam s.cam
    cul := { configured := s.cul.configured, cfg := s.cul.cfg, stages := s.cul.stages, sensors := s.cul.sensors
             st := if s.cul.configured then .stopped else .unconfigured }
    map := bootMap s.map
    sen := bootSen s
    fun_ := { fn := s.fun_.fn.map bootFn, copies := s.fun_.copies.map fun k => { k with lost := [] }, il := s.fun_.il, auto_ := bootCfg s.fun_.nextAuto s.fun_.auto_ }
    gde := { cfg := s.gde.cfg, lines := s.gde.lines, cal := bootCfg s.gde.nextCal s.gde.cal, points := s.gde.points }
    flt := { cfg := s.flt.cfg, key := s.flt.key
             members := s.flt.members.map fun m => { kind := m.kind, ip := m.ip, port := m.port, addr := m.addr, st := if m.kind == 0 then 0 else 2 } }
    upd := bootUpd s.upd
    sum := bootSum s.sum }

/-- The role that a latched index gives (R18, R22, R23). -/
def roleOf (i : Nat) (deputy : Option Nat) : Role := if i == 0 then .manager else if deputy == some i then .deputy else .worker

/-- The straps are latched where all three samples agree (R19). A worker has found no manager yet (R22). -/
def latchStraps (l : List Nat) (s : State) : State :=
  let i := l.headD 0 % 8
  if l.length == 3 && l.all (· % 8 == i) then
    let role := roleOf i s.id.cfg.deputy
    modId (fun d => { d with index := some i, straps := some i, role := role, timeLock := role == .manager, noManager := role != .manager
                             machine := if d.cfg.loaded then d.machine else 0xFF }) s
  else modId (fun d => { d with roleUnlatched := true }) s

/-- A supply-on start-up begins when the higher input has been at or above 9.0 V throughout 10 ms after a loss of supply, or when `IGN` rises in OFF with supply present (R501); the state after
reset is such a start-up before its first stage (log entry 12). -/
def startDue (s : State) : Bool :=
  let supply := s.pwr.paths.any fun p => p.st == .ok || p.st == .low || p.st == .overVolt
  (s.pwr.st == .off && ((s.pwr.sawSupplyLost && heldFor s.pwr.highSince s.time (10 * ms)) || (supply && s.pwr.ignStart))) || s.pwr.stage == 0

/-- What follows the start of a start-up or of a restart: the straps, the modes and loops of the stored configuration, the
checkpoints (R427), guidance. -/
def bootRest (straps : List Nat) (s : State) : State :=
  let s := latchStraps straps s
  let s := applyValveModes s
  let s := (reallocLoops s.lpe.loops s).getD s
  let s := if s.id.roleUnlatched || s.id.noManager then holdOutputs s else s
  let s := s.col.toResume.foldl (fun s n => if (s.part n).admitted then restoreCheckpoint n s else s) s
  let s := if 3 ≤ s.upd.failedStarts && s.upd.st == .committing && updManager s then
      modUpd (fun u => { u with failedStarts := 1 }) (updReturn s) else s
  gdeStart s

/-- A supply-on start-up begins from stage 1. -/
def beginStart (straps : List Nat) (s : State) : State := startCleaning (bootRest straps (bootState s))

/-- What is excluded until the next supply-on start-up stays so over a restart that is none: valve groups, antenna ports, camera
receivers, CAN channels, core pairs and DRAM channels (R257, R283, R342, R381, R404, R440). `s` is the module before, `b` after. -/
def keepExcluded (s b : State) : State :=
  let groups := s.vlv.groups.map fun g => if g.st == .excluded then g else {}
  let out := fun (n : Nat) => (groups.getD (n / 12) {}).st == .excluded
  { b with
    vlv := { b.vlv with groups := groups, ch := b.vlv.ch.mapIdx fun n v => v.setCode 14 (out n) }
    gns := { b.gns with ports := b.gns.ports.mapIdx fun a p => if (s.gport a).st == .excluded then { p with st := .excluded } else p
                        ch := b.gns.ch.mapIdx fun c g => if (s.gport (c / 128)).st == .excluded then { g with st := 7 } else g }
    cam := { b.cam with links := b.cam.links.mapIdx fun k l =>
      if (s.cam.links.getD k {}).st == .excluded then { l with st := .excluded } else l }
    can := { b.can with ch := b.can.ch.mapIdx fun c x => if (s.canCh c).st == .excluded then { x with st := .excluded, joining := false } else x }
    col := { b.col with pairs := s.col.pairs, noSpare := s.col.noSpare, singleMirror := s.mem.excluded.any id
                        parts := s.col.parts.map fun e => (e.1, bootPart s.col.pairs e.2) }
    mem := { b.mem with excluded := s.mem.excluded } }

/-- The module restarts from its selected set into STANDBY (R492): a start-up that is no supply-on one, so module time and its mapping, the
power-cycle count, the latched index, Summit, the supplies and every exclusion go on (log entry 190). -/
def restart (s : State) : State :=
  let s := if s.mainOn then outputsSafe ((s.col.parts.filter fun e => e.2.inPeriod).foldl (fun s e => discardPeriod e.1 s) s) else s
  let s := updSave (endAllForces s)
  let b := keepExcluded s (bootState { s with pwr := { s.pwr with saveComplete := false } })
  let p := s.pwr
  let straps := match s.id.index with | some i => List.replicate 3 i | none => []
  bootRest straps { b with
    time := s.time
    id := { b.id with summitLost := s.id.summitLost, clockFail := s.id.clockFail, outputsHeld := s.id.clockFail, badWindows := s.id.badWindows }
    sig := { b.sig with lastWinner := s.sig.lastWinner }
    mem := { b.mem with passStart := s.time, chipStart := (s.time, s.time) }
    lpe := restartLpe s.lpe b.lpe
    fio := { b.fio with dout := b.fio.dout.map fun d => { d with forcedSafe := s.id.clockFail, demagEnd := d.demagEnd.map fun _ => s.time } }
    tim := { s.tim with epochReqs := [] }
    crn := { s.crn with mounted := false, cursors := List.replicate 8 none }
    pwr := { b.pwr with startedAt := s.time, paths := p.paths, bank := p.bank, bankV := p.bankV, bankMf := p.bankMf, bankMeasured := p.bankMeasured
                        chargeStart := p.chargeStart }
    sum := { s.sum with regions := s.sum.regions.map fun g => { g with slot := g.slot.map fun x => { x with text := none } }
                        running := s.sum.running.map fun x => { x with text := none } } }

/-- A restart that a command or a failed bank has made due. -/
def restartIfDue (s : State) : State := if s.upd.restartDue then restart (modUpd (fun u => { u with restartDue := false }) s) else s

/-- SUPPLY_ON_START_UP (R501, R512): stage 1. Where Summit's self-test fails no further stage follows. -/
def doSupplyOn (b : BootMeas) (s : State) : State :=
  if !startDue s then s else
  let s := beginStart b.straps s
  let s := modPwr (fun p => { p with ign := b.ign }) s
  if b.summitOk then s else modPwr (fun p => { p with stage := 15 }) s

/-- The reply of `SYS_IDENT` (R4). -/
def identBytes (s : State) : List Byte :=
  let part : List Byte := [0x46, 0x58, 0x2D, 0x4F, 0x42, 0x34, 0x38, 0x2D, 0x41]
  part ++ zeros 7 ++ le 8 Config.serial.toNat ++ le 2 Config.hwIssue.toNat ++ le 1 (s.id.index.getD 0xFF) ++ le 1 s.id.role.code ++ le 1 s.id.machine
    ++ zeros 1 ++ le 2 (s.sys.imageSet.getD Config.factoryImageSet) ++ le 4 (firmwareOf s) ++ le 2 0x0100 ++ zeros 2

/-- The payload of `SYS_READY`. -/
def readyBytes (s : State) : List Byte := identBytes s ++ le 4 s.pwr.startupUs ++ le 4 s.pwr.selftest

/-- `SYS_READY` (R86): to the hosts and on every CAN port configured for Corlith. -/
def sendReady (s : State) : State :=
  let pl := readyBytes s
  let target := unit 0x01 0
  let s := toHosts 0x0180 (BitVec.ofNat 32 target) pl s
  let ports := ((List.range 12).filter fun c => (s.canCh c).cfg.enable && (s.canCh c).cfg.corlith).map (0x90 + ·)
  let s := ports.foldl (fun s n => originate n 0x0180 (BitVec.ofNat 32 target) pl s) s
  cairn 0x0180 0x70 pl s

/-- What a failed stage excludes (R513). -/
def applySelfTest (r : SelfTest) (s : State) : State :=
  let before := s.mem.excluded
  let s := r.dram.foldl (fun s ch => if ch < 2 then markExcluded ch 0x70 s else s) s
  let s := if r.dram.isEmpty then s else { s with mem := { s.mem with selfTestFailed := true } }
  let s := if s.mem.excluded == before then s else { s with col := { s.col with singleMirror := true } }
  let s := r.valves.foldl (fun s n => vlvSync n (valveLatchCheck n (modValve n (fun v => (({ v with calFailed := true } : Valve)).setCode 11 true) s))) s
  let s := r.analogue.foldl (fun s n => modAi n (fun a => { a with calFailed := true }) s) s
  r.gnss.foldl (fun s a => if a < 3 then excludePort a s else s) s

/-- READY (R512, R513): the stages after the first, and their end. Both DRAM channels failed, or a main-clock failure, keep READY
from being reached. -/
def doReady (r : SelfTest) (s : State) : State :=
  if s.pwr.stage != 1 || s.pwr.ready || s.id.clockFail || s.pwr.st != .standby then s else
  let s := applySelfTest r s
  if s.mem.excluded.all id then s else
  let s := mountCairn r.cairn s
  let bankBad := !r.image || decide (3 ≤ s.upd.failedStarts)
  let bits := bitsN [!r.dram.isEmpty, !r.valves.isEmpty, !r.analogue.isEmpty, !r.gnss.isEmpty, decide (1 < r.cairn), bankBad]
  let s := modPwr (fun p => { p with selftest := bits, ready := true, modReady := true, stage := 9, startupUs := (s.time - p.startedAt) / us }) s
  let s := sendReady s
  let s := modUpd (fun u => { u with failedStarts := 0 }) s
  if r.image then s else updBankFailed s

/-- PERIOD_START (R86, R412): the supervisory partition finds `SYS_READY` in its mailbox as it starts. -/
def doPartitionPeriod (n : Nat) (s : State) : State :=
  doPeriodStart n (if startsNow n s && s.pwr.ready && s.supervisory == some n then
    originate n 0x0180 (BitVec.ofNat 32 (unit 0x01 0)) (readyBytes s) s else s)

/-! ## The modules of the machine (R21, R22, R24) -/

/-- A module stops acting as manager: Couloir, the map and guidance leave it (R107, R159, R178). -/
def standDown (s : State) : State := if s.acting then fltStandDown (mapStandDown (gdeStandDown (culStandDown s))) else s

/-- The module joins as displaced manager (R24, R434). -/
def displace (s : State) : State :=
  if s.id.role == .displaced then s
  else
    let s := standDown s
    holdOutputs (stopPartitions (modId (fun d => { d with role := .displaced, timeLock := false }) s))

/-- What the module finds about its own index and its manager. -/
def findManager (reports : List PeerReport) (s : State) : State :=
  let own := s.id.index.getD 0xFF
  match reports.find? fun p => p.index == own && p.serial != Config.serial with
  | some p => holdOutputs (stopPartitions (modId (fun d => { d with dupIndex := true, dupSerial := p.serial, role := .none, peers := [] }) (standDown s)))
  | none =>
    let acting := reports.any fun p => p.acting && p.index != 0
    let s := modId (fun d => { d with managerIs := ((reports.find? fun p => p.acting && p.index != 0).map (·.index)).getD 0 }) s
    if own == 0 then (if acting && s.id.role == .manager then displace s else s)
    else
      let found := s.id.role == .actingManager || reports.any fun p => p.index == 0 || p.acting
      let s := modId (fun d => { d with noManager := !found, managerSeen := d.managerSeen || found }) s
      if found then freeOutputs s else if s.id.managerSeen then s else holdOutputs (stopPartitions s)

/-- The machine number goes to the workers that are present, before they publish (R17). -/
def sendMachine (s : State) : State :=
  if !s.acting || s.id.machine == 0xFF then s else
  modId (fun d => { d with machineSent := d.peers.map (fun p => (s.time, p.index, d.machine)) ++ d.machineSent }) s

/-- What the module tells the others of itself, a duplicate's serial number included (R21). -/
def announceSelf (s : State) : State :=
  modId (fun d => { d with said := { time := s.time, index := d.index.getD 0xFF, serial := Config.serial, machine := d.machine
                                     duplicate := if d.dupIndex then some d.dupSerial else none } :: d.said }) s

/-- What the reports of the others come to: modules that report one index do not join. -/
def findPeers (reports : List PeerReport) (s : State) : State :=
  let own := s.id.index.getD 0xFF
  let good := reports.filter fun p => p.index != own && p.index < 8 && (reports.filter fun q => q.index == p.index).length == 1
  let s := modId (fun d => { d with peers := good.map fun p =>
    { index := p.index, serial := p.serial, machine := p.machine, hwIssue := p.hwIssue, power := p.power, image := p.image } }) s
  let s := modId (fun d => { d with discovered := true }) (findManager reports s)
  let back := s.id.role == .actingManager && good.any fun p => p.index == 0
  updPeerCheck (sendMachine { s with col := { s.col with displacedPresent := back } })

/-- PEER_DISCOVERY (R21, R22, R24). A module with a duplicate index joins no machine until it starts anew. -/
def doPeers (reports : List PeerReport) (s : State) : State :=
  if s.id.index.isNone then s else announceSelf (if s.id.dupIndex then s else findPeers reports s)

/-! ## Takeover (R432) -/

/-- The deputy takes over: the role, the critical partitions with their functions, Couloir, the map, the fleet link and guidance (R103, R137,
R174, R180, R392, R432). -/
def takeOver (s : State) : State := gdeStart (fltTakeover (mapTakeover (culTakeover (funTakeover (takeOverCol s)))))

/-- The manager is lost (R431, R432): the deputy takes over, and a worker takes it as manager; a worker without a deputy keeps running and
flags it. -/
def managerGone (s : State) : State :=
  if s.id.clockFail then s else
  match s.id.role with
  | .deputy => takeOver s
  | .worker => match s.id.cfg.deputy with
    | none => modId (fun d => { d with noManager := true }) s
    | some n => modId (fun d => { d with managerIs := n }) s
  | _ => s

/-- MANAGER_LOST (R431): no heartbeat for 500 µs. -/
def doManagerLost (s : State) : State :=
  if s.col.lastHeartbeat.any fun t => decide (t + 500 * us ≤ s.time) then managerGone s else s

/-- FAILURE_NOTICE (R431): a notice from the manager arrives. -/
def doFailureNotice (s : State) : State := managerGone s

/-- The deputy learns which field is open, with its guidance lines (R174, R180): the tile copies of another one are of no use to it. -/
def holdField (x : Option FieldNote) (s : State) : State :=
  let lines := match x with
    | some x => (s.gde.lines.filter fun l => l.field != x.fieldId) ++ x.lines.map fun l =>
        let line : GdeLine := { type := l.type, verts := l.verts, spacing := l.spacing, radius := l.radius, name := l.name, total := l.verts.length }
        ({ field := x.fieldId, no := l.no, line := line } : FieldLine)
    | none => s.gde.lines
  let s := modGde (fun g => { g with lines := lines }) s
  modMap (fun m => { m with deputy := x.map fun x => match m.deputy with
    | some (f, _) => (if f.id == x.fieldId then f else { id := x.fieldId, cell := x.cell, origin := x.origin }, x.crop)
    | none => ({ id := x.fieldId, cell := x.cell, origin := x.origin }, x.crop) }) s

/-- A tile copy that the deputy holds (R173, R174). -/
def holdTile (c : TileCopy) (s : State) : State :=
  let cells := c.cells.map fun x => (x.1, Cell.ofBytes x.2)
  let t : StoredTile := { te := c.te, tn := c.tn, new := (c.generation, cells) }
  let f : Field := match s.map.deputy with
    | some (f, _) => if f.id == c.fieldId then f else { id := c.fieldId, cell := c.cell, origin := c.origin }
    | none => { id := c.fieldId, cell := c.cell, origin := c.origin }
  let f := { f with tiles := f.tiles.filter (fun y => !(y.te == c.te && y.tn == c.tn)) ++ [t] }
  modMap (fun m => { m with deputy := some (f, c.crop) }) s

/-- COMMIT_MIRROR_RECEIVED (R137, R173, R430). -/
def doMirror (m : MirrorRecord) (s : State) : State :=
  if !(s.id.role == .deputy || s.id.role == .displaced) then s else
  let s := doMirrorReceived m s
  let s := match m.couloir with
    | some x => modCul (fun c => { c with mirror := some x }) s
    | none => s
  m.tiles.foldl (fun s c => holdTile c s) (holdField m.field s)

end Sys2Proof.Machine
end

