-- ==== Sys2Proof/Machine/Marks.lean ====
section
/-! DEFINITION. What a line that becomes poisoned does to what the module keeps in it (R42, R138, R172, R443, R444). Where that lies is
free (log entry 255). -/
namespace Sys2Proof.Machine

/-- Records of the signal space (R42). -/
def markRecords (line : Nat) (s : State) : State :=
  { s with sig := { s.sig with
      own := s.sig.own.map fun e => (e.1, { e.2 with linePoison := e.2.linePoison || Config.holds line 0 e.1 0 })
      imported := s.sig.imported.map fun e => (e.1, { e.2 with linePoison := e.2.linePoison || Config.holds line 1 e.1 0 }) } }

/-- Cells of the map (R172). -/
def markCells (line : Nat) (s : State) : State :=
  let place := fun (t : Tile) (k : Nat) => (((t.te + 1024) * 4096 + (t.tn + 1024)) * 4096).toNat + k
  let mark := fun (t : Tile) (l : List (Nat × Cell)) =>
    ((List.range 4096).filter fun k => Config.holds line 5 s.map.open_ (place t k)).foldl
      (fun l k => aset l k { (aget l k).getD {} with poison := true }) l
  modMap (fun m => { m with cache := m.cache.map fun t => { t with cells := mark t t.cells, snap := mark t t.snap } }) s

/-- Entries of the Couloir ledger: an open parcel closes at once (R138). -/
def markLedger (line : Nat) (s : State) : State :=
  let hit := fun (p : Parcel) => !p.poison && Config.holds line 2 (p.no % 4096) 0
  let open_ := (openParcels s).filter hit
  let s := modCul (fun c => { c with ledger := c.ledger.map fun p => { p with poison := p.poison || hit p } }) s
  open_.foldl (fun s p => closePoisoned { p with poison := true } s) s

/-- The odometer history and the sensor table (R138). -/
def markCouloir (line : Nat) (s : State) : State :=
  if s.cul.st.busy && (Config.holds line 3 0 0 || Config.holds line 4 0 0) then culFault s else s

/-- Everything that the module keeps in a line that has become poisoned. -/
def markHeld (s : State) (line : Nat) : State :=
  markCouloir line (markLedger line (markCells line (markRecords line s)))

/-- What follows where an effect has left lines poisoned that were not: `t` is the state after it, `lines` are those it reads. -/
def newMarks (lines : List Nat) (s t : State) : State :=
  let marked := t.mem.poison.filter fun l => !s.poisoned l
  let bad := lines.filter fun l => t.unreadable l && !s.unreadable l && !t.poisoned l
  (marked ++ bad).foldl markHeld t

/-- An effect on memory, with what follows from the lines that it leaves poisoned. -/
def withMarks (lines : List Nat) (f : State → State) (s : State) : State := newMarks lines s (f s)

end Sys2Proof.Machine
end

