-- ==== Sys2Proof/Machine/Pwr.lean ====
section
/-! DEFINITION. Chapter 23: the logic paths, the moves between power states, SAVE, the hold-up bank, the thermal budget, and the
rules of the PWR commands. -/
namespace Sys2Proof.Machine

/-- The power system as a target. -/
def pwrUnit : Nat := unit 0x16 0

/-- The payload of `PWR_EVENT`. -/
def pwrPayload (cause index new detail : Nat) (s : State) : List Byte :=
  le 1 cause ++ le 1 s.pwr.st.code ++ le 1 index ++ le 1 new ++ le 4 detail ++ le 8 s.time

/-- `PWR_EVENT` with its Cairn event. -/
def pwrEvent (cause index new detail : Nat) (s : State) : State := event 0x1680 pwrUnit (pwrPayload cause index new detail s) [] 0x70 s

/-! ## Logic supply paths (R496, R497) -/

/-- The state codes of R496. -/
def PathSt.code : PathSt → Nat
  | .ok => 0 | .low => 1 | .lost => 2 | .overVolt => 3 | .excluded => 4

/-- OK, LOW or OVER. -/
def PathSt.up (x : PathSt) : Bool := x == .ok || x == .low || x == .overVolt

/-- One evaluation of a path (R496): where several are entered, LOST comes before OVER and LOW. -/
def pathStep (m : PathMeas) (t : Nat) (p : LogicPath) : LogicPath :=
  let v := m.volts
  let p := { p with volts := v
                    lowSince := sinceIf (decide (8 ≤ v) && decide (v ≤ 9)) t p.lowSince
                    lostSince := sinceIf (decide (v < 8)) t p.lostSince
                    overSince := sinceIf (decide (36 < v)) t p.overSince
                    revSince := sinceIf (decide (1 / 2 < m.reverse)) t p.revSince
                    lowEndSince := sinceIf (decide (19 / 2 ≤ v)) t p.lowEndSince
                    lostEndSince := sinceIf (decide (9 ≤ v)) t p.lostEndSince
                    overEndSince := sinceIf (decide (v ≤ 35)) t p.overEndSince }
  let lost := heldFor p.lostSince t (200 * us)
  let fresh : PathSt := if lost then .lost else if heldFor p.overSince t ms then .overVolt else if heldFor p.lowSince t ms then .low else .ok
  let st : PathSt :=
    if p.st == .excluded || !m.protectOk || heldFor p.revSince t ms then .excluded
    else match p.st with
      | .ok => fresh
      | .low => if lost || heldFor p.lowEndSince t (10 * ms) then fresh else .low
      | .lost => if heldFor p.lostEndSince t (10 * ms) then fresh else .lost
      | .overVolt => if lost || heldFor p.overEndSince t (10 * ms) then fresh else .overVolt
      | .excluded => .excluded
  { p with st := st }

/-- LOGIC_PATH_EVAL (R496): a change of a path's state is reported. -/
def doPathEval (a b : PathMeas) (s : State) : State :=
  let old := s.pwr.paths
  let new := [pathStep a s.time (old.getD 0 {}), pathStep b s.time (old.getD 1 {})]
  let gone := !new.any (·.st.up) && !s.pwr.sawSupplyLost
  let s := if gone && s.pwr.st == .off then { s with crn := { s.crn with opTime := opNow s } } else s
  let high := sinceIf (decide (9 ≤ maxR a.volts b.volts)) s.time (if gone then none else s.pwr.highSince)
  let s := modPwr (fun p => { p with paths := new, sawSupplyLost := p.sawSupplyLost || gone, highSince := high }) s
  (List.range 2).foldl (fun s i =>
    let x := (new.getD i {}).st
    if x == (old.getD i {}).st then s else pwrEvent 2 i x.code 0 (if x == .excluded then regionFault s else s)) s

/-- No path is OK, LOW or OVER (R497). -/
def supplyFailed (s : State) : Bool := !s.pwr.paths.any fun p => p.st.up

/-! ## Checkpoints and SAVE (R477, R507 to R511, R550) -/

/-- The checkpoints that a SAVE writes (R511): the head of each newest complete committed image. -/
def checkpointsOf (s : State) : List (Nat × List Byte) :=
  s.col.parts.filterMap fun e =>
    let n := e.2.conf.checkpoint
    if n == 0 || e.2.generation == 0 then none else
    (goodImage e.2 0 s).map fun a => (e.1, memReadList s.mem.bytes a n)

/-- The bytes of the checkpoints. -/
def checkpointSize (l : List (Nat × List Byte)) : Nat := (l.map fun e => e.2.length).sum

/-- Checkpoints into MRAM: `save_complete` is cleared before the first line (R550). -/
def writeCheckpoints (s : State) : State :=
  let l := if s.pwr.ready then checkpointsOf s else []
  modPwr (fun p => { p with saveComplete := false, checkpointBytes := checkpointSize l })
    { s with col := { s.col with checkpoints := if s.pwr.ready then l else s.col.checkpoints } }

/-- The lines of the record that SAVE writes next: a queued one, or its own. -/
def nextLines (s : State) : Nat := (s.crn.queue.head?.map fun q => recLines q.ev.payload.length).getD 1

/-- The bank is spent while SAVE writes its records: the next one has been marked pending or has not (R476, R550). -/
def leavePending (s : State) : State :=
  if !s.crn.mounted || !s.summitOn then s else
  let (hit, s) := takeFreeBool s
  { s with crn := { s.crn with pendingRec := if hit then some (nextLines s) else none } }

/-- The Cairn steps of SAVE (R477, R507): queued records, then the record of the SAVE, after which nothing is recorded. `records`
limits how many are written whole before the bank is spent. -/
def saveCairn (records : Option Nat) (s : State) : State :=
  let s := acceptAllRaised (s.crn.raised.length) s
  let n := s.crn.queue.length
  let s := writeAllQueued (min (records.getD n) n) s
  let s := if s.crn.mounted && !s.id.summitLost && records.all fun k => decide (n < k) then
      writeRecord 0x1680 0x70 (pwrPayload 3 0xFF 0 s.pwr.checkpointBytes s) s.time (opNow s) s
    else if records.isNone then s else leavePending s
  { s with crn := { s.crn with closed := true, raised := [], queue := [] } }

/-- Periods that have not committed are discarded, and no period starts any more (R507). -/
def discardAll (s : State) : State :=
  (s.col.parts.filter fun e => e.2.inPeriod || e.2.committing).foldl (fun s e => discardPeriod e.1 s) s

/-- Agents stop and the module is in OFF (R507): commands in flight end without a reply (R505). -/
def enterOff (s : State) : State :=
  let s : State := if supplyFailed s then { s with crn := { s.crn with opTime := opNow s } } else s
  let s := modPwr (fun p => { p with highSince := p.highSince.map fun _ => s.time, st := .off, move := none, heldMove := none, ready := false, modReady := false, ethUp := false, stage := 9
                                     ignStart := false, sawSupplyLost := supplyFailed s, saving := false, selfRefresh := false }) s
  { s with sys := { s.sys with flights := [], sessions := [], chains := [], awaiting := [], mailboxes := [] } }

/-- SUPPLY_FAILURE (R497, R507 to R509, R518, R550). `ended` counts the later steps that end before the bank is spent: 1 the
checkpoints, 2 Cairn too, 3 `save_complete` too; `records` is how many Cairn records have been written whole. -/
def doSupplyFailure (ended records : Nat) (s : State) : State :=
  if s.pwr.st == .off || !supplyFailed s then s else
  let main := s.mainOn
  let s := modPwr (fun p => { p with saving := true, modReady := false }) s
  let s := if main then outputsSafe (sendNotice (discardAll s)) else s
  if s.id.summitLost then enterOff s else
  let s := updSave (endAllForces s)
  let s := if main || s.pwr.ready then
      (if 1 ≤ ended then writeCheckpoints s else modPwr (fun p => { p with saveComplete := false }) s) else s
  let s := if ended == 0 then { s with crn := { s.crn with closed := true, raised := [], queue := [] } }
    else saveCairn (if 2 ≤ ended then none else some records) s
  enterOff (modPwr (fun p => { p with saveComplete := decide (3 ≤ ended) && p.ready }) s)

/-! ## Moves between states (R502 to R505) -/

/-- The state becomes another; it is reported. -/
def pwrEnter (st : PwrSt) (s : State) : State := pwrEvent 0 0xFF 0 0 (modPwr (fun p => { p with st := st }) s)

/-- The command of the move ends. -/
def moveEnd (st : Status) (s : State) : State :=
  match s.pwr.move with
  | some m =>
    let s := modPwr (fun p => { p with move := none }) s
    (match m.req with | some r => finish r st [] s | none => s)
  | none => s

/-- The module leaves RUN (R502): functions, guidance, valves and Couloir stop at once. -/
def leaveRun (s : State) : State := culStopNow (vlvLeaveRun (gdeLeaveRun (funLeaveRun (pwrEnter .idle s))))

/-- A drain begins (R502). -/
def startDrain (s : State) : State :=
  let s := gdeDrain (funDrain s)
  if s.cul.st == .running then
    let s := culEnter .draining s
    if (openParcels s).isEmpty then culEnter .stopped s else s
  else s

/-- The drain has ended (R502). -/
def drained (s : State) : Bool := funDrained s && gdeDrained s && (s.cul.st == .stopped || s.cul.st == .unconfigured)

/-- Partitions that keep the module in IDLE. -/
def runningParts (s : State) : List Nat := s.col.parts.filterMap fun e => if e.2.st == .running || e.2.st == .restoring then some e.1 else none

/-- IDLE to STANDBY asks every running partition to stop at its release (R429, R502). -/
def requestStops (s : State) : State :=
  (runningParts s).foldl (fun s n => s.modPart n fun p => if p.run.isSome then p else { p with run := some { start := false } }) s

/-- The stops that the step has asked for are cancelled (R502). -/
def cancelStops (s : State) : State :=
  (runningParts s).foldl (fun s n => s.modPart n fun p => if p.run == some { start := false } then { p with run := none } else p) s

/-- What holds a CAN channel that is configured in SLEEP (R502). -/
def canSleepAll (s : State) : State :=
  (List.range 12).foldl (fun s c => let x := s.canCh c; if x.cfg.enable && x.st != .sleep && x.st != .excluded then canEnter c .sleep s else s) s

/-- The actions of the step to SLEEP or OFF, in the order of R502. -/
def powerDownActions (target : PwrSt) (s : State) : State :=
  let s := modPwr (fun p => { p with move := p.move.map fun m => { m with acted := true } }) s
  let s := updSave (endAllForces s)
  let s := saveCairn none (writeCheckpoints s)
  let s := modPwr (fun p => { p with saveComplete := p.ready }) s
  if target == .sleep then
    let before := s.can
    let s := canSleepAll s
    modPwr (fun p => { p with ethUp := false, selfRefresh := true, move := p.move.map fun m => { m with canBefore := some before } }) s
  else modPwr (fun p => { p with modReady := false }) s

/-- A step to SLEEP or OFF is abandoned before its point of no return (R502). -/
def undoPowerDown (s : State) : State :=
  let s := match s.pwr.move.bind (·.canBefore) with
    | some c => { s with can := { s.can with ch := s.can.ch.zipWith (fun (x y : CanCh) => if x.st == CanSt.sleep then y else x) c.ch } }
    | none => s
  modPwr (fun p => { p with ethUp := true, selfRefresh := false, modReady := p.ready, saveComplete := false })
    { s with crn := { s.crn with closed := false } }

/-- Summit is lost during a move: the power state does not change, and the commands end `HW_FAULT` (R518). -/
def stopMove (s : State) : State :=
  if !s.id.summitLost || s.pwr.move.isNone || (s.pwr.st == .standby && s.pwr.move.any (·.pastPnr)) then s else
  let s := if s.pwr.st == .standby then undoPowerDown s else cancelStops s
  let held := (s.pwr.heldMove.bind (·.req)).toList
  held.foldl (fun s q => finish q .hwFault [] s) (moveEnd .hwFault (modPwr (fun p => { p with heldMove := none }) s))

/-- What refuses a raise to IDLE (R503). -/
def idleRefusal (s : State) : Option Status :=
  if !s.pwr.ready || s.id.roleUnlatched || s.id.dupIndex then some .wrongState
  else if s.id.clockFail || bitOf s.pwr.selftest 5 then some .hwFault else none

/-- `save_complete` is cleared when the module enters IDLE (R510). -/
def clearSave (s : State) : State := modPwr (fun p => { p with saveComplete := false }) s

/-- The move goes on as far as it can at this instant (R502, R503). -/
def runMove : Nat → State → State
  | 0, s => s
  | n + 1, s =>
    match s.pwr.move with
    | none => s
    | some m =>
      let st := s.pwr.st
      if st == m.target then
        let s := moveEnd .done s
        (match s.pwr.heldMove with
         | some h => runMove n (modPwr (fun p => { p with move := some h, heldMove := none }) s)
         | none => s)
      else if st.code < m.target.code then
        match st with
        | .standby =>
          (match idleRefusal s with
           | some bad => moveEnd bad s
           | none => runMove n (clearSave (pwrEnter .idle s)))
        | .idle => if s.pwr.bank == .fault then moveEnd .hwFault s else runMove n (pwrEnter .run s)
        | _ => s
      else
        match st with
        | .run =>
          if m.immediate then runMove n (leaveRun s)
          else if m.drainUntil.isSome then s
          else
            let until_ := s.time + (if m.drainMs == 0 then s.pwr.drainDefault else m.drainMs) * ms
            startDrain (modPwr (fun p => { p with move := some { m with drainUntil := some until_ } }) s)
        | .idle =>
          if (runningParts s).isEmpty then runMove n (modPwr (fun p => { p with move := some { m with pastPnr := false, drainUntil := none } }) (pwrEnter .standby s))
          else requestStops s
        | .standby => if m.acted then s else powerDownActions m.target s
        | _ => s

/-- The module leaves RUN at the end of its drain and the move goes on. -/
def endDrain (s : State) : State :=
  let s := modPwr (fun p => { p with move := p.move.map fun m => { m with drainUntil := none } }) s
  runMove 6 (leaveRun s)

/-- A drain is in progress. -/
def draining (s : State) : Bool := s.pwr.st == .run && s.pwr.move.any fun m => m.drainUntil.isSome

/-- DRAIN_END (R502). -/
def doDrainEnd (s : State) : State := if draining s && drained s then endDrain s else s

/-- DRAIN_TIMEOUT (R502). -/
def doDrainTimeout (s : State) : State :=
  if draining s && s.pwr.move.any (fun m => m.drainUntil.any fun t => decide (t ≤ s.time)) then endDrain s else s

/-- The first release at which a partition stops is the point of no return of IDLE to STANDBY (R502). -/
def notePartStop (s : State) : State :=
  modPwr (fun p => { p with move := p.move.map fun m =>
    if p.st == .idle && m.target.code < 3 then { m with pastPnr := true } else m }) s

/-- A wake in SLEEP (R500): STANDBY; the change of state and the source are reported (log entry 221). -/
def wakeUp (source : Nat) (s : State) : State :=
  let s := modPwr (fun p => { p with st := .standby, lastWake := source, ethUp := true, selfRefresh := false, alarmAt := none, wakePending := none
                                     saveComplete := p.saveComplete }) s
  let s := modSum (fun m => { m with heartbeat := s.time }) { s with crn := { s.crn with closed := false } }
  pwrEvent 1 source 0 0 (pwrEvent 0 0xFF 0 0 s)

/-- Whether a wake source is enabled (`wake_en`): 1 CAN, 2 `IGN`, 3 `WAKE`, 4 alarm. -/
def wakeEnabled (source : Nat) (s : State) : Bool := 1 ≤ source && source ≤ 4 && bitOf s.pwr.wakeEn (source - 1)

/-- A wake source fires (R500, R505). -/
def fireWake (source : Nat) (s : State) : State :=
  if !wakeEnabled source s then s
  else match s.pwr.st, s.pwr.move with
    | .sleep, _ => wakeUp source s
    | .standby, some m =>
      if m.target != .sleep then s
      else if m.pastPnr then modPwr (fun p => { p with wakePending := some source }) s
      else pwrEvent 1 source 0 0 (modPwr (fun p => { p with lastWake := source }) (moveEnd .wrongState (undoPowerDown s)))
    | _, _ => s

/-- The change into SLEEP or OFF is recorded; the packets' ports are off (log entry 222). -/
def noteDown (s : State) : State := cairn 0x1680 0x70 (pwrPayload 0 0xFF 0 0 s) s

/-- POWER_STEP_COMPLETE (R502, R504, R505): IDLE to STANDBY once every partition has stopped; the step to SLEEP or OFF first ends
its actions and sends `DONE`, then reaches its state, in which Summit records events again (R521, log entry 222). -/
def doStepComplete (s : State) : State :=
  match s.pwr.move with
  | none => s
  | some m =>
    match s.pwr.st with
    | .idle => if m.target.code < 3 && (runningParts s).isEmpty then runMove 6 s else s
    | .standby =>
      if 2 ≤ m.target.code then s
      else if !m.pastPnr then
        let s := modPwr (fun p => { p with move := some { m with pastPnr := true, req := none } }) s
        (match m.req with | some r => finish r .done [] s | none => s)
      else
      let s := { s with crn := { s.crn with closed := false } }
      if m.target == .off then noteDown (enterOff s)
      else
        let s := modPwr (fun p => { p with st := .sleep, move := none, heldMove := none
                                           alarmAt := if m.alarm == 0 then none else some (s.time + m.alarm * sec) }) s
        let s := noteDown s
        (match s.pwr.wakePending with
         | some w => wakeUp w s
         | none => s)
    | _ => s

/-- WAKE (R500): a wake source fires. -/
def doWake (source : Nat) (s : State) : State := fireWake source s

/-- SUMMIT_ALARM (R500): the alarm set by `PWR_SET` has expired. -/
def doAlarm (s : State) : State := if s.pwr.st == .sleep && s.pwr.alarmAt.any fun t => decide (t ≤ s.time) then fireWake 4 s else s

/-- An edge on an input is reported in STANDBY, IDLE and RUN (R500). -/
def reportEdge (cause : Nat) (level : Bool) (s : State) : State := if s.mainOn then pwrEvent cause 0xFF (b2n level) 0 s else s

/-- IGN_EDGE (R500, R501). -/
def doIgn (rising : Bool) (s : State) : State :=
  let s := modPwr (fun p => { p with ign := rising }) s
  if s.pwr.st == .off then (if rising && !supplyFailed s then modPwr (fun p => { p with ignStart := true }) s else s)
  else
    let s := reportEdge 7 rising s
    if rising then fireWake 2 s else s

/-- WAKE_EDGE (R500). -/
def doWakeEdge (rising : Bool) (s : State) : State :=
  let s := modPwr (fun p => { p with wake := rising }) s
  if s.pwr.st == .off then s
  else
    let s := reportEdge 8 rising s
    if rising then fireWake 3 s else s

/-- CAN_WAKE (R382, R500): a channel in SLEEP wakes, which is a wake source of the module. -/
def doCanWakeAll (c : Nat) (w : WakeSeen) (s : State) : State :=
  let hit := (s.canCh c).st == .sleep && (wakeBy c (s.canCh c) w).1
  let s := doCanWake c w s
  if hit then fireWake 1 s else s

/-! ## The hold-up bank (R506) -/

/-- The state codes of R506. -/
def BankSt.code : BankSt → Nat
  | .charging => 0 | .ready => 1 | .fault => 2

/-- BANK_MEASUREMENT (R506): volts, capacitance in mF as it would be measured now, and whether the charger is good. -/
def doBank (volts mf : Rat) (charger : Bool) (s : State) : State :=
  if s.pwr.st == .off || s.id.summitLost then s else
  let p := s.pwr
  let late := decide (p.chargeStart + 5 * sec ≤ s.time)
  let measure := decide (48 ≤ volts) || (late && decide (44 ≤ volts)) || p.bankMeasured
  let new : BankSt :=
    if p.bank == .fault || !charger || (late && decide (volts < 44)) then .fault
    else if measure then (if decide (mf < 19 / 5) then .fault else if decide (44 ≤ volts) then .ready else .charging)
    else .charging
  let s := modPwr (fun p => { p with bankV := volts, bankMf := if measure then mf else p.bankMf, bankMeasured := measure, bank := new }) s
  if new == p.bank then s else pwrEvent 4 0xFF new.code 0 s

/-! ## Performance limits (R514, R515) -/

/-- The thermal budget and the cap (R514). -/
def thermalStep (w : Rat) (tb : Rat) (p : PwrState) : PwrState :=
  let b := clampR (p.budget - (w - 120) * (1 / 100)) 0 30000
  let ex := p.exhausted || decide (b = 0)
  let ex := ex && !decide (15000 ≤ b)
  let cap : Rat := if decide (tb ≤ 70) && !ex then 170 else 120
  let cap := if decide (85 < tb) then maxR 60 (120 - 6 * (tb - 85)) else cap
  { p with budget := b, exhausted := ex, cap := cap, power := w }

/-- The measures of R515: first the scrubber pauses, then the accelerator slows down. Whether the power would exceed the cap without
them is free (log entry 188). -/
def limitStep (s : State) : State :=
  let p := s.pwr
  if p.cap < p.power then
    let both := p.scrubPaused
    let s := modPwr (fun p => { p with perfLimit := true, vaReduced := p.vaReduced || both, scrubPaused := true
                                       overSince := if p.scrubPaused && p.vaReduced then sinceIf true s.time p.overSince else none }) s
    if p.perfLimit then s else pwrEvent 5 0xFF 0 p.cap.floor.toNat s
  else
    let s := modPwr (fun p => { p with overSince := none, limitSent := false }) s
    if !p.perfLimit then s else
    let (still, s) := takeFreeBool s
    if still then s else pwrEvent 6 0xFF 0 0 (modPwr (fun p => { p with perfLimit := false, scrubPaused := false, vaReduced := false }) s)

/-- THERMAL_BUDGET (R514, R515): every 10 ms. -/
def doThermal (w : Rat) (s : State) : State :=
  if !s.summitOn then s else
  limitStep (modPwr (fun p => { thermalStep w s.sum.tb p with baseplate := s.sum.tb }) s)

/-- LIMIT_INSUFFICIENT (R515). -/
def doInsufficient (s : State) : State :=
  if heldFor s.pwr.overSince s.time (10 * sec) && !s.pwr.limitSent then
    pwrEvent 9 0xFF 0 0 (modPwr (fun p => { p with limitSent := true }) s) else s

/-! ## Commands -/

/-- A later command of the same direction: its drain time counts from the start of the drain in progress (log entry 275). -/
def redrain (m new : PwrMove) (s : State) : Option Nat :=
  let span := fun (x : PwrMove) => (if x.drainMs == 0 then s.pwr.drainDefault else x.drainMs) * ms
  m.drainUntil.map fun u => u - span m + span new

/-- A later `PWR_SET` meets a move in progress (R504); the move itself goes on after the reply (`runMove`). -/
def supersedeMove (m : PwrMove) (new : PwrMove) (r : Req) (s : State) : Res × State :=
  let ended := m.req.toList ++ (s.pwr.heldMove.bind (·.req)).toList
  let s := ended.foldl (fun s q => finish q .superseded [] s) s
  let put := fun (x : PwrMove) (h : Option PwrMove) (s : State) => modPwr (fun p => { p with move := some x, heldMove := h }) s
  if new.target.code < s.pwr.st.code then
    if s.pwr.st == .standby && new.target != m.target then (.interim .queued, put new none (undoPowerDown s))
    else (.interim .queued, put { new with drainUntil := redrain m new s, pastPnr := m.pastPnr, canBefore := m.canBefore, acted := m.acted } none s)
  else if m.pastPnr then (.interim .held, put { m with req := none, target := .standby } (some new) s)
  else (.interim .queued, put new none (if s.pwr.st == .standby then undoPowerDown s else if s.pwr.st == .idle then cancelStops s else s))

/-- What refuses `PWR_SET`, in its order (step 8 of R73). -/
def chkPwrSet (r : Req) (s : State) : List (Bool × Status) :=
  let b := r.p.payload
  let drain := u16 b 2
  let alarm := u32 b 4
  [ (r.p.target.toNat != pwrUnit, .badParam), (!s.isHost r.port, .notOwner), (s.id.summitLost, .hwFault),
    (4 < u8 b 0 || 1 < u8 b 1 || (drain != 0 && notIn 100 60000 drain) || (u8 b 0 == 1 && 604800 < alarm), .badParam) ]

/-- `PWR_SET` (R502 to R505). -/
def effPwrSet (r : Req) (s : State) : Res × State :=
  let b := r.p.payload
  let drain := u16 b 2
  let alarm := u32 b 4
  check s (chkPwrSet r s) fun _ =>
    let target := (PwrSt.ofCode (u8 b 0)).getD .standby
    let new : PwrMove := { target := target, immediate := u8 b 1 == 1, drainMs := drain, alarm := if target == .sleep then alarm else 0, req := some r }
    match s.pwr.move with
    | none =>
      if target == s.pwr.st then done s
      else (.interim .queued, modPwr (fun p => { p with move := some new }) s)
    | some m => supersedeMove m new r s

/-- A host address entry of `PWR_CONFIG`. -/
def hostAddrOf (b : List Byte) (i : Nat) : HostAddr :=
  let o := 8 + 20 * i
  { eth := u8 b o, ip := u8 b (o + 1), udp := u16 b (o + 2), address := (b.drop (o + 4)).take 16 }

/-- What refuses `PWR_CONFIG`, in its order (step 8 of R73). -/
def chkPwrConfig (r : Req) (s : State) : List (Bool × Status) :=
  let b := r.p.payload
  let n := u8 b 3
  let l := (List.range n).map (hostAddrOf b)
  [ (r.p.target.toNat != pwrUnit, .badParam), (!s.isHost r.port && r.port != 0x88, .notOwner),
    (u8 b 0 == 0 || 7 < u8 b 0 || 15 < u8 b 2 || 4 < n || notIn 100 60000 (u16 b 4) || reservedSet b [(6, 2)], .badParam),
    (l.any fun a => (a.eth != 2 && a.eth != 3) || (a.ip != 4 && a.ip != 6), .badParam) ]

/-- `PWR_CONFIG` (R500). -/
def effPwrConfig (r : Req) (s : State) : Res × State :=
  let b := r.p.payload
  let n := u8 b 3
  let l := (List.range n).map (hostAddrOf b)
  check s (chkPwrConfig r s) fun _ =>
    done (modPwr (fun p => { p with hostBits := u8 b 0, hostSlots := u8 b 1, wakeEn := u8 b 2, drainDefault := u16 b 4, addrs := l }) s)

/-- What refuses `PWR_STATUS`, in its order (step 8 of R73). -/
def chkPwrStatus (r : Req) (s : State) : List (Bool × Status) :=
  let p := s.pwr
  [(r.p.target.toNat != pwrUnit, .badParam)]

/-- `PWR_STATUS`. -/
def effPwrStatus (r : Req) (s : State) : Res × State :=
  let p := s.pwr
  let path := fun i => (p.paths.getD i {})
  let f := fun (q : Rat) => le 4 (qf32 q).toNat
  check s (chkPwrStatus r s) fun _ =>
    let flags := bitsN [p.move.isSome, draining s, p.perfLimit, p.saveComplete, p.ign, p.wake, p.heldMove.isSome, p.exhausted]
    answer (le 1 p.st.code ++ le 1 ((p.move.map (·.target)).getD p.st).code ++ le 2 flags ++ le 2 ((path 0).st.code + 8 * (path 1).st.code)
      ++ le 1 p.bank.code ++ le 1 p.lastWake ++ f (path 0).volts ++ f (path 1).volts ++ f p.power ++ f p.cap ++ f p.bankV ++ f p.bankMf
      ++ f p.budget ++ f s.sum.tb ++ le 8 s.time) s

end Sys2Proof.Machine
end

