-- ==== Sys2Proof/Machine/SysCmd.lean ====
section
/-! DEFINITION. Chapter 03: the SYS commands, the sender rules of `SIG_WRITE`, the parameter size of every command and the
rules of every command, by opcode. -/
namespace Sys2Proof.Machine

/-! ## Ports and credits (R63, R76) -/

/-- The ports of R63. -/
def portExists (port : Nat) : Bool :=
  port < 128 || (0x80 ≤ port && port ≤ 0x88) || (0x90 ≤ port && port ≤ 0x9B) || (0xA0 ≤ port && port ≤ 0xA7) || port == 0xF0

/-- Every port of R63. -/
def allPorts : List Nat := (List.range 256).filter portExists

/-- The default credit values (R76). -/
def creditDefault (port : Nat) : Credit :=
  if port < 128 then ⟨0, 16⟩
  else if port < 0x88 then ⟨2, 32⟩
  else if port == 0x88 then ⟨2, 16⟩
  else if port < 0xA0 then ⟨1, 4⟩
  else if port < 0xB0 then ⟨4, 32⟩
  else ⟨2, 8⟩

/-- The credit values of a port. -/
def State.credit (s : State) (port : Nat) : Credit := (aget s.sys.credits port).getD (creditDefault port)

/-- The sum of the reserved counts of all ports but one. -/
def reservedSum (s : State) (but : Nat) : Nat := ((allPorts.filter (· != but)).map fun p => (s.credit p).reserved).sum

/-- The shared pool (R76). -/
def sharedPool (s : State) : Nat := 128 - (allPorts.map fun p => (s.credit p).reserved).sum

/-- The shared credits that are held. -/
def sharedHeld (s : State) : Nat := (s.sys.flights.filter (·.sharedCredit)).length

/-- The credit that a command of a port takes: none is free, a reserved one, or a shared one (R76). -/
def takeCredit (port : Nat) (s : State) : Option Bool :=
  let mine := s.sys.flights.filter fun f => f.req.port == port
  let c := s.credit port
  if c.limit ≤ mine.length then none
  else if (mine.filter fun f => !f.sharedCredit).length < c.reserved then some false
  else if sharedHeld s < sharedPool s then some true else none

/-! ## SYS commands -/

/-- The module as a target (R60). -/
def sysUnit : Nat := unit 0x01 0

/-- What refuses `SYS_IDENT`, in its order (step 8 of R73). -/
def chkSysIdent (r : Req) (s : State) : List (Bool × Status) :=
  [(r.p.target.toNat != sysUnit, .badParam)]

/-- `SYS_IDENT`. -/
def effSysIdent (r : Req) (s : State) : Res × State :=
  check s (chkSysIdent r s) fun _ => answer (identBytes s) s

/-- The `flags` of `SYS_STATUS`. -/
def sysFlags (s : State) : Nat :=
  let perf := s.pwr.perfLimit || s.vlv.ch.any fun v => v.derated || v.peakLimited
  let lock := s.id.timeLock || s.id.role == .actingManager
  bitsN [s.id.roleUnlatched, s.id.strapChanged, s.id.dupIndex, s.id.noManager, s.id.role == .displaced, s.id.clockFail, lock, perf,
    funDegraded s, s.id.summitLost, s.id.cfg.loaded]

/-- What refuses `SYS_STATUS`, in its order (step 8 of R73). -/
def chkSysStatus (r : Req) (s : State) : List (Bool × Status) :=
  [(r.p.target.toNat != sysUnit, .badParam)]

/-- `SYS_STATUS`: the command counts as in flight while it is answered. -/
def effSysStatus (r : Req) (s : State) : Res × State :=
  check s (chkSysStatus r s) fun _ =>
    answer (le 1 s.pwr.st.code ++ le 1 (b2n s.pwr.ready) ++ le 1 s.id.role.code ++ le 1 s.id.machine ++ le 4 (sysFlags s) ++ le 8 s.time
      ++ le 4 s.crn.powerCycles ++ le 2 s.sys.flights.length ++ le 2 (sharedPool s - sharedHeld s) ++ le 4 s.sys.discarded
      ++ le 4 s.sys.authFail) s

/-- The lowest session port of an Ethernet port. -/
def ethBase (eth : Nat) : Nat := if eth == 2 then 0x80 else 0x84

/-- The session that an IP address and UDP port hold on an Ethernet port (R69). -/
def addrSession (eth ip udp : Nat) (s : State) : Option Session :=
  s.sys.sessions.find? fun x => ethBase eth ≤ x.port && x.port < ethBase eth + 4 && x.ip == ip && x.udp == udp

/-- The port that an open is given: the lowest free index, the session that its address holds counted as closed; none where every
session is held (R69). -/
def openPort (via : Via) (s : State) : Option Nat :=
  match via with
  | .eth e ip udp =>
    let old := (addrSession e ip udp s).map (·.port)
    ((List.range 4).map (ethBase e + ·)).find? fun p => old == some p || !s.sys.sessions.any fun x => x.port == p
  | .svc => if s.sys.sessions.any fun x => x.port == 0x88 then none else some 0x88
  | _ => none

/-- The session that an open closes first (R69): its commands end without a reply. -/
def replaceSession (port : Nat) (r : Req) (s : State) : State :=
  { s with sys := { s.sys with flights := s.sys.flights.filter fun f => f.req.port != port || f.req == r
                               sessions := s.sys.sessions.filter fun x => x.port != port }
           crn := { s.crn with cursors := s.crn.cursors.map fun c => if c.any (·.port == port) then none else c } }

/-- The session key of R69: AES-CMAC under the slot's key over 0x01, both nonces and the port. -/
def sessionKey (key nonceHost nonceModule : List Byte) (port : Nat) : List Byte :=
  Crypto.cmac key (le 1 1 ++ nonceHost ++ nonceModule ++ le 1 port)

/-- What refuses `SYS_SESSION_OPEN`, in its order (step 8 of R73). -/
def chkSysSessionOpen (r : Req) (s : State) : List (Bool × Status) :=
  let b := r.p.payload
  let slot := u8 b 0
  let slotKey := (s.sum.sessionKeys.getD slot none).map (·.1)
  let authPort := 0x80 ≤ r.port && r.port ≤ 0x88
  let isOpen := r.p.session == 0 && r.p.seq == 0
  [ (!authPort || !isOpen, .wrongState), (r.p.target.toNat != sysUnit, .badParam),
    ((openPort r.p.via s).isNone || s.id.summitLost || s.sum.randomFault, .noResource),
    (7 < slot || reservedSet b [(1, 15)], .badParam), (slotKey.isNone, .badParam) ]

/-- `SYS_SESSION_OPEN` (R69, R525, R549). The reply to an open that ends `DONE` is sealed with counter 0 (R70): the flight of the open
has that counter. -/
def effSysSessionOpen (r : Req) (s : State) : Res × State :=
  let b := r.p.payload
  let slot := u8 b 0
  let nonceHost := (b.drop 16).take 16
  let slotKey := (s.sum.sessionKeys.getD slot none).map (·.1)
  let old := match r.p.via with | .eth e ip udp => addrSession e ip udp s | _ => none
  check s (chkSysSessionOpen r s) fun _ =>
    let port := r.port
    let (nonce, s) := takeFreeBytes 16 s
    let s := match old with | some x => replaceSession x.port r s | none => s
    let (ip, udp) := match r.p.via with | .eth _ ip udp => (ip, udp) | _ => (0, 0)
    let x : Session := { port := port, ip := ip, udp := udp, slot := slot, sk := sessionKey (slotKey.getD []) nonceHost nonce port
                         openedAt := s.time }
    let idx := if port == 0x88 then 0 else (port - 0x80) % 4
    (.fin .done (le 1 idx ++ zeros 15 ++ nonce), { s with sys := { s.sys with sessions := s.sys.sessions ++ [x] } })

/-- What refuses `SYS_SESSION_CLOSE`, in its order (step 8 of R73). -/
def chkSysSessionClose (r : Req) (s : State) : List (Bool × Status) :=
  [(r.p.target.toNat != sysUnit, .badParam)]

/-- `SYS_SESSION_CLOSE` (R71): the session closes after the reply; on another port there is no session to close. -/
def effSysSessionClose (r : Req) (s : State) : Res × State :=
  check s (chkSysSessionClose r s) fun _ =>
    done (if (s.session r.port).isSome then closeAfter r s else s)

/-- What refuses `SYS_CREDIT_SET`, in its order (step 8 of R73). -/
def chkSysCreditSet (r : Req) (s : State) : List (Bool × Status) :=
  let b := r.p.payload
  let port := u8 b 0
  let res := u8 b 1
  let lim := u8 b 2
  [ (r.p.target.toNat != sysUnit, .badParam), (!s.isHost r.port, .notOwner),
    (!portExists port || 32 < res || lim < 1 || 128 < lim || lim < res || reservedSet b [(3, 1)], .badParam),
    (96 < reservedSum s port + res, .badParam) ]

/-- `SYS_CREDIT_SET` (R76). -/
def effSysCreditSet (r : Req) (s : State) : Res × State :=
  let b := r.p.payload
  let port := u8 b 0
  let res := u8 b 1
  let lim := u8 b 2
  check s (chkSysCreditSet r s) fun _ =>
    done { s with sys := { s.sys with credits := aset s.sys.credits port ⟨res, lim⟩ } }

/-! ## `SIG_WRITE` -/

/-- The port that produces a local (R43, R45, R46, R240, R275): none for the module's own hardware, for a point that a function or
guidance drives, and for a local that no configuration allocates. -/
def producerOf (loc : Nat) (s : State) : Option Nat :=
  if 96 ≤ loc && loc < 144 then
    let v := s.valve (loc - 96)
    if v.fn.isSome || v.gde then none else some v.cfg.owner
  else if 256 ≤ loc && loc < 288 then
    let d := s.dout (loc - 256)
    if d.fn.isSome || d.gde then none else some d.owner
  else if 512 ≤ loc && loc < 576 then (s.fn ((loc - 512) % 32)).cfg.map (·.owner)
  else if 1024 ≤ loc then (s.decl loc).map (·.producer)
  else none

/-- `SIG_WRITE` (R46 to R49). -/
def effSigWrite (r : Req) (s : State) : Res × State :=
  check s (writeChecks r producerOf s) fun _ => done (writePublish r s)

/-! ## What the opcode decides -/

/-- The commands permitted on CAN (R67, R68 and each command's definition). -/
def onCan : Op → Bool
  | .sysIdent | .sysStatus | .sigRead | .sigWrite | .funState | .culStatus | .senChannelRead | .senStatus | .mapStatus | .gdeDisengage
  | .gdeStatus | .lpeLoopStatus | .lpeEngineStatus | .vlvStatus | .vlvGroupStatus | .fioStatus | .gnsRtcmPut | .gnsStatus | .timStatus
  | .fusFrameRead | .fusStatus | .camStatus | .canStatus | .fltStatus | .colStatus | .colPartitionStatus | .memStatus | .dmaStatus
  | .crnStatus | .updStatus | .pwrStatus | .sumStatus => true
  | _ => false

/-- The commands that R81 executes at once for a Class P partition: reads, and the three of a cursor. -/
def isRead (op : Op) (b : List Byte) : Bool :=
  match op with
  | .sysIdent | .sysStatus | .sysSessionOpen | .sigRead | .funState | .culStatus | .culLedgerRead | .senChannelRead | .senStatus
  | .mapTileRead | .mapStatus | .mapExportRead | .gdeStatus | .lpeLoopStatus | .lpeTraceRead | .lpeEngineStatus | .vlvStatus
  | .vlvGroupStatus | .fioStatus | .gnsStatus | .gnsChannelRead | .timStatus | .timConvert | .fusFrameRead | .fusStatus | .fusTrackRead
  | .camStatus | .canStatus | .fltStatus | .colStatus | .colPartitionStatus | .memStatus | .dmaStatus | .crnStatus | .crnCursorOpen
  | .crnRead | .crnCursorClose | .updStatus | .updMissing | .pwrStatus | .sumStatus => true
  | .fltLine => u8 b 0 == 1
  | _ => false

/-- Whether a payload has the parameter size of its command (R73 step 7). -/
def sizeOk (op : Op) (b : List Byte) : Bool :=
  let n := b.length
  match op with
  | .sysSessionOpen | .sigWrite | .sigRouteSet | .funInterlockSet | .mapFieldOpen | .timConfig | .colPartitionConfig | .fltKeySet => n == 32
  | .sysCreditSet | .sigRead | .funDisable | .funSourceSet | .culStop | .culCalRun | .gdeDisengage | .lpeLoopRun | .lpeBankSwap
  | .lpeTraceRead | .vlvDrive | .fioDoConfig | .gnsTest | .gnsRestart | .fusFrameRead | .fusTrackRead | .fltUnload | .colPartitionRun
  | .memDeviceFail | .memRemapClear | .dmaChannelSet | .crnRead | .crnClear | .updMissing | .updCommit => n == 4
  | .sigForce | .culSensorSet | .fioDiConfig | .fioAiConfig | .timConvert | .timEpochSet | .memInject | .crnCursorOpen | .updBegin => n == 16
  | .culLedgerRead | .senTrain | .senCalLoad | .mapExport | .gdeLineSelect | .gdeWasCal | .gnsChannelRead | .fusSourceSet | .camPairSet
  | .camFsyncSet | .pwrSet => n == 8
  | .funAutoSet | .senChannelSet | .camLinkSet | .canPower | .fltMemberSet | .sumConfig => n == 20
  | .mapTileRead | .mapExportRead | .canBufferSet | .canFilterSet | .canClaim | .memScrubConfig => n == 12
  | .culConfig | .lpeLoopConfig | .fusGroupSet => n == 48
  | .culStageSet | .senClassWrite => n == 68
  | .senYieldConfig | .fusConfig | .fusFrameSet => n == 64
  | .lpeTraceSet | .camVaSet | .canConfig => n == 40
  | .mapConfig | .fltHazardSet => n == 36
  | .fltConfig | .sumWindowText => n == 44
  | .funConfig => n == 244
  | .senCropSet => n == 52
  | .gdeConfig => n == 140
  | .vlvConfig => n == 96
  | .gnsConfig => n == 56
  | .camPipeSet => n == 164
  | .fltLine => n == 6
  | .memRegionSet => n == 24
  | .pwrConfig => n == 88
  | .sumKeySet => n == 104
  | .gdeLineWrite => n == 32 + 8 * u16 b 2
  | .lpeBankWrite => n == 8 + u16 b 4
  | .gnsRtcmPut => 1 ≤ n && n ≤ 4072
  | .camSensorWrite => n == 28 + 4 * u8 b 3
  | .canTtSet => n == 16 + 8 * u8 b 9
  | .colInputSet => n == 8 + 4 * u16 b 2
  | .crnAppWrite => 4 ≤ n && n ≤ 996
  | .updPiece => 17 ≤ n && n ≤ 4048
  | .sysIdent | .sysStatus | .sysSessionClose | .funEnable | .funState | .funClear | .culStart | .culStatus | .senChannelRead | .senStatus
  | .mapFieldClose | .mapStatus | .gdeEngage | .gdeStatus | .lpeLoopStatus | .lpeEngineStatus | .vlvStatus | .vlvClear | .vlvGroupStatus
  | .fioDoClear | .fioStatus | .gnsRawLatch | .gnsStatus | .timStatus | .fusStatus | .camStatus | .canRecover | .canStatus | .fltStatus
  | .colAdmit | .colStatus | .colPartitionStatus | .colRoleReturn | .colInject | .memStatus | .dmaStatus | .crnStatus | .crnCursorClose
  | .updStatus | .updInstall | .updAbort | .pwrStatus | .sumStatus => n == 0

/-- Guidance is engaged (what `FUS_CONFIG`, `FUS_FRAME_SET` and `FUS_GROUP_SET` ask). -/
def fusBusy (s : State) : Bool := gdeSteering s || s.cul.st == .running || s.cul.st == .draining

/-- `COL_ROLE_RETURN` (R434): the machine is stationary while F00's actual value is at most 0.1 km/h. -/
def stationary (s : State) : Bool :=
  match usable32 (s.handle 544) s with
  | some v => f32Le v (qf32 (1 / 10))
  | none => false

/-- What refuses `COL_ROLE_RETURN`, in its order (step 8 of R73). -/
def chkColRoleReturn (r : Req) (s : State) : List (Bool × Status) :=
  [ (r.p.target.toNat != colUnit, .badParam), (!s.isHost r.port, .notOwner),
    (s.id.role != .actingManager || !s.col.displacedPresent || !stationary s || s.col.roleReturn.isSome, .wrongState) ]

/-- `COL_ROLE_RETURN` (R434). -/
def effColRoleReturn (r : Req) (s : State) : Res × State :=
  check s (chkColRoleReturn r s) fun _ =>
    (.interim .queued, { s with col := { s.col with roleReturn := some r } })

end Sys2Proof.Machine
end

