-- ==== Sys2Proof/Machine/Effects.lean ====
section
/-! DEFINITION. The rules of every command by opcode, and the machine configuration, which brings commands of its own. -/
namespace Sys2Proof.Machine

/-- The rules of a command that has passed steps 1 to 7 of R73 (step 8). Those of chapters 04, 08 and 17 that start in a
sample come after its first steps (R93, R192, R396). -/
def effOf (r : Req) (s : State) : Res × State :=
  match r.op with
  | .sysIdent => effSysIdent r s
  | .sysStatus => effSysStatus r s
  | .sysSessionOpen => effSysSessionOpen r s
  | .sysSessionClose => effSysSessionClose r s
  | .sysCreditSet => effSysCreditSet r s
  | .sigRead => effSigRead r s
  | .sigWrite => effSigWrite r s
  | .sigRouteSet => effSigRouteSet r s
  | .sigForce => effSigForce r s
  | .funConfig => effFunConfig r s
  | .funEnable => effFunEnable r s
  | .funDisable => effFunDisable r s
  | .funSourceSet => effFunSourceSet r s
  | .funState => effFunState r s
  | .funClear => effFunClear r s
  | .funInterlockSet => effFunInterlockSet r s
  | .funAutoSet => effFunAutoSet r s
  | .culConfig => effCulConfig r s
  | .culStageSet => effCulStageSet r s
  | .culSensorSet => effCulSensorSet r s
  | .culStart => effCulStart r s
  | .culStop => effCulStop r s
  | .culStatus => effCulStatus r s
  | .culLedgerRead => effCulLedgerRead r s
  | .culCalRun => effCulCalRun r s
  | .senChannelSet => effSenChannelSet r s
  | .senClassWrite => effSenClassWrite r s
  | .senTrain => effSenTrain r s
  | .senChannelRead => effSenChannelRead r s
  | .senCropSet => effSenCropSet r s
  | .senYieldConfig => effSenYieldConfig r s
  | .senCalLoad => effSenCalLoad r s
  | .senStatus => effSenStatus r s
  | .mapFieldOpen => effMapFieldOpen r s
  | .mapFieldClose => effMapFieldClose r s
  | .mapConfig => effMapConfig r s
  | .mapTileRead => effMapTileRead r s
  | .mapStatus => effMapStatus r s
  | .mapExport => effMapExport r s
  | .mapExportRead => effMapExportRead r s
  | .gdeConfig => effGdeConfig r s
  | .gdeLineWrite => effGdeLineWrite r s
  | .gdeLineSelect => effGdeLineSelect r s
  | .gdeEngage => effGdeEngage r s
  | .gdeDisengage => effGdeDisengage r s
  | .gdeStatus => effGdeStatus r s
  | .gdeWasCal => effGdeWasCal r s
  | .lpeLoopConfig => effLpeLoopConfig (fun loc part s => producerOf loc s == some part) r s
  | .lpeLoopRun => effLpeLoopRun loopDest r s
  | .lpeBankWrite => effLpeBankWrite r s
  | .lpeBankSwap => effLpeBankSwap r s
  | .lpeLoopStatus => effLpeLoopStatus r s
  | .lpeTraceSet => effLpeTraceSet r s
  | .lpeTraceRead => effLpeTraceRead r s
  | .lpeEngineStatus => effLpeEngineStatus r s
  | .vlvConfig => effVlvConfig r s
  | .vlvDrive => effVlvDrive r s
  | .vlvStatus => effVlvStatus r s
  | .vlvClear => effVlvClear r s
  | .vlvGroupStatus => effVlvGroupStatus r s
  | .fioDiConfig => effFioDiConfig r s
  | .fioAiConfig => effFioAiConfig r s
  | .fioDoConfig => effFioDoConfig r s
  | .fioDoClear => effFioDoClear r s
  | .fioStatus => effFioStatus r s
  | .gnsConfig => effGnsConfig gdeSteering r s
  | .gnsRtcmPut => effGnsRtcmPut r s
  | .gnsRawLatch => effGnsRawLatch r s
  | .gnsTest => effGnsTest r s
  | .gnsRestart => effGnsRestart gdeSteering r s
  | .gnsStatus => effGnsStatus r s
  | .gnsChannelRead => effGnsChannelRead r s
  | .timConfig => effTimConfig r s
  | .timStatus => effTimStatus r s
  | .timConvert => effTimConvert r s
  | .timEpochSet => effTimEpochSet r s
  | .fusConfig => effFusConfig fusBusy r s
  | .fusFrameSet => effFusFrameSet fusBusy r s
  | .fusFrameRead => effFusFrameRead r s
  | .fusGroupSet => effFusGroupSet gdeSteering r s
  | .fusSourceSet => effFusSourceSet r s
  | .fusStatus => effFusStatus r s
  | .fusTrackRead => effFusTrackRead r s
  | .camLinkSet => effCamLinkSet r s
  | .camPipeSet => effCamPipeSet r s
  | .camPairSet => effCamPairSet r s
  | .camFsyncSet => effCamFsyncSet r s
  | .camSensorWrite => effCamSensorWrite r s
  | .camVaSet => effCamVaSet r s
  | .camStatus => effCamStatus r s
  | .canConfig => effCanConfig r s
  | .canBufferSet => effCanBufferSet r s
  | .canFilterSet => effCanFilterSet r s
  | .canPower => effCanPower r s
  | .canRecover => effCanRecover r s
  | .canTtSet => effCanTtSet r s
  | .canClaim => effCanClaim r s
  | .canStatus => effCanStatus r s
  | .fltConfig => effFltConfig r s
  | .fltKeySet => effFltKeySet r s
  | .fltMemberSet => effFltMemberSet r s
  | .fltHazardSet => effFltHazardSet r s
  | .fltLine => effFltLine r s
  | .fltUnload => effFltUnload r s
  | .fltStatus => effFltStatus r s
  | .colPartitionConfig => effColPartitionConfig r s
  | .colInputSet => effColInputSet r s
  | .colAdmit => effColAdmit r s
  | .colPartitionRun => effColPartitionRun r s
  | .colStatus => effColStatus r s
  | .colPartitionStatus => effColPartitionStatus r s
  | .colRoleReturn => effColRoleReturn r s
  | .colInject => effColInject r s
  | .memStatus => effMemStatus r s
  | .memScrubConfig => effMemScrubConfig r s
  | .memRegionSet => effMemRegionSet r s
  | .memDeviceFail => effMemDeviceFail r s
  | .memRemapClear => effMemRemapClear r s
  | .memInject => let x := effMemInject r s; (x.1, newMarks [u64 r.p.payload 0] s x.2)
  | .dmaChannelSet => effDmaChannelSet r s
  | .dmaStatus => effDmaStatus r s
  | .crnStatus => effCrnStatus r s
  | .crnCursorOpen => effCrnCursorOpen r s
  | .crnRead => effCrnRead r s
  | .crnCursorClose => effCrnCursorClose r s
  | .crnClear => effCrnClear r s
  | .crnAppWrite => effCrnAppWrite r s
  | .updBegin => effUpdBegin r s
  | .updPiece => effUpdPiece r s
  | .updStatus => effUpdStatus r s
  | .updMissing => effUpdMissing r s
  | .updInstall => effUpdInstall r s
  | .updCommit => effUpdCommit r s
  | .updAbort => effUpdAbort r s
  | .pwrSet => effPwrSet r s
  | .pwrConfig => effPwrConfig r s
  | .pwrStatus => effPwrStatus r s
  | .sumStatus => effSumStatus r s
  | .sumConfig => effSumConfig r s
  | .sumKeySet => effSumKeySet r s
  | .sumWindowText => effSumWindowText r s

/-- Whether a command that has passed steps 1 to 7 waits for the sample that starts it: a FUN command to a function that changes
something (R93), one of the GDE group (R192), one of the FLT group (R396). -/
def waitsSample (r : Req) (s : State) : Bool :=
  match r.op with
  | .funConfig | .funEnable | .funDisable | .funSourceSet | .funClear => funWaits r s
  | .gdeConfig | .gdeLineWrite | .gdeLineSelect | .gdeEngage | .gdeDisengage | .gdeWasCal => gdeWaits s
  | .fltConfig | .fltKeySet | .fltMemberSet | .fltHazardSet | .fltLine | .fltUnload => fltWaits s
  | _ => false

end Sys2Proof.Machine
end

