-- ==== Sys2Proof/Machine/MachCfg.lean ====
section
/-! DEFINITION. The machine configuration that the host loads into the manager and that the manager distributes (R17, R23, R45, R46, R50,
R200, R430). -/
namespace Sys2Proof.Machine

/-- The commands that a machine configuration holds: those that configure. -/
def isConfig : Op → Bool
  | .sysCreditSet | .funConfig | .funInterlockSet | .funAutoSet | .culConfig | .culStageSet | .culSensorSet | .senChannelSet | .senClassWrite
  | .senCropSet | .senYieldConfig | .mapConfig | .gdeConfig | .lpeLoopConfig | .vlvConfig | .fioDiConfig | .fioAiConfig | .fioDoConfig
  | .gnsConfig | .timConfig | .fusConfig | .fusFrameSet | .fusGroupSet | .fusSourceSet | .camLinkSet | .camPipeSet | .camPairSet
  | .camFsyncSet | .camVaSet | .canConfig | .canBufferSet | .canFilterSet | .canTtSet | .canClaim | .fltConfig | .fltMemberSet
  | .colPartitionConfig | .colInputSet | .memScrubConfig | .memRegionSet | .dmaChannelSet | .pwrConfig | .sumConfig => true
  | _ => false

/-- A command of the machine configuration is applied as the host's own, without a reply (log entry 195): whether it was accepted. -/
def applyHeld (e : Op × BitVec 32 × List Byte) (x : Bool × State) : Bool × State :=
  if !x.1 then x else if !isConfig e.1 || !sizeOk e.1 e.2.2 then (false, x.2) else
  let s := x.2
  let hostBits := s.pwr.hostBits
  let r : Req := { op := e.1, p := { time := s.time, target := e.2.1, payload := e.2.2, length := e.2.2.length }, port := 0x88 }
  let s1 := modId (fun d => { d with holding := true }) (modPwr (fun p => { p with hostBits := 4 }) s)
  let (res, s2) := effOf r s1
  let s3 := modPwr (fun p => { p with hostBits := if e.1 == .pwrConfig then p.hostBits else hostBits }) (modId (fun d => { d with holding := false }) s2)
  match res with
  | .fin st _ => (st.success, s3)
  | _ => (true, s3)

/-- A copy of a function of another module (R88): whether its parameters are accepted. -/
def applyCopy (e : Nat × List Byte) (x : Bool × State) : Bool × State :=
  if !x.1 then x
  else if 32 ≤ e.1 || !sizeOk .funConfig e.2 || funCfgBad e.1 e.2 x.2 then (false, x.2) else (true, takeCopy e.1 (funCfgOf e.2) x.2)

/-- The declarations of a configuration: a local of 1,024 to 8,191, one producer among all that name it, a type of R36 (R45, R46). -/
def declsOk (l : List DeclItem) : Bool :=
  l.all fun d => 1024 ≤ d.localNo && d.localNo < 8192 && d.producers.length ≤ 1 && d.ty < 6 && d.producers.all portExists &&
    l.all fun e => e.localNo != d.localNo || e.producers.all d.producers.contains

/-- The routes of a configuration, on this module and on the others (R34, R44, R50, R51). -/
def routesOk (l : List RouteItem) (others : List Nat) (manager : Bool) : Bool :=
  l.length ≤ 4096 && others.all (· ≤ 4096) && l.all fun r => handleOk r.handle && !(768 ≤ hLocal r.handle && hLocal r.handle < 1024) && (manager || !r.massif)

/-- The deputy that a configuration names is acceptable (R23): at most one, not index 0, a module that is present. -/
def deputyOk (c : MachineConfig) (manager : Bool) (s : State) : Bool :=
  -- a worker takes the deputy as its manager has checked it
  match c.deputies with
  | [] => true
  | [d] => d != 0 && d < 8 && (s.id.index == some d || !manager || s.id.peers.any fun p => p.index == d)
  | _ => false

/-- The manager's critical partitions are held STANDING on the deputy, admitted beside its own (R410, R419, R430); a number that
this module uses itself cannot be held. -/
def holdStanding (l : List (Nat × PartCfg)) (s : State) : Option State :=
  let s : State := { s with col := { s.col with parts := s.col.parts.filter fun e => e.2.st != .standing } }
  if l.any (fun e => 127 < e.1 || s.col.parts.any fun x => x.1 == e.1 && x.2.st != .free) then none else
  let fixed := sortBy prioLe (l.filter fun x => x.2.pair != 0xFF)
  let free := sortBy prioLe (l.filter fun x => x.2.pair == 0xFF)
  let (pl, bad) := placeAll s (fixed ++ free) [] []
  if !bad.isEmpty || !areaFits s l || 2000000000 < mirrorLoad (l.map (·.2)) then none else
  let s := l.foldl (fun s e => s.setPart e.1 { cfg := some e.2, st := .standing }) s
  some (pl.foldl (fun s x => admitPart x.1 x.2.1 s) s)

/-- The role that a configuration gives a worker (R23). -/
def cfgRole (c : MachineConfig) (s : State) : Role :=
  match s.id.role with
  | .worker | .deputy => if s.id.index.isSome && c.deputies.head? == s.id.index then .deputy else .worker
  | x => x

/-- The new route table, from the next 1 ms instant on (R50). -/
def routeSwap (l : List RouteItem) (s : State) : List RouteChange :=
  let t := nextGrid ms s
  (s.routesToCome.map fun r => ({ effectiveAt := t, remove := true, route := r } : RouteChange)) ++
    l.mapIdx fun i r => ({ effectiveAt := t, remove := false, route :=
      { entry := i, handle := r.handle, isImport := r.isImport, modules := r.modules, massif := r.massif, onChange := r.onChange, prio := r.prio
        period := r.period, fresh := r.fresh, policy := r.policy, default := r.default } } : RouteChange)

/-- The module is the machine's yield module or is not; one that no longer is ends its sources and reads NO_VALUE in 352-383 (R141). -/
def setYield (on : Bool) (s : State) : State :=
  if s.sen.isYield && !on then
    clearLocals 352 32 (modSen (fun x => { x with isYield := false, src := List.replicate 3 {}, running := none, moistFailed := false
                                                  fullSince := none, rule := 0, vol := [], frameKernels := [] }) s)
  else modSen (fun x => { x with isYield := on }) s

/-- What an accepted configuration sets. -/
def takeConfig (c : MachineConfig) (s : State) : State :=
  let role := cfgRole c s
  let cfg : MachCfg := { loaded := true, deputy := c.deputies.head?, yieldIndex := c.yieldIndex }
  let s := modId (fun d => { d with machine := c.machine, cfg := cfg, role := role }) s
  -- partition loops are those of the configuration (R200)
  let s : State := { s with lpe := { s.lpe with partLoops := [], loops := s.lpe.loops.map fun l => if l.cfg.kind == 4 then {} else l } }
  let decls := (c.decls.filter fun d => !d.producers.isEmpty).map fun d =>
    ({ localNo := d.localNo, producer := d.producers.headD 0, ty := d.ty, unit := d.unit, fresh := d.fresh } : Decl)
  -- a local that is declared anew, or no longer, reads NO_VALUE until it is published (R45)
  let kept := s.sig.own.filter fun e => e.1 < 1024 || (decls.find? (·.localNo == e.1)) == s.decl e.1
  let s : State := { s with
    sig := { s.sig with decls := decls, own := kept, routeChanges := s.sig.routeChanges ++ routeSwap c.routes s }
    sys := { s.sys with udpPort := c.udpPort }
    can := { s.can with ch := s.can.ch.mapIdx fun i x => match c.iso.find? (·.1 == i) with
      | some e => { x with isoBlock := e.2.1, isoStMin := e.2.2 } | none => { x with isoBlock := 0, isoStMin := 0 } } }
  setYield (c.yieldIndex.isSome && c.yieldIndex == s.id.index) s

/-- The critical partitions that a deputy of this configuration holds. -/
def standingOf (c : MachineConfig) (s : State) : List (Nat × PartCfg) := if cfgRole c s == .deputy then c.standing else []

/-- The manager's own critical partitions keep within the mirror traffic of R430. -/
def managerMirrorOk (c : MachineConfig) (s : State) : Bool :=
  c.deputies.isEmpty || s.id.role != .manager || mirrorLoad ((s.col.parts.filter fun e => e.2.admitted).map fun e => e.2.conf) ≤ 2000000000

/-- The Corlith UDP port and the flow control of ISO 15765-2 (R65, R67). -/
def transportsOk (c : MachineConfig) : Bool :=
  1024 ≤ c.udpPort && c.udpPort < 65536 && c.iso.all fun e => e.1 < 12 && e.2.1 < 256 && e.2.2 < 128

/-- Partition loops that the configuration names again keep what they held (log entry 25). -/
def keepPartLoops (old : List Loop) (s : State) : State :=
  { s with lpe := { s.lpe with loops := s.lpe.loops.mapIdx fun n l => if l.cfg.kind == 4 then onEngine s n (keptLoop old l.cfg) else l } }

/-- Bank swaps that wait at loops which no longer exist end (R210, log entry 25). -/
def endSwaps (old : List Loop) (s : State) : State :=
  let waits := fun (l : Loop) => l.pendingSwap.bind (·.2)
  let left := s.lpe.loops.filterMap waits
  ((old.filterMap waits).filter fun r => !left.contains r).foldl (fun s r => finish r .wrongState [] s) s

/-- The whole configuration, partition loops last, each in the order of its command (R200); none where it is refused (R23, R46, R50, R200, R430: `CONFIG_REJECTED` as a whole). -/
def loadConfig (c : MachineConfig) (s : State) : Option State :=
  let manager := s.id.role == .manager || s.id.role == .actingManager
  if 15 < c.machine || !deputyOk c manager s || !declsOk c.decls || !routesOk c.routes c.otherRoutes manager || !managerMirrorOk c s || !transportsOk c then none else
  let old := s.lpe.loops
  match holdStanding (standingOf c s) (takeConfig c s) with
  | none => none
  | some s =>
    let (ok, s) := (c.held.filter (·.1 != .lpeLoopConfig)).foldl (fun x e => applyHeld e x) (true, s)
    let s := modFun (fun x => { x with copies := [] }) (s.fun_.copies.foldl (fun s k => bindCopy k false s) s)
    let (ok, s) := c.copies.foldl (fun x e => applyCopy e x) (ok, s)
    match reallocLoops s.lpe.loops (applyValveModes s) with
    | none => none
    | some s =>
      let (ok, s) := (c.held.filter (·.1 == .lpeLoopConfig)).foldl (fun x e => applyHeld e x) (ok, s)
      if ok then some (endSwaps old (keepPartLoops old s)) else none

/-- MACHINE_CONFIG_LOAD (R17): a refused configuration changes nothing but the status of the load (R23). A module without a latched role
takes none. -/
def doMachineConfig (c : MachineConfig) (s : State) : State :=
  if s.id.role == .none || s.id.dupIndex then s else
  match loadConfig c s with
  | some s => sendMachine (modId (fun d => { d with cfgStatus := some .done }) s)
  | none => modId (fun d => { d with cfgStatus := some .configRejected }) s

end Sys2Proof.Machine
end

