-- ==== Sys2Proof/WellFormed.lean ====
section
/-! DEFINITION. The well-formed commands: every operand within the width or the number range that the spec gives it. -/
namespace Sys2Proof

/-- The ways in that exist (R63): 128 mailboxes, ETH2 and ETH3, `SVC`, CAN0 to CAN11, peers 0 to 7, Summit. -/
def Via.wf : Via → Bool
  | .mailbox n => decide (n < 128)
  | .eth port _ udp => decide (2 ≤ port ∧ port ≤ 3 ∧ udp < 65536)
  | .svc => true
  | .can c => decide (c < 12)
  | .peer i => decide (i < 8)
  | .summit => true

/-- A packet whose header fields fit their widths (R58). -/
def Packet.wf (p : Packet) : Bool := p.via.wf && decide (p.tag < 128 ∧ p.length < 65536 ∧ p.payload.length ≤ 65515 ∧ p.dstPort < 65536)

/-- The packet of a command sent to the module; none for an event. -/
def Instr.packet : Instr → Option Packet
  | .sysIdent p => some p
  | .sysStatus p => some p
  | .sysSessionOpen p => some p
  | .sysSessionClose p => some p
  | .sysCreditSet p => some p
  | .replyPacket _ _ _ _ => none
  | .packetDiscard _ _ => none
  | .queueTimeout _ _ _ => none
  | .halfOpenExpiry _ _ => none
  | .authFailReport _ => none
  | .sigRead p => some p
  | .sigWrite p => some p
  | .sigRouteSet p => some p
  | .sigForce p => some p
  | .forcedPublish _ => none
  | .forceHoldElapsed _ => none
  | .routeEffective _ => none
  | .routeExport _ => none
  | .routeRecordReceived _ _ => none
  | .staleAtReached _ => none
  | .machineConfigLoad _ _ => none
  | .funConfig p => some p
  | .funEnable p => some p
  | .funDisable p => some p
  | .funSourceSet p => some p
  | .funState p => some p
  | .funClear p => some p
  | .funInterlockSet p => some p
  | .funAutoSet p => some p
  | .functionSample _ => none
  | .interlockHoldExpiry _ => none
  | .enableTimeout _ => none
  | .recoverHold _ => none
  | .pnrTimeout _ => none
  | .switchOffComplete _ _ => none
  | .overrideEnd _ => none
  | .culConfig p => some p
  | .culStageSet p => some p
  | .culSensorSet p => some p
  | .culStart p => some p
  | .culStop p => some p
  | .culStatus p => some p
  | .culLedgerRead p => some p
  | .culCalRun p => some p
  | .calWindowEnd _ => none
  | .couloirTick _ => none
  | .poseWait _ => none
  | .velocityHoldExpiry _ => none
  | .parcelAged _ => none
  | .refillEnd _ => none
  | .impactDetected _ _ _ _ _ _ => none
  | .reportInterval _ _ => none
  | .flowDecision _ _ => none
  | .plateBlock _ _ _ => none
  | .paddlePass _ _ => none
  | .moistureSample _ _ _ _ _ _ _ => none
  | .tareRetake _ _ => none
  | .senChannelSet p => some p
  | .senClassWrite p => some p
  | .senTrain p => some p
  | .senChannelRead p => some p
  | .senCropSet p => some p
  | .senYieldConfig p => some p
  | .senCalLoad p => some p
  | .senStatus p => some p
  | .mapFieldOpen p => some p
  | .mapFieldClose p => some p
  | .mapConfig p => some p
  | .mapTileRead p => some p
  | .mapStatus p => some p
  | .mapExport p => some p
  | .exportBuilt _ => none
  | .mapExportRead p => some p
  | .tileLoadComplete _ _ _ => none
  | .tileFlush _ => none
  | .gdeConfig p => some p
  | .gdeLineWrite p => some p
  | .gdeLineSelect p => some p
  | .gdeEngage p => some p
  | .gdeDisengage p => some p
  | .gdeStatus p => some p
  | .gdeWasCal p => some p
  | .wasPointRecorded _ => none
  | .lawSample _ _ => none
  | .coastExpiry _ => none
  | .releaseRampEnd _ => none
  | .gdeSwitchOffComplete _ => none
  | .lpeLoopConfig p => some p
  | .lpeLoopRun p => some p
  | .lpeBankWrite p => some p
  | .lpeBankSwap p => some p
  | .lpeLoopStatus p => some p
  | .lpeTraceSet p => some p
  | .lpeTraceRead p => some p
  | .lpeEngineStatus p => some p
  | .loopCtrlSwap _ _ _ _ => none
  | .trcArm _ _ _ => none
  | .trcSwtrig _ _ _ => none
  | .loopSample _ _ => none
  | .outputRelease _ _ => none
  | .repPulse _ _ => none
  | .engineFault _ _ => none
  | .takeoverComplete _ _ => none
  | .spareReferenceCheck _ _ => none
  | .vlvConfig p => some p
  | .vlvDrive p => some p
  | .vlvStatus p => some p
  | .vlvClear p => some p
  | .vlvGroupStatus p => some p
  | .valveInstant _ _ _ => none
  | .testPulseEnd _ _ _ => none
  | .shortTrip _ _ _ _ => none
  | .retryWaitExpiry _ _ => none
  | .retryReset _ _ => none
  | .demagComplete _ _ _ => none
  | .demagTimeout _ _ => none
  | .offTimeEnd _ _ => none
  | .offStateCheck _ _ _ _ _ _ => none
  | .groupStateEval _ _ _ => none
  | .coilThermalUpdate _ _ _ => none
  | .resistanceMeasurement _ _ _ _ _ => none
  | .sentFrame _ _ _ _ => none
  | .valvePublish _ _ _ => none
  | .fioDiConfig p => some p
  | .fioAiConfig p => some p
  | .fioDoConfig p => some p
  | .fioDoClear p => some p
  | .fioStatus p => some p
  | .diOutChange _ _ _ => none
  | .diPeriodicPublish _ _ => none
  | .pulseFrequency _ _ => none
  | .wireBreakCheck _ _ _ _ => none
  | .aiConversion _ _ _ => none
  | .aiShuntRetry _ _ => none
  | .doInstant _ _ _ => none
  | .doTestPulseEnd _ _ _ => none
  | .doTrip _ _ _ _ => none
  | .doRetryExpiry _ _ => none
  | .doRetryReset _ _ => none
  | .doDemagComplete _ _ _ => none
  | .doOffStateCheck _ _ _ => none
  | .supplyEval _ _ _ _ => none
  | .sensorSupplyRetry _ _ => none
  | .gnsConfig p => some p
  | .gnsRtcmPut p => some p
  | .gnsRawLatch p => some p
  | .gnsTest p => some p
  | .gnsRestart p => some p
  | .gnsStatus p => some p
  | .gnsChannelRead p => some p
  | .gnssEpoch _ _ => none
  | .spoofClearTimer _ => none
  | .portStateEval _ _ _ _ _ => none
  | .correlatorSelfTest _ _ _ => none
  | .dwellComplete _ _ _ => none
  | .carrierLockLoss _ _ _ => none
  | .navUnit _ _ _ => none
  | .rtcmDatagram _ _ _ _ => none
  | .interferenceCheck _ _ _ _ _ _ => none
  | .timConfig p => some p
  | .timStatus p => some p
  | .timConvert p => some p
  | .timEpochSet p => some p
  | .timeStateEval _ _ => none
  | .ppsInEdge _ _ => none
  | .ppsInLost _ => none
  | .ppsOutEdge _ _ => none
  | .mappingStep _ => none
  | .leapSecond _ => none
  | .gptpMessage _ _ => none
  | .fusConfig p => some p
  | .fusFrameSet p => some p
  | .fusFrameRead p => some p
  | .fusGroupSet p => some p
  | .fusSourceSet p => some p
  | .fusStatus p => some p
  | .fusTrackRead p => some p
  | .fusionInstant _ _ => none
  | .posePublish _ _ => none
  | .ga1Prediction _ _ _ _ => none
  | .detectionBlock _ _ _ _ => none
  | .trackTimeout _ => none
  | .camLinkSet p => some p
  | .camPipeSet p => some p
  | .camPairSet p => some p
  | .camFsyncSet p => some p
  | .camSensorWrite p => some p
  | .camVaSet p => some p
  | .camStatus p => some p
  | .linkStateEval _ _ _ => none
  | .csi2Packet _ _ _ => none
  | .sensorWriteComplete _ _ _ => none
  | .fsyncEdge _ _ => none
  | .resyncRelease _ _ => none
  | .vaJobComplete _ _ => none
  | .canConfig p => some p
  | .canBufferSet p => some p
  | .canFilterSet p => some p
  | .canPower p => some p
  | .canRecover p => some p
  | .canTtSet p => some p
  | .canClaim p => some p
  | .canStatus p => some p
  | .canTxreq _ _ _ _ _ => none
  | .canTxabort _ _ _ _ _ => none
  | .canFrameReceived _ _ _ => none
  | .arbitrationStart _ _ => none
  | .txAttemptEnd _ _ _ => none
  | .deadlineExpiry _ _ _ => none
  | .recoveryDelayExpiry _ _ => none
  | .recoveryComplete _ _ => none
  | .alonePace _ _ => none
  | .canSelfTest _ _ _ => none
  | .canWake _ _ _ => none
  | .ttTrigger _ _ _ => none
  | .ttReference _ _ _ => none
  | .addressClaimMessage _ _ _ => none
  | .fltConfig p => some p
  | .fltKeySet p => some p
  | .fltMemberSet p => some p
  | .fltHazardSet p => some p
  | .fltLine p => some p
  | .fltUnload p => some p
  | .fltStatus p => some p
  | .exchangeInstant _ => none
  | .fleetDatagram _ _ _ _ => none
  | .dtlsHandshake _ _ => none
  | .memberTimeout _ => none
  | .grantTimeout _ => none
  | .lostHoldExpiry _ => none
  | .hazardExpiry _ => none
  | .colPartitionConfig p => some p
  | .colInputSet p => some p
  | .colAdmit p => some p
  | .colPartitionRun p => some p
  | .colStatus p => some p
  | .colPartitionStatus p => some p
  | .colRoleReturn p => some p
  | .colInject p => some p
  | .mailboxSubmit _ _ _ _ => none
  | .periodStart _ _ => none
  | .doneWrite _ _ _ _ => none
  | .commitComplete _ _ => none
  | .releaseBoundary _ _ => none
  | .wcetExpiry _ _ => none
  | .pairFault _ _ => none
  | .restoreComplete _ _ => none
  | .spareCheck _ _ _ => none
  | .commitMirrorReceived _ _ => none
  | .heartbeatSend _ => none
  | .failureNotice _ => none
  | .managerLost _ => none
  | .peerDiscovery _ _ => none
  | .memStatus p => some p
  | .memScrubConfig p => some p
  | .memRegionSet p => some p
  | .memDeviceFail p => some p
  | .memRemapClear p => some p
  | .memInject p => some p
  | .scrubRead _ _ _ _ => none
  | .scrubDue _ => none
  | .dmaChannelSet p => some p
  | .dmaStatus p => some p
  | .dmaStart _ _ _ => none
  | .dmaAbort _ _ _ => none
  | .chDoorbell _ _ _ => none
  | .descriptorComplete _ _ => none
  | .crnStatus p => some p
  | .crnCursorOpen p => some p
  | .crnRead p => some p
  | .crnCursorClose p => some p
  | .crnClear p => some p
  | .crnAppWrite p => some p
  | .cairnEventAccept _ => none
  | .recordWritten _ => none
  | .cursorTimeout _ _ => none
  | .updBegin p => some p
  | .updPiece p => some p
  | .updStatus p => some p
  | .updMissing p => some p
  | .updInstall p => some p
  | .updCommit p => some p
  | .updAbort p => some p
  | .pieceBufferTimeout _ => none
  | .componentInstalled _ _ => none
  | .rollbackRaise _ => none
  | .pendingResolve _ _ => none
  | .pwrSet p => some p
  | .pwrConfig p => some p
  | .pwrStatus p => some p
  | .powerStepComplete _ => none
  | .drainEnd _ => none
  | .drainTimeout _ => none
  | .wake _ _ => none
  | .ignEdge _ _ => none
  | .wakeEdge _ _ => none
  | .summitAlarm _ => none
  | .supplyOnStartUp _ _ => none
  | .ready _ _ => none
  | .logicPathEval _ _ _ => none
  | .supplyFailure _ _ _ => none
  | .bankMeasurement _ _ _ _ => none
  | .thermalBudget _ _ => none
  | .limitInsufficient _ => none
  | .clockWindow _ _ => none
  | .pllLossOfLock _ => none
  | .strapRead _ _ => none
  | .summitHeartbeat _ _ => none
  | .summitOscCheck _ _ => none
  | .healthPublish _ _ => none
  | .shockEvent _ _ _ _ _ _ => none
  | .humidityAlert _ _ => none
  | .randomSourceFault _ => none
  | .sumStatus p => some p
  | .sumConfig p => some p
  | .sumKeySet p => some p
  | .sumWindowText p => some p
  | .regionRecompose _ _ => none
  | .waveformStart _ _ _ => none
  | .waveformComplete _ => none
  | .biasRetry _ _ _ => none
  | .registerWrite _ _ _ _ _ => none
  | .memoryAccess _ _ => none
  | .receiveError _ _ _ => none
  | .recessiveBitsDetected _ _ => none
  | .pocOvercurrent _ _ => none
  | .pocRetry _ _ => none
  | .epochSetTimeout _ => none
  | .halfCompletion _ _ => none

/-- The module time at which a command happens. -/
def Instr.time : Instr → Nat
  | .sysIdent p => p.time
  | .sysStatus p => p.time
  | .sysSessionOpen p => p.time
  | .sysSessionClose p => p.time
  | .sysCreditSet p => p.time
  | .replyPacket t _ _ _ => t
  | .packetDiscard t _ => t
  | .queueTimeout t _ _ => t
  | .halfOpenExpiry t _ => t
  | .authFailReport t => t
  | .sigRead p => p.time
  | .sigWrite p => p.time
  | .sigRouteSet p => p.time
  | .sigForce p => p.time
  | .forcedPublish t => t
  | .forceHoldElapsed t => t
  | .routeEffective t => t
  | .routeExport t => t
  | .routeRecordReceived t _ => t
  | .staleAtReached t => t
  | .machineConfigLoad t _ => t
  | .funConfig p => p.time
  | .funEnable p => p.time
  | .funDisable p => p.time
  | .funSourceSet p => p.time
  | .funState p => p.time
  | .funClear p => p.time
  | .funInterlockSet p => p.time
  | .funAutoSet p => p.time
  | .functionSample t => t
  | .interlockHoldExpiry t => t
  | .enableTimeout t => t
  | .recoverHold t => t
  | .pnrTimeout t => t
  | .switchOffComplete t _ => t
  | .overrideEnd t => t
  | .culConfig p => p.time
  | .culStageSet p => p.time
  | .culSensorSet p => p.time
  | .culStart p => p.time
  | .culStop p => p.time
  | .culStatus p => p.time
  | .culLedgerRead p => p.time
  | .culCalRun p => p.time
  | .calWindowEnd t => t
  | .couloirTick t => t
  | .poseWait t => t
  | .velocityHoldExpiry t => t
  | .parcelAged t => t
  | .refillEnd t => t
  | .impactDetected t _ _ _ _ _ => t
  | .reportInterval t _ => t
  | .flowDecision t _ => t
  | .plateBlock t _ _ => t
  | .paddlePass t _ => t
  | .moistureSample t _ _ _ _ _ _ => t
  | .tareRetake t _ => t
  | .senChannelSet p => p.time
  | .senClassWrite p => p.time
  | .senTrain p => p.time
  | .senChannelRead p => p.time
  | .senCropSet p => p.time
  | .senYieldConfig p => p.time
  | .senCalLoad p => p.time
  | .senStatus p => p.time
  | .mapFieldOpen p => p.time
  | .mapFieldClose p => p.time
  | .mapConfig p => p.time
  | .mapTileRead p => p.time
  | .mapStatus p => p.time
  | .mapExport p => p.time
  | .exportBuilt t => t
  | .mapExportRead p => p.time
  | .tileLoadComplete t _ _ => t
  | .tileFlush t => t
  | .gdeConfig p => p.time
  | .gdeLineWrite p => p.time
  | .gdeLineSelect p => p.time
  | .gdeEngage p => p.time
  | .gdeDisengage p => p.time
  | .gdeStatus p => p.time
  | .gdeWasCal p => p.time
  | .wasPointRecorded t => t
  | .lawSample t _ => t
  | .coastExpiry t => t
  | .releaseRampEnd t => t
  | .gdeSwitchOffComplete t => t
  | .lpeLoopConfig p => p.time
  | .lpeLoopRun p => p.time
  | .lpeBankWrite p => p.time
  | .lpeBankSwap p => p.time
  | .lpeLoopStatus p => p.time
  | .lpeTraceSet p => p.time
  | .lpeTraceRead p => p.time
  | .lpeEngineStatus p => p.time
  | .loopCtrlSwap t _ _ _ => t
  | .trcArm t _ _ => t
  | .trcSwtrig t _ _ => t
  | .loopSample t _ => t
  | .outputRelease t _ => t
  | .repPulse t _ => t
  | .engineFault t _ => t
  | .takeoverComplete t _ => t
  | .spareReferenceCheck t _ => t
  | .vlvConfig p => p.time
  | .vlvDrive p => p.time
  | .vlvStatus p => p.time
  | .vlvClear p => p.time
  | .vlvGroupStatus p => p.time
  | .valveInstant t _ _ => t
  | .testPulseEnd t _ _ => t
  | .shortTrip t _ _ _ => t
  | .retryWaitExpiry t _ => t
  | .retryReset t _ => t
  | .demagComplete t _ _ => t
  | .demagTimeout t _ => t
  | .offTimeEnd t _ => t
  | .offStateCheck t _ _ _ _ _ => t
  | .groupStateEval t _ _ => t
  | .coilThermalUpdate t _ _ => t
  | .resistanceMeasurement t _ _ _ _ => t
  | .sentFrame t _ _ _ => t
  | .valvePublish t _ _ => t
  | .fioDiConfig p => p.time
  | .fioAiConfig p => p.time
  | .fioDoConfig p => p.time
  | .fioDoClear p => p.time
  | .fioStatus p => p.time
  | .diOutChange t _ _ => t
  | .diPeriodicPublish t _ => t
  | .pulseFrequency t _ => t
  | .wireBreakCheck t _ _ _ => t
  | .aiConversion t _ _ => t
  | .aiShuntRetry t _ => t
  | .doInstant t _ _ => t
  | .doTestPulseEnd t _ _ => t
  | .doTrip t _ _ _ => t
  | .doRetryExpiry t _ => t
  | .doRetryReset t _ => t
  | .doDemagComplete t _ _ => t
  | .doOffStateCheck t _ _ => t
  | .supplyEval t _ _ _ => t
  | .sensorSupplyRetry t _ => t
  | .gnsConfig p => p.time
  | .gnsRtcmPut p => p.time
  | .gnsRawLatch p => p.time
  | .gnsTest p => p.time
  | .gnsRestart p => p.time
  | .gnsStatus p => p.time
  | .gnsChannelRead p => p.time
  | .gnssEpoch t _ => t
  | .spoofClearTimer t => t
  | .portStateEval t _ _ _ _ => t
  | .correlatorSelfTest t _ _ => t
  | .dwellComplete t _ _ => t
  | .carrierLockLoss t _ _ => t
  | .navUnit t _ _ => t
  | .rtcmDatagram t _ _ _ => t
  | .interferenceCheck t _ _ _ _ _ => t
  | .timConfig p => p.time
  | .timStatus p => p.time
  | .timConvert p => p.time
  | .timEpochSet p => p.time
  | .timeStateEval t _ => t
  | .ppsInEdge t _ => t
  | .ppsInLost t => t
  | .ppsOutEdge t _ => t
  | .mappingStep t => t
  | .leapSecond t => t
  | .gptpMessage t _ => t
  | .fusConfig p => p.time
  | .fusFrameSet p => p.time
  | .fusFrameRead p => p.time
  | .fusGroupSet p => p.time
  | .fusSourceSet p => p.time
  | .fusStatus p => p.time
  | .fusTrackRead p => p.time
  | .fusionInstant t _ => t
  | .posePublish t _ => t
  | .ga1Prediction t _ _ _ => t
  | .detectionBlock t _ _ _ => t
  | .trackTimeout t => t
  | .camLinkSet p => p.time
  | .camPipeSet p => p.time
  | .camPairSet p => p.time
  | .camFsyncSet p => p.time
  | .camSensorWrite p => p.time
  | .camVaSet p => p.time
  | .camStatus p => p.time
  | .linkStateEval t _ _ => t
  | .csi2Packet t _ _ => t
  | .sensorWriteComplete t _ _ => t
  | .fsyncEdge t _ => t
  | .resyncRelease t _ => t
  | .vaJobComplete t _ => t
  | .canConfig p => p.time
  | .canBufferSet p => p.time
  | .canFilterSet p => p.time
  | .canPower p => p.time
  | .canRecover p => p.time
  | .canTtSet p => p.time
  | .canClaim p => p.time
  | .canStatus p => p.time
  | .canTxreq t _ _ _ _ => t
  | .canTxabort t _ _ _ _ => t
  | .canFrameReceived t _ _ => t
  | .arbitrationStart t _ => t
  | .txAttemptEnd t _ _ => t
  | .deadlineExpiry t _ _ => t
  | .recoveryDelayExpiry t _ => t
  | .recoveryComplete t _ => t
  | .alonePace t _ => t
  | .canSelfTest t _ _ => t
  | .canWake t _ _ => t
  | .ttTrigger t _ _ => t
  | .ttReference t _ _ => t
  | .addressClaimMessage t _ _ => t
  | .fltConfig p => p.time
  | .fltKeySet p => p.time
  | .fltMemberSet p => p.time
  | .fltHazardSet p => p.time
  | .fltLine p => p.time
  | .fltUnload p => p.time
  | .fltStatus p => p.time
  | .exchangeInstant t => t
  | .fleetDatagram t _ _ _ => t
  | .dtlsHandshake t _ => t
  | .memberTimeout t => t
  | .grantTimeout t => t
  | .lostHoldExpiry t => t
  | .hazardExpiry t => t
  | .colPartitionConfig p => p.time
  | .colInputSet p => p.time
  | .colAdmit p => p.time
  | .colPartitionRun p => p.time
  | .colStatus p => p.time
  | .colPartitionStatus p => p.time
  | .colRoleReturn p => p.time
  | .colInject p => p.time
  | .mailboxSubmit t _ _ _ => t
  | .periodStart t _ => t
  | .doneWrite t _ _ _ => t
  | .commitComplete t _ => t
  | .releaseBoundary t _ => t
  | .wcetExpiry t _ => t
  | .pairFault t _ => t
  | .restoreComplete t _ => t
  | .spareCheck t _ _ => t
  | .commitMirrorReceived t _ => t
  | .heartbeatSend t => t
  | .failureNotice t => t
  | .managerLost t => t
  | .peerDiscovery t _ => t
  | .memStatus p => p.time
  | .memScrubConfig p => p.time
  | .memRegionSet p => p.time
  | .memDeviceFail p => p.time
  | .memRemapClear p => p.time
  | .memInject p => p.time
  | .scrubRead t _ _ _ => t
  | .scrubDue t => t
  | .dmaChannelSet p => p.time
  | .dmaStatus p => p.time
  | .dmaStart t _ _ => t
  | .dmaAbort t _ _ => t
  | .chDoorbell t _ _ => t
  | .descriptorComplete t _ => t
  | .crnStatus p => p.time
  | .crnCursorOpen p => p.time
  | .crnRead p => p.time
  | .crnCursorClose p => p.time
  | .crnClear p => p.time
  | .crnAppWrite p => p.time
  | .cairnEventAccept t => t
  | .recordWritten t => t
  | .cursorTimeout t _ => t
  | .updBegin p => p.time
  | .updPiece p => p.time
  | .updStatus p => p.time
  | .updMissing p => p.time
  | .updInstall p => p.time
  | .updCommit p => p.time
  | .updAbort p => p.time
  | .pieceBufferTimeout t => t
  | .componentInstalled t _ => t
  | .rollbackRaise t => t
  | .pendingResolve t _ => t
  | .pwrSet p => p.time
  | .pwrConfig p => p.time
  | .pwrStatus p => p.time
  | .powerStepComplete t => t
  | .drainEnd t => t
  | .drainTimeout t => t
  | .wake t _ => t
  | .ignEdge t _ => t
  | .wakeEdge t _ => t
  | .summitAlarm t => t
  | .supplyOnStartUp t _ => t
  | .ready t _ => t
  | .logicPathEval t _ _ => t
  | .supplyFailure t _ _ => t
  | .bankMeasurement t _ _ _ => t
  | .thermalBudget t _ => t
  | .limitInsufficient t => t
  | .clockWindow t _ => t
  | .pllLossOfLock t => t
  | .strapRead t _ => t
  | .summitHeartbeat t _ => t
  | .summitOscCheck t _ => t
  | .healthPublish t _ => t
  | .shockEvent t _ _ _ _ _ => t
  | .humidityAlert t _ => t
  | .randomSourceFault t => t
  | .sumStatus p => p.time
  | .sumConfig p => p.time
  | .sumKeySet p => p.time
  | .sumWindowText p => p.time
  | .regionRecompose t _ => t
  | .waveformStart t _ _ => t
  | .waveformComplete t => t
  | .biasRetry t _ _ => t
  | .registerWrite t _ _ _ _ => t
  | .memoryAccess t _ => t
  | .receiveError t _ _ => t
  | .recessiveBitsDetected t _ => t
  | .pocOvercurrent t _ => t
  | .pocRetry t _ => t
  | .epochSetTimeout t => t
  | .halfCompletion t _ => t

/-- The well-formed commands. -/
def Instr.wf : Instr → Bool
  | .sysIdent p => p.wf
  | .sysStatus p => p.wf
  | .sysSessionOpen p => p.wf
  | .sysSessionClose p => p.wf
  | .sysCreditSet p => p.wf
  | .replyPacket _ p opcode status => p.wf && decide (opcode < 65536 ∧ status < 256)
  | .packetDiscard _ _ => true
  | .queueTimeout _ port tag => decide (port < 256 ∧ tag < 128)
  | .halfOpenExpiry _ port => decide (port < 256)
  | .authFailReport _ => true
  | .sigRead p => p.wf
  | .sigWrite p => p.wf
  | .sigRouteSet p => p.wf
  | .sigForce p => p.wf
  | .forcedPublish _ => true
  | .forceHoldElapsed _ => true
  | .routeEffective _ => true
  | .routeExport _ => true
  | .routeRecordReceived _ _ => true
  | .staleAtReached _ => true
  | .machineConfigLoad _ _ => true
  | .funConfig p => p.wf
  | .funEnable p => p.wf
  | .funDisable p => p.wf
  | .funSourceSet p => p.wf
  | .funState p => p.wf
  | .funClear p => p.wf
  | .funInterlockSet p => p.wf
  | .funAutoSet p => p.wf
  | .functionSample _ => true
  | .interlockHoldExpiry _ => true
  | .enableTimeout _ => true
  | .recoverHold _ => true
  | .pnrTimeout _ => true
  | .switchOffComplete _ _ => true
  | .overrideEnd _ => true
  | .culConfig p => p.wf
  | .culStageSet p => p.wf
  | .culSensorSet p => p.wf
  | .culStart p => p.wf
  | .culStop p => p.wf
  | .culStatus p => p.wf
  | .culLedgerRead p => p.wf
  | .culCalRun p => p.wf
  | .calWindowEnd _ => true
  | .couloirTick _ => true
  | .poseWait _ => true
  | .velocityHoldExpiry _ => true
  | .parcelAged _ => true
  | .refillEnd _ => true
  | .impactDetected _ ch age _ _ _ => decide (ch < 16 ∧ age < 500)
  | .reportInterval _ _ => true
  | .flowDecision _ _ => true
  | .plateBlock _ samples _ => decide (samples.length = 50)
  | .paddlePass _ _ => true
  | .moistureSample _ _ _ _ _ _ _ => true
  | .tareRetake _ block => block.isEmpty || decide (block.length = 50)
  | .senChannelSet p => p.wf
  | .senClassWrite p => p.wf
  | .senTrain p => p.wf
  | .senChannelRead p => p.wf
  | .senCropSet p => p.wf
  | .senYieldConfig p => p.wf
  | .senCalLoad p => p.wf
  | .senStatus p => p.wf
  | .mapFieldOpen p => p.wf
  | .mapFieldClose p => p.wf
  | .mapConfig p => p.wf
  | .mapTileRead p => p.wf
  | .mapStatus p => p.wf
  | .mapExport p => p.wf
  | .exportBuilt _ => true
  | .mapExportRead p => p.wf
  | .tileLoadComplete _ _ _ => true
  | .tileFlush _ => true
  | .gdeConfig p => p.wf
  | .gdeLineWrite p => p.wf
  | .gdeLineSelect p => p.wf
  | .gdeEngage p => p.wf
  | .gdeDisengage p => p.wf
  | .gdeStatus p => p.wf
  | .gdeWasCal p => p.wf
  | .wasPointRecorded _ => true
  | .lawSample _ _ => true
  | .coastExpiry _ => true
  | .releaseRampEnd _ => true
  | .gdeSwitchOffComplete _ => true
  | .lpeLoopConfig p => p.wf
  | .lpeLoopRun p => p.wf
  | .lpeBankWrite p => p.wf
  | .lpeBankSwap p => p.wf
  | .lpeLoopStatus p => p.wf
  | .lpeTraceSet p => p.wf
  | .lpeTraceRead p => p.wf
  | .lpeEngineStatus p => p.wf
  | .loopCtrlSwap _ loop partition value => decide (loop < 128 ∧ partition < 128 ∧ value < 4294967296)
  | .trcArm _ traceUnit partition => decide (traceUnit < 8 ∧ partition < 128)
  | .trcSwtrig _ traceUnit partition => decide (traceUnit < 8 ∧ partition < 128)
  | .loopSample _ loop => decide (loop < 128)
  | .outputRelease _ loop => decide (loop < 128)
  | .repPulse _ di => decide (di < 64)
  | .engineFault _ physical => decide (physical < 9)
  | .takeoverComplete _ logical => decide (logical < 8)
  | .spareReferenceCheck _ _ => true
  | .vlvConfig p => p.wf
  | .vlvDrive p => p.wf
  | .vlvStatus p => p.wf
  | .vlvClear p => p.wf
  | .vlvGroupStatus p => p.wf
  | .valveInstant _ ch _ => decide (ch < 48)
  | .testPulseEnd _ ch _ => decide (ch < 48)
  | .shortTrip _ ch _ _ => decide (ch < 48)
  | .retryWaitExpiry _ ch => decide (ch < 48)
  | .retryReset _ ch => decide (ch < 48)
  | .demagComplete _ ch _ => decide (ch < 48)
  | .demagTimeout _ ch => decide (ch < 48)
  | .offTimeEnd _ ch => decide (ch < 48)
  | .offStateCheck _ ch _ _ _ _ => decide (ch < 48)
  | .groupStateEval _ g _ => decide (g < 4)
  | .coilThermalUpdate _ ch _ => decide (ch < 48)
  | .resistanceMeasurement _ ch _ _ _ => decide (ch < 48)
  | .sentFrame _ ch _ _ => decide (ch < 48)
  | .valvePublish _ ch _ => decide (ch < 48)
  | .fioDiConfig p => p.wf
  | .fioAiConfig p => p.wf
  | .fioDoConfig p => p.wf
  | .fioDoClear p => p.wf
  | .fioStatus p => p.wf
  | .diOutChange _ di _ => decide (di < 64)
  | .diPeriodicPublish _ di => decide (di < 64)
  | .pulseFrequency _ di => decide (di < 64)
  | .wireBreakCheck _ di _ _ => decide (di < 64)
  | .aiConversion _ ai m => decide (ai < 16) && m.samples.length == 20
  | .aiShuntRetry _ ai => decide (ai < 16)
  | .doInstant _ out _ => decide (out < 32)
  | .doTestPulseEnd _ out _ => decide (out < 32)
  | .doTrip _ out _ _ => decide (out < 32)
  | .doRetryExpiry _ out => decide (out < 32)
  | .doRetryReset _ out => decide (out < 32)
  | .doDemagComplete _ out _ => decide (out < 32)
  | .doOffStateCheck _ out _ => decide (out < 32)
  | .supplyEval _ supply _ _ => decide (supply < 4)
  | .sensorSupplyRetry _ supply => decide (supply < 4)
  | .gnsConfig p => p.wf
  | .gnsRtcmPut p => p.wf
  | .gnsRawLatch p => p.wf
  | .gnsTest p => p.wf
  | .gnsRestart p => p.wf
  | .gnsStatus p => p.wf
  | .gnsChannelRead p => p.wf
  | .gnssEpoch _ _ => true
  | .spoofClearTimer _ => true
  | .portStateEval _ port _ _ _ => decide (port < 3)
  | .correlatorSelfTest _ port _ => decide (port < 3)
  | .dwellComplete _ ch _ => decide (ch < 384)
  | .carrierLockLoss _ ch _ => decide (ch < 384)
  | .navUnit _ ch _ => decide (ch < 384)
  | .rtcmDatagram _ udp _ _ => decide (udp < 65536)
  | .interferenceCheck _ port _ _ _ _ => decide (port < 3)
  | .timConfig p => p.wf
  | .timStatus p => p.wf
  | .timConvert p => p.wf
  | .timEpochSet p => p.wf
  | .timeStateEval _ _ => true
  | .ppsInEdge _ _ => true
  | .ppsInLost _ => true
  | .ppsOutEdge _ out => decide (out < 2)
  | .mappingStep _ => true
  | .leapSecond _ => true
  | .gptpMessage _ _ => true
  | .fusConfig p => p.wf
  | .fusFrameSet p => p.wf
  | .fusFrameRead p => p.wf
  | .fusGroupSet p => p.wf
  | .fusSourceSet p => p.wf
  | .fusStatus p => p.wf
  | .fusTrackRead p => p.wf
  | .fusionInstant _ _ => true
  | .posePublish _ _ => true
  | .ga1Prediction _ _ _ _ => true
  | .detectionBlock _ source _ _ => decide (source < 8)
  | .trackTimeout _ => true
  | .camLinkSet p => p.wf
  | .camPipeSet p => p.wf
  | .camPairSet p => p.wf
  | .camFsyncSet p => p.wf
  | .camSensorWrite p => p.wf
  | .camVaSet p => p.wf
  | .camStatus p => p.wf
  | .linkStateEval _ link _ => decide (link < 4)
  | .csi2Packet _ link _ => decide (link < 4)
  | .sensorWriteComplete _ link _ => decide (link < 4)
  | .fsyncEdge _ output => decide (output < 8)
  | .resyncRelease _ pair => decide (pair < 4)
  | .vaJobComplete _ _ => true
  | .canConfig p => p.wf
  | .canBufferSet p => p.wf
  | .canFilterSet p => p.wf
  | .canPower p => p.wf
  | .canRecover p => p.wf
  | .canTtSet p => p.wf
  | .canClaim p => p.wf
  | .canStatus p => p.wf
  | .canTxreq _ ch partition word value => decide (ch < 12 ∧ partition < 128 ∧ word < 4 ∧ value < 4294967296)
  | .canTxabort _ ch partition word value => decide (ch < 12 ∧ partition < 128 ∧ word < 4 ∧ value < 4294967296)
  | .canFrameReceived _ ch _ => decide (ch < 12)
  | .arbitrationStart _ ch => decide (ch < 12)
  | .txAttemptEnd _ ch _ => decide (ch < 12)
  | .deadlineExpiry _ ch buffer => decide (ch < 12 ∧ buffer < 128)
  | .recoveryDelayExpiry _ ch => decide (ch < 12)
  | .recoveryComplete _ ch => decide (ch < 12)
  | .alonePace _ ch => decide (ch < 12)
  | .canSelfTest _ ch _ => decide (ch < 12)
  | .canWake _ ch _ => decide (ch < 12)
  | .ttTrigger _ ch _ => decide (ch < 12)
  | .ttReference _ ch _ => decide (ch < 12)
  | .addressClaimMessage _ ch _ => decide (ch < 12)
  | .fltConfig p => p.wf
  | .fltKeySet p => p.wf
  | .fltMemberSet p => p.wf
  | .fltHazardSet p => p.wf
  | .fltLine p => p.wf
  | .fltUnload p => p.wf
  | .fltStatus p => p.wf
  | .exchangeInstant _ => true
  | .fleetDatagram _ _ _ _ => true
  | .dtlsHandshake _ member => decide (member < 16)
  | .memberTimeout _ => true
  | .grantTimeout _ => true
  | .lostHoldExpiry _ => true
  | .hazardExpiry _ => true
  | .colPartitionConfig p => p.wf
  | .colInputSet p => p.wf
  | .colAdmit p => p.wf
  | .colPartitionRun p => p.wf
  | .colStatus p => p.wf
  | .colPartitionStatus p => p.wf
  | .colRoleReturn p => p.wf
  | .colInject p => p.wf
  | .mailboxSubmit _ partition _ _ => decide (partition < 128)
  | .periodStart _ partition => decide (partition < 128)
  | .doneWrite _ partition value _ => decide (partition < 128 ∧ value < 18446744073709551616)
  | .commitComplete _ partition => decide (partition < 128)
  | .releaseBoundary _ _ => true
  | .wcetExpiry _ partition => decide (partition < 128)
  | .pairFault _ _ => true
  | .restoreComplete _ pair => decide (pair < 18)
  | .spareCheck _ pair _ => decide (pair < 18)
  | .commitMirrorReceived _ _ => true
  | .heartbeatSend _ => true
  | .failureNotice _ => true
  | .managerLost _ => true
  | .peerDiscovery _ _ => true
  | .memStatus p => p.wf
  | .memScrubConfig p => p.wf
  | .memRegionSet p => p.wf
  | .memDeviceFail p => p.wf
  | .memRemapClear p => p.wf
  | .memInject p => p.wf
  | .scrubRead _ line _ _ => decide (line < 281474976710656)
  | .scrubDue _ => true
  | .dmaChannelSet p => p.wf
  | .dmaStatus p => p.wf
  | .dmaStart _ ch partition => decide (ch < 16 ∧ partition < 128)
  | .dmaAbort _ ch partition => decide (ch < 16 ∧ partition < 128)
  | .chDoorbell _ ch partition => decide (ch < 16 ∧ partition < 128)
  | .descriptorComplete _ ch => decide (ch < 16)
  | .crnStatus p => p.wf
  | .crnCursorOpen p => p.wf
  | .crnRead p => p.wf
  | .crnCursorClose p => p.wf
  | .crnClear p => p.wf
  | .crnAppWrite p => p.wf
  | .cairnEventAccept _ => true
  | .recordWritten _ => true
  | .cursorTimeout _ cursor => decide (cursor < 8)
  | .updBegin p => p.wf
  | .updPiece p => p.wf
  | .updStatus p => p.wf
  | .updMissing p => p.wf
  | .updInstall p => p.wf
  | .updCommit p => p.wf
  | .updAbort p => p.wf
  | .pieceBufferTimeout _ => true
  | .componentInstalled _ _ => true
  | .rollbackRaise _ => true
  | .pendingResolve _ managerImage => decide (managerImage < 65536)
  | .pwrSet p => p.wf
  | .pwrConfig p => p.wf
  | .pwrStatus p => p.wf
  | .powerStepComplete _ => true
  | .drainEnd _ => true
  | .drainTimeout _ => true
  | .wake _ source => decide (source < 256)
  | .ignEdge _ _ => true
  | .wakeEdge _ _ => true
  | .summitAlarm _ => true
  | .supplyOnStartUp _ _ => true
  | .ready _ _ => true
  | .logicPathEval _ _ _ => true
  | .supplyFailure _ _ _ => true
  | .bankMeasurement _ _ _ _ => true
  | .thermalBudget _ _ => true
  | .limitInsufficient _ => true
  | .clockWindow _ _ => true
  | .pllLossOfLock _ => true
  | .strapRead _ straps => decide (straps < 8)
  | .summitHeartbeat _ _ => true
  | .summitOscCheck _ _ => true
  | .healthPublish _ _ => true
  | .shockEvent _ _ _ _ _ _ => true
  | .humidityAlert _ _ => true
  | .randomSourceFault _ => true
  | .sumStatus p => p.wf
  | .sumConfig p => p.wf
  | .sumKeySet p => p.wf
  | .sumWindowText p => p.wf
  | .regionRecompose _ region => decide (region < 4)
  | .waveformStart _ _ _ => true
  | .waveformComplete _ => true
  | .biasRetry _ _ _ => true
  | .registerWrite _ partition addr width value => decide (partition < 128 ∧ addr < 281474976710656 ∧ width < 9 ∧ value < 18446744073709551616)
  | .memoryAccess _ _ => true
  | .receiveError _ ch _ => decide (ch < 12)
  | .recessiveBitsDetected _ ch => decide (ch < 12)
  | .pocOvercurrent _ link => decide (link < 4)
  | .pocRetry _ link => decide (link < 4)
  | .epochSetTimeout _ => true
  | .halfCompletion _ ch => decide (ch < 16)

end Sys2Proof
end

