-- ==== Sys2Proof/Machine/Pipeline.lean ====
section
/-! DEFINITION. Chapter 03: how a packet is checked and admitted (R58 to R83), sessions, chains, the Col hold of Class P commands (R48,
R81), the mailbox, and the release boundary (R417). -/
namespace Sys2Proof.Machine

/-! ## Arrival -/

/-- The payload bytes that a packet's `length` names. -/
def payloadOf (p : Packet) : List Byte := (p.payload ++ zeros (p.length - p.payload.length)).take p.length

/-- A packet as the checks see it: its payload cut to `length`, its time the module time. -/
def normal (p : Packet) (s : State) : Packet := { p with time := s.time, payload := payloadOf p }

/-- The 16 header bytes of a command as received (R58), with given session data. -/
def commandHeader (opcode : Nat) (p : Packet) (session : BitVec 32) : List Byte :=
  le 2 opcode ++ le 1 (p.tag % 128) ++ le 1 p.flags.toNat ++ le 4 p.target.toNat ++ le 2 p.length ++ le 2 p.seq.toNat ++ le 4 session.toNat

/-- Whether the trailer matches (R59). -/
def crcOk (opcode : Nat) (p : Packet) : Bool := Crypto.crc32c (commandHeader opcode p p.session ++ p.payload) == p.crc.toNat

/-- An open (R549). -/
def isOpenPacket (opcode : Nat) (p : Packet) : Bool := opcode == 0x0103 && p.session == 0 && p.seq == 0

/-- What a packet's way in makes of it. -/
inductive Arrival where
  /-- no packet of the module's: nothing happens -/
  | nothing
  /-- a datagram of no session, on an Ethernet port -/
  | stranger (eth : Nat)
  /-- on a port; `auth` where session data must be valid -/
  | on (port : Nat) (auth : Bool)
deriving DecidableEq, Repr, Inhabited

/-- Whether a CAN channel carries Corlith packets now (R67). -/
def canPort (c : Nat) (s : State) : Bool :=
  c < 12 && (s.canCh c).cfg.enable && (s.canCh c).cfg.corlith && ((s.canCh c).st == .errorActive || (s.canCh c).st == .errorPassive)

/-- The port of a packet (R63, R69). An open is answered under the port assigned to it, and under the lowest session port of its
transport where none is free. -/
def arrival (opcode : Nat) (p : Packet) (s : State) : Arrival :=
  match p.via with
  | .mailbox n => if n < 128 then .on n false else .nothing
  | .eth e ip udp =>
    if !((e == 2 || e == 3) && s.pwr.ethUp && p.dstPort == s.sys.udpPort) then .nothing
    else if isOpenPacket opcode p then .on ((openPort p.via s).getD (ethBase e)) false
    else match addrSession e ip udp s with
      | some x => .on x.port true
      | none => .stranger e
  | .svc => .on 0x88 (!isOpenPacket opcode p)
  | .can c => if canPort c s then .on (0x90 + c) false else .nothing
  | .peer i => if s.id.peers.any (fun q => q.index == i) && i < 8 then .on (0xA0 + i) false else .nothing
  | .summit => if s.id.summitLost then .nothing else .on 0xF0 false

/-- Packets reach the module while its main domain is powered (R498); past the point of no return of a step to SLEEP or OFF none
is taken (R505). -/
def reachable_ (s : State) : Bool :=
  s.mainOn && !(s.pwr.st == .standby && s.pwr.move.any fun m => m.pastPnr && m.target.code < 2)

/-! ## Sessions (R69 to R72) -/

/-- A packet without a readable header, or a reply that answers nothing, is counted (R74, R75). -/
def countDiscarded (s : State) : State := { s with sys := { s.sys with discarded := (s.sys.discarded + 1) % 2 ^ 32 } }

/-- A failure of authentication is counted for its port (R72). -/
def countFailure (port : Nat) (s : State) : State :=
  let old := (s.sys.authCounts.find? fun c => c.port == port).getD { port := port }
  { s with sys := { s.sys with authFail := (s.sys.authFail + 1) % 2 ^ 32
                               authCounts := { old with failures := old.failures + 1 } :: s.sys.authCounts.filter fun c => c.port != port } }

/-- Whether one more `AUTH_FAIL` reply may be sent on a port in this second (R72), and its count. -/
def mayTellFailure (port : Nat) (s : State) : Bool × State :=
  let now := s.time / sec
  let old := (s.sys.authCounts.find? fun c => c.port == port).getD { port := port }
  let n := if old.second == now then old.replies else 0
  let new := { old with second := now, replies := if n < 10 then n + 1 else n }
  (n < 10, { s with sys := { s.sys with authCounts := new :: s.sys.authCounts.filter fun c => c.port != port } })

/-- The counter that a received `seq` stands for (R71): the smallest value above the highest accepted less 64 with these low 16 bits. -/
def rebuildCounter (highest seq : Nat) : Nat :=
  let lowest := highest - 63
  lowest + (seq + 65536 - lowest % 65536) % 65536

/-- The counter of a packet that is valid on a session (R70, R71). -/
def acceptedCounter (opcode : Nat) (p : Packet) (x : Session) : Option Nat :=
  let c := rebuildCounter x.highest p.seq.toNat
  let fresh := x.highest < c || (c < x.highest && 0 < c && !x.seen.contains c)
  if x.last || 0xFFFFFFFF < c || !fresh then none
  else if sessionData x.sk 0 c (commandHeader opcode p 0) p.payload == p.session then some c else none

/-- The group permission of a session's slot (R72); `SYS_SESSION_CLOSE` is exempt (R549). -/
def groupOk (opcode : Nat) (x : Session) (s : State) : Bool :=
  opcode == 0x0104 || bitOf (((s.sum.sessionKeys.getD x.slot none).map (·.2)).getD 0) (opcode / 256)

/-- A counter counts as used, and the session is open (R69, R71). -/
def useCounter (c : Nat) (x : Session) : Session :=
  let hi := max x.highest c
  { x with highest := hi, halfOpen := false, last := x.last || c == 0xFFFFFFFF
           seen := ((if x.highest < c then x.seen ++ [x.highest] else x.seen ++ [c]).filter fun k => hi < k + 64) }

/-- Replace the session of a port. -/
def modSession (port : Nat) (f : Session → Session) (s : State) : State :=
  { s with sys := { s.sys with sessions := s.sys.sessions.map fun x => if x.port == port then f x else x } }

/-! ## Steps 1 to 7 of R73 -/

/-- The dispatcher and the last shared credit as one resource of R56 (R77, log entry 250). -/
def dispatcher : Nat := 1

/-- What the checks make of a packet. -/
inductive Gate where
  /-- discarded without a reply, or refused with one: nothing more happens -/
  | stop (s : State)
  /-- admitted: the request, and the state in which it holds its tag and credit -/
  | go (r : Req) (s : State)
deriving Inhabited

/-- A refusal: the first failing check's status. -/
def refuse (r : Req) (st : Status) (s : State) : Gate := .stop (sendReply r st [] true s)

/-- A refused member ends its chain badly (R83, log entry 19); a session whose last counter it used may close (R71). -/
def refuseMember (r : Req) (st : Status) (s : State) : Gate :=
  let chained := r.p.flags.getLsbD 3
  let chains := if chained then aset s.sys.chains r.port { prev := none, broken := true } else adel s.sys.chains r.port
  let inChain := chained || (aget s.sys.chains r.port).isSome
  .stop (closeSpent r.port (sendReply r st [] true (if inChain then { s with sys := { s.sys with chains := chains } } else s)))

/-- An admitted command holds its tag and credit, and has won at the dispatcher (R76, R77). -/
def holdCredit (r : Req) (shared : Bool) (s : State) : State :=
  grant dispatcher (r.p.flags.toNat % 4) r.port
    { s with sys := { s.sys with flights := s.sys.flights ++ [{ req := r, admitted := s.time, sharedCredit := shared }] } }

/-- Steps 4 to 7. An opcode that is no command's ends at step 4 (R62). -/
def gateRest (r : Req) (s : State) : Gate :=
  let open_ := r.op == .sysSessionOpen && r.ctr.isNone
  let s := if open_ then { s with sys := { s.sys with chains := adel s.sys.chains r.port } } else s
  let old := match r.p.via with | .eth e ip udp => if open_ then addrSession e ip udp s else none | _ => none
  -- an open closes the session that its address holds first (R69); one that its own checks refuse leaves it
  let after := match old with
    | some x => if ((chkSysSessionOpen r s).find? (·.1)).isSome then s else replaceSession x.port r s
    | none => s
  if r.raw.isSome || (0x90 ≤ r.port && r.port ≤ 0x9B && !onCan r.op) then refuseMember r .badOpcode s
  else if after.sys.flights.any fun f => f.req.port == r.port && f.req.p.tag == r.p.tag then refuseMember r .tagInUse s
  else match takeCredit r.port after with
    | none => refuseMember r .noResource s
    | some shared =>
      if !sizeOk r.op r.p.payload then refuseMember r .badLength s
      else if r.p.flags.toNat / 16 != 0 then refuseMember r .badParam s
      else .go r (holdCredit r shared after)

/-- Step 3: the session data and the group (R71, R72). -/
def gateAuth (r : Req) (opcode : Nat) (s : State) : Gate :=
  match s.session r.port with
  | some x =>
    match acceptedCounter opcode r.p x with
    | some c =>
      if groupOk opcode x s then
        gateRest { r with ctr := some c } (modSession r.port (useCounter c) s)
      else fail
    | none => fail
  | none => fail
where
  /-- `AUTH_FAIL`, at most ten times a second. -/
  fail : Gate :=
    let (tell, s) := mayTellFailure r.port (countFailure r.port s)
    if tell then refuse r .authFail s else .stop s

/-- Steps 1 to 7 of R73 for a packet with an opcode; `raw` is that opcode where no command has it. The received length of a mailbox
packet is its header's, and that of `SVC` is not trusted beyond 4,092 bytes (R74). -/
def gateCode (op : Op) (raw : Option Nat) (p0 : Packet) (s : State) : Gate :=
  let p := normal p0 s
  let code := raw.getD (opCode op)
  let mailbox := match p.via with | .mailbox _ => true | _ => false
  let short := !mailbox && p.rxLength < 16
  let badLen := 4072 < p.length || (!mailbox && p.rxLength != 20 + p.length)
  match arrival code p s with
  | .nothing => .stop s
  | .stranger e => .stop (countFailure (ethBase e) (if short then countDiscarded s else s))
  | .on port auth =>
    let r : Req := { op := op, p := p, port := port, raw := raw }
    if short || (port == 0x88 && 4092 < p.rxLength) then .stop (countDiscarded s)
    else if badLen then refuse r .badLength s
    else if !crcOk code p then refuse r .badCrc s
    else if auth then gateAuth r code s
    else gateRest r s

/-- Steps 1 to 7 of R73 for a packet of a command. -/
def gate (op : Op) (p : Packet) (s : State) : Gate := gateCode op none p s

/-! ## Starting (R78, R81, R83) -/

/-- Change the flight of a request. -/
def modFlight (r : Req) (f : Flight → Flight) (s : State) : State :=
  { s with sys := { s.sys with flights := s.sys.flights.map fun x =>
    if x.req.port == r.port && x.req.p.tag == r.p.tag then f x else x } }

/-- What follows an ended or accepted command at once: a power move goes on (R502), a due restart happens (R492). -/
def afterCommand (op : Op) (s : State) : State := restartIfDue (if op == .pwrSet then runMove 6 s else s)

/-- A command starts: its own rules decide (R73 step 8), or it waits for the sample that starts it. -/
def start (r : Req) (s : State) : State :=
  if waitsSample r s then awaitSample r s else afterCommand r.op (settle r (effOf r s))

/-- Commands whose turn has come (R82), their predecessor in the chain having ended, start or break off (R83). -/
def startWaiting : Nat → State → State
  | 0, s => s
  | n + 1, s =>
    match s.sys.flights.find? fun f => f.chain == .broken || (f.chain == .go && (f.colPeriod.isSome || !blocked f.req s)) with
    | none => s
    | some f =>
      let s := modFlight f.req (fun x => { x with chain := .free }) s
      if f.chain == .broken then startWaiting n (finish f.req .wrongState [] s)
      else if f.colPeriod.isSome then startWaiting n s
      else startWaiting n (start f.req s)

/-- Whether R81 holds a command: it comes from a partition whose period has not been released yet, and changes state outside it (R48). -/
def heldByCol (r : Req) (s : State) : Bool :=
  match partOfPort r.port with
  | some n => ((s.part n).inPeriod || (s.part n).committing || (s.part n).committed) && !isRead r.op r.p.payload
  | none => false

/-- A held command: a later `SIG_WRITE` to the same handle replaces an earlier one of the period (R80). -/
def holdCommand (r : Req) (s : State) : State :=
  let k := (s.part r.port).periodNo
  let sameWrite := fun (f : Flight) => r.op == .sigWrite && f.req.op == .sigWrite && f.req.port == r.port && f.colPeriod == some k
    && f.req.p.tag != r.p.tag && u32 f.req.p.payload 0 == u32 r.p.payload 0
  let mark := fun (f : Flight) =>
    if sameWrite f then { f with replaced := true }
    else if f.req.port == r.port && f.req.p.tag == r.p.tag then { f with started := true, colPeriod := some k }
    else f
  { s with sys := { s.sys with flights := s.sys.flights.map mark } }

/-- `CRN_APP_WRITE` is limited at its admission (R475). -/
def admitRate (r : Req) (s : State) : Option Status × State :=
  if r.op == .crnAppWrite && r.port < 128 then appAdmit r s else (none, s)

/-- The place of a request in its port's chain (R83). -/
def enterChain (r : Req) (s : State) : Chain × State :=
  let c := (aget s.sys.chains r.port).getD {}
  let chains := if r.p.flags.getLsbD 3 then aset s.sys.chains r.port { prev := some r.p.tag, broken := c.broken } else adel s.sys.chains r.port
  (c, { s with sys := { s.sys with chains := chains } })

/-- An admitted command: its chain, the Col hold, its turn at its target (R82), and otherwise its start. -/
def admitCmd (r : Req) (s : State) : State :=
  let (c, s) := enterChain r s
  if c.broken then finish r .wrongState [] s
  else match admitRate r s with
    | (some st, s) => finish r st [] s
    | (none, s) =>
      let wait := c.prev.isSome
      let s := match c.prev with
        | some tag => modFlight r (fun f => { f with chain := .waiting, waitsFor := tag }) s
        | none => s
      if heldByCol r s then sendReply r .queued [] true (holdCommand r s)
      else if wait then s
      else if waitsSample r s then awaitSample r s
      else if blocked r s then modFlight r (fun f => { f with chain := .go }) s
      else start r s

/-! ## Re-execution (R422) -/

/-- A command of a re-executed period meets the journal: the state after a match, or none where it runs live. A held command is held
again (R81); a command that wants no reply and matches nothing runs live without a mismatch; beyond the journal nothing is compared. -/
def replay (op : Op) (p : Packet) (n : Nat) (s : State) : Option State × State :=
  let q := s.part n
  if !(q.replaying && q.inPeriod) then (none, s) else
  match q.journal[q.journalPos]? with
  | none => (none, s.setPart n { q with replaying := false })
  | some e =>
    if e.opcode == opCode op && e.target == p.target && e.params == payloadOf p then
      let s := s.setPart n { q with journalPos := q.journalPos + 1 }
      let s := s.setMailbox n ((s.mailbox n).deliver e.reply)
      if e.reply.status == Status.code .queued then
        match gate op p s with
        | .go r s => (some (holdCommand r (enterChain r s).2), s)
        | .stop _ => (some s, s)
      else (some s, s)
    else if !p.flags.getLsbD 2 then (none, s)
    else
      let s := s.setPart n { q with replaying := false, fDiverged := true, journal := q.journal.take q.journalPos }
      (none, colEvent 8 none (some n) none (partUnit n) s)

/-! ## Running a command -/

/-- A packet is checked, and admitted where every check passes. -/
def takePacket (op : Op) (p : Packet) (s : State) : State :=
  match gate op p s with
  | .stop s => s
  | .go r s => startWaiting 129 (admitCmd r s)

/-! ## Packets of one instant (R56, R77) -/

/-- Whether a row brings a packet. -/
def bringsPacket (i : Instr) : Bool :=
  i.packet.isSome || match i with | .mailboxSubmit _ _ _ slot => slot.isSome | _ => false

/-- Whether the next row brings a packet of this same instant: it competes with those that have arrived. -/
def moreNow (s : State) : Bool := match s.pending with | i :: _ => bringsPacket i && decide (i.time ≤ s.time) | [] => false

/-- The port and the priority with which an arrived packet competes. -/
def contender (s : State) (x : Op × Packet) : Option (Nat × Nat) :=
  match arrival (opCode x.1) (normal x.2 s) s with
  | .on port _ => some (port, x.2.flags.toNat % 4)
  | _ => none

/-- Which of the arrived packets the dispatcher takes next (R77): one of no port; otherwise the first of the port that wins. -/
def nextArrived (s : State) : Option (Op × Packet) :=
  let l := s.sys.arrived
  match l.find? fun x => (contender s x).isNone with
  | some x => some x
  | none =>
    let first := (l.filterMap fun x => (contender s x).map fun c => (c, x)).foldl (fun (a : List ((Nat × Nat) × (Op × Packet))) e =>
      if a.any fun y => y.1.1 == e.1.1 then a else a ++ [e]) []
    let win := (arbitrate dispatcher (first.map (·.1)) s).1
    (first.find? fun e => some e.1.1 == win).map (·.2)

/-- The dispatcher takes the packets that have arrived, at most `n` of them. -/
def dispatchN : Nat → State → State
  | 0, s => s
  | n + 1, s =>
    match nextArrived s with
    | none => s
    | some x => dispatchN n (takePacket x.1 x.2 { s with sys := { s.sys with arrived := s.sys.arrived.erase x } })

/-- The packets of an instant are taken once the last of them has arrived. -/
def dispatch (s : State) : State := if moreNow s then s else dispatchN s.sys.arrived.length s

/-- A packet arrives. -/
def arrive (op : Op) (p : Packet) (s : State) : State := dispatch { s with sys := { s.sys with arrived := s.sys.arrived ++ [(op, p)] } }

/-- A command row: time moves on, and the packet is taken where packets reach the module. -/
def runCmd (op : Op) (p : Packet) (s : State) : State :=
  let s := tick p.time s
  if !reachable_ s then s else
  match p.via with
  | .mailbox n =>
    (match replay op p n s with
     | (some s, _) => dispatch s
     | (none, s) => arrive op p s)
  | _ => arrive op p s

end Sys2Proof.Machine
end

