-- ==== Sys2Proof/Machine/Release.lean ====
section
/-! DEFINITION. Chapters 03 and 18: the mailbox row, the rows that end waiting commands and sessions, and the release boundary (R417). -/
namespace Sys2Proof.Machine

/-! ## The mailbox (R64, R74, R444) -/

/-- Part 1 of the commands. -/
def ops1 : List Op :=
  [.sysIdent, .sysStatus, .sysSessionOpen, .sysSessionClose, .sysCreditSet, .sigRead, .sigWrite, .sigRouteSet, .sigForce, .funConfig,
   .funEnable, .funDisable, .funSourceSet, .funState, .funClear, .funInterlockSet, .funAutoSet, .culConfig, .culStageSet,
   .culSensorSet, .culStart, .culStop, .culStatus, .culLedgerRead, .culCalRun, .senChannelSet, .senClassWrite, .senTrain,
   .senChannelRead, .senCropSet, .senYieldConfig, .senCalLoad, .senStatus, .mapFieldOpen, .mapFieldClose, .mapConfig, .mapTileRead,
   .mapStatus, .mapExport, .mapExportRead]

/-- Part 2 of the commands. -/
def ops2 : List Op :=
  [.gdeConfig, .gdeLineWrite, .gdeLineSelect, .gdeEngage, .gdeDisengage, .gdeStatus, .gdeWasCal, .lpeLoopConfig, .lpeLoopRun,
   .lpeBankWrite, .lpeBankSwap, .lpeLoopStatus, .lpeTraceSet, .lpeTraceRead, .lpeEngineStatus, .vlvConfig, .vlvDrive, .vlvStatus,
   .vlvClear, .vlvGroupStatus, .fioDiConfig, .fioAiConfig, .fioDoConfig, .fioDoClear, .fioStatus, .gnsConfig, .gnsRtcmPut,
   .gnsRawLatch, .gnsTest, .gnsRestart, .gnsStatus, .gnsChannelRead, .timConfig, .timStatus, .timConvert, .timEpochSet, .fusConfig,
   .fusFrameSet, .fusFrameRead, .fusGroupSet]

/-- Part 3 of the commands. -/
def ops3 : List Op :=
  [.fusSourceSet, .fusStatus, .fusTrackRead, .camLinkSet, .camPipeSet, .camPairSet, .camFsyncSet, .camSensorWrite, .camVaSet,
   .camStatus, .canConfig, .canBufferSet, .canFilterSet, .canPower, .canRecover, .canTtSet, .canClaim, .canStatus, .fltConfig,
   .fltKeySet, .fltMemberSet, .fltHazardSet, .fltLine, .fltUnload, .fltStatus, .colPartitionConfig, .colInputSet, .colAdmit,
   .colPartitionRun, .colStatus, .colPartitionStatus, .colRoleReturn, .colInject, .memStatus, .memScrubConfig, .memRegionSet,
   .memDeviceFail, .memRemapClear, .memInject, .dmaChannelSet]

/-- Part 4 of the commands. -/
def ops4 : List Op :=
  [.dmaStatus, .crnStatus, .crnCursorOpen, .crnRead, .crnCursorClose, .crnClear, .crnAppWrite, .updBegin, .updPiece, .updStatus,
   .updMissing, .updInstall, .updCommit, .updAbort, .pwrSet, .pwrConfig, .pwrStatus, .sumStatus, .sumConfig, .sumKeySet,
   .sumWindowText]

/-- Every command (R85). -/
def allOps : List Op := ops1 ++ ops2 ++ ops3 ++ ops4

/-- The command of an opcode (R62, R85); none is defined for any other. -/
def opOf (code : Nat) : Option Op := allOps.find? fun o => opCode o == code

/-- The packet in received bytes: header, payload and trailer (R58, R59); bytes that are missing read 0. -/
def packetOf (via : Via) (dstPort : Nat) (b : List Byte) (t : Nat) : Packet :=
  let len := u16 b 8
  { time := t, via := via, tag := u8 b 2 % 128, flags := BitVec.ofNat 8 (u8 b 3), target := BitVec.ofNat 32 (u32 b 4), length := len
    seq := BitVec.ofNat 16 (u16 b 10), session := BitVec.ofNat 32 (u32 b 12), payload := ((b ++ zeros (len + 20)).drop 16).take len
    rxLength := b.length, crc := BitVec.ofNat 32 (u32 b (16 + len)), dstPort := dstPort }

/-- The packet in a submit slot: its received length is its header's (R74). -/
def slotPacket (n : Nat) (b : List Byte) (t : Nat) : Packet :=
  let p := packetOf (.mailbox n) 0 b t
  { p with rxLength := 20 + p.length }

/-- A packet whose opcode is no command's: the checks of R73 up to step 4 (R62). -/
def takeUndefined (code : Nat) (p : Packet) (s : State) : State :=
  match gateCode .sysIdent (some code) p s with
  | .stop s => s
  | .go _ s => s

/-- A poisoned slot (R444): the consumption is counted, and the packet has no effect. Where the slot lies in SRAM is free. -/
def poisonedSlot (n code : Nat) (p : Packet) (s : State) : State :=
  let (a, s) := takeFree s
  let line := sramBase + a.toNat % 2 ^ 19 * 64
  sendReply { op := .sysIdent, raw := some code, p := normal p s, port := n } .poisoned [] true (consumePoison ((s.part n).pair.getD 0) line s)

/-- The header bytes of a reply as received (R58), with given session data. -/
def replyHeader (opcode status : Nat) (p : Packet) (session : BitVec 32) : List Byte :=
  le 2 opcode ++ le 1 (p.tag % 128 + 128) ++ le 1 status ++ le 4 p.target.toNat ++ le 2 p.length ++ le 2 p.seq.toNat ++ le 4 session.toNat

/-- The awaited packet that a reply answers (R70, R75): its length and trailer are right, its port awaits its tag, and on a session its
session data is that of `dir` 0x03 under the counter of the packet it answers. -/
def answered (p : Packet) (opcode status port : Nat) (s : State) : Option (Nat × Nat × Nat) :=
  let whole := p.length ≤ 4072 && ((partOfPort port).isSome || p.rxLength == 20 + p.length)
  if !(whole && Crypto.crc32c (replyHeader opcode status p p.session ++ p.payload) == p.crc.toNat) then none else
  s.sys.awaiting.find? fun a => a.1 == port && a.2.1 == p.tag &&
    match s.session port with
    | some x => p.seq.toNat == a.2.2 % 65536 && sessionData x.sk 3 a.2.2 (replyHeader opcode status p 0) p.payload == p.session
    | none => true

/-- REPLY_PACKET (R75): any reply that answers nothing is discarded and counted; a datagram of no session also as R549 says. -/
def doReplyPacket (p0 : Packet) (opcode status : Nat) (s : State) : State :=
  if !reachable_ s then s else
  let p := normal p0 s
  match arrival 0 p s with
  | .nothing => s
  | .stranger e => countFailure (ethBase e) (countDiscarded s)
  | .on port _ =>
    match answered p opcode status port s with
    | some a => { s with sys := { s.sys with awaiting := s.sys.awaiting.erase a } }
    | none => countDiscarded s

/-- A packet in its bytes: a reply, a command, or an opcode that is none (R62, R73). One too short to hold a header is no open (R74). -/
def takeBytes (via : Via) (dstPort : Nat) (b : List Byte) (s : State) : State :=
  let p := packetOf via dstPort b s.time
  let code := if b.length < 16 then 0 else u16 b 0
  if 16 ≤ b.length && 128 ≤ u8 b 2 then doReplyPacket p code (u8 b 3) s
  else match opOf code with
    | some op => runCmd op p s
    | none => if reachable_ s then takeUndefined code p s else s

/-- MAILBOX_SUBMIT (R64): the partition has taken replies, and, where a slot is given, submits the packet in it. -/
def doMailbox (n taken : Nat) (slot : Option MailSlot) (s : State) : State :=
  if 127 < n || !reachable_ s then s else
  let s := s.setMailbox n ((s.mailbox n).taken taken)
  match slot with
  | none => s
  | some x =>
    let b := x.bytes
    let m := s.mailbox n
    let s := s.setMailbox n { m with slots := aset m.slots m.submitIndex b, submitIndex := (m.submitIndex + 1) % 32 }
    let p := slotPacket n b s.time
    let code := u16 b 0
    dispatch (if x.poisoned then poisonedSlot n code p s
      else if 128 ≤ u8 b 2 then doReplyPacket p code (u8 b 3) s
      else match opOf code with
        | none => takeUndefined code p s
        | some op => runCmd op p s)

/-! ## Ends without a packet -/

/-- The bytes of a packet as its transport delivers them: what the stuffing of `SVC` decodes to (R66); none where it does not decode. -/
def unframed (via : Via) (b : List Byte) : Option (List Byte) :=
  match via with | .svc => cobsDecode b | _ => some b

/-- PACKET_DISCARD (R74, R549). -/
def doDiscard (d : Discard) (s : State) : State :=
  match d with
  | .untrusted => countDiscarded s
  | .noSession eth => countFailure (ethBase eth) s
  | .frame via dst b => dispatch (match unframed via b with | some b => takeBytes via dst b s | none => countDiscarded s)

/-- Whether a frame carries the request identifier of a channel configured for Corlith (R67, R366). -/
def isRequest (y : CanCh) (x : CanFrame) : Bool :=
  y.cfg.corlith && x.fmt ≤ 1 && !x.rtr && x.ide == bitOf y.cfg.req 31 && x.id == y.cfg.req % 2 ^ 29

/-- A frame of the request identifier (R67): flow control is sent, a whole message is the packet it holds, and a reception that ends in
error is discarded (R74). -/
def requestFrame (c : Nat) (x : CanFrame) (s : State) : State :=
  let y := s.canCh c
  let rx := fun (r : IsoRx) (bad : Bool) (s : State) => modCan c (fun y => { y with iso := r }) (if bad then countDiscarded s else s)
  match isoTake y.iso y.isoBlock x.data with
  | .wait r fc bad =>
    let s := rx r bad s
    let data : List Byte := [0x30, BitVec.ofNat 8 y.isoBlock, BitVec.ofNat 8 y.isoStMin]
    if fc then { s with can := { s.can with isoOut := (s.time, c, data) :: s.can.isoOut } } else s
  | .whole b bad => dispatch (takeBytes (.can c) 0 b (rx {} bad s))
  | .error => rx {} true s
  | .ignored => s

/-- CAN_FRAME_RECEIVED (R67, R368): a request frame is the module's own; every other goes through the filters. -/
def receiveFrame (c : Nat) (x : CanFrame) (s : State) : State :=
  let y := s.canCh c
  if c < 12 && y.st.on && speaks y.cfg x.fmt && isRequest y x then requestFrame c x (errState c (recDown c s)) else doFrame c x s

/-- The queue limit of a priority (R78). -/
def queueLimit (prio : Nat) : Nat := [10000 * ms, 1000 * ms, 100 * ms, 10 * ms].getD prio 0

/-- QUEUE_TIMEOUT (R78): a command that has not started within its limit ends. -/
def doQueueTimeout (port tag : Nat) (s : State) : State :=
  match s.flight port tag with
  | some f => if !f.started && f.admitted + queueLimit (f.req.p.flags.toNat % 4) ≤ s.time then finish f.req .timeout [] s else s
  | none => s

/-- HALF_OPEN_EXPIRY (R69). -/
def doHalfOpen (port : Nat) (s : State) : State :=
  if (s.session port).any fun x => x.halfOpen && x.openedAt + 2 * sec ≤ s.time then dropSession port s else s

/-- AUTH_FAIL_REPORT (R72): one Cairn event for each port with failures since the last report. -/
def doAuthReport (s : State) : State :=
  let l := sortBy (fun a b => decide (a.port ≤ b.port)) (s.sys.authCounts.filter fun c => 0 < c.failures)
  let s := l.foldl (fun s c => cairn 0x0181 (hwSource 0x0181) (le 1 c.port ++ zeros 3 ++ le 4 c.failures) s) s
  { s with sys := { s.sys with authCounts := s.sys.authCounts.map fun c => { c with failures := 0 } } }

/-! ## The release boundary (R417, R429, R434) -/

/-- The end of a partition's current period. -/
def boundaryOf (p : Part) : Nat := (p.periodNo + 1) * periodNs p.conf

/-- A held command runs at its release (R81); `QUEUED` has been sent at its admission. -/
def settleReleased (r : Req) (x : Res × State) : State :=
  match x.1 with
  | .interim .queued => settle r (.silent, x.2)
  | _ => settle r x

/-- One held command of a released period: replaced, still waiting for its chain, or executed. -/
def releaseOne (f : Flight) (s : State) : State :=
  match s.flight f.req.port f.req.p.tag with
  | none => s
  | some g =>
    let s := modFlight f.req (fun x => { x with colPeriod := none }) s
    if g.replaced then finish f.req .superseded [] s
    else if g.chain == .waiting then modFlight f.req (fun x => { x with started := false }) s
    else if waitsSample f.req s then startWaiting 129 (awaitSample f.req s)
    else startWaiting 129 (afterCommand f.req.op (settleReleased f.req (effOf f.req s)))

/-- The committed period of a partition is released: its held commands in issue order, and its bank swaps (R210). One that has no
complete commit releases nothing and is discarded (R417, log entry 241). -/
def releasePart (n : Nat) (s : State) : State :=
  let p := s.part n
  if !(boundaryOf p ≤ gridTime s) then s
  else if p.committed then
    let held := s.sys.flights.filter fun f => f.req.port == n && f.colPeriod == some p.periodNo
    let s := s.modPart n fun p => { p with committed := false, swaps := [] }
    let swap := fun (k : Nat) (s : State) => (p.swaps.filter fun x => min x.2.2 held.length == k).foldl (fun s x => requestSwap x.1 x.2.1 none s) s
    swap held.length (held.zipIdx.foldl (fun s e => releaseOne e.1 (swap e.2 s)) s)
  else if p.inPeriod || p.committing then discardPeriod n s
  else s

/-- A stop or start that waits reaches its instant (R429): a running partition stops after the release of its period, a SHED or FAULTED
one with its flags cleared; a start outside IDLE and RUN is refused. -/
def settleRun (n : Nat) (s : State) : State :=
  let p := s.part n
  match p.run with
  | none => s
  | some q =>
    let finishRun := fun (st : Status) (s : State) => match q.req with | some r => finish r st [] s | none => s
    if q.start then
      if s.pwr.st == .idle || s.pwr.st == .run then s else finishRun .wrongState (s.setPart n { p with run := none })
    else
      let idle := p.st == .running && !p.inPeriod && !p.committing && !p.committed
      match p.st with
      | .running | .restoring =>
        if idle || boundaryOf p ≤ gridTime s then
          let s := dropHeld n s
          let s := s.modPart n fun p => { p with st := .stopped, run := none, inPeriod := false, committing := false, committed := false
                                                 replaying := false }
          notePartStop (finishRun .done s)
        else s
      | .shed | .faulted =>
        finishRun .done (s.setPart n { p with st := .stopped, run := none, fOverrun := false, fUncovered := false, fDiverged := false
                                              fResumed := false, fJournalFull := false, fReplaced := false, fShed := false, consecutive := 0 })
      | _ => finishRun .done (s.setPart n { p with run := none })

/-- The critical partitions of the module. -/
def criticalParts (s : State) : List (Nat × Part) := s.col.parts.filter fun e => e.2.conf.critical

/-- The acting manager hands the role back (R434): its critical partitions are held STANDING again. -/
def handRoleBack (r : Req) (s : State) : State :=
  let s := standDown s
  let s := (criticalParts s).foldl (fun s e => dropHeld e.1 (s.modPart e.1 fun p =>
    { p with st := .standing, inPeriod := false, committing := false, committed := false, replaying := false, run := none })) s
  let s := funHandOver s
  let s : State := { s with id := { s.id with role := .deputy }, col := { s.col with roleReturn := none, managerLost := false, displacedPresent := false } }
  finish r .done [] (colEvent 11 none none none colUnit s)

/-- The displaced manager takes its role again (R24, R434): its critical partitions run from the newest mirrored commits, and what the deputy
held of Couloir, the map, guidance and the fleet link goes on as after a takeover. -/
def takeRoleAgain (s : State) : State :=
  let s := freeOutputs (modId (fun d => { d with role := .manager, timeLock := true }) s)
  let s := s.col.mirrors.foldl (fun s m => mapMirror m s) s
  let run := (criticalParts s).filter fun e => e.2.admitted && e.2.st == .stopped
  gdeStart (fltTakeover (mapTakeover (culTakeover (funTakeover (run.foldl (fun s e => s.modPart e.1 fun p => { p with st := .running }) s)))))

/-- The role return at a common boundary of the critical partitions (R434). `ready` says that each of them is `DEPUTY_READY` on the
returning module; on a displaced manager it says that the handover falls on this boundary. -/
def roleBoundary (ready : Bool) (s : State) : State :=
  if !ready then s
  else if s.id.role == .displaced then takeRoleAgain s
  else match s.col.roleReturn with
    | some r =>
      if s.id.role == .actingManager && stationary s && (criticalParts s).all fun e => onGrid (periodNs e.2.conf) s then handRoleBack r s else s
    | none => s

/-- RELEASE_BOUNDARY (R417): every committed period of this boundary, in ascending partition number; then the stops that take effect here. -/
def doRelease (ready : Bool) (s : State) : State :=
  let ns := s.col.parts.map (·.1)
  let s := ns.foldl (fun s n => releasePart n s) s
  roleBoundary ready (ns.foldl (fun s n => settleRun n s) s)

end Sys2Proof.Machine
end

