-- ==== Sys2Proof/Machine/Regs.lean ====
section
/-! DEFINITION. Register accesses (R9 to R12, R436) and the two rows that carry a load or a store. -/
namespace Sys2Proof.Machine

/-- One 32-bit word of a register block; none at an unused offset. -/
def regReadWord (g off : Nat) (s : State) : Option Nat :=
  match g with
  | 0x08 => lpeReadWord off s
  | 0x09 => vlvReadWord off s
  | 0x0E => camReadWord off s
  | 0x0F => canReadWord off s
  | _ => dmaReadWord off s

/-- A write of one 32-bit word of a register block; none at an unused offset. It clears no bit that hardware sets in the same cycle (R10). -/
def regWriteWord (g part off v0 : Nat) (mark : Bool) (s : State) : Option State :=
  let v := clearing g off v0 s
  match g with
  | 0x08 => lpeWriteWord part off v mark s
  | 0x09 => vlvWriteWord part off v s
  | 0x0E => camWriteWord part off v s
  | 0x0F => canWriteWord part off v mark s
  | _ => dmaWriteWord part off v s

/-- The access-fault flag of a register block. -/
def regFault (g : Nat) (s : State) : State :=
  match g with
  | 0x08 => lpeAccessFault s
  | 0x09 => vlvAccessFault s
  | 0x0E => camAccessFault s
  | 0x0F => canFault s
  | _ => dmaAccessFault s

/-- Register accesses are of 4 or 8 bytes, naturally aligned (R12). -/
def regShapeOk (addr size : Nat) : Bool := (size == 4 || size == 8) && addr % size == 0

/-- The words of an access, low half first (R8). -/
def regOffsets (addr size : Nat) : List Nat := (List.range (size / 4)).map fun i => (addr - regBase) % 2 ^ 24 + 4 * i

/-- A read of a register: every word must be there. -/
def regLoad (g : Nat) (a : MemAccess) (s : State) : State :=
  match (regOffsets a.addr a.size).mapM fun o => regReadWord g o s with
  | some ws => setLast { data := (ws.map fun w => le 4 w).flatten } s
  | none => refuseAccess a s

/-- A write of a register: every word must be there, and then all are written. -/
def regStore (g : Nat) (a : MemAccess) (data : List Byte) (s : State) : State :=
  let part := a.partition.getD 0xFF
  let offs := regOffsets a.addr a.size
  if offs.all fun o => (regReadWord g o s).isSome then
    setLast {} (offs.foldl (fun s o => (regWriteWord g part o (ofLe ((data.drop (4 * ((o - offs.headD 0) / 4))).take 4)) a.mark s).getD s) s)
  else refuseAccess a s

/-- An access to a register block: one of another size or alignment is not performed and sets the block's flag (R12). -/
def accessRegs (g : Nat) (a : MemAccess) (s : State) : State :=
  if !regShapeOk a.addr a.size then setLast { data := zeros a.size } (regFault g s)
  else match a.store with
    | none => regLoad g a s
    | some d => if d.length == a.size then regStore g a d s else setLast { data := zeros a.size } (regFault g s)

/-- MEMORY_ACCESS (R435, R436, R441): an access is decoded and performed or refused. -/
def doAccess (a : MemAccess) (s : State) : State :=
  if !s.mainOn then s else
  match areaOf a.addr with
  | .regs g => accessRegs g a s
  | _ => accessMem a s

/-- REGISTER_WRITE (R9): a partition's write of `width` bytes to a register, from the pair it runs on. -/
def doRegisterWrite (partition addr width value : Nat) (s : State) : State :=
  doAccess { agent := (s.part partition).pair.getD 0, partition := some partition, addr := addr, size := width, store := some (le width value) } s

end Sys2Proof.Machine
end

