-- ==== Sys2Proof/Machine/Rows.lean ====
section
/-! DEFINITION. The shapes that the meanings of the table's rows share: a packet, an event of the main domain, and an event of
every power state. -/
namespace Sys2Proof.Machine

/-- What a command answers. -/
abbrev Answer := Host.Outcome State Fault Refusal

/-- An effect at module time `t`: nothing but time itself moves module time (R28), and no command touches the queue. -/
def within (t : Nat) (f : State → State) (s : State) : State := { f (tick t s) with time := max s.time t, pending := s.pending }

/-- A packet command (R73): admission, start and effect are one step. -/
def command (op : Op) (p : Packet) (s : State) : Answer := .next (within p.time (runCmd op p) s)

/-- An event that the hardware takes in every power state; commands whose turn has come start after it. -/
def anyEvent (t : Nat) (f : State → State) (s : State) : Answer := .next (within t (fun s => startWaiting 129 (f s)) s)

/-- An event of the main domain: without power there it does not occur (R498). -/
def mainEvent (t : Nat) (f : State → State) (s : State) : Answer := anyEvent t (fun s => if s.mainOn then f s else s) s

/-- A supply-on start-up, from which module time counts anew (R28); one that is not due only lets time pass. -/
def startEvent (t : Nat) (f : State → State) (s : State) : Answer :=
  .next { f (tick t s) with time := if startDue (tick t s) then 0 else max s.time t, pending := s.pending }

end Sys2Proof.Machine
end

