-- ==== Sys2Proof/Machine/ExecCan.lean ====
section
/-! DEFINITION. Chapter 16: CAN: the meaning of each command of the table. -/
namespace Sys2Proof.Machine

/-- CAN_CONFIG (R376, R73). -/
def execCanConfig (p : Packet) (s : State) : Answer := command .canConfig p s

/-- CAN_BUFFER_SET (R366, R73). -/
def execCanBufferSet (p : Packet) (s : State) : Answer := command .canBufferSet p s

/-- CAN_FILTER_SET (R368, R73). -/
def execCanFilterSet (p : Packet) (s : State) : Answer := command .canFilterSet p s

/-- CAN_POWER (R382, R73). -/
def execCanPower (p : Packet) (s : State) : Answer := command .canPower p s

/-- CAN_RECOVER (R376, R73). -/
def execCanRecover (p : Packet) (s : State) : Answer := command .canRecover p s

/-- CAN_TT_SET (R383, R73). -/
def execCanTtSet (p : Packet) (s : State) : Answer := command .canTtSet p s

/-- CAN_CLAIM (R385, R73). -/
def execCanClaim (p : Packet) (s : State) : Answer := command .canClaim p s

/-- CAN_STATUS (R388, R73). -/
def execCanStatus (p : Packet) (s : State) : Answer := command .canStatus p s

/-- CAN_TXREQ (R371). -/
def execCanTxreq (t : Nat) (ch partition word value : Nat) (s : State) : Answer :=
  mainEvent t (fun s => doTxreq ch partition word value s) s

/-- CAN_TXABORT (R374). -/
def execCanTxabort (t : Nat) (ch partition word value : Nat) (s : State) : Answer :=
  mainEvent t (fun s => doTxabort ch partition word value s) s

/-- CAN_FRAME_RECEIVED (R368). -/
def execCanFrameReceived (t : Nat) (ch : Nat) (f : CanFrame) (s : State) : Answer :=
  mainEvent t (fun s => receiveFrame ch f s) s

/-- ARBITRATION_START (R370). -/
def execArbitrationStart (t : Nat) (ch : Nat) (s : State) : Answer := mainEvent t (fun s => doArbitration ch s) s

/-- TX_ATTEMPT_END (R371). -/
def execTxAttemptEnd (t : Nat) (ch : Nat) (r : TxAttempt) (s : State) : Answer :=
  mainEvent t (fun s => doAttemptEnd ch r s) s

/-- DEADLINE_EXPIRY (R372). -/
def execDeadlineExpiry (t : Nat) (ch buffer : Nat) (s : State) : Answer :=
  mainEvent t (fun s => doDeadline ch buffer s) s

/-- RECOVERY_DELAY_EXPIRY (R376). -/
def execRecoveryDelayExpiry (t : Nat) (ch : Nat) (s : State) : Answer :=
  mainEvent t (fun s => doRecoveryDelay ch s) s

/-- RECOVERY_COMPLETE (R376). -/
def execRecoveryComplete (t : Nat) (ch : Nat) (s : State) : Answer :=
  mainEvent t (fun s => doRecoveryComplete ch s) s

/-- ALONE_PACE (R379). -/
def execAlonePace (t : Nat) (ch : Nat) (s : State) : Answer := mainEvent t (fun s => doAlonePace ch s) s

/-- CAN_SELF_TEST (R381). -/
def execCanSelfTest (t : Nat) (ch : Nat) (good : Bool) (s : State) : Answer :=
  mainEvent t (fun s => doCanSelfTest ch good s) s

/-- CAN_WAKE (R382). -/
def execCanWake (t : Nat) (ch : Nat) (w : WakeSeen) (s : State) : Answer :=
  anyEvent t (fun s => doCanWakeAll ch w s) s

/-- TT_TRIGGER (R384). -/
def execTtTrigger (t : Nat) (ch trigger : Nat) (s : State) : Answer :=
  mainEvent t (fun s => doTtTrigger ch trigger s) s

/-- TT_REFERENCE (R383). -/
def execTtReference (t : Nat) (ch : Nat) (r : TtRef) (s : State) : Answer :=
  mainEvent t (fun s => doTtReference ch r s) s

/-- ADDRESS_CLAIM_MESSAGE (R385). -/
def execAddressClaimMessage (t : Nat) (ch : Nat) (m : ClaimMsg) (s : State) : Answer :=
  mainEvent t (fun s => doClaimMsg ch m s) s

/-- RECEIVE_ERROR (R376). -/
def execReceiveError (t : Nat) (ch : Nat) (dominantAfterFlag : Bool) (s : State) : Answer :=
  mainEvent t (fun s => doReceiveError ch dominantAfterFlag s) s

/-- RECESSIVE_BITS_DETECTED (R376). -/
def execRecessiveBitsDetected (t : Nat) (ch : Nat) (s : State) : Answer :=
  mainEvent t (fun s => doRecessive ch s) s

end Sys2Proof.Machine
end

