-- ==== Sys2Proof/Machine/ExecCol.lean ====
section
/-! DEFINITION. Chapter 18: Col and the roles of modules: the meaning of each command of the table. -/
namespace Sys2Proof.Machine

/-- COL_PARTITION_CONFIG (R411, R73). -/
def execColPartitionConfig (p : Packet) (s : State) : Answer := command .colPartitionConfig p s

/-- COL_INPUT_SET (R412, R73). -/
def execColInputSet (p : Packet) (s : State) : Answer := command .colInputSet p s

/-- COL_ADMIT (R419, R73). -/
def execColAdmit (p : Packet) (s : State) : Answer := command .colAdmit p s

/-- COL_PARTITION_RUN (R429, R73). -/
def execColPartitionRun (p : Packet) (s : State) : Answer := command .colPartitionRun p s

/-- COL_STATUS (R407, R73). -/
def execColStatus (p : Packet) (s : State) : Answer := command .colStatus p s

/-- COL_PARTITION_STATUS (R429, R73). -/
def execColPartitionStatus (p : Packet) (s : State) : Answer := command .colPartitionStatus p s

/-- COL_ROLE_RETURN (R434, R73). -/
def execColRoleReturn (p : Packet) (s : State) : Answer := command .colRoleReturn p s

/-- COL_INJECT (R405, R73). -/
def execColInject (p : Packet) (s : State) : Answer := command .colInject p s

/-- PERIOD_START (R412). -/
def execPeriodStart (t : Nat) (partition : Nat) (s : State) : Answer :=
  mainEvent t (fun s => doPartitionPeriod partition s) s

/-- DONE_WRITE (R416). -/
def execDoneWrite (t : Nat) (partition value execUs : Nat) (s : State) : Answer :=
  mainEvent t (fun s => doDoneWrite partition value execUs s) s

/-- COMMIT_COMPLETE (R416). -/
def execCommitComplete (t : Nat) (partition : Nat) (s : State) : Answer :=
  mainEvent t (fun s => doCommitComplete partition s) s

/-- RELEASE_BOUNDARY (R417). -/
def execReleaseBoundary (t : Nat) (returnReady : Bool) (s : State) : Answer :=
  mainEvent t (fun s => doRelease returnReady s) s

/-- WCET_EXPIRY (R421). -/
def execWcetExpiry (t : Nat) (partition : Nat) (s : State) : Answer :=
  mainEvent t (fun s => doWcetExpiry partition s) s

/-- PAIR_FAULT (R405). -/
def execPairFault (t : Nat) (pairs : List Nat) (s : State) : Answer :=
  mainEvent t (fun s => doPairFault pairs s) s

/-- RESTORE_COMPLETE (R422). -/
def execRestoreComplete (t : Nat) (pair : Nat) (s : State) : Answer :=
  mainEvent t (fun s => doRestoreComplete pair s) s

/-- SPARE_CHECK (R407). -/
def execSpareCheck (t : Nat) (pair : Nat) (good : Bool) (s : State) : Answer :=
  mainEvent t (fun s => doSpareCheck pair good s) s

/-- COMMIT_MIRROR_RECEIVED (R430). -/
def execCommitMirrorReceived (t : Nat) (m : MirrorRecord) (s : State) : Answer :=
  mainEvent t (fun s => doMirror m s) s

/-- HEARTBEAT_SEND (R431). -/
def execHeartbeatSend (t : Nat) (s : State) : Answer := mainEvent t (fun s => doHeartbeat s) s

/-- FAILURE_NOTICE (R431). -/
def execFailureNotice (t : Nat) (s : State) : Answer := mainEvent t (fun s => doFailureNotice s) s

/-- MANAGER_LOST (R432). -/
def execManagerLost (t : Nat) (s : State) : Answer := mainEvent t (fun s => doManagerLost s) s

/-- PEER_DISCOVERY (R21). -/
def execPeerDiscovery (t : Nat) (reports : List PeerReport) (s : State) : Answer :=
  mainEvent t (fun s => doPeers reports s) s

end Sys2Proof.Machine
end

