-- ==== Sys2Proof/Machine/ExecCrop.lean ====
section
/-! DEFINITION. Chapters 05 to 07: Couloir, sensing and the yield map: the meaning of each command of the table. -/
namespace Sys2Proof.Machine

/-- CUL_CONFIG (R136, R73). -/
def execCulConfig (p : Packet) (s : State) : Answer := command .culConfig p s

/-- CUL_STAGE_SET (R119, R73). -/
def execCulStageSet (p : Packet) (s : State) : Answer := command .culStageSet p s

/-- CUL_SENSOR_SET (R121, R73). -/
def execCulSensorSet (p : Packet) (s : State) : Answer := command .culSensorSet p s

/-- CUL_START (R136, R73). -/
def execCulStart (p : Packet) (s : State) : Answer := command .culStart p s

/-- CUL_STOP (R136, R73). -/
def execCulStop (p : Packet) (s : State) : Answer := command .culStop p s

/-- CUL_STATUS (R136, R73). -/
def execCulStatus (p : Packet) (s : State) : Answer := command .culStatus p s

/-- CUL_LEDGER_READ (R115, R73). -/
def execCulLedgerRead (p : Packet) (s : State) : Answer := command .culLedgerRead p s

/-- CUL_CAL_RUN (R140, R73). -/
def execCulCalRun (p : Packet) (s : State) : Answer := command .culCalRun p s

/-- CAL_WINDOW_END (R140). -/
def execCalWindowEnd (t : Nat) (s : State) : Answer := mainEvent t (fun s => doCalWindowEnd s) s

/-- COULOIR_TICK (R120). -/
def execCouloirTick (t : Nat) (s : State) : Answer := mainEvent t (fun s => doMapTick (doCouloirTick s)) s

/-- POSE_WAIT (R130). -/
def execPoseWait (t : Nat) (s : State) : Answer := mainEvent t (fun s => doPoseWait s) s

/-- VELOCITY_HOLD_EXPIRY (R111). -/
def execVelocityHoldExpiry (t : Nat) (s : State) : Answer := mainEvent t (fun s => doVelocityHold s) s

/-- PARCEL_AGED (R126). -/
def execParcelAged (t : Nat) (s : State) : Answer := mainEvent t (fun s => doParcelAged s) s

/-- REFILL_END (R137). -/
def execRefillEnd (t : Nat) (s : State) : Answer := mainEvent t (fun s => doRefillEnd s) s

/-- IMPACT_DETECTED (R143). -/
def execImpactDetected (t : Nat) (ch age : Nat) (before : List Int) (crossing : Int) (after : List Int) (s : State) : Answer :=
  mainEvent t (fun s => doImpact ch age (before ++ crossing :: after) s) s

/-- REPORT_INTERVAL (R142). -/
def execReportInterval (t : Nat) (m : List (Rat × Nat)) (s : State) : Answer :=
  mainEvent t (fun s => doReport m s) s

/-- FLOW_DECISION (R155). -/
def execFlowDecision (t : Nat) (beam : BeamMeas) (s : State) : Answer :=
  mainEvent t (fun s => doFlowDecision beam s) s

/-- PLATE_BLOCK (R152). -/
def execPlateBlock (t : Nat) (samples : List Rat) (bridge : BridgeMeas) (s : State) : Answer :=
  mainEvent t (fun s => doPlateBlock samples bridge s) s

/-- PADDLE_PASS (R152). -/
def execPaddlePass (t : Nat) (tb : Rat) (s : State) : Answer := mainEvent t (fun s => doPaddlePass tb s) s

/-- MOISTURE_SAMPLE (R152). -/
def execMoistureSample (t : Nat) (c cEmpty cRef temp : Rat) (readings : List (Nat × Rat)) (ok : Bool) (s : State) : Answer :=
  mainEvent t (fun s => doMoisture c cEmpty cRef temp readings ok s) s

/-- TARE_RETAKE (R153). -/
def execTareRetake (t : Nat) (block : List Rat) (s : State) : Answer :=
  mainEvent t (fun s => doTareRetake block s) s

/-- SEN_CHANNEL_SET (R146, R73). -/
def execSenChannelSet (p : Packet) (s : State) : Answer := command .senChannelSet p s

/-- SEN_CLASS_WRITE (R144, R73). -/
def execSenClassWrite (p : Packet) (s : State) : Answer := command .senClassWrite p s

/-- SEN_TRAIN (R149, R73). -/
def execSenTrain (p : Packet) (s : State) : Answer := command .senTrain p s

/-- SEN_CHANNEL_READ (R145, R73). -/
def execSenChannelRead (p : Packet) (s : State) : Answer := command .senChannelRead p s

/-- SEN_CROP_SET (R152, R73). -/
def execSenCropSet (p : Packet) (s : State) : Answer := command .senCropSet p s

/-- SEN_YIELD_CONFIG (R152, R73). -/
def execSenYieldConfig (p : Packet) (s : State) : Answer := command .senYieldConfig p s

/-- SEN_CAL_LOAD (R158, R73). -/
def execSenCalLoad (p : Packet) (s : State) : Answer := command .senCalLoad p s

/-- SEN_STATUS (R155, R73). -/
def execSenStatus (p : Packet) (s : State) : Answer := command .senStatus p s

/-- MAP_FIELD_OPEN (R161, R73). -/
def execMapFieldOpen (p : Packet) (s : State) : Answer := command .mapFieldOpen p s

/-- MAP_FIELD_CLOSE (R160, R73). -/
def execMapFieldClose (p : Packet) (s : State) : Answer := command .mapFieldClose p s

/-- MAP_CONFIG (R165, R73). -/
def execMapConfig (p : Packet) (s : State) : Answer := command .mapConfig p s

/-- MAP_TILE_READ (R163, R73). -/
def execMapTileRead (p : Packet) (s : State) : Answer := command .mapTileRead p s

/-- MAP_STATUS (R160, R73). -/
def execMapStatus (p : Packet) (s : State) : Answer := command .mapStatus p s

/-- MAP_EXPORT (R176, R73). -/
def execMapExport (p : Packet) (s : State) : Answer := command .mapExport p s

/-- EXPORT_BUILT (R176). -/
def execExportBuilt (t : Nat) (s : State) : Answer := mainEvent t (fun s => doExportBuilt s) s

/-- MAP_EXPORT_READ (R177, R73). -/
def execMapExportRead (p : Packet) (s : State) : Answer := command .mapExportRead p s

/-- TILE_LOAD_COMPLETE (R171). -/
def execTileLoadComplete (t : Nat) (te tn : Int) (s : State) : Answer :=
  mainEvent t (fun s => doTileLoad te tn s) s

/-- TILE_FLUSH (R173). -/
def execTileFlush (t : Nat) (s : State) : Answer := mainEvent t (fun s => doTileFlush s) s

end Sys2Proof.Machine
end

