-- ==== Sys2Proof/Machine/ExecFio.lean ====
section
/-! DEFINITION. Chapter 11: field I/O: the meaning of each command of the table. -/
namespace Sys2Proof.Machine

/-- FIO_DI_CONFIG (R269, R73). -/
def execFioDiConfig (p : Packet) (s : State) : Answer := command .fioDiConfig p s

/-- FIO_AI_CONFIG (R273, R73). -/
def execFioAiConfig (p : Packet) (s : State) : Answer := command .fioAiConfig p s

/-- FIO_DO_CONFIG (R277, R73). -/
def execFioDoConfig (p : Packet) (s : State) : Answer := command .fioDoConfig p s

/-- FIO_DO_CLEAR (R277, R73). -/
def execFioDoClear (p : Packet) (s : State) : Answer := command .fioDoClear p s

/-- FIO_STATUS (R276, R73). -/
def execFioStatus (p : Packet) (s : State) : Answer := command .fioStatus p s

/-- DI_OUT_CHANGE (R270). -/
def execDiOutChange (t : Nat) (di : Nat) (samples : List Rat) (s : State) : Answer :=
  mainEvent t (fun s => doDiOutChange di samples s) s

/-- DI_PERIODIC_PUBLISH (R270). -/
def execDiPeriodicPublish (t : Nat) (di : Nat) (s : State) : Answer := mainEvent t (fun s => doDiPeriodic di s) s

/-- PULSE_FREQUENCY (R271). -/
def execPulseFrequency (t : Nat) (di : Nat) (s : State) : Answer :=
  mainEvent t (fun s => doPulseFrequency di s) s

/-- WIRE_BREAK_CHECK (R272). -/
def execWireBreakCheck (t : Nat) (di : Nat) (vIn temp : Rat) (s : State) : Answer :=
  mainEvent t (fun s => doWireBreak di vIn temp s) s

/-- AI_CONVERSION (R273). -/
def execAiConversion (t : Nat) (ai : Nat) (m : AiMeas) (s : State) : Answer :=
  mainEvent t (fun s => doAiConversion ai m s) s

/-- AI_SHUNT_RETRY (R274). -/
def execAiShuntRetry (t : Nat) (ai : Nat) (s : State) : Answer := mainEvent t (fun s => doAiShuntRetry ai s) s

/-- DO_INSTANT (R275). -/
def execDoInstant (t : Nat) (out : Nat) (m : DoMeas) (s : State) : Answer :=
  mainEvent t (fun s => doDoInstant out m s) s

/-- DO_TEST_PULSE_END (R278). -/
def execDoTestPulseEnd (t : Nat) (out : Nat) (seen : List (Nat × Rat × Rat)) (s : State) : Answer :=
  mainEvent t (fun s => doDoTestPulseEnd out seen s) s

/-- DO_TRIP (R276). -/
def execDoTrip (t : Nat) (out : Nat) (amps : Rat) (limiting : Bool) (s : State) : Answer :=
  mainEvent t (fun s => doDoTrip out amps limiting s) s

/-- DO_RETRY_EXPIRY (R277). -/
def execDoRetryExpiry (t : Nat) (out : Nat) (s : State) : Answer := mainEvent t (fun s => doDoRetry out s) s

/-- DO_RETRY_RESET (R277). -/
def execDoRetryReset (t : Nat) (out : Nat) (s : State) : Answer := mainEvent t (fun s => doDoRetryReset out s) s

/-- DO_DEMAG_COMPLETE (R277). -/
def execDoDemagComplete (t : Nat) (out : Nat) (current : Rat) (s : State) : Answer :=
  mainEvent t (fun s => doDoDemagComplete out current s) s

/-- DO_OFF_STATE_CHECK (R276). -/
def execDoOffStateCheck (t : Nat) (out : Nat) (pin : Rat) (s : State) : Answer :=
  mainEvent t (fun s => doDoOffCheck out pin s) s

/-- SUPPLY_EVAL (R267). -/
def execSupplyEval (t : Nat) (supply : Nat) (volts : Rat) (limiting : Bool) (s : State) : Answer :=
  mainEvent t (fun s => doSupplyEval supply volts limiting s) s

/-- SENSOR_SUPPLY_RETRY (R267). -/
def execSensorSupplyRetry (t : Nat) (supply : Nat) (s : State) : Answer :=
  mainEvent t (fun s => doSensorRetry supply s) s

end Sys2Proof.Machine
end

