-- ==== Sys2Proof/Machine/ExecFlt.lean ====
section
/-! DEFINITION. Chapter 17: the fleet link: the meaning of each command of the table. -/
namespace Sys2Proof.Machine

/-- FLT_CONFIG (R392, R73). -/
def execFltConfig (p : Packet) (s : State) : Answer := command .fltConfig p s

/-- FLT_KEY_SET (R393, R73). -/
def execFltKeySet (p : Packet) (s : State) : Answer := command .fltKeySet p s

/-- FLT_MEMBER_SET (R392, R73). -/
def execFltMemberSet (p : Packet) (s : State) : Answer := command .fltMemberSet p s

/-- FLT_HAZARD_SET (R400, R73). -/
def execFltHazardSet (p : Packet) (s : State) : Answer := command .fltHazardSet p s

/-- FLT_LINE (R399, R73). -/
def execFltLine (p : Packet) (s : State) : Answer := command .fltLine p s

/-- FLT_UNLOAD (R402, R73). -/
def execFltUnload (p : Packet) (s : State) : Answer := command .fltUnload p s

/-- FLT_STATUS (R403, R73). -/
def execFltStatus (p : Packet) (s : State) : Answer := command .fltStatus p s

/-- EXCHANGE_INSTANT (R396). -/
def execExchangeInstant (t : Nat) (s : State) : Answer := mainEvent t (fun s => doExchange s) s

/-- FLEET_DATAGRAM (R394). -/
def execFleetDatagram (t : Nat) (ip : Nat) (addr : List Byte) (d : FleetDatagram) (s : State) : Answer :=
  mainEvent t (fun s => doFleetDatagram ip addr d s) s

/-- DTLS_HANDSHAKE (R393). -/
def execDtlsHandshake (t : Nat) (member : Nat) (s : State) : Answer := mainEvent t (fun s => doDtls member s) s

/-- MEMBER_TIMEOUT (R403). -/
def execMemberTimeout (t : Nat) (s : State) : Answer := mainEvent t (fun s => doMemberTimeout s) s

/-- GRANT_TIMEOUT (R402). -/
def execGrantTimeout (t : Nat) (s : State) : Answer := mainEvent t (fun s => doGrantTimeout s) s

/-- LOST_HOLD_EXPIRY (R402). -/
def execLostHoldExpiry (t : Nat) (s : State) : Answer := mainEvent t (fun s => doLostHold s) s

/-- HAZARD_EXPIRY (R400). -/
def execHazardExpiry (t : Nat) (s : State) : Answer := mainEvent t (fun s => doHazardExpiry s) s

end Sys2Proof.Machine
end

