-- ==== Sys2Proof/Machine/ExecFun.lean ====
section
/-! DEFINITION. Chapter 04: the machine functions: the meaning of each command of the table. -/
namespace Sys2Proof.Machine

/-- FUN_CONFIG (R89, R73). -/
def execFunConfig (p : Packet) (s : State) : Answer := command .funConfig p s

/-- FUN_ENABLE (R98, R73). -/
def execFunEnable (p : Packet) (s : State) : Answer := command .funEnable p s

/-- FUN_DISABLE (R100, R73). -/
def execFunDisable (p : Packet) (s : State) : Answer := command .funDisable p s

/-- FUN_SOURCE_SET (R91, R73). -/
def execFunSourceSet (p : Packet) (s : State) : Answer := command .funSourceSet p s

/-- FUN_STATE (R97, R73). -/
def execFunState (p : Packet) (s : State) : Answer := command .funState p s

/-- FUN_CLEAR (R98, R73). -/
def execFunClear (p : Packet) (s : State) : Answer := command .funClear p s

/-- FUN_INTERLOCK_SET (R95, R73). -/
def execFunInterlockSet (p : Packet) (s : State) : Answer := command .funInterlockSet p s

/-- FUN_AUTO_SET (R105, R73). -/
def execFunAutoSet (p : Packet) (s : State) : Answer := command .funAutoSet p s

/-- FUNCTION_SAMPLE (R93). -/
def execFunctionSample (t : Nat) (s : State) : Answer := mainEvent t (fun s => doFunctionSample s) s

/-- INTERLOCK_HOLD_EXPIRY (R96). -/
def execInterlockHoldExpiry (t : Nat) (s : State) : Answer := mainEvent t (fun s => doIlHold s) s

/-- ENABLE_TIMEOUT (R98). -/
def execEnableTimeout (t : Nat) (s : State) : Answer := mainEvent t (fun s => doEnableTimeout s) s

/-- RECOVER_HOLD (R98). -/
def execRecoverHold (t : Nat) (s : State) : Answer := mainEvent t (fun s => doRecoverHold s) s

/-- PNR_TIMEOUT (R99). -/
def execPnrTimeout (t : Nat) (s : State) : Answer := mainEvent t (fun s => doPnrTimeout s) s

/-- SWITCH_OFF_COMPLETE (R99). -/
def execSwitchOffComplete (t : Nat) (ack : Bool) (s : State) : Answer :=
  mainEvent t (fun s => doSwitchOff ack s) s

/-- OVERRIDE_END (R106). -/
def execOverrideEnd (t : Nat) (s : State) : Answer := mainEvent t (fun s => doOverrideEnd s) s

end Sys2Proof.Machine
end

