-- ==== Sys2Proof/Machine/ExecFus.lean ====
section
/-! DEFINITION. Chapters 14 and 15: fusion and cameras: the meaning of each command of the table. -/
namespace Sys2Proof.Machine

/-- VA_JOB_COMPLETE (R356, R152): a classification of the grain camera is also a sample of the camera flow source. -/
def doJobComplete (res : VaResult) (s : State) : State :=
  match s.cam.running, res with
  | some (8, _, expose, buffer, bytes), .kernels a b c d =>
    senFrame (f32d a) (f32d b) (f32d c) (f32d d) expose (if rangePoisoned buffer bytes s then .poisoned else .valid) (doVaComplete res s)
  | _, _ => doVaComplete res s

/-- FUS_CONFIG (R320, R73). -/
def execFusConfig (p : Packet) (s : State) : Answer := command .fusConfig p s

/-- FUS_FRAME_SET (R325, R73). -/
def execFusFrameSet (p : Packet) (s : State) : Answer := command .fusFrameSet p s

/-- FUS_FRAME_READ (R324, R73). -/
def execFusFrameRead (p : Packet) (s : State) : Answer := command .fusFrameRead p s

/-- FUS_GROUP_SET (R329, R73). -/
def execFusGroupSet (p : Packet) (s : State) : Answer := command .fusGroupSet p s

/-- FUS_SOURCE_SET (R335, R73). -/
def execFusSourceSet (p : Packet) (s : State) : Answer := command .fusSourceSet p s

/-- FUS_STATUS (R332, R73). -/
def execFusStatus (p : Packet) (s : State) : Answer := command .fusStatus p s

/-- FUS_TRACK_READ (R338, R73). -/
def execFusTrackRead (p : Packet) (s : State) : Answer := command .fusTrackRead p s

/-- FUSION_INSTANT (R331). -/
def execFusionInstant (t : Nat) (m : FusInstant) (s : State) : Answer :=
  mainEvent t (fun s => gdeEgo (doFusionInstant m s)) s

/-- POSE_PUBLISH (R333). -/
def execPosePublish (t : Nat) (e : PoseEst) (s : State) : Answer := mainEvent t (fun s => doPosePublish e s) s

/-- GA1_PREDICTION (R334). -/
def execGa1Prediction (t : Nat) (lat lon height : Rat) (s : State) : Answer :=
  mainEvent t (fun s => doGa1Prediction lat lon height s) s

/-- DETECTION_BLOCK (R336). -/
def execDetectionBlock (t : Nat) (source stamp : Nat) (dets : List Detection) (s : State) : Answer :=
  mainEvent t (fun s => doDetectionBlock source stamp dets s) s

/-- TRACK_TIMEOUT (R337). -/
def execTrackTimeout (t : Nat) (s : State) : Answer := mainEvent t (fun s => doTrackTimeout s) s

/-- CAM_LINK_SET (R344, R73). -/
def execCamLinkSet (p : Packet) (s : State) : Answer := command .camLinkSet p s

/-- CAM_PIPE_SET (R346, R73). -/
def execCamPipeSet (p : Packet) (s : State) : Answer := command .camPipeSet p s

/-- CAM_PAIR_SET (R355, R73). -/
def execCamPairSet (p : Packet) (s : State) : Answer := command .camPairSet p s

/-- CAM_FSYNC_SET (R354, R73). -/
def execCamFsyncSet (p : Packet) (s : State) : Answer := command .camFsyncSet p s

/-- CAM_SENSOR_WRITE (R352, R73). -/
def execCamSensorWrite (p : Packet) (s : State) : Answer := command .camSensorWrite p s

/-- CAM_VA_SET (R357, R73). -/
def execCamVaSet (p : Packet) (s : State) : Answer := command .camVaSet p s

/-- CAM_STATUS (R351, R73). -/
def execCamStatus (p : Packet) (s : State) : Answer := command .camStatus p s

/-- LINK_STATE_EVAL (R342). -/
def execLinkStateEval (t : Nat) (link : Nat) (m : LinkMeas) (s : State) : Answer :=
  mainEvent t (fun s => doLinkEval link m s) s

/-- CSI2_PACKET (R343). -/
def execCsi2Packet (t : Nat) (link : Nat) (k : CsiPacket) (s : State) : Answer :=
  mainEvent t (fun s => doCsiPacket link k s) s

/-- SENSOR_WRITE_COMPLETE (R352). -/
def execSensorWriteComplete (t : Nat) (link acked : Nat) (s : State) : Answer :=
  mainEvent t (fun s => doWriteComplete link acked s) s

/-- FSYNC_EDGE (R354). -/
def execFsyncEdge (t : Nat) (output : Nat) (s : State) : Answer := mainEvent t (fun s => doFsyncEdge output s) s

/-- RESYNC_RELEASE (R355). -/
def execResyncRelease (t : Nat) (pair : Nat) (s : State) : Answer :=
  mainEvent t (fun s => doResyncRelease pair s) s

/-- VA_JOB_COMPLETE (R356). -/
def execVaJobComplete (t : Nat) (res : VaResult) (s : State) : Answer :=
  mainEvent t (fun s => doJobComplete res s) s

/-- POC_OVERCURRENT (R541). -/
def execPocOvercurrent (t : Nat) (link : Nat) (s : State) : Answer := mainEvent t (fun s => doPocTrip link s) s

/-- POC_RETRY (R541). -/
def execPocRetry (t : Nat) (link : Nat) (s : State) : Answer := mainEvent t (fun s => doPocRetry link s) s

end Sys2Proof.Machine
end

