-- ==== Sys2Proof/Machine/ExecGde.lean ====
section
/-! DEFINITION. Chapter 08: guidance: the meaning of each command of the table. -/
namespace Sys2Proof.Machine

/-- WAS_POINT_RECORDED (R190): a point's second has passed. -/
def doWasPoint (s : State) : State :=
  if s.gde.recording.any fun x => decide (x.start + sec ≤ s.time) then recordPoint s else s

/-- COAST_EXPIRY (R193): `coast` has passed or `coast_dist` has been travelled. -/
def doCoastExpiry (s : State) : State :=
  if s.gde.st == .coasting && (rampCauses s).contains 5 then releaseRamp 5 s else s

/-- RELEASE_RAMP_END (R195): the point of no return of a ramp. -/
def doRampEnd (s : State) : State :=
  if s.gde.st == .releasing && s.gde.ramp.any (fun x => decide (x.1 + s.gcfg.ramp * ms ≤ s.time)) then rampEnd s else s

/-- GDE_CONFIG (R196, R73). -/
def execGdeConfig (p : Packet) (s : State) : Answer := command .gdeConfig p s

/-- GDE_LINE_WRITE (R181, R73). -/
def execGdeLineWrite (p : Packet) (s : State) : Answer := command .gdeLineWrite p s

/-- GDE_LINE_SELECT (R183, R73). -/
def execGdeLineSelect (p : Packet) (s : State) : Answer := command .gdeLineSelect p s

/-- GDE_ENGAGE (R195, R73). -/
def execGdeEngage (p : Packet) (s : State) : Answer := command .gdeEngage p s

/-- GDE_DISENGAGE (R194, R73). -/
def execGdeDisengage (p : Packet) (s : State) : Answer := command .gdeDisengage p s

/-- GDE_STATUS (R191, R73). -/
def execGdeStatus (p : Packet) (s : State) : Answer := command .gdeStatus p s

/-- GDE_WAS_CAL (R190, R73). -/
def execGdeWasCal (p : Packet) (s : State) : Answer := command .gdeWasCal p s

/-- WAS_POINT_RECORDED (R190). -/
def execWasPointRecorded (t : Nat) (s : State) : Answer := mainEvent t (fun s => doWasPoint s) s

/-- LAW_SAMPLE (R192). -/
def execLawSample (t : Nat) (ready : Bool) (s : State) : Answer := mainEvent t (fun s => doLawSample ready s) s

/-- COAST_EXPIRY (R193). -/
def execCoastExpiry (t : Nat) (s : State) : Answer := mainEvent t (fun s => doCoastExpiry s) s

/-- RELEASE_RAMP_END (R195). -/
def execReleaseRampEnd (t : Nat) (s : State) : Answer := mainEvent t (fun s => doRampEnd s) s

/-- GDE_SWITCH_OFF_COMPLETE (R195). -/
def execGdeSwitchOffComplete (t : Nat) (s : State) : Answer := mainEvent t (fun s => doGdeSwitchOff s) s

end Sys2Proof.Machine
end

