-- ==== Sys2Proof/Machine/ExecGns.lean ====
section
/-! DEFINITION. Chapters 12 and 13: GNSS and time: the meaning of each command of the table. -/
namespace Sys2Proof.Machine

/-- GNS_CONFIG (R281, R73). -/
def execGnsConfig (p : Packet) (s : State) : Answer := command .gnsConfig p s

/-- GNS_RTCM_PUT (R298, R73). -/
def execGnsRtcmPut (p : Packet) (s : State) : Answer := command .gnsRtcmPut p s

/-- GNS_RAW_LATCH (R301, R73). -/
def execGnsRawLatch (p : Packet) (s : State) : Answer := command .gnsRawLatch p s

/-- GNS_TEST (R301, R73). -/
def execGnsTest (p : Packet) (s : State) : Answer := command .gnsTest p s

/-- GNS_RESTART (R301, R73). -/
def execGnsRestart (p : Packet) (s : State) : Answer := command .gnsRestart p s

/-- GNS_STATUS (R304, R73). -/
def execGnsStatus (p : Packet) (s : State) : Answer := command .gnsStatus p s

/-- GNS_CHANNEL_READ (R303, R73). -/
def execGnsChannelRead (p : Packet) (s : State) : Answer := command .gnsChannelRead p s

/-- GNSS_EPOCH (R290). -/
def execGnssEpoch (t : Nat) (e : GnssEpoch) (s : State) : Answer :=
  mainEvent t (fun s => noteLeap e (timGnssEpoch (doGnssEpoch e s))) s

/-- SPOOF_CLEAR_TIMER (R297). -/
def execSpoofClearTimer (t : Nat) (s : State) : Answer := mainEvent t (fun s => doSpoofClear s) s

/-- PORT_STATE_EVAL (R282). -/
def execPortStateEval (t : Nat) (port : Nat) (mA : Rat) (loLocked : Bool) (refDev : Rat) (s : State) : Answer :=
  mainEvent t (fun s => doPortEval port mA loLocked refDev s) s

/-- CORRELATOR_SELF_TEST (R283). -/
def execCorrelatorSelfTest (t : Nat) (port : Nat) (good : Bool) (s : State) : Answer :=
  mainEvent t (fun s => doCorrelatorTest port good s) s

/-- DWELL_COMPLETE (R286). -/
def execDwellComplete (t : Nat) (ch : Nat) (exceeds : Bool) (s : State) : Answer :=
  mainEvent t (fun s => doDwell ch exceeds s) s

/-- CARRIER_LOCK_LOSS (R289). -/
def execCarrierLockLoss (t : Nat) (ch : Nat) (pli : Rat) (s : State) : Answer :=
  mainEvent t (fun s => doLockLoss ch pli s) s

/-- NAV_UNIT (R300). -/
def execNavUnit (t : Nat) (ch : Nat) (u : NavUnit) (s : State) : Answer :=
  mainEvent t (fun s => doNavUnit ch u s) s

/-- RTCM_DATAGRAM (R298). -/
def execRtcmDatagram (t : Nat) (udp source : Nat) (bytes : List Byte) (s : State) : Answer :=
  mainEvent t (fun s => doRtcmDatagram udp source bytes s) s

/-- INTERFERENCE_CHECK (R296). -/
def execInterferenceCheck (t : Nat) (port band : Nat) (agcDrop cn0Drop : Rat) (noNotch : Bool) (s : State) : Answer :=
  mainEvent t (fun s => doInterference port band agcDrop cn0Drop noNotch s) s

/-- TIM_CONFIG (R306, R73). -/
def execTimConfig (p : Packet) (s : State) : Answer := command .timConfig p s

/-- TIM_STATUS (R311, R73). -/
def execTimStatus (p : Packet) (s : State) : Answer := command .timStatus p s

/-- TIM_CONVERT (R310, R73). -/
def execTimConvert (p : Packet) (s : State) : Answer := command .timConvert p s

/-- TIM_EPOCH_SET (R309, R73). -/
def execTimEpochSet (p : Packet) (s : State) : Answer := command .timEpochSet p s

/-- TIME_STATE_EVAL (R311). -/
def execTimeStateEval (t : Nat) (temp : Rat) (s : State) : Answer := mainEvent t (fun s => doTimeEval temp s) s

/-- PPS_IN_EDGE (R316). -/
def execPpsInEdge (t : Nat) (falling : Bool) (s : State) : Answer := mainEvent t (fun s => doPpsIn falling s) s

/-- PPS_IN_LOST (R316). -/
def execPpsInLost (t : Nat) (s : State) : Answer := mainEvent t (fun s => doPpsLost s) s

/-- PPS_OUT_EDGE (R315). -/
def execPpsOutEdge (t : Nat) (out : Nat) (s : State) : Answer := mainEvent t (fun s => doPpsOut out s) s

/-- MAPPING_STEP (R312). -/
def execMappingStep (t : Nat) (s : State) : Answer := mainEvent t (fun s => doMappingStep s) s

/-- LEAP_SECOND (R310). -/
def execLeapSecond (t : Nat) (s : State) : Answer := mainEvent t (fun s => doLeapSecond s) s

/-- GPTP_MESSAGE (R317). -/
def execGptpMessage (t : Nat) (m : GptpMsg) (s : State) : Answer := mainEvent t (fun s => doGptp m s) s

/-- EPOCH_SET_TIMEOUT (R309). -/
def execEpochSetTimeout (t : Nat) (s : State) : Answer := mainEvent t (fun s => doEpochTimeout s) s

end Sys2Proof.Machine
end

