-- ==== Sys2Proof/Machine/ExecLpe.lean ====
section
/-! DEFINITION. Chapter 09: the loop engines: the meaning of each command of the table. -/
namespace Sys2Proof.Machine

/-- LPE_LOOP_CONFIG (R200, R73). -/
def execLpeLoopConfig (p : Packet) (s : State) : Answer := command .lpeLoopConfig p s

/-- LPE_LOOP_RUN (R219, R73). -/
def execLpeLoopRun (p : Packet) (s : State) : Answer := command .lpeLoopRun p s

/-- LPE_BANK_WRITE (R211, R73). -/
def execLpeBankWrite (p : Packet) (s : State) : Answer := command .lpeBankWrite p s

/-- LPE_BANK_SWAP (R210, R73). -/
def execLpeBankSwap (p : Packet) (s : State) : Answer := command .lpeBankSwap p s

/-- LPE_LOOP_STATUS (R232, R73). -/
def execLpeLoopStatus (p : Packet) (s : State) : Answer := command .lpeLoopStatus p s

/-- LPE_TRACE_SET (R226, R73). -/
def execLpeTraceSet (p : Packet) (s : State) : Answer := command .lpeTraceSet p s

/-- LPE_TRACE_READ (R226, R73). -/
def execLpeTraceRead (p : Packet) (s : State) : Answer := command .lpeTraceRead p s

/-- LPE_ENGINE_STATUS (R229, R73). -/
def execLpeEngineStatus (p : Packet) (s : State) : Answer := command .lpeEngineStatus p s

/-- LOOP_CTRL_SWAP (R210). -/
def execLoopCtrlSwap (t : Nat) (loop partition value : Nat) (s : State) : Answer :=
  mainEvent t (fun s => doLoopCtrlSwap loop partition value s) s

/-- TRC_ARM (R226). -/
def execTrcArm (t : Nat) (traceUnit partition : Nat) (s : State) : Answer :=
  mainEvent t (fun s => doTrcArm traceUnit partition s) s

/-- TRC_SWTRIG (R226). -/
def execTrcSwtrig (t : Nat) (traceUnit partition : Nat) (s : State) : Answer :=
  mainEvent t (fun s => doTrcSwtrig traceUnit partition s) s

/-- LOOP_SAMPLE (R202). -/
def execLoopSample (t : Nat) (loop : Nat) (s : State) : Answer :=
  mainEvent t (fun s => doLoopSample loop (gdeLoopHook loop (funRelease s))) s

/-- OUTPUT_RELEASE (R217). -/
def execOutputRelease (t : Nat) (loop : Nat) (s : State) : Answer :=
  mainEvent t (fun s => doOutputRelease loop s) s

/-- REP_PULSE (R213). -/
def execRepPulse (t : Nat) (di : Nat) (s : State) : Answer := mainEvent t (fun s => doRepPulse di s) s

/-- ENGINE_FAULT (R220). -/
def execEngineFault (t : Nat) (physical : Nat) (s : State) : Answer :=
  mainEvent t (fun s => doEngineFault physical s) s

/-- TAKEOVER_COMPLETE (R222). -/
def execTakeoverComplete (t : Nat) (logical : Nat) (s : State) : Answer :=
  mainEvent t (fun s => doTakeoverComplete logical s) s

/-- SPARE_REFERENCE_CHECK (R224). -/
def execSpareReferenceCheck (t : Nat) (good : Bool) (s : State) : Answer :=
  mainEvent t (fun s => doSpareReference good s) s

end Sys2Proof.Machine
end

