-- ==== Sys2Proof/Machine/ExecMem.lean ====
section
/-! DEFINITION. Chapters 19 to 21: memory, DMA and Cairn: the meaning of each command of the table. -/
namespace Sys2Proof.Machine

/-- MEM_STATUS (R440, R73). -/
def execMemStatus (p : Packet) (s : State) : Answer := command .memStatus p s

/-- MEM_SCRUB_CONFIG (R446, R73). -/
def execMemScrubConfig (p : Packet) (s : State) : Answer := command .memScrubConfig p s

/-- MEM_REGION_SET (R447, R73). -/
def execMemRegionSet (p : Packet) (s : State) : Answer := command .memRegionSet p s

/-- MEM_DEVICE_FAIL (R439, R73). -/
def execMemDeviceFail (p : Packet) (s : State) : Answer := command .memDeviceFail p s

/-- MEM_REMAP_CLEAR (R448, R73). -/
def execMemRemapClear (p : Packet) (s : State) : Answer := command .memRemapClear p s

/-- MEM_INJECT (R438, R73). -/
def execMemInject (p : Packet) (s : State) : Answer := command .memInject p s

/-- SCRUB_READ (R446). -/
def execScrubRead (t : Nat) (line : Nat) (pat : List (Nat × Nat)) (bits : Nat) (s : State) : Answer :=
  mainEvent t (withMarks [lineOf line] fun s => doScrubRead line pat bits s) s

/-- SCRUB_DUE (R446). -/
def execScrubDue (t : Nat) (s : State) : Answer := mainEvent t (fun s => doScrubDue s) s

/-- DMA_CHANNEL_SET (R464, R73). -/
def execDmaChannelSet (p : Packet) (s : State) : Answer := command .dmaChannelSet p s

/-- DMA_STATUS (R461, R73). -/
def execDmaStatus (p : Packet) (s : State) : Answer := command .dmaStatus p s

/-- DMA_START (R461). -/
def execDmaStart (t : Nat) (ch partition : Nat) (s : State) : Answer :=
  mainEvent t (fun s => doDmaStart ch partition s) s

/-- DMA_ABORT (R461). -/
def execDmaAbort (t : Nat) (ch partition : Nat) (s : State) : Answer :=
  mainEvent t (fun s => doDmaAbort ch partition s) s

/-- CH_DOORBELL (R463). -/
def execChDoorbell (t : Nat) (ch partition : Nat) (s : State) : Answer :=
  mainEvent t (fun s => doDoorbell ch partition s) s

/-- DESCRIPTOR_COMPLETE (R457). -/
def execDescriptorComplete (t : Nat) (ch : Nat) (s : State) : Answer :=
  mainEvent t (withMarks [] fun s => doDescriptorComplete ch s) s

/-- CRN_STATUS (R472, R73). -/
def execCrnStatus (p : Packet) (s : State) : Answer := command .crnStatus p s

/-- CRN_CURSOR_OPEN (R479, R73). -/
def execCrnCursorOpen (p : Packet) (s : State) : Answer := command .crnCursorOpen p s

/-- CRN_READ (R480, R73). -/
def execCrnRead (p : Packet) (s : State) : Answer := command .crnRead p s

/-- CRN_CURSOR_CLOSE (R479, R73). -/
def execCrnCursorClose (p : Packet) (s : State) : Answer := command .crnCursorClose p s

/-- CRN_CLEAR (R481, R73). -/
def execCrnClear (p : Packet) (s : State) : Answer := command .crnClear p s

/-- CRN_APP_WRITE (R475, R73). -/
def execCrnAppWrite (p : Packet) (s : State) : Answer := command .crnAppWrite p s

/-- CAIRN_EVENT_ACCEPT (R475). -/
def execCairnEventAccept (t : Nat) (s : State) : Answer := anyEvent t (fun s => doEventAccept s) s

/-- RECORD_WRITTEN (R476). -/
def execRecordWritten (t : Nat) (s : State) : Answer := anyEvent t (fun s => doRecordWritten s) s

/-- CURSOR_TIMEOUT (R479). -/
def execCursorTimeout (t : Nat) (cursor : Nat) (s : State) : Answer :=
  anyEvent t (fun s => doCursorTimeout cursor s) s

/-- MEMORY_ACCESS (R441). -/
def execMemoryAccess (t : Nat) (a : MemAccess) (s : State) : Answer := mainEvent t (withMarks [lineOf a.addr] fun s => doAccess a s) s

/-- HALF_COMPLETION (R459). -/
def execHalfCompletion (t : Nat) (ch : Nat) (s : State) : Answer := mainEvent t (withMarks [] fun s => doHalf ch s) s

end Sys2Proof.Machine
end

