-- ==== Sys2Proof/Machine/ExecPwr.lean ====
section
/-! DEFINITION. Chapters 22 and 23: updates, power and start-up: the meaning of each command of the table. -/
namespace Sys2Proof.Machine

/-- UPD_BEGIN (R486, R73). -/
def execUpdBegin (p : Packet) (s : State) : Answer := command .updBegin p s

/-- UPD_PIECE (R487, R73). -/
def execUpdPiece (p : Packet) (s : State) : Answer := command .updPiece p s

/-- UPD_STATUS (R495, R73). -/
def execUpdStatus (p : Packet) (s : State) : Answer := command .updStatus p s

/-- UPD_MISSING (R488, R73). -/
def execUpdMissing (p : Packet) (s : State) : Answer := command .updMissing p s

/-- UPD_INSTALL (R490, R73). -/
def execUpdInstall (p : Packet) (s : State) : Answer := command .updInstall p s

/-- UPD_COMMIT (R492, R73). -/
def execUpdCommit (p : Packet) (s : State) : Answer := command .updCommit p s

/-- UPD_ABORT (R495, R73). -/
def execUpdAbort (p : Packet) (s : State) : Answer := command .updAbort p s

/-- PIECE_BUFFER_TIMEOUT (R487). -/
def execPieceBufferTimeout (t : Nat) (s : State) : Answer := mainEvent t (fun s => doPieceTimeout s) s

/-- COMPONENT_INSTALLED (R490). -/
def execComponentInstalled (t : Nat) (good : Bool) (s : State) : Answer :=
  mainEvent t (fun s => doComponent good s) s

/-- ROLLBACK_RAISE (R494). -/
def execRollbackRaise (t : Nat) (s : State) : Answer := mainEvent t (fun s => doRollbackRaise s) s

/-- PENDING_RESOLVE (R493). -/
def execPendingResolve (t : Nat) (managerImage : Nat) (s : State) : Answer :=
  mainEvent t (fun s => doPendingResolve managerImage s) s

/-- PWR_SET (R502, R73). -/
def execPwrSet (p : Packet) (s : State) : Answer := command .pwrSet p s

/-- PWR_CONFIG (R500, R73). -/
def execPwrConfig (p : Packet) (s : State) : Answer := command .pwrConfig p s

/-- PWR_STATUS (R498, R73). -/
def execPwrStatus (p : Packet) (s : State) : Answer := command .pwrStatus p s

/-- POWER_STEP_COMPLETE (R502). -/
def execPowerStepComplete (t : Nat) (s : State) : Answer := anyEvent t (fun s => doStepComplete s) s

/-- DRAIN_END (R502). -/
def execDrainEnd (t : Nat) (s : State) : Answer := mainEvent t (fun s => doDrainEnd s) s

/-- DRAIN_TIMEOUT (R502). -/
def execDrainTimeout (t : Nat) (s : State) : Answer := mainEvent t (fun s => doDrainTimeout s) s

/-- WAKE (R500). -/
def execWake (t : Nat) (source : Nat) (s : State) : Answer := anyEvent t (fun s => doWake source s) s

/-- IGN_EDGE (R500). -/
def execIgnEdge (t : Nat) (rising : Bool) (s : State) : Answer := anyEvent t (fun s => doIgn rising s) s

/-- WAKE_EDGE (R500). -/
def execWakeEdge (t : Nat) (rising : Bool) (s : State) : Answer := anyEvent t (fun s => doWakeEdge rising s) s

/-- SUMMIT_ALARM (R500). -/
def execSummitAlarm (t : Nat) (s : State) : Answer := anyEvent t (fun s => doAlarm s) s

/-- SUPPLY_ON_START_UP (R501). -/
def execSupplyOnStartUp (t : Nat) (b : BootMeas) (s : State) : Answer := startEvent t (fun s => doSupplyOn b s) s

/-- READY (R512). -/
def execReady (t : Nat) (r : SelfTest) (s : State) : Answer := anyEvent t (fun s => restartIfDue (doReady r s)) s

/-- LOGIC_PATH_EVAL (R496). -/
def execLogicPathEval (t : Nat) (a b : PathMeas) (s : State) : Answer :=
  anyEvent t (fun s => doPathEval a b s) s

/-- SUPPLY_FAILURE (R497). -/
def execSupplyFailure (t : Nat) (ended records : Nat) (s : State) : Answer :=
  anyEvent t (fun s => doSupplyFailure ended records s) s

/-- BANK_MEASUREMENT (R506). -/
def execBankMeasurement (t : Nat) (volts mf : Rat) (charger : Bool) (s : State) : Answer :=
  anyEvent t (fun s => doBank volts mf charger s) s

/-- THERMAL_BUDGET (R514). -/
def execThermalBudget (t : Nat) (p : Rat) (s : State) : Answer := anyEvent t (fun s => doThermal p s) s

/-- LIMIT_INSUFFICIENT (R515). -/
def execLimitInsufficient (t : Nat) (s : State) : Answer := mainEvent t (fun s => doInsufficient s) s

end Sys2Proof.Machine
end

