-- ==== Sys2Proof/Machine/ExecSum.lean ====
section
/-! DEFINITION. Chapters 01 and 24: Summit, clocks and straps: the meaning of each command of the table. -/
namespace Sys2Proof.Machine

/-- CLOCK_WINDOW (R26). -/
def execClockWindow (t : Nat) (count : Nat) (s : State) : Answer := anyEvent t (fun s => doClockWindow count s) s

/-- PLL_LOSS_OF_LOCK (R26). -/
def execPllLossOfLock (t : Nat) (s : State) : Answer := anyEvent t (fun s => doPllLoss s) s

/-- STRAP_READ (R20). -/
def execStrapRead (t : Nat) (straps : Nat) (s : State) : Answer := anyEvent t (fun s => doStrapRead straps s) s

/-- SUMMIT_HEARTBEAT (R517). -/
def execSummitHeartbeat (t : Nat) (arrived : Bool) (s : State) : Answer :=
  anyEvent t (fun s => stopMove (doHeartbeatSum arrived s)) s

/-- SUMMIT_OSC_CHECK (R516). -/
def execSummitOscCheck (t : Nat) (count : Nat) (s : State) : Answer := anyEvent t (fun s => stopMove (doOscCheck count s)) s

/-- HEALTH_PUBLISH (R523). -/
def execHealthPublish (t : Nat) (m : HealthMeas) (s : State) : Answer := anyEvent t (fun s => doHealth m s) s

/-- SHOCK_EVENT (R521). -/
def execShockEvent (t : Nat) (x y z peak : Rat) (durationUs : Nat) (s : State) : Answer :=
  anyEvent t (fun s => doShock x y z peak durationUs s) s

/-- HUMIDITY_ALERT (R522). -/
def execHumidityAlert (t : Nat) (rh : Rat) (s : State) : Answer := anyEvent t (fun s => doHumidity rh s) s

/-- RANDOM_SOURCE_FAULT (R525). -/
def execRandomSourceFault (t : Nat) (s : State) : Answer := anyEvent t (fun s => doRandomFault s) s

/-- SUM_STATUS (R518, R73). -/
def execSumStatus (p : Packet) (s : State) : Answer := command .sumStatus p s

/-- SUM_CONFIG (R526, R73). -/
def execSumConfig (p : Packet) (s : State) : Answer := command .sumConfig p s

/-- SUM_KEY_SET (R524, R73). -/
def execSumKeySet (p : Packet) (s : State) : Answer := command .sumKeySet p s

/-- SUM_WINDOW_TEXT (R527, R73). -/
def execSumWindowText (p : Packet) (s : State) : Answer := command .sumWindowText p s

/-- REGION_RECOMPOSE (R526). -/
def execRegionRecompose (t : Nat) (region : Nat) (s : State) : Answer :=
  anyEvent t (fun s => doRecompose region s) s

/-- WAVEFORM_START (R527). -/
def execWaveformStart (t : Nat) (frame : Nat) (bias : Bool) (s : State) : Answer :=
  anyEvent t (fun s => doWaveformStart frame bias s) s

/-- WAVEFORM_COMPLETE (R530). -/
def execWaveformComplete (t : Nat) (s : State) : Answer := anyEvent t (fun s => doWaveformComplete s) s

/-- BIAS_RETRY (R528). -/
def execBiasRetry (t : Nat) (frame : Nat) (bias : Bool) (s : State) : Answer :=
  anyEvent t (fun s => doBiasRetry frame bias s) s

end Sys2Proof.Machine
end

