-- ==== Sys2Proof/Machine/ExecSys.lean ====
section
/-! DEFINITION. Chapters 02 and 03: the signal space and the command protocol: the meaning of each command of the table. -/
namespace Sys2Proof.Machine

/-- SYS_IDENT (R4, R73). -/
def execSysIdent (p : Packet) (s : State) : Answer := command .sysIdent p s

/-- SYS_STATUS (R22, R73). -/
def execSysStatus (p : Packet) (s : State) : Answer := command .sysStatus p s

/-- SYS_SESSION_OPEN (R69, R73). -/
def execSysSessionOpen (p : Packet) (s : State) : Answer := command .sysSessionOpen p s

/-- SYS_SESSION_CLOSE (R71, R73). -/
def execSysSessionClose (p : Packet) (s : State) : Answer := command .sysSessionClose p s

/-- SYS_CREDIT_SET (R76, R73). -/
def execSysCreditSet (p : Packet) (s : State) : Answer := command .sysCreditSet p s

/-- REPLY_PACKET (R75). -/
def execReplyPacket (t : Nat) (p : Packet) (opcode status : Nat) (s : State) : Answer :=
  mainEvent t (fun s => doReplyPacket p opcode status s) s

/-- PACKET_DISCARD (R74). -/
def execPacketDiscard (t : Nat) (d : Discard) (s : State) : Answer := mainEvent t (fun s => doDiscard d s) s

/-- QUEUE_TIMEOUT (R78). -/
def execQueueTimeout (t : Nat) (port tag : Nat) (s : State) : Answer :=
  mainEvent t (fun s => doQueueTimeout port tag s) s

/-- HALF_OPEN_EXPIRY (R69). -/
def execHalfOpenExpiry (t : Nat) (port : Nat) (s : State) : Answer := mainEvent t (fun s => doHalfOpen port s) s

/-- AUTH_FAIL_REPORT (R72). -/
def execAuthFailReport (t : Nat) (s : State) : Answer := mainEvent t (fun s => doAuthReport s) s

/-- SIG_READ (R37, R73). -/
def execSigRead (p : Packet) (s : State) : Answer := command .sigRead p s

/-- SIG_WRITE (R48, R73). -/
def execSigWrite (p : Packet) (s : State) : Answer := command .sigWrite p s

/-- SIG_ROUTE_SET (R50, R73). -/
def execSigRouteSet (p : Packet) (s : State) : Answer := command .sigRouteSet p s

/-- SIG_FORCE (R40, R73). -/
def execSigForce (p : Packet) (s : State) : Answer := command .sigForce p s

/-- FORCED_PUBLISH (R40). -/
def execForcedPublish (t : Nat) (s : State) : Answer := mainEvent t (fun s => doForcedPublish s) s

/-- FORCE_HOLD_ELAPSED (R40). -/
def execForceHoldElapsed (t : Nat) (s : State) : Answer := mainEvent t (fun s => doForceHold s) s

/-- ROUTE_EFFECTIVE (R50). -/
def execRouteEffective (t : Nat) (s : State) : Answer := mainEvent t (fun s => doRouteEffective s) s

/-- ROUTE_EXPORT (R53). -/
def execRouteExport (t : Nat) (s : State) : Answer := mainEvent t (fun s => doRouteExport s) s

/-- ROUTE_RECORD_RECEIVED (R52). -/
def execRouteRecordReceived (t : Nat) (r : RouteRecord) (s : State) : Answer :=
  mainEvent t (fun s => doRecordReceived r.handle r.value r.stamp r.confidence r.quality r.ty r.seq r.source r.blockLen r.published r.offset s) s

/-- STALE_AT_REACHED (R55). -/
def execStaleAtReached (t : Nat) (s : State) : Answer := mainEvent t (fun s => doStaleAt s) s

/-- MACHINE_CONFIG_LOAD (R17). -/
def execMachineConfigLoad (t : Nat) (c : MachineConfig) (s : State) : Answer :=
  mainEvent t (fun s => doMachineConfig c s) s

/-- MAILBOX_SUBMIT (R64). -/
def execMailboxSubmit (t : Nat) (partition taken : Nat) (slot : Option MailSlot) (s : State) : Answer :=
  mainEvent t (fun s => doMailbox partition taken slot s) s

/-- REGISTER_WRITE (R9). -/
def execRegisterWrite (t : Nat) (partition : Nat) (addr width value : Nat) (s : State) : Answer :=
  mainEvent t (fun s => doRegisterWrite partition addr width value s) s

end Sys2Proof.Machine
end

