-- ==== Sys2Proof/Machine/ExecVlv.lean ====
section
/-! DEFINITION. Chapter 10: the valve channels: the meaning of each command of the table. -/
namespace Sys2Proof.Machine

/-- VLV_CONFIG (R247, R73). -/
def execVlvConfig (p : Packet) (s : State) : Answer := command .vlvConfig p s

/-- VLV_DRIVE (R242, R73). -/
def execVlvDrive (p : Packet) (s : State) : Answer := command .vlvDrive p s

/-- VLV_STATUS (R254, R73). -/
def execVlvStatus (p : Packet) (s : State) : Answer := command .vlvStatus p s

/-- VLV_CLEAR (R247, R73). -/
def execVlvClear (p : Packet) (s : State) : Answer := command .vlvClear p s

/-- VLV_GROUP_STATUS (R257, R73). -/
def execVlvGroupStatus (p : Packet) (s : State) : Answer := command .vlvGroupStatus p s

/-- VALVE_INSTANT (R242). -/
def execValveInstant (t : Nat) (ch : Nat) (m : ValveMeas) (s : State) : Answer :=
  mainEvent t (fun s => doValveInstant ch m s) s

/-- TEST_PULSE_END (R250). -/
def execTestPulseEnd (t : Nat) (ch : Nat) (seen : List (Nat × Rat × Rat)) (s : State) : Answer :=
  mainEvent t (fun s => doTestPulseEnd ch seen s) s

/-- SHORT_TRIP (R254). -/
def execShortTrip (t : Nat) (ch : Nat) (high low : Bool) (s : State) : Answer :=
  mainEvent t (fun s => doShortTrip ch high low s) s

/-- RETRY_WAIT_EXPIRY (R247). -/
def execRetryWaitExpiry (t : Nat) (ch : Nat) (s : State) : Answer := mainEvent t (fun s => doRetryWait ch s) s

/-- RETRY_RESET (R247). -/
def execRetryReset (t : Nat) (ch : Nat) (s : State) : Answer := mainEvent t (fun s => doRetryReset ch s) s

/-- DEMAG_COMPLETE (R249). -/
def execDemagComplete (t : Nat) (ch : Nat) (current : Rat) (s : State) : Answer :=
  mainEvent t (fun s => doDemagComplete ch current s) s

/-- DEMAG_TIMEOUT (R247). -/
def execDemagTimeout (t : Nat) (ch : Nat) (s : State) : Answer := mainEvent t (fun s => doDemagTimeout ch s) s

/-- OFF_TIME_END (R248). -/
def execOffTimeEnd (t : Nat) (ch : Nat) (s : State) : Answer := mainEvent t (fun s => doOffTimeEnd ch s) s

/-- OFF_STATE_CHECK (R256). -/
def execOffStateCheck (t : Nat) (ch : Nat) (hMax hMin : Rat) (hi lo : List Rat) (s : State) : Answer :=
  mainEvent t (fun s => doOffStateCheck ch hMax hMin hi lo s) s

/-- GROUP_STATE_EVAL (R257). -/
def execGroupStateEval (t : Nat) (g : Nat) (m : GroupMeas) (s : State) : Answer :=
  mainEvent t (fun s => doGroupEval g m s) s

/-- COIL_THERMAL_UPDATE (R258). -/
def execCoilThermalUpdate (t : Nat) (ch : Nat) (samples : List Rat) (s : State) : Answer :=
  mainEvent t (fun s => doCoilThermal ch samples s) s

/-- RESISTANCE_MEASUREMENT (R259). -/
def execResistanceMeasurement (t : Nat) (ch : Nat) (duty : Rat) (samples : List Rat) (vGroup : Rat) (s : State) : Answer :=
  mainEvent t (fun s => doResistance ch duty samples vGroup s) s

/-- SENT_FRAME (R252). -/
def execSentFrame (t : Nat) (ch cal : Nat) (nibs : List Nat) (s : State) : Answer :=
  mainEvent t (fun s => doSentFrame ch cal nibs s) s

/-- VALVE_PUBLISH (R261). -/
def execValvePublish (t : Nat) (ch : Nat) (samples : List Rat) (s : State) : Answer :=
  mainEvent t (fun s => doValvePublish ch samples s) s

end Sys2Proof.Machine
end

