-- ==== Sys2Proof/Machine/Dispatch.lean ====
section
/-! DEFINITION. One arm per command of the table: its meaning, or its rejection by name. -/
namespace Sys2Proof.Machine

/-- The effect of a command on everything but the queue. -/
def exec (i : Instr) (s : State) : Host.Outcome State Fault Refusal :=
  match i with
  | .sysIdent p => Sys2Proof.Machine.execSysIdent p s
  | .sysStatus p => Sys2Proof.Machine.execSysStatus p s
  | .sysSessionOpen p => Sys2Proof.Machine.execSysSessionOpen p s
  | .sysSessionClose p => Sys2Proof.Machine.execSysSessionClose p s
  | .sysCreditSet p => Sys2Proof.Machine.execSysCreditSet p s
  | .replyPacket t p opcode status => Sys2Proof.Machine.execReplyPacket t p opcode status s
  | .packetDiscard t d => Sys2Proof.Machine.execPacketDiscard t d s
  | .queueTimeout t port tag => Sys2Proof.Machine.execQueueTimeout t port tag s
  | .halfOpenExpiry t port => Sys2Proof.Machine.execHalfOpenExpiry t port s
  | .authFailReport t => Sys2Proof.Machine.execAuthFailReport t s
  | .sigRead p => Sys2Proof.Machine.execSigRead p s
  | .sigWrite p => Sys2Proof.Machine.execSigWrite p s
  | .sigRouteSet p => Sys2Proof.Machine.execSigRouteSet p s
  | .sigForce p => Sys2Proof.Machine.execSigForce p s
  | .forcedPublish t => Sys2Proof.Machine.execForcedPublish t s
  | .forceHoldElapsed t => Sys2Proof.Machine.execForceHoldElapsed t s
  | .routeEffective t => Sys2Proof.Machine.execRouteEffective t s
  | .routeExport t => Sys2Proof.Machine.execRouteExport t s
  | .routeRecordReceived t r => Sys2Proof.Machine.execRouteRecordReceived t r s
  | .staleAtReached t => Sys2Proof.Machine.execStaleAtReached t s
  | .machineConfigLoad t c => Sys2Proof.Machine.execMachineConfigLoad t c s
  | .funConfig p => Sys2Proof.Machine.execFunConfig p s
  | .funEnable p => Sys2Proof.Machine.execFunEnable p s
  | .funDisable p => Sys2Proof.Machine.execFunDisable p s
  | .funSourceSet p => Sys2Proof.Machine.execFunSourceSet p s
  | .funState p => Sys2Proof.Machine.execFunState p s
  | .funClear p => Sys2Proof.Machine.execFunClear p s
  | .funInterlockSet p => Sys2Proof.Machine.execFunInterlockSet p s
  | .funAutoSet p => Sys2Proof.Machine.execFunAutoSet p s
  | .functionSample t => Sys2Proof.Machine.execFunctionSample t s
  | .interlockHoldExpiry t => Sys2Proof.Machine.execInterlockHoldExpiry t s
  | .enableTimeout t => Sys2Proof.Machine.execEnableTimeout t s
  | .recoverHold t => Sys2Proof.Machine.execRecoverHold t s
  | .pnrTimeout t => Sys2Proof.Machine.execPnrTimeout t s
  | .switchOffComplete t ack => Sys2Proof.Machine.execSwitchOffComplete t ack s
  | .overrideEnd t => Sys2Proof.Machine.execOverrideEnd t s
  | .culConfig p => Sys2Proof.Machine.execCulConfig p s
  | .culStageSet p => Sys2Proof.Machine.execCulStageSet p s
  | .culSensorSet p => Sys2Proof.Machine.execCulSensorSet p s
  | .culStart p => Sys2Proof.Machine.execCulStart p s
  | .culStop p => Sys2Proof.Machine.execCulStop p s
  | .culStatus p => Sys2Proof.Machine.execCulStatus p s
  | .culLedgerRead p => Sys2Proof.Machine.execCulLedgerRead p s
  | .culCalRun p => Sys2Proof.Machine.execCulCalRun p s
  | .calWindowEnd t => Sys2Proof.Machine.execCalWindowEnd t s
  | .couloirTick t => Sys2Proof.Machine.execCouloirTick t s
  | .poseWait t => Sys2Proof.Machine.execPoseWait t s
  | .velocityHoldExpiry t => Sys2Proof.Machine.execVelocityHoldExpiry t s
  | .parcelAged t => Sys2Proof.Machine.execParcelAged t s
  | .refillEnd t => Sys2Proof.Machine.execRefillEnd t s
  | .impactDetected t ch age before crossing after => Sys2Proof.Machine.execImpactDetected t ch age before crossing after s
  | .reportInterval t m => Sys2Proof.Machine.execReportInterval t m s
  | .flowDecision t beam => Sys2Proof.Machine.execFlowDecision t beam s
  | .plateBlock t samples bridge => Sys2Proof.Machine.execPlateBlock t samples bridge s
  | .paddlePass t tb => Sys2Proof.Machine.execPaddlePass t tb s
  | .moistureSample t c cEmpty cRef temp readings ok => Sys2Proof.Machine.execMoistureSample t c cEmpty cRef temp readings ok s
  | .tareRetake t block => Sys2Proof.Machine.execTareRetake t block s
  | .senChannelSet p => Sys2Proof.Machine.execSenChannelSet p s
  | .senClassWrite p => Sys2Proof.Machine.execSenClassWrite p s
  | .senTrain p => Sys2Proof.Machine.execSenTrain p s
  | .senChannelRead p => Sys2Proof.Machine.execSenChannelRead p s
  | .senCropSet p => Sys2Proof.Machine.execSenCropSet p s
  | .senYieldConfig p => Sys2Proof.Machine.execSenYieldConfig p s
  | .senCalLoad p => Sys2Proof.Machine.execSenCalLoad p s
  | .senStatus p => Sys2Proof.Machine.execSenStatus p s
  | .mapFieldOpen p => Sys2Proof.Machine.execMapFieldOpen p s
  | .mapFieldClose p => Sys2Proof.Machine.execMapFieldClose p s
  | .mapConfig p => Sys2Proof.Machine.execMapConfig p s
  | .mapTileRead p => Sys2Proof.Machine.execMapTileRead p s
  | .mapStatus p => Sys2Proof.Machine.execMapStatus p s
  | .mapExport p => Sys2Proof.Machine.execMapExport p s
  | .exportBuilt t => Sys2Proof.Machine.execExportBuilt t s
  | .mapExportRead p => Sys2Proof.Machine.execMapExportRead p s
  | .tileLoadComplete t te tn => Sys2Proof.Machine.execTileLoadComplete t te tn s
  | .tileFlush t => Sys2Proof.Machine.execTileFlush t s
  | .gdeConfig p => Sys2Proof.Machine.execGdeConfig p s
  | .gdeLineWrite p => Sys2Proof.Machine.execGdeLineWrite p s
  | .gdeLineSelect p => Sys2Proof.Machine.execGdeLineSelect p s
  | .gdeEngage p => Sys2Proof.Machine.execGdeEngage p s
  | .gdeDisengage p => Sys2Proof.Machine.execGdeDisengage p s
  | .gdeStatus p => Sys2Proof.Machine.execGdeStatus p s
  | .gdeWasCal p => Sys2Proof.Machine.execGdeWasCal p s
  | .wasPointRecorded t => Sys2Proof.Machine.execWasPointRecorded t s
  | .lawSample t ready => Sys2Proof.Machine.execLawSample t ready s
  | .coastExpiry t => Sys2Proof.Machine.execCoastExpiry t s
  | .releaseRampEnd t => Sys2Proof.Machine.execReleaseRampEnd t s
  | .gdeSwitchOffComplete t => Sys2Proof.Machine.execGdeSwitchOffComplete t s
  | .lpeLoopConfig p => Sys2Proof.Machine.execLpeLoopConfig p s
  | .lpeLoopRun p => Sys2Proof.Machine.execLpeLoopRun p s
  | .lpeBankWrite p => Sys2Proof.Machine.execLpeBankWrite p s
  | .lpeBankSwap p => Sys2Proof.Machine.execLpeBankSwap p s
  | .lpeLoopStatus p => Sys2Proof.Machine.execLpeLoopStatus p s
  | .lpeTraceSet p => Sys2Proof.Machine.execLpeTraceSet p s
  | .lpeTraceRead p => Sys2Proof.Machine.execLpeTraceRead p s
  | .lpeEngineStatus p => Sys2Proof.Machine.execLpeEngineStatus p s
  | .loopCtrlSwap t loop partition value => Sys2Proof.Machine.execLoopCtrlSwap t loop partition value s
  | .trcArm t traceUnit partition => Sys2Proof.Machine.execTrcArm t traceUnit partition s
  | .trcSwtrig t traceUnit partition => Sys2Proof.Machine.execTrcSwtrig t traceUnit partition s
  | .loopSample t loop => Sys2Proof.Machine.execLoopSample t loop s
  | .outputRelease t loop => Sys2Proof.Machine.execOutputRelease t loop s
  | .repPulse t di => Sys2Proof.Machine.execRepPulse t di s
  | .engineFault t physical => Sys2Proof.Machine.execEngineFault t physical s
  | .takeoverComplete t logical => Sys2Proof.Machine.execTakeoverComplete t logical s
  | .spareReferenceCheck t good => Sys2Proof.Machine.execSpareReferenceCheck t good s
  | .vlvConfig p => Sys2Proof.Machine.execVlvConfig p s
  | .vlvDrive p => Sys2Proof.Machine.execVlvDrive p s
  | .vlvStatus p => Sys2Proof.Machine.execVlvStatus p s
  | .vlvClear p => Sys2Proof.Machine.execVlvClear p s
  | .vlvGroupStatus p => Sys2Proof.Machine.execVlvGroupStatus p s
  | .valveInstant t ch m => Sys2Proof.Machine.execValveInstant t ch m s
  | .testPulseEnd t ch seen => Sys2Proof.Machine.execTestPulseEnd t ch seen s
  | .shortTrip t ch high low => Sys2Proof.Machine.execShortTrip t ch high low s
  | .retryWaitExpiry t ch => Sys2Proof.Machine.execRetryWaitExpiry t ch s
  | .retryReset t ch => Sys2Proof.Machine.execRetryReset t ch s
  | .demagComplete t ch current => Sys2Proof.Machine.execDemagComplete t ch current s
  | .demagTimeout t ch => Sys2Proof.Machine.execDemagTimeout t ch s
  | .offTimeEnd t ch => Sys2Proof.Machine.execOffTimeEnd t ch s
  | .offStateCheck t ch hMax hMin hi lo => Sys2Proof.Machine.execOffStateCheck t ch hMax hMin hi lo s
  | .groupStateEval t g m => Sys2Proof.Machine.execGroupStateEval t g m s
  | .coilThermalUpdate t ch samples => Sys2Proof.Machine.execCoilThermalUpdate t ch samples s
  | .resistanceMeasurement t ch duty samples vGroup => Sys2Proof.Machine.execResistanceMeasurement t ch duty samples vGroup s
  | .sentFrame t ch cal nibs => Sys2Proof.Machine.execSentFrame t ch cal nibs s
  | .valvePublish t ch samples => Sys2Proof.Machine.execValvePublish t ch samples s
  | .fioDiConfig p => Sys2Proof.Machine.execFioDiConfig p s
  | .fioAiConfig p => Sys2Proof.Machine.execFioAiConfig p s
  | .fioDoConfig p => Sys2Proof.Machine.execFioDoConfig p s
  | .fioDoClear p => Sys2Proof.Machine.execFioDoClear p s
  | .fioStatus p => Sys2Proof.Machine.execFioStatus p s
  | .diOutChange t di samples => Sys2Proof.Machine.execDiOutChange t di samples s
  | .diPeriodicPublish t di => Sys2Proof.Machine.execDiPeriodicPublish t di s
  | .pulseFrequency t di => Sys2Proof.Machine.execPulseFrequency t di s
  | .wireBreakCheck t di vIn temp => Sys2Proof.Machine.execWireBreakCheck t di vIn temp s
  | .aiConversion t ai m => Sys2Proof.Machine.execAiConversion t ai m s
  | .aiShuntRetry t ai => Sys2Proof.Machine.execAiShuntRetry t ai s
  | .doInstant t out m => Sys2Proof.Machine.execDoInstant t out m s
  | .doTestPulseEnd t out seen => Sys2Proof.Machine.execDoTestPulseEnd t out seen s
  | .doTrip t out amps limiting => Sys2Proof.Machine.execDoTrip t out amps limiting s
  | .doRetryExpiry t out => Sys2Proof.Machine.execDoRetryExpiry t out s
  | .doRetryReset t out => Sys2Proof.Machine.execDoRetryReset t out s
  | .doDemagComplete t out current => Sys2Proof.Machine.execDoDemagComplete t out current s
  | .doOffStateCheck t out pin => Sys2Proof.Machine.execDoOffStateCheck t out pin s
  | .supplyEval t supply volts limiting => Sys2Proof.Machine.execSupplyEval t supply volts limiting s
  | .sensorSupplyRetry t supply => Sys2Proof.Machine.execSensorSupplyRetry t supply s
  | .gnsConfig p => Sys2Proof.Machine.execGnsConfig p s
  | .gnsRtcmPut p => Sys2Proof.Machine.execGnsRtcmPut p s
  | .gnsRawLatch p => Sys2Proof.Machine.execGnsRawLatch p s
  | .gnsTest p => Sys2Proof.Machine.execGnsTest p s
  | .gnsRestart p => Sys2Proof.Machine.execGnsRestart p s
  | .gnsStatus p => Sys2Proof.Machine.execGnsStatus p s
  | .gnsChannelRead p => Sys2Proof.Machine.execGnsChannelRead p s
  | .gnssEpoch t e => Sys2Proof.Machine.execGnssEpoch t e s
  | .spoofClearTimer t => Sys2Proof.Machine.execSpoofClearTimer t s
  | .portStateEval t port mA loLocked refDev => Sys2Proof.Machine.execPortStateEval t port mA loLocked refDev s
  | .correlatorSelfTest t port good => Sys2Proof.Machine.execCorrelatorSelfTest t port good s
  | .dwellComplete t ch exceeds => Sys2Proof.Machine.execDwellComplete t ch exceeds s
  | .carrierLockLoss t ch pli => Sys2Proof.Machine.execCarrierLockLoss t ch pli s
  | .navUnit t ch u => Sys2Proof.Machine.execNavUnit t ch u s
  | .rtcmDatagram t udp source bytes => Sys2Proof.Machine.execRtcmDatagram t udp source bytes s
  | .interferenceCheck t port band agcDrop cn0Drop noNotch => Sys2Proof.Machine.execInterferenceCheck t port band agcDrop cn0Drop noNotch s
  | .timConfig p => Sys2Proof.Machine.execTimConfig p s
  | .timStatus p => Sys2Proof.Machine.execTimStatus p s
  | .timConvert p => Sys2Proof.Machine.execTimConvert p s
  | .timEpochSet p => Sys2Proof.Machine.execTimEpochSet p s
  | .timeStateEval t temp => Sys2Proof.Machine.execTimeStateEval t temp s
  | .ppsInEdge t falling => Sys2Proof.Machine.execPpsInEdge t falling s
  | .ppsInLost t => Sys2Proof.Machine.execPpsInLost t s
  | .ppsOutEdge t out => Sys2Proof.Machine.execPpsOutEdge t out s
  | .mappingStep t => Sys2Proof.Machine.execMappingStep t s
  | .leapSecond t => Sys2Proof.Machine.execLeapSecond t s
  | .gptpMessage t m => Sys2Proof.Machine.execGptpMessage t m s
  | .fusConfig p => Sys2Proof.Machine.execFusConfig p s
  | .fusFrameSet p => Sys2Proof.Machine.execFusFrameSet p s
  | .fusFrameRead p => Sys2Proof.Machine.execFusFrameRead p s
  | .fusGroupSet p => Sys2Proof.Machine.execFusGroupSet p s
  | .fusSourceSet p => Sys2Proof.Machine.execFusSourceSet p s
  | .fusStatus p => Sys2Proof.Machine.execFusStatus p s
  | .fusTrackRead p => Sys2Proof.Machine.execFusTrackRead p s
  | .fusionInstant t m => Sys2Proof.Machine.execFusionInstant t m s
  | .posePublish t e => Sys2Proof.Machine.execPosePublish t e s
  | .ga1Prediction t lat lon height => Sys2Proof.Machine.execGa1Prediction t lat lon height s
  | .detectionBlock t source stamp dets => Sys2Proof.Machine.execDetectionBlock t source stamp dets s
  | .trackTimeout t => Sys2Proof.Machine.execTrackTimeout t s
  | .camLinkSet p => Sys2Proof.Machine.execCamLinkSet p s
  | .camPipeSet p => Sys2Proof.Machine.execCamPipeSet p s
  | .camPairSet p => Sys2Proof.Machine.execCamPairSet p s
  | .camFsyncSet p => Sys2Proof.Machine.execCamFsyncSet p s
  | .camSensorWrite p => Sys2Proof.Machine.execCamSensorWrite p s
  | .camVaSet p => Sys2Proof.Machine.execCamVaSet p s
  | .camStatus p => Sys2Proof.Machine.execCamStatus p s
  | .linkStateEval t link m => Sys2Proof.Machine.execLinkStateEval t link m s
  | .csi2Packet t link k => Sys2Proof.Machine.execCsi2Packet t link k s
  | .sensorWriteComplete t link acked => Sys2Proof.Machine.execSensorWriteComplete t link acked s
  | .fsyncEdge t output => Sys2Proof.Machine.execFsyncEdge t output s
  | .resyncRelease t pair => Sys2Proof.Machine.execResyncRelease t pair s
  | .vaJobComplete t res => Sys2Proof.Machine.execVaJobComplete t res s
  | .canConfig p => Sys2Proof.Machine.execCanConfig p s
  | .canBufferSet p => Sys2Proof.Machine.execCanBufferSet p s
  | .canFilterSet p => Sys2Proof.Machine.execCanFilterSet p s
  | .canPower p => Sys2Proof.Machine.execCanPower p s
  | .canRecover p => Sys2Proof.Machine.execCanRecover p s
  | .canTtSet p => Sys2Proof.Machine.execCanTtSet p s
  | .canClaim p => Sys2Proof.Machine.execCanClaim p s
  | .canStatus p => Sys2Proof.Machine.execCanStatus p s
  | .canTxreq t ch partition word value => Sys2Proof.Machine.execCanTxreq t ch partition word value s
  | .canTxabort t ch partition word value => Sys2Proof.Machine.execCanTxabort t ch partition word value s
  | .canFrameReceived t ch f => Sys2Proof.Machine.execCanFrameReceived t ch f s
  | .arbitrationStart t ch => Sys2Proof.Machine.execArbitrationStart t ch s
  | .txAttemptEnd t ch r => Sys2Proof.Machine.execTxAttemptEnd t ch r s
  | .deadlineExpiry t ch buffer => Sys2Proof.Machine.execDeadlineExpiry t ch buffer s
  | .recoveryDelayExpiry t ch => Sys2Proof.Machine.execRecoveryDelayExpiry t ch s
  | .recoveryComplete t ch => Sys2Proof.Machine.execRecoveryComplete t ch s
  | .alonePace t ch => Sys2Proof.Machine.execAlonePace t ch s
  | .canSelfTest t ch good => Sys2Proof.Machine.execCanSelfTest t ch good s
  | .canWake t ch w => Sys2Proof.Machine.execCanWake t ch w s
  | .ttTrigger t ch trigger => Sys2Proof.Machine.execTtTrigger t ch trigger s
  | .ttReference t ch r => Sys2Proof.Machine.execTtReference t ch r s
  | .addressClaimMessage t ch m => Sys2Proof.Machine.execAddressClaimMessage t ch m s
  | .fltConfig p => Sys2Proof.Machine.execFltConfig p s
  | .fltKeySet p => Sys2Proof.Machine.execFltKeySet p s
  | .fltMemberSet p => Sys2Proof.Machine.execFltMemberSet p s
  | .fltHazardSet p => Sys2Proof.Machine.execFltHazardSet p s
  | .fltLine p => Sys2Proof.Machine.execFltLine p s
  | .fltUnload p => Sys2Proof.Machine.execFltUnload p s
  | .fltStatus p => Sys2Proof.Machine.execFltStatus p s
  | .exchangeInstant t => Sys2Proof.Machine.execExchangeInstant t s
  | .fleetDatagram t ip addr d => Sys2Proof.Machine.execFleetDatagram t ip addr d s
  | .dtlsHandshake t member => Sys2Proof.Machine.execDtlsHandshake t member s
  | .memberTimeout t => Sys2Proof.Machine.execMemberTimeout t s
  | .grantTimeout t => Sys2Proof.Machine.execGrantTimeout t s
  | .lostHoldExpiry t => Sys2Proof.Machine.execLostHoldExpiry t s
  | .hazardExpiry t => Sys2Proof.Machine.execHazardExpiry t s
  | .colPartitionConfig p => Sys2Proof.Machine.execColPartitionConfig p s
  | .colInputSet p => Sys2Proof.Machine.execColInputSet p s
  | .colAdmit p => Sys2Proof.Machine.execColAdmit p s
  | .colPartitionRun p => Sys2Proof.Machine.execColPartitionRun p s
  | .colStatus p => Sys2Proof.Machine.execColStatus p s
  | .colPartitionStatus p => Sys2Proof.Machine.execColPartitionStatus p s
  | .colRoleReturn p => Sys2Proof.Machine.execColRoleReturn p s
  | .colInject p => Sys2Proof.Machine.execColInject p s
  | .mailboxSubmit t partition taken slot => Sys2Proof.Machine.execMailboxSubmit t partition taken slot s
  | .periodStart t partition => Sys2Proof.Machine.execPeriodStart t partition s
  | .doneWrite t partition value execUs => Sys2Proof.Machine.execDoneWrite t partition value execUs s
  | .commitComplete t partition => Sys2Proof.Machine.execCommitComplete t partition s
  | .releaseBoundary t returnReady => Sys2Proof.Machine.execReleaseBoundary t returnReady s
  | .wcetExpiry t partition => Sys2Proof.Machine.execWcetExpiry t partition s
  | .pairFault t pairs => Sys2Proof.Machine.execPairFault t pairs s
  | .restoreComplete t pair => Sys2Proof.Machine.execRestoreComplete t pair s
  | .spareCheck t pair good => Sys2Proof.Machine.execSpareCheck t pair good s
  | .commitMirrorReceived t m => Sys2Proof.Machine.execCommitMirrorReceived t m s
  | .heartbeatSend t => Sys2Proof.Machine.execHeartbeatSend t s
  | .failureNotice t => Sys2Proof.Machine.execFailureNotice t s
  | .managerLost t => Sys2Proof.Machine.execManagerLost t s
  | .peerDiscovery t reports => Sys2Proof.Machine.execPeerDiscovery t reports s
  | .memStatus p => Sys2Proof.Machine.execMemStatus p s
  | .memScrubConfig p => Sys2Proof.Machine.execMemScrubConfig p s
  | .memRegionSet p => Sys2Proof.Machine.execMemRegionSet p s
  | .memDeviceFail p => Sys2Proof.Machine.execMemDeviceFail p s
  | .memRemapClear p => Sys2Proof.Machine.execMemRemapClear p s
  | .memInject p => Sys2Proof.Machine.execMemInject p s
  | .scrubRead t line pat bits => Sys2Proof.Machine.execScrubRead t line pat bits s
  | .scrubDue t => Sys2Proof.Machine.execScrubDue t s
  | .dmaChannelSet p => Sys2Proof.Machine.execDmaChannelSet p s
  | .dmaStatus p => Sys2Proof.Machine.execDmaStatus p s
  | .dmaStart t ch partition => Sys2Proof.Machine.execDmaStart t ch partition s
  | .dmaAbort t ch partition => Sys2Proof.Machine.execDmaAbort t ch partition s
  | .chDoorbell t ch partition => Sys2Proof.Machine.execChDoorbell t ch partition s
  | .descriptorComplete t ch => Sys2Proof.Machine.execDescriptorComplete t ch s
  | .crnStatus p => Sys2Proof.Machine.execCrnStatus p s
  | .crnCursorOpen p => Sys2Proof.Machine.execCrnCursorOpen p s
  | .crnRead p => Sys2Proof.Machine.execCrnRead p s
  | .crnCursorClose p => Sys2Proof.Machine.execCrnCursorClose p s
  | .crnClear p => Sys2Proof.Machine.execCrnClear p s
  | .crnAppWrite p => Sys2Proof.Machine.execCrnAppWrite p s
  | .cairnEventAccept t => Sys2Proof.Machine.execCairnEventAccept t s
  | .recordWritten t => Sys2Proof.Machine.execRecordWritten t s
  | .cursorTimeout t cursor => Sys2Proof.Machine.execCursorTimeout t cursor s
  | .updBegin p => Sys2Proof.Machine.execUpdBegin p s
  | .updPiece p => Sys2Proof.Machine.execUpdPiece p s
  | .updStatus p => Sys2Proof.Machine.execUpdStatus p s
  | .updMissing p => Sys2Proof.Machine.execUpdMissing p s
  | .updInstall p => Sys2Proof.Machine.execUpdInstall p s
  | .updCommit p => Sys2Proof.Machine.execUpdCommit p s
  | .updAbort p => Sys2Proof.Machine.execUpdAbort p s
  | .pieceBufferTimeout t => Sys2Proof.Machine.execPieceBufferTimeout t s
  | .componentInstalled t good => Sys2Proof.Machine.execComponentInstalled t good s
  | .rollbackRaise t => Sys2Proof.Machine.execRollbackRaise t s
  | .pendingResolve t managerImage => Sys2Proof.Machine.execPendingResolve t managerImage s
  | .pwrSet p => Sys2Proof.Machine.execPwrSet p s
  | .pwrConfig p => Sys2Proof.Machine.execPwrConfig p s
  | .pwrStatus p => Sys2Proof.Machine.execPwrStatus p s
  | .powerStepComplete t => Sys2Proof.Machine.execPowerStepComplete t s
  | .drainEnd t => Sys2Proof.Machine.execDrainEnd t s
  | .drainTimeout t => Sys2Proof.Machine.execDrainTimeout t s
  | .wake t source => Sys2Proof.Machine.execWake t source s
  | .ignEdge t rising => Sys2Proof.Machine.execIgnEdge t rising s
  | .wakeEdge t rising => Sys2Proof.Machine.execWakeEdge t rising s
  | .summitAlarm t => Sys2Proof.Machine.execSummitAlarm t s
  | .supplyOnStartUp t b => Sys2Proof.Machine.execSupplyOnStartUp t b s
  | .ready t r => Sys2Proof.Machine.execReady t r s
  | .logicPathEval t a b => Sys2Proof.Machine.execLogicPathEval t a b s
  | .supplyFailure t ended records => Sys2Proof.Machine.execSupplyFailure t ended records s
  | .bankMeasurement t volts mf charger => Sys2Proof.Machine.execBankMeasurement t volts mf charger s
  | .thermalBudget t p => Sys2Proof.Machine.execThermalBudget t p s
  | .limitInsufficient t => Sys2Proof.Machine.execLimitInsufficient t s
  | .clockWindow t count => Sys2Proof.Machine.execClockWindow t count s
  | .pllLossOfLock t => Sys2Proof.Machine.execPllLossOfLock t s
  | .strapRead t straps => Sys2Proof.Machine.execStrapRead t straps s
  | .summitHeartbeat t arrived => Sys2Proof.Machine.execSummitHeartbeat t arrived s
  | .summitOscCheck t count => Sys2Proof.Machine.execSummitOscCheck t count s
  | .healthPublish t m => Sys2Proof.Machine.execHealthPublish t m s
  | .shockEvent t x y z peak durationUs => Sys2Proof.Machine.execShockEvent t x y z peak durationUs s
  | .humidityAlert t rh => Sys2Proof.Machine.execHumidityAlert t rh s
  | .randomSourceFault t => Sys2Proof.Machine.execRandomSourceFault t s
  | .sumStatus p => Sys2Proof.Machine.execSumStatus p s
  | .sumConfig p => Sys2Proof.Machine.execSumConfig p s
  | .sumKeySet p => Sys2Proof.Machine.execSumKeySet p s
  | .sumWindowText p => Sys2Proof.Machine.execSumWindowText p s
  | .regionRecompose t region => Sys2Proof.Machine.execRegionRecompose t region s
  | .waveformStart t frame bias => Sys2Proof.Machine.execWaveformStart t frame bias s
  | .waveformComplete t => Sys2Proof.Machine.execWaveformComplete t s
  | .biasRetry t frame bias => Sys2Proof.Machine.execBiasRetry t frame bias s
  | .registerWrite t partition addr width value => Sys2Proof.Machine.execRegisterWrite t partition addr width value s
  | .memoryAccess t a => Sys2Proof.Machine.execMemoryAccess t a s
  | .receiveError t ch dominantAfterFlag => Sys2Proof.Machine.execReceiveError t ch dominantAfterFlag s
  | .recessiveBitsDetected t ch => Sys2Proof.Machine.execRecessiveBitsDetected t ch s
  | .pocOvercurrent t link => Sys2Proof.Machine.execPocOvercurrent t link s
  | .pocRetry t link => Sys2Proof.Machine.execPocRetry t link s
  | .epochSetTimeout t => Sys2Proof.Machine.execEpochSetTimeout t s
  | .halfCompletion t ch => Sys2Proof.Machine.execHalfCompletion t ch s

end Sys2Proof.Machine
end

