-- ==== Sys2Proof/Safety.lean ====
section
/-! DEFINITION. The terms in which the statements speak of runs: a packet that is taken, what a command and an event leave, the queue and
the memory of a safe run. -/
namespace Sys2Proof.Machine

/-- Whether a packet comes from a partition that re-executes a period (R422). -/
def replays (p : Packet) (s : State) : Bool :=
  match p.via with | .mailbox n => (s.part n).replaying && (s.part n).inPeriod | _ => false

/-- The request that a packet becomes, and the state in which it is about to start: the module takes packets, steps 1 to 7 of R73 pass,
no other packet of the instant competes (R77), the packet waits for no other member of a chain (R83), no earlier command to its target has yet to start (R82), R81 does not hold it, no
journal answers it (R422), and no rate turns it away (R475). None where one of these fails. -/
def admitted (op : Op) (p : Packet) (s : State) : Option (Req × State) :=
  let s := tick p.time s
  if !reachable_ s || replays p s || !s.sys.arrived.isEmpty || moreNow s then none else
  match gate op p s with
  | .stop _ => none
  | .go r s =>
    let (c, s) := enterChain r s
    if c.broken || c.prev.isSome then none else
    match admitRate r s with
    | (some _, _) => none
    | (none, s) => if heldByCol r s || blocked r s then none else some (r, s)

/-- The request of a packet and the state in which its own rules decide (R73 step 8): it is about to start, and no sample to come starts
it (R93, R192, R396). -/
def taken (op : Op) (p : Packet) (s : State) : Option (Req × State) := (admitted op p s).filter fun x => !waitsSample x.1 x.2

/-- What a taken command leaves whose rules answer `x`: the reply and the end of its flight, or its interim reply (R79); then commands
whose turn has come. -/
def after (p : Packet) (r : Req) (x : Res × State) (s : State) : State :=
  { startWaiting 129 (afterCommand r.op (settle r x)) with time := max s.time p.time, pending := s.pending }

/-- What an event leaves whose effect is `u`: then commands whose turn has come. -/
def ensuing (t : Nat) (u : State) (s : State) : State := { startWaiting 129 u with time := max s.time t, pending := s.pending }

/-- None of the conditions under which a command is refused holds. -/
def permitted (cs : List (Bool × Status)) : Bool := cs.all fun c => !c.1

/-- A command completes: for every packet of its row that is taken, under condition `C` on the request and the state in which its rules
decide, `exec` answers a next state, the one that `after` gives for a result `x` with `E`. -/
def Does (op : Op) (i : Packet → Instr) (C : Req → State → Bool) (E : Req → State → Res × State → Prop) : Prop :=
  ∀ p s r t, taken op p s = some (r, t) → C r t = true → ∃ x, exec (i p) s = .next (after p r x s) ∧ E r t x

/-- A command answers `DONE` with a payload and changes nothing of its own. -/
def Tells (op : Op) (i : Packet → Instr) (C : Req → State → Bool) (b : Req → State → List Byte) : Prop :=
  Does op i C fun r t x => x = (.fin .done (b r t), t)

/-- A command that a sample starts waits for it: where its packet is about to start and no sample is at this instant, `exec` answers the
state in which it is in flight, marked for the sample, and nothing else has happened (R93, R192, R396). -/
def Waits (op : Op) (i : Packet → Instr) : Prop :=
  ∀ p s r t, admitted op p s = some (r, t) → waitsSample r t = true →
    exec (i p) s = .next { startWaiting 129 (awaitSample r t) with time := max s.time p.time, pending := s.pending }

/-- A command whose own rules refuse it ends with the status of the first condition that holds, and has no effect (R15, R73). -/
def Refuses (op : Op) (i : Packet → Instr) (chk : Req → State → List (Bool × Status)) : Prop :=
  ∀ p s r t c, taken op p s = some (r, t) → (chk r t).find? (·.1) = some c → exec (i p) s = .next (after p r (.fin c.2 [], t) s)

/-- A command is refused under condition `C`: it ends with a status that is a refusal, and has no effect of its own (R15). -/
def Barred (op : Op) (i : Packet → Instr) (C : Req → State → Bool) : Prop :=
  ∀ p s r t, taken op p s = some (r, t) → C r t = true →
    ∃ c : Status, c.success = false ∧ exec (i p) s = .next (after p r (.fin c [], t) s)

/-- An event happens: `exec` answers a next state, and what it leaves is `u`, with commands whose turn has come. -/
def Occurs (i : Instr) (s u : State) : Prop := exec i s = .next (ensuing i.time u s)

/-- An event of the main domain happens: where that domain has power and the state at the event's time is as `C` says, its effect is `E`. -/
def OccursOn (i : Instr) (C : State → Bool) (E : State → State) : Prop :=
  ∀ s, s.mainOn = true → C (tick i.time s) = true → Occurs i s (E (tick i.time s))

/-- An event that needs no main domain happens: where the state at its time is as `C` says, its effect is `E`. -/
def OccursWhen (i : Instr) (C : State → Bool) (E : State → State) : Prop :=
  ∀ s, C (tick i.time s) = true → Occurs i s (E (tick i.time s))

/-- No command waits for its turn at this instant: a step has started all that may start. -/
def noneDue (s : State) : Bool := s.sys.flights.all fun f => !(f.chain == .go || f.chain == .broken)

/-- Every command that waits in the queue is well formed. -/
def queueWf (s : State) : Bool := s.pending.all Instr.wf

/-- The memory is in its canonical form. -/
def memoryWf (s : State) : Bool := Memory.wf s.mem.bytes

/-- A state has the contents and marks of memory, the CAN channels and the DMA channels of another. -/
def leaves (u s : State) : Prop := u.mem.bytes = s.mem.bytes ∧ u.mem.poison = s.mem.poison ∧ u.can = s.can ∧ u.dma = s.dma

/-- Well-formed commands wait in the order of their times, none of them before module time. -/
def chronological (s : State) : Prop :=
  s.pending.Pairwise (fun c d => c.time ≤ d.time) ∧ ∀ c ∈ s.pending, s.time ≤ c.time ∧ c.wf = true

end Sys2Proof.Machine
end

