-- ==== Sys2Proof/Certificates/Slice0/Obligations.lean ====
section
/-! DEFINITION. The statements about the block, for the provers. -/
section
open Sys2Proof Sys2Proof.Machine

/-- A step takes the command at the front of the queue and runs it on the state with the queue's rest; on an empty queue the block idles, which is the model's choice (log entry 3). -/
def Obligations.StepRunsTheFront : Prop :=
  (∀ (c : Instr) (q : List Instr) (s : State), step { s with pending := c :: q } = exec c { s with pending := q }) ∧ ∀ s, s.pending = [] → step s = .next s

/-- A supply-on start-up that is due goes on from the state that R501 leaves, in which the power-cycle count is one higher and module time is 0; the queue is kept. One that is not due leaves all but time as it is. -/
def Obligations.SupplyOnStartsAnew : Prop :=
  (∀ t b s, startDue (tick t s) = true →
      exec (.supplyOnStartUp t b) s = .next { modPwr (fun p => { p with stage := if b.summitOk then p.stage else 15 })
        (modPwr (fun p => { p with ign := b.ign }) (beginStart b.straps (tick t s))) with time := 0, pending := s.pending })
  ∧ (∀ s, (bootState s).time = 0 ∧ (bootState s).crn.powerCycles = (s.crn.powerCycles + 1) % 2 ^ 32)
  ∧ ∀ t b s, startDue (tick t s) = false → exec (.supplyOnStartUp t b) s = .next (tick t s)

/-- Whatever the state, every command of the table answers a next state: none stops, and none is refused. The queue is left alone, and but for a supply-on start-up module time becomes the later of itself and the command's. -/
def Obligations.EveryCommandCompletes : Prop :=
  ∀ i s, ∃ u, exec i s = .next u ∧ u.pending = s.pending ∧ ((∀ t b, i ≠ .supplyOnStartUp t b) → u.time = max s.time i.time)

/-- Every step keeps the chronology: well-formed commands wait in the order of their times, none of them before module time; and a step from such a state runs its command at that command's own time, but for a supply-on start-up. -/
def Obligations.ChronologyKept : Prop :=
  ∀ s u, chronological s → step s = .next u → chronological u
    ∧ ∀ c q, s.pending = c :: q → (∀ t b, c ≠ .supplyOnStartUp t b) → u.time = c.time

/-- The module right after reset is in STANDBY, in no transition, not READY and in no role, with no session, no command in flight, every function OFF, every valve channel UNCONFIGURED and every last-winner record at 0xFF; it is chronological, its memory is in canonical form, and no command waits in it. -/
def Obligations.ResetStateAndItsInvariants : Prop :=
  State.reset.pwr.st = .standby ∧ State.reset.pwr.move = none ∧ State.reset.pwr.ready = false ∧ State.reset.id.role = .none
    ∧ State.reset.sys.sessions = [] ∧ State.reset.sys.flights = [] ∧ (∀ f, f < 32 → (State.reset.fn f).st = .off)
    ∧ (∀ n, n < 48 → (State.reset.valve n).st = .unconfigured) ∧ State.reset.sig.lastWinner = []
    ∧ chronological State.reset ∧ memoryWf State.reset = true ∧ State.reset.pending = []

/-- A command that one of its own conditions refuses ends with the status of the first of them that holds, and has no effect of its own (R15, R73 step 8). -/
def Obligations.RefusedCommandsHaveNoEffect : Prop :=
  Refuses .sysIdent .sysIdent chkSysIdent
  ∧ Refuses .sysStatus .sysStatus chkSysStatus
  ∧ Refuses .sysSessionOpen .sysSessionOpen chkSysSessionOpen
  ∧ Refuses .sysSessionClose .sysSessionClose chkSysSessionClose
  ∧ Refuses .sysCreditSet .sysCreditSet chkSysCreditSet
  ∧ Refuses .sigRead .sigRead chkSigRead
  ∧ Refuses .sigWrite .sigWrite (fun r t => writeChecks r producerOf t)
  ∧ Refuses .sigRouteSet .sigRouteSet chkSigRouteSet
  ∧ Refuses .sigForce .sigForce chkSigForce
  ∧ Refuses .funConfig .funConfig chkFunConfig
  ∧ Refuses .funEnable .funEnable chkFunEnable
  ∧ Refuses .funDisable .funDisable chkFunDisable
  ∧ Refuses .funSourceSet .funSourceSet chkFunSourceSet
  ∧ Refuses .funState .funState chkFunState
  ∧ Refuses .funClear .funClear chkFunClear
  ∧ Refuses .funInterlockSet .funInterlockSet chkFunInterlockSet
  ∧ Refuses .funAutoSet .funAutoSet chkFunAutoSet
  ∧ Refuses .culConfig .culConfig chkCulConfig
  ∧ Refuses .culStageSet .culStageSet chkCulStageSet
  ∧ Refuses .culSensorSet .culSensorSet chkCulSensorSet
  ∧ Refuses .culStart .culStart chkCulStart
  ∧ Refuses .culStop .culStop chkCulStop
  ∧ Refuses .culStatus .culStatus chkCulStatus
  ∧ Refuses .culLedgerRead .culLedgerRead chkCulLedgerRead
  ∧ Refuses .culCalRun .culCalRun chkCulCalRun
  ∧ Refuses .senChannelSet .senChannelSet chkSenChannelSet
  ∧ Refuses .senClassWrite .senClassWrite chkSenClassWrite
  ∧ Refuses .senTrain .senTrain chkSenTrain
  ∧ Refuses .senChannelRead .senChannelRead chkSenChannelRead
  ∧ Refuses .senCropSet .senCropSet chkSenCropSet
  ∧ Refuses .senYieldConfig .senYieldConfig chkSenYieldConfig
  ∧ Refuses .senCalLoad .senCalLoad chkSenCalLoad
  ∧ Refuses .senStatus .senStatus chkSenStatus
  ∧ Refuses .mapFieldOpen .mapFieldOpen chkMapFieldOpen
  ∧ Refuses .mapFieldClose .mapFieldClose chkMapFieldClose
  ∧ Refuses .mapConfig .mapConfig chkMapConfig
  ∧ Refuses .mapTileRead .mapTileRead chkMapTileRead
  ∧ Refuses .mapStatus .mapStatus chkMapStatus
  ∧ Refuses .mapExport .mapExport chkMapExport
  ∧ Refuses .mapExportRead .mapExportRead chkMapExportRead
  ∧ Refuses .gdeConfig .gdeConfig chkGdeConfig
  ∧ Refuses .gdeLineWrite .gdeLineWrite chkGdeLineWrite
  ∧ Refuses .gdeLineSelect .gdeLineSelect chkGdeLineSelect
  ∧ Refuses .gdeEngage .gdeEngage chkGdeEngage
  ∧ Refuses .gdeDisengage .gdeDisengage chkGdeDisengage
  ∧ Refuses .gdeStatus .gdeStatus chkGdeStatus
  ∧ Refuses .gdeWasCal .gdeWasCal chkGdeWasCal
  ∧ Refuses .lpeLoopConfig .lpeLoopConfig (fun r t => chkLpeLoopConfig (fun loc part s => producerOf loc s == some part) r t)
  ∧ Refuses .lpeLoopRun .lpeLoopRun (fun r t => chkLpeLoopRun loopDest r t)
  ∧ Refuses .lpeBankWrite .lpeBankWrite chkLpeBankWrite
  ∧ Refuses .lpeBankSwap .lpeBankSwap chkLpeBankSwap
  ∧ Refuses .lpeLoopStatus .lpeLoopStatus chkLpeLoopStatus
  ∧ Refuses .lpeTraceSet .lpeTraceSet chkLpeTraceSet
  ∧ Refuses .lpeTraceRead .lpeTraceRead chkLpeTraceRead
  ∧ Refuses .lpeEngineStatus .lpeEngineStatus chkLpeEngineStatus
  ∧ Refuses .vlvConfig .vlvConfig chkVlvConfig
  ∧ Refuses .vlvDrive .vlvDrive chkVlvDrive
  ∧ Refuses .vlvStatus .vlvStatus chkVlvStatus
  ∧ Refuses .vlvClear .vlvClear chkVlvClear
  ∧ Refuses .vlvGroupStatus .vlvGroupStatus chkVlvGroupStatus
  ∧ Refuses .fioDiConfig .fioDiConfig chkFioDiConfig
  ∧ Refuses .fioAiConfig .fioAiConfig chkFioAiConfig
  ∧ Refuses .fioDoConfig .fioDoConfig chkFioDoConfig
  ∧ Refuses .fioDoClear .fioDoClear chkFioDoClear
  ∧ Refuses .fioStatus .fioStatus chkFioStatus
  ∧ Refuses .gnsConfig .gnsConfig (fun r t => chkGnsConfig gdeSteering r t)
  ∧ Refuses .gnsRtcmPut .gnsRtcmPut chkGnsRtcmPut
  ∧ Refuses .gnsRawLatch .gnsRawLatch chkGnsRawLatch
  ∧ Refuses .gnsTest .gnsTest chkGnsTest
  ∧ Refuses .gnsRestart .gnsRestart (fun r t => chkGnsRestart gdeSteering r t)
  ∧ Refuses .gnsStatus .gnsStatus chkGnsStatus
  ∧ Refuses .gnsChannelRead .gnsChannelRead chkGnsChannelRead
  ∧ Refuses .timConfig .timConfig chkTimConfig
  ∧ Refuses .timStatus .timStatus chkTimStatus
  ∧ Refuses .timConvert .timConvert chkTimConvert
  ∧ Refuses .timEpochSet .timEpochSet chkTimEpochSet
  ∧ Refuses .fusConfig .fusConfig (fun r t => chkFusConfig fusBusy r t)
  ∧ Refuses .fusFrameSet .fusFrameSet (fun r t => chkFusFrameSet fusBusy r t)
  ∧ Refuses .fusFrameRead .fusFrameRead chkFusFrameRead
  ∧ Refuses .fusGroupSet .fusGroupSet (fun r t => chkFusGroupSet gdeSteering r t)
  ∧ Refuses .fusSourceSet .fusSourceSet chkFusSourceSet
  ∧ Refuses .fusStatus .fusStatus chkFusStatus
  ∧ Refuses .fusTrackRead .fusTrackRead chkFusTrackRead
  ∧ Refuses .camLinkSet .camLinkSet chkCamLinkSet
  ∧ Refuses .camPipeSet .camPipeSet chkCamPipeSet
  ∧ Refuses .camPairSet .camPairSet chkCamPairSet
  ∧ Refuses .camFsyncSet .camFsyncSet chkCamFsyncSet
  ∧ Refuses .camSensorWrite .camSensorWrite chkCamSensorWrite
  ∧ Refuses .camVaSet .camVaSet chkCamVaSet
  ∧ Refuses .canConfig .canConfig chkCanConfig
  ∧ Refuses .canBufferSet .canBufferSet chkCanBufferSet
  ∧ Refuses .canFilterSet .canFilterSet chkCanFilterSet
  ∧ Refuses .canPower .canPower chkCanPower
  ∧ Refuses .canRecover .canRecover chkCanRecover
  ∧ Refuses .canTtSet .canTtSet chkCanTtSet
  ∧ Refuses .canClaim .canClaim chkCanClaim
  ∧ Refuses .canStatus .canStatus chkCanStatus
  ∧ Refuses .fltConfig .fltConfig chkFltConfig
  ∧ Refuses .fltKeySet .fltKeySet chkFltKeySet
  ∧ Refuses .fltMemberSet .fltMemberSet chkFltMemberSet
  ∧ Refuses .fltHazardSet .fltHazardSet chkFltHazardSet
  ∧ Refuses .fltLine .fltLine chkFltLine
  ∧ Refuses .fltUnload .fltUnload chkFltUnload
  ∧ Refuses .fltStatus .fltStatus chkFltStatus
  ∧ Refuses .colPartitionConfig .colPartitionConfig chkColPartitionConfig
  ∧ Refuses .colInputSet .colInputSet chkColInputSet
  ∧ Refuses .colAdmit .colAdmit chkColAdmit
  ∧ Refuses .colPartitionRun .colPartitionRun chkColPartitionRun
  ∧ Refuses .colStatus .colStatus chkColStatus
  ∧ Refuses .colPartitionStatus .colPartitionStatus chkColPartitionStatus
  ∧ Refuses .colRoleReturn .colRoleReturn chkColRoleReturn
  ∧ Refuses .colInject .colInject chkColInject
  ∧ Refuses .memStatus .memStatus chkMemStatus
  ∧ Refuses .memScrubConfig .memScrubConfig chkMemScrubConfig
  ∧ Refuses .memRegionSet .memRegionSet chkMemRegionSet
  ∧ Refuses .memDeviceFail .memDeviceFail chkMemDeviceFail
  ∧ Refuses .memRemapClear .memRemapClear chkMemRemapClear
  ∧ Refuses .memInject .memInject chkMemInject
  ∧ Refuses .dmaChannelSet .dmaChannelSet chkDmaChannelSet
  ∧ Refuses .dmaStatus .dmaStatus chkDmaStatus
  ∧ Refuses .crnStatus .crnStatus chkCrnStatus
  ∧ Refuses .crnCursorOpen .crnCursorOpen chkCrnCursorOpen
  ∧ Refuses .crnRead .crnRead chkCrnRead
  ∧ Refuses .crnCursorClose .crnCursorClose chkCrnCursorClose
  ∧ Refuses .crnClear .crnClear chkCrnClear
  ∧ Refuses .crnAppWrite .crnAppWrite chkCrnAppWrite
  ∧ Refuses .updBegin .updBegin chkUpdBegin
  ∧ Refuses .updPiece .updPiece chkUpdPiece
  ∧ Refuses .updStatus .updStatus chkUpdStatus
  ∧ Refuses .updMissing .updMissing chkUpdMissing
  ∧ Refuses .updInstall .updInstall chkUpdInstall
  ∧ Refuses .updCommit .updCommit chkUpdCommit
  ∧ Refuses .updAbort .updAbort chkUpdAbort
  ∧ Refuses .pwrSet .pwrSet chkPwrSet
  ∧ Refuses .pwrConfig .pwrConfig chkPwrConfig
  ∧ Refuses .pwrStatus .pwrStatus chkPwrStatus
  ∧ Refuses .sumStatus .sumStatus chkSumStatus
  ∧ Refuses .sumConfig .sumConfig chkSumConfig
  ∧ Refuses .sumKeySet .sumKeySet chkSumKeySet
  ∧ Refuses .sumWindowText .sumWindowText chkSumWindowText

/-- On a module that is not the acting manager every CUL, MAP, GDE and FLT command but the status reads is refused and has no effect (R107, R159, R178, R391). -/
def Obligations.OnlyTheActingManagerRunsThem : Prop :=
  Barred .culConfig .culConfig (fun _ t => !t.acting)
  ∧ Barred .culStageSet .culStageSet (fun _ t => !t.acting)
  ∧ Barred .culSensorSet .culSensorSet (fun _ t => !t.acting)
  ∧ Barred .culStart .culStart (fun _ t => !t.acting)
  ∧ Barred .culStop .culStop (fun _ t => !t.acting)
  ∧ Barred .culLedgerRead .culLedgerRead (fun _ t => !t.acting)
  ∧ Barred .culCalRun .culCalRun (fun _ t => !t.acting)
  ∧ Barred .mapFieldOpen .mapFieldOpen (fun _ t => !t.acting)
  ∧ Barred .mapFieldClose .mapFieldClose (fun _ t => !t.acting)
  ∧ Barred .mapConfig .mapConfig (fun _ t => !t.acting)
  ∧ Barred .mapTileRead .mapTileRead (fun _ t => !t.acting)
  ∧ Barred .mapExport .mapExport (fun _ t => !t.acting)
  ∧ Barred .mapExportRead .mapExportRead (fun _ t => !t.acting)
  ∧ Barred .gdeConfig .gdeConfig (fun _ t => !t.acting)
  ∧ Barred .gdeLineWrite .gdeLineWrite (fun _ t => !t.acting)
  ∧ Barred .gdeLineSelect .gdeLineSelect (fun _ t => !t.acting)
  ∧ Barred .gdeEngage .gdeEngage (fun _ t => !t.acting)
  ∧ Barred .gdeDisengage .gdeDisengage (fun _ t => !t.acting)
  ∧ Barred .gdeWasCal .gdeWasCal (fun _ t => !t.acting)
  ∧ Barred .fltConfig .fltConfig (fun _ t => !t.acting)
  ∧ Barred .fltKeySet .fltKeySet (fun _ t => !t.acting)
  ∧ Barred .fltMemberSet .fltMemberSet (fun _ t => !t.acting)
  ∧ Barred .fltHazardSet .fltHazardSet (fun _ t => !t.acting)
  ∧ Barred .fltLine .fltLine (fun _ t => !t.acting)
  ∧ Barred .fltUnload .fltUnload (fun _ t => !t.acting)

/-- Without power in the main domain, or past the point of no return of a step to SLEEP or OFF, no packet is taken: nothing but module time changes (R498, R505). -/
def Obligations.NoPacketWithoutPower : Prop :=
  ∀ i p s, i.packet = some p → reachable_ (tick p.time s) = false → exec i s = .next (tick p.time s)

/-- Every packet row is the command of one opcode, the same in every state, and two rows with one opcode are one row. -/
def Obligations.EveryPacketIsOneCommand : Prop :=
  (∀ i p, i.packet = some p → ∃ op, ∀ s, exec i s = command op p s) ∧ ∀ a b : Op, opCode a = opCode b → a = b

/-- A packet that meets no other of its instant and whose length is wrong is refused with `BAD_LENGTH`, one of the right length whose trailer does not match with `BAD_CRC` (R73 steps 1 and 2; the received length of a mailbox packet is its header's, and a packet of `SVC` beyond 4,092 bytes is discarded, R74): nothing else happens. -/
def Obligations.BrokenPacketsDoNotRun : Prop :=
  ∀ op p s port auth, reachable_ (tick p.time s) = true → replays p s = false → s.sys.arrived = [] → moreNow (tick p.time s) = false →
    arrival (opCode op) (normal p (tick p.time s)) (tick p.time s) = .on port auth → ((∃ n, p.via = .mailbox n) ∨ 16 ≤ p.rxLength) →
    ¬(port = 0x88 ∧ 4092 < p.rxLength) →
    ((4072 < p.length ∨ ((∀ n, p.via ≠ .mailbox n) ∧ p.rxLength ≠ 20 + p.length)) → command op p s = .next
      { sendReply { op := op, p := normal p (tick p.time s), port := port } .badLength [] true (tick p.time s) with
        time := max s.time p.time, pending := s.pending })
    ∧ (p.length ≤ 4072 → ((∃ n, p.via = .mailbox n) ∨ p.rxLength = 20 + p.length) →
      crcOk (opCode op) (normal p (tick p.time s)) = false → command op p s = .next
      { sendReply { op := op, p := normal p (tick p.time s), port := port } .badCrc [] true (tick p.time s) with
        time := max s.time p.time, pending := s.pending })

/-- A final reply ends the flight: no flight of the port holds the tag, and every other flight stays, changed at most in its place in a chain (R79, R83). An interim reply keeps the flight. -/
def Obligations.FinalReplyFreesTagAndCredit : Prop :=
  (∀ r st pl s, (finish r st pl s).flight r.port r.p.tag = none)
  ∧ (∀ r st pl s f, f ∈ s.sys.flights → ¬(f.req.port = r.port ∧ f.req.p.tag = r.p.tag) →
      ∃ m, { f with chain := m } ∈ (finish r st pl s).sys.flights)
  ∧ ∀ r st s, ((interimReply r st s).flight r.port r.p.tag).isSome = (s.flight r.port r.p.tag).isSome

/-- A reply that arrives on a port is taken as the answer to a packet that the module originated there with reply-required 1 and that tag, which then awaits none; any other is discarded and counted, and changes nothing else (R75). -/
def Obligations.UnawaitedRepliesAreCounted : Prop :=
  ∀ t p opcode status s port auth, s.mainOn = true → reachable_ (tick t s) = true → arrival 0 (normal p (tick t s)) (tick t s) = .on port auth →
    (∀ a, answered (normal p (tick t s)) opcode status port (tick t s) = some a →
      Occurs (.replyPacket t p opcode status) s { tick t s with sys := { s.sys with awaiting := s.sys.awaiting.erase a } }
      ∧ a ∈ s.sys.awaiting ∧ a.1 = port ∧ a.2.1 = p.tag)
    ∧ (answered (normal p (tick t s)) opcode status port (tick t s) = none → Occurs (.replyPacket t p opcode status) s
      { tick t s with sys := { s.sys with discarded := (s.sys.discarded + 1) % 2 ^ 32 } })
    ∧ ((∀ a ∈ s.sys.awaiting, ¬(a.1 = port ∧ a.2.1 = p.tag)) → answered (normal p (tick t s)) opcode status port (tick t s) = none)

/-- A command that has not started within its queue limit ends with `TIMEOUT` and has no effect; the limits by priority (R78). -/
def Obligations.QueueLimitsEndWaitingCommands : Prop :=
  (∀ t port tag f s, s.mainOn = true → s.flight port tag = some f → f.started = false →
      f.admitted + queueLimit (f.req.p.flags.toNat % 4) ≤ max s.time t →
      Occurs (.queueTimeout t port tag) s (finish f.req .timeout [] (tick t s)))
  ∧ queueLimit 3 = 10 * ms ∧ queueLimit 2 = 100 * ms ∧ queueLimit 1 = 1000 * ms ∧ queueLimit 0 = 10000 * ms

/-- The counter that a received `seq` stands for is the smallest value above the highest accepted less 64 whose low 16 bits equal `seq` (R71), and a packet is valid only with the tag of that counter, fresh within the window. -/
def Obligations.SessionCountersAreRebuilt : Prop :=
  (∀ h q, q < 65536 → h < rebuildCounter h q + 64 ∧ rebuildCounter h q % 65536 = q
      ∧ ∀ d, h < d + 64 → d % 65536 = q → rebuildCounter h q ≤ d)
  ∧ ∀ op p x c, acceptedCounter op p x = some c → c = rebuildCounter x.highest p.seq.toNat ∧ ¬(c = x.highest) ∧ c ∉ x.seen.filter (· < x.highest)
      ∧ x.last = false ∧ p.session = sessionData x.sk 0 c (commandHeader op p 0) p.payload

/-- An open that its own checks let pass closes the session that its address holds, with that session's commands, before it takes its credit (R69). An admitted command leaves its port with no more commands in flight than the port's limit (R76), and alone with its tag (R73 steps 5 and 6). -/
def Obligations.NoPortExceedsItsLimit : Prop :=
  ∀ op p s r t, gate op p s = .go r t →
    (t.sys.flights.filter fun f => f.req.port == r.port).length ≤ (t.credit r.port).limit
    ∧ (t.sys.flights.filter fun f => f.req.port == r.port && f.req.p.tag == r.p.tag).length = 1
    ∧ ∀ e ip udp y, r.op = .sysSessionOpen → r.ctr = none → r.p.via = .eth e ip udp → addrSession e ip udp s = some y →
        (chkSysSessionOpen r s).find? (·.1) = none → t.session y.port = none ∧ ∀ f ∈ t.sys.flights, f.req.port = y.port → f.req = r

/-- The winner at a resource is a requester of the highest pending priority, and among those the one whose ID comes next after the last winner at that priority, wrapping from the highest to the lowest; it becomes the last winner there (R56). Of packets of one instant on several ports the dispatcher takes that of the port that wins, and admission makes it the last winner of its priority (R77). -/
def Obligations.ArbitrationPicksTheNextOfTheTop : Prop :=
  (∀ res reqs s, reqs ≠ [] → ∃ w p, (arbitrate res reqs s).1 = some w ∧ (w, p) ∈ reqs ∧ (∀ r ∈ reqs, r.2 ≤ p)
    ∧ (∀ last, ((s.sig.lastWinner.find? fun e => e.1 == (res, p)).map (·.2)).getD 0xFF = last →
        ∀ r ∈ reqs, r.2 = p → (last < w → last < r.1 → w ≤ r.1) ∧ (w ≤ last → r.1 ≤ last ∧ w ≤ r.1))
    ∧ ((arbitrate res reqs s).2.sig.lastWinner.find? fun e => e.1 == (res, p)) = some ((res, p), w))
  ∧ (∀ s, s.sys.arrived ≠ [] → (∀ y ∈ s.sys.arrived, (contender s y).isSome = true) →
      ((s.sys.arrived.filterMap (contender s)).map (·.1)).Nodup →
      ∃ y c, nextArrived s = some y ∧ y ∈ s.sys.arrived ∧ contender s y = some c
        ∧ (arbitrate dispatcher (s.sys.arrived.filterMap (contender s)) s).1 = some c.1
        ∧ ∀ z d, z ∈ s.sys.arrived → contender s z = some d → d.2 ≤ c.2)
  ∧ ∀ op p s r t, gate op p s = .go r t →
      (t.sig.lastWinner.find? fun e => e.1 == (dispatcher, r.p.flags.toNat % 4)) = some ((dispatcher, r.p.flags.toNat % 4), r.port)

/-- A derived quality is the first in the order of R41 that any input carries, and a derived confidence is at most every input's. -/
def Obligations.DerivedQualityIsTheWorst : Prop :=
  (∀ qs, qs ≠ [] → deriveQuality qs ∈ qs ∧ ∀ q ∈ qs, (deriveQuality qs).rank ≤ q.rank)
  ∧ ([.poisoned, .noValue, .masked, .disputed, .stale, .outOfRange, .forced, .substituted, .valid] : List Quality).map Quality.rank = List.range 9
  ∧ ∀ cs c, c ∈ cs → deriveConf cs ≤ c

/-- A publication gives one own local a record with the next `seq` and module time as `received` (R36), with confidence 0 where the quality asks for it (R39), and leaves every other own local as it was. A worker that the machine number has not reached publishes nothing (R17). -/
def Obligations.PublicationsTouchOneRecord : Prop :=
  (∀ n r s, s.mayPublish = false → storeOwn n r s = s)
  ∧ ∀ n r s, s.mayPublish = true → ((storeOwn n r s).ownRec n).seq = ((s.ownRec n).seq + 1) % 65536 ∧ ((storeOwn n r s).ownRec n).received = s.time
    ∧ ((storeOwn n r s).ownRec n).value = r.value ∧ ((storeOwn n r s).ownRec n).quality = r.quality
    ∧ (r.quality.zeroConf = true → ((storeOwn n r s).ownRec n).confidence = 0)
    ∧ ∀ m, m ≠ n → (storeOwn n r s).ownRec m = s.ownRec m

/-- A window whose count differs from 600,000 by more than 300 counts, any other clears the count; the third in a row, or a loss of lock, is main-clock failure (R26). -/
def Obligations.ClockWindowsDeclareFailure : Prop :=
  (∀ t n s, s.mainOn = true → s.id.summitLost = false → (n + 300 < 600000 ∨ 600300 < n) → Occurs (.clockWindow t n) s
      (let u := modId (fun d => { d with badWindows := s.id.badWindows + 1 }) (modSum (fun m => { m with lclk := n }) (tick t s))
       if 2 ≤ s.id.badWindows then clockFailure u else u))
  ∧ (∀ t n s, s.mainOn = true → s.id.summitLost = false → 600000 ≤ n + 300 → n ≤ 600300 → Occurs (.clockWindow t n) s
      (modId (fun d => { d with badWindows := 0 }) (modSum (fun m => { m with lclk := n }) (tick t s))))
  ∧ ∀ t s, s.mainOn = true → s.id.summitLost = false → Occurs (.pllLossOfLock t) s (clockFailure (tick t s))

/-- A whole-line store to DRAM that reaches the line's cells (no excluded channel, no remap entry, no partition's region) leaves exactly those 64 bytes and the line's mark as stored, and every other byte of memory as it was (R441, R443). -/
def Obligations.WholeLineStoreThenLoad : Prop :=
  ∀ a d s, s.mainOn = true → memoryWf s = true → areaOf a.addr = .dram → a.addr % 64 = 0 → a.size = 64 → a.store = some d → d.length = 64 →
    s.regionOf a.addr = none → s.lineExcluded a.addr = false → (s.remapOf a.addr).isNone = true →
    memReadList (doAccess a s).mem.bytes a.addr 64 = (if a.mark then zeros 64 else d)
    ∧ (doAccess a s).poisoned a.addr = a.mark ∧ memoryWf (doAccess a s) = true
    ∧ ∀ b, (b < a.addr ∨ a.addr + 64 ≤ b) → memRead (doAccess a s).mem.bytes b = memRead s.mem.bytes b

/-- A store to DRAM that is not one whole aligned line, and a store to SRAM or MRAM of a size or alignment those do not take, is not performed: it is an access fault, counted, and no byte of memory changes (R441). -/
def Obligations.OtherStoresToMemoryAreRefused : Prop :=
  ∀ a d s, s.mainOn = true → a.store = some d → d.length = a.size →
    ((areaOf a.addr = .dram ∧ ¬(a.size = 64 ∧ a.addr % 64 = 0))
      ∨ (areaOf a.addr = .sram ∧ ¬((a.size = 4 ∨ a.size = 8 ∨ a.size = 64) ∧ a.addr % a.size = 0))
      ∨ (areaOf a.addr = .mram ∧ ¬((a.size = 8 ∨ a.size = 64) ∧ a.addr % a.size = 0))) →
    doAccess a s = refuseAccess a s ∧ (doAccess a s).mem.bytes = s.mem.bytes ∧ (doAccess a s).mem.faults = s.mem.faults + 1
    ∧ (doAccess a s).mem.last.fault = true

/-- An access that R435 does not map, or by another agent than Summit to the Cairn area (R469), is not performed: a read returns 0, the requester is told by an access fault, it is counted, and no byte of memory changes (R436). -/
def Obligations.UnmappedAndCairnAccessesAreRefused : Prop :=
  ∀ t a s, s.mainOn = true → (areaOf a.addr = .unmapped ∨ (mramBase ≤ a.addr ∧ a.addr < cairnEnd ∧ a.agent ≠ 0x70)) →
    Occurs (.memoryAccess t a) s (refuseAccess a (tick t s))
    ∧ (refuseAccess a (tick t s)).mem.last = { data := zeros a.size, fault := true }
    ∧ (refuseAccess a (tick t s)).mem.bytes = s.mem.bytes ∧ (refuseAccess a (tick t s)).mem.faults = s.mem.faults + 1

/-- An access to DRAM, SRAM or MRAM, and a read of the scrubber, keep the memory in its canonical form, whatever errors they meet. -/
def Obligations.MemoryStaysCanonical : Prop :=
  (∀ a s, memoryWf s = true → memoryWf (accessMem a s) = true) ∧ ∀ l pat bits s, memoryWf s = true → memoryWf (doScrubRead l pat bits s) = true

/-- An overrun ends the period without its work and is counted; the pair keeps its state, and the third overrun in a row puts the partition into FAULTED (R421, R423). -/
def Obligations.OverrunsDiscardThePeriod : Prop :=
  ∀ t n s, s.mainOn = true → (s.part n).inPeriod = true → Occurs (.wcetExpiry t n) s (overrun n (tick t s))
    ∧ ((overrun n (tick t s)).part n).inPeriod = false ∧ (overrun n (tick t s)).col.pairs = s.col.pairs
    ∧ ((overrun n (tick t s)).part n).overruns = (s.part n).overruns + 1
    ∧ (2 ≤ (s.part n).consecutive → ((overrun n (tick t s)).part n).st = .faulted)

/-- The timers and measurements of one valve channel leave every other channel, the contents and marks of memory, every CAN channel and the power state as they were. -/
def Obligations.OtherValvesStayAsTheyAre : Prop :=
  ∀ n k s, k ≠ n → ∀ u, (u = doRetryReset n s ∨ (∃ i, u = doDemagComplete n i s) ∨ (∃ a b c d, u = doOffStateCheck n a b c d s)
      ∨ (∃ l, u = doCoilThermal n l s) ∨ (∃ a b c, u = doResistance n a b c s) ∨ ∃ c l, u = doSentFrame n c l s) →
    u.valve k = s.valve k ∧ u.mem.bytes = s.mem.bytes ∧ u.mem.poison = s.mem.poison ∧ u.can = s.can ∧ u.pwr = s.pwr

/-- However far SAVE comes, a supply failure leaves the module in OFF, with no command in flight and no session (R507 to R509). -/
def Obligations.SupplyFailureEndsInOff : Prop :=
  ∀ ended records s, s.pwr.st ≠ .off → supplyFailed s = true →
    (doSupplyFailure ended records s).pwr.st = .off ∧ (doSupplyFailure ended records s).sys.flights = []
    ∧ (doSupplyFailure ended records s).sys.sessions = []

/-- The measurements and timers of field inputs, supplies, valves, positioning, time, sensing, fusion, camera links and power change no byte and no mark of memory, no CAN channel and no DMA channel. -/
def Obligations.MeasurementsLeaveMemoryCanAndDma : Prop :=
  (∀ (n : Nat) (m : AiMeas) (s : State), leaves (doAiConversion n m s) s)
  ∧ (∀ (n : Nat) (s : State), leaves (doPulseFrequency n s) s)
  ∧ (∀ (n : Nat) (v : Rat) (t : Rat) (s : State), leaves (doWireBreak n v t s) s)
  ∧ (∀ (n : Nat) (v : Rat) (l : Bool) (s : State), leaves (doSupplyEval n v l s) s)
  ∧ (∀ (n : Nat) (p : List Rat) (s : State), leaves (doValvePublish n p s) s)
  ∧ (∀ (n : Nat) (v : Rat) (l : Bool) (r : Rat) (s : State), leaves (doPortEval n v l r s) s)
  ∧ (∀ (n : Nat) (x : NavUnit) (s : State), leaves (doNavUnit n x s) s)
  ∧ (∀ (n : Nat) (b : Nat) (v : Rat) (t : Rat) (l : Bool) (s : State), leaves (doInterference n b v t l s) s)
  ∧ (∀ (v : Rat) (s : State), leaves (doTimeEval v s) s)
  ∧ (∀ (l : Bool) (s : State), leaves (doPpsIn l s) s)
  ∧ (∀ (n : Nat) (s : State), leaves (doPpsOut n s) s)
  ∧ (∀ s : State, leaves (doMappingStep s) s)
  ∧ (∀ (y : GptpMsg) (s : State), leaves (doGptp y s) s)
  ∧ (∀ (p : List Rat) (e : BridgeMeas) (s : State), leaves (doPlateBlock p e s) s)
  ∧ (∀ (v : Rat) (s : State), leaves (doPaddlePass v s) s)
  ∧ (∀ (v : Rat) (t : Rat) (r : Rat) (q : Rat) (o : List (Nat × Rat)) (l : Bool) (s : State), leaves (doMoisture v t r q o l s) s)
  ∧ (∀ (p : List Rat) (s : State), leaves (doTareRetake p s) s)
  ∧ (∀ (n : Nat) (b : Nat) (k : List Int) (s : State), leaves (doImpact n b k s) s)
  ∧ (∀ (z : PoseEst) (s : State), leaves (doPosePublish z s) s)
  ∧ (∀ (n : Nat) (w : LinkMeas) (s : State), leaves (doLinkEval n w s) s)
  ∧ (∀ (a : PathMeas) (c : PathMeas) (s : State), leaves (doPathEval a c s) s)
  ∧ (∀ (v : Rat) (t : Rat) (l : Bool) (s : State), leaves (doBank v t l s) s)
  ∧ (∀ (h : HealthMeas) (s : State), leaves (doHealth h s) s)
  ∧ (∀ (v : Rat) (t : Rat) (r : Rat) (q : Rat) (b : Nat) (s : State), leaves (doShock v t r q b s) s)

/-- The SYS commands complete (R4, R22, R69, R71, R76): identity and status are told, a session opens under the key of R69, closes, and credits are set. Each under the conditions that its chapter gives, with the effect that it gives. -/
def Obligations.SysCommandsComplete : Prop :=
  Does .sysIdent .sysIdent
      (fun r t => permitted (chkSysIdent r t))
      (fun r t x => x = answer (identBytes t) t)
  ∧ Does .sysStatus .sysStatus
      (fun r t => permitted (chkSysStatus r t))
      (fun r t x => x = answer (le 1 t.pwr.st.code ++ le 1 (b2n t.pwr.ready) ++ le 1 t.id.role.code ++ le 1 t.id.machine ++ le 4 (sysFlags t) ++ le 8 t.time
        ++ le 4 t.crn.powerCycles ++ le 2 t.sys.flights.length ++ le 2 (sharedPool t - sharedHeld t) ++ le 4 t.sys.discarded ++ le 4 t.sys.authFail) t)
  ∧ Does .sysSessionOpen .sysSessionOpen
      (fun r t => permitted (chkSysSessionOpen r t) && (match r.p.via with | .eth e ip udp => (addrSession e ip udp t).isNone | _ => true))
      (fun r t x => ∃ u nonce key n y, x = (.fin .done (le 1 (if r.port = 0x88 then 0 else (r.port - 0x80) % 4) ++ zeros 15 ++ nonce), u)
        ∧ t.sum.sessionKeys.getD (u8 r.p.payload 0) none = some (key, n) ∧ u.sys.sessions = t.sys.sessions ++ [y] ∧ u.sys.flights = t.sys.flights
        ∧ y.port = r.port ∧ y.slot = u8 r.p.payload 0 ∧ y.halfOpen = true ∧ nonce.length = 16
        ∧ y.sk = Crypto.cmac key (le 1 1 ++ (r.p.payload.drop 16).take 16 ++ nonce ++ le 1 r.port))
  ∧ Does .sysSessionClose .sysSessionClose
      (fun r t => permitted (chkSysSessionClose r t) && (t.session r.port).isSome)
      (fun r t x => x = done (closeAfter r t))
  ∧ Does .sysSessionClose .sysSessionClose
      (fun r t => permitted (chkSysSessionClose r t) && (t.session r.port).isNone)
      (fun r t x => x = done t)
  ∧ Does .sysCreditSet .sysCreditSet
      (fun r t => permitted (chkSysCreditSet r t))
      (fun r t x => ∃ u, x = done u ∧ u.sys.credits = aset t.sys.credits (u8 r.p.payload 0) ⟨u8 r.p.payload 1, u8 r.p.payload 2⟩ ∧ u.sys.flights = t.sys.flights)

/-- The SIG commands complete (R37, R40, R48, R50). Each under the conditions that its chapter gives, with the effect that it gives. -/
def Obligations.SigCommandsComplete : Prop :=
  Does .sigRead .sigRead
      (fun r t => permitted (chkSigRead r t) && ((partOfPort r.port).bind fun n => if (t.part n).inPeriod then aget (t.part n).snapshot (u32 r.p.payload 0) else none).isNone)
      (fun r t x => x = answer (t.view (u32 r.p.payload 0)).bytes (consumeRec (((partOfPort r.port).map fun n => (t.part n).pair.getD 0).getD r.port) (u32 r.p.payload 0) t))
  ∧ Does .sigRead .sigRead
      (fun r t => permitted (chkSigRead r t) && ((partOfPort r.port).bind fun n => if (t.part n).inPeriod then aget (t.part n).snapshot (u32 r.p.payload 0) else none).isSome)
      (fun r t x => ∃ y, ((partOfPort r.port).bind fun n => if (t.part n).inPeriod then aget (t.part n).snapshot (u32 r.p.payload 0) else none) = some y ∧ x = answer y.bytes t)
  ∧ Does .sigWrite .sigWrite
      (fun r t => permitted (writeChecks r producerOf t) && t.mayPublish && (t.force (hLocal (u32 r.p.payload 0))).isNone)
      (fun r t x => ∃ u, x = done u ∧ (u.ownRec (hLocal (u32 r.p.payload 0))).value = BitVec.ofNat 64 (u64 r.p.payload 8)
        ∧ (u.ownRec (hLocal (u32 r.p.payload 0))).seq = ((t.ownRec (hLocal (u32 r.p.payload 0))).seq + 1) % 65536
        ∧ ∀ l, l ≠ hLocal (u32 r.p.payload 0) → u.ownRec l = t.ownRec l)
  ∧ Does .sigWrite .sigWrite
      (fun r t => permitted (writeChecks r producerOf t) && (t.force (hLocal (u32 r.p.payload 0))).isSome)
      (fun r t x => ∃ f l, t.force l = some f ∧ l = hLocal (u32 r.p.payload 0)
        ∧ x = done (storeOwn l (forcedRec f t) { t with sig := { t.sig with forces := t.sig.forces.map fun g => if g.localNo == l then { g with discarded := g.discarded + 1, lastPublished := t.time } else g } }))
  ∧ Does .sigRouteSet .sigRouteSet
      (fun r t => permitted (chkSigRouteSet r t))
      (fun r t x => ∃ u e, x = (.fin .done (le 2 e ++ le 2 (4096 - u.routesToCome.length)), u)
        ∧ u.sig.routeChanges = t.sig.routeChanges ++ [{ effectiveAt := nextGrid ms t, remove := u8 r.p.payload 4 == 2, route := routeOf r.p.payload e }]
        ∧ u.sig.routes = t.sig.routes)
  ∧ Does .sigForce .sigForce
      (fun r t => permitted (chkSigForce r t) && t.mayPublish && u8 r.p.payload 4 == 0)
      (fun r t x => ∃ u b, x = (.fin .done b, u) ∧ (u.ownRec (hLocal (u32 r.p.payload 0))).value = BitVec.ofNat 64 (u64 r.p.payload 8)
        ∧ (u.ownRec (hLocal (u32 r.p.payload 0))).quality = .forced ∧ (u.force (hLocal (u32 r.p.payload 0))).isSome)
  ∧ Does .sigForce .sigForce
      (fun r t => permitted (chkSigForce r t) && u8 r.p.payload 4 == 1)
      (fun r t x => ∃ l u, l = hLocal (u32 r.p.payload 0) ∧ u = endForce l (forceEvent (r.p.payload.take 16) 1 t)
        ∧ x = (.fin .done (le 4 (((t.force l).map (·.discarded)).getD 0) ++ le 1 u.sig.forces.length ++ zeros 3), u))

/-- The FUN commands complete (R89, R91, R95, R97, R98, R100, R105). Each under the conditions that its chapter gives, with the effect that it gives. A command to a function that no sample of the function is at waits for it (R93). -/
def Obligations.FunCommandsComplete : Prop :=
  Does .funConfig .funConfig
      (fun r t => permitted (chkFunConfig r t) && fromPeer r)
      (fun r t x => x = done (takeCopy ((funTarget r).getD 0) (funCfgOf r.p.payload) t))
  ∧ Does .funConfig .funConfig
      (fun r t => permitted (chkFunConfig r t) && !fromPeer r)
      (fun r t x => x = done (sendCopies ((funTarget r).getD 0) (funCfgOf r.p.payload) (r.p.payload.take 244) (installFn ((funTarget r).getD 0) (r.p.payload.take 244) t)))
  ∧ Does .funEnable .funEnable
      (fun r t => permitted (chkFunEnable r t) && ((funBefore ((funTarget r).getD 0) t).fn ((funTarget r).getD 0)).st == .off && (funRefusal ((funTarget r).getD 0) (funBefore ((funTarget r).getD 0) t)).isNone)
      (fun r t x => ∃ u, u = funStart ((funTarget r).getD 0) (funBefore ((funTarget r).getD 0) t) ∧ x = (.fin u.1 [], u.2))
  ∧ Does .funEnable .funEnable
      (fun r t => permitted (chkFunEnable r t) && ((funBefore ((funTarget r).getD 0) t).fn ((funTarget r).getD 0)).st == .stopping && (ilUnsat ((funTarget r).getD 0) (funBefore ((funTarget r).getD 0) t)).isEmpty)
      (fun r t x => x = done (funGo ((funTarget r).getD 0) true (funBefore ((funTarget r).getD 0) t)))
  ∧ Does .funEnable .funEnable
      (fun r t => permitted (chkFunEnable r t) && ((funBefore ((funTarget r).getD 0) t).fn ((funTarget r).getD 0)).st == .stopping && !(ilUnsat ((funTarget r).getD 0) (funBefore ((funTarget r).getD 0) t)).isEmpty)
      (fun r t x => x = (.fin .wrongState [], (funBefore ((funTarget r).getD 0) t)))
  ∧ Does .funEnable .funEnable
      (fun r t => permitted (chkFunEnable r t) && ((funBefore ((funTarget r).getD 0) t).fn ((funTarget r).getD 0)).st == .finishing)
      (fun r t x => x = (.interim .held, modFn ((funTarget r).getD 0) (fun y => { y with pending := some r }) (endPending ((funTarget r).getD 0) .superseded (funBefore ((funTarget r).getD 0) t))))
  ∧ Does .funEnable .funEnable
      (fun r t => permitted (chkFunEnable r t) && ((funBefore ((funTarget r).getD 0) t).fn ((funTarget r).getD 0)).st == .faulted)
      (fun r t x => x = (.fin .hwFault [], (funBefore ((funTarget r).getD 0) t)))
  ∧ Does .funEnable .funEnable
      (fun r t => permitted (chkFunEnable r t) && ((funBefore ((funTarget r).getD 0) t).fn ((funTarget r).getD 0)).st == .off && (funRefusal ((funTarget r).getD 0) (funBefore ((funTarget r).getD 0) t)).isSome)
      (fun r t x => ∃ c, funRefusal ((funTarget r).getD 0) (funBefore ((funTarget r).getD 0) t) = some c ∧ x = (.fin c [], (funBefore ((funTarget r).getD 0) t)))
  ∧ Does .funEnable .funEnable
      (fun r t => permitted (chkFunEnable r t) && (((funBefore ((funTarget r).getD 0) t).fn ((funTarget r).getD 0)).st == .enabling || ((funBefore ((funTarget r).getD 0) t).fn ((funTarget r).getD 0)).st == .active || ((funBefore ((funTarget r).getD 0) t).fn ((funTarget r).getD 0)).st == .degraded))
      (fun r t x => x = done (funBefore ((funTarget r).getD 0) t))
  ∧ Does .funDisable .funDisable
      (fun r t => permitted (chkFunDisable r t))
      (fun r t x => ∃ f u, f = (funTarget r).getD 0 ∧ u = endPending f .superseded (funBefore f t)
        ∧ x = done (if u8 r.p.payload 0 == 1 then funFinish f 0 u else funStop f 0 none u))
  ∧ Does .funSourceSet .funSourceSet
      (fun r t => permitted (chkFunSourceSet r t))
      (fun r t x => ∃ f, f = (funTarget r).getD 0
        ∧ x = done (modFn f (fun x => { x with source := u8 r.p.payload 0, override := false, inAuto := false, rf := none }) (funBefore f t)))
  ∧ Does .funState .funState
      (fun r t => permitted (chkFunState r t))
      (fun r t x => ∃ f y, f = (funTarget r).getD 0 ∧ y = t.fn f
        ∧ x = answer (le 1 y.st.code ++ le 1 y.activeSource ++ le 1 (y.dm.getD 0xFF) ++ zeros 1
          ++ le 2 ((ilUnsat f t).foldl (fun a i => a + 2 ^ i) 0) ++ le 2 y.flags ++ le 4 y.eff.toNat ++ le 4 y.actual.toNat ++ le 4 (qf32 y.trim).toNat
          ++ zeros 4 ++ le 8 y.since) t)
  ∧ Does .funClear .funClear
      (fun r t => permitted (chkFunClear r t) && ((funBefore ((funTarget r).getD 0) t).fn ((funTarget r).getD 0)).st == .faulted && !(fnPoints ((funTarget r).getD 0) (funBefore ((funTarget r).getD 0) t)).any (pointLatched (funBefore ((funTarget r).getD 0) t)))
      (fun r t x => x = done (funEnter ((funTarget r).getD 0) .off 0 (funBefore ((funTarget r).getD 0) t)))
  ∧ Does .funClear .funClear
      (fun r t => permitted (chkFunClear r t) && (((funBefore ((funTarget r).getD 0) t).fn ((funTarget r).getD 0)).st != .faulted || (fnPoints ((funTarget r).getD 0) (funBefore ((funTarget r).getD 0) t)).any (pointLatched (funBefore ((funTarget r).getD 0) t))))
      (fun r t x => x = (.fin .wrongState [], (funBefore ((funTarget r).getD 0) t)))
  ∧ Does .funInterlockSet .funInterlockSet
      (fun r t => permitted (chkFunInterlockSet r t))
      (fun r t x => ∃ u, x = done u ∧ u.fun_.il = { bind := (List.range 6).map fun i => u32 r.p.payload (4 * i), polarity := u8 r.p.payload 24, asw := bits32 r.p.payload 28 } ∧ u.fun_.fn = t.fun_.fn ∧ u.sig = t.sig)
  ∧ Does .funAutoSet .funAutoSet
      (fun r t => permitted (chkFunAutoSet r t))
      (fun r t x => ∃ u a, x = done u ∧ u.fun_.nextAuto = some (nextGrid ms t, a) ∧ a.mode = u8 r.p.payload 0 ∧ a.qTarget = bits32 r.p.payload 4
        ∧ a.rotor = bits32 r.p.payload 8 ∧ a.shoe = bits32 r.p.payload 12 ∧ a.speedMax = bits32 r.p.payload 16 ∧ u.fun_.fn = t.fun_.fn)
  ∧ Waits .funConfig .funConfig
  ∧ Waits .funEnable .funEnable
  ∧ Waits .funDisable .funDisable
  ∧ Waits .funSourceSet .funSourceSet
  ∧ Waits .funClear .funClear

/-- The CUL commands complete (R115, R119, R121, R136, R140). Each under the conditions that its chapter gives, with the effect that it gives. -/
def Obligations.CulCommandsComplete : Prop :=
  Does .culConfig .culConfig
      (fun r t => permitted (chkCulConfig r t) && t.cul.st != .unconfigured)
      (fun r t x => ∃ u, x = done u ∧ u.cul.cfg = culCfgOf r.p.payload ∧ u.cul.configured = true ∧ u.cul.st = t.cul.st ∧ u.cul.ledger = t.cul.ledger)
  ∧ Does .culConfig .culConfig
      (fun r t => permitted (chkCulConfig r t) && t.cul.st == .unconfigured)
      (fun r t x => x = done (culEnter .stopped (modCul (fun y => { y with cfg := culCfgOf r.p.payload, configured := true }) t)))
  ∧ Does .culStageSet .culStageSet
      (fun r t => permitted (chkCulStageSet r t))
      (fun r t x => ∃ u, x = done u ∧ u.cul.stages = t.cul.stages.set ((culUnit r 0x10 7).getD 7) (culStageOf r.p.payload) ∧ u.cul.ledger = t.cul.ledger)
  ∧ Does .culSensorSet .culSensorSet
      (fun r t => permitted (chkCulSensorSet r t))
      (fun r t x => ∃ u y, x = done u ∧ u.cul.sensors = t.cul.sensors.set ((culUnit r 0x100 32).getD 32) y ∧ y.handle = u32 r.p.payload 0
        ∧ y.kind = u8 r.p.payload 4 ∧ y.stage = u8 r.p.payload 5 ∧ y.slot = u8 r.p.payload 6 ∧ y.position = bits32 r.p.payload 8
        ∧ y.scale = bits32 r.p.payload 12)
  ∧ Does .culStart .culStart
      (fun r t => permitted (chkCulStart r t))
      (fun r t x => x = done (culBegin t.cul.cfg.kInit t))
  ∧ Does .culStop .culStop
      (fun r t => permitted (chkCulStop r t) && u8 r.p.payload 0 == 1)
      (fun r t x => x = done (culStopNow t))
  ∧ Does .culStop .culStop
      (fun r t => permitted (chkCulStop r t) && u8 r.p.payload 0 == 0 && t.cul.st == .running && (openParcels (culEnter .draining t)).isEmpty)
      (fun r t x => x = done (culEnter .stopped (culEnter .draining t)))
  ∧ Does .culStop .culStop
      (fun r t => permitted (chkCulStop r t) && u8 r.p.payload 0 == 0 && t.cul.st == .running && !(openParcels (culEnter .draining t)).isEmpty)
      (fun r t x => x = done (culEnter .draining t))
  ∧ Does .culStop .culStop
      (fun r t => permitted (chkCulStop r t) && u8 r.p.payload 0 == 0 && t.cul.st != .running)
      (fun r t x => x = done t)
  ∧ Does .culStatus .culStatus
      (fun r t => permitted (chkCulStatus r t))
      (fun r t x => ∃ fb, fb = bitsN ((List.range 7).map fun k => (t.cul.belts.getD k {}).fallback || (k == 0 && (t.cul.belts.getD 7 {}).fallback))
        ∧ x = answer (le 1 t.cul.st.code ++ le 1 fb ++ le 2 (openParcels t).length ++ le 4 t.cul.nextNo ++ le 4 t.cul.kCam.toNat
          ++ le 4 (secs32 (chainNow t)).toNat ++ le 4 (qf32 (chainMin t)).toNat ++ le 2 (minTick t)
          ++ le 2 (bitsN [t.cul.slow, t.cul.profileLost, t.cul.loadLost, t.cul.refill.isSome]) ++ le 4 t.cul.overruns ++ le 4 t.cul.aged
          ++ le 4 t.cul.lateLost ++ le 4 t.cul.unattributed ++ le 8 t.time) t)
  ∧ Does .culLedgerRead .culLedgerRead
      (fun r t => permitted (chkCulLedgerRead r t))
      (fun r t x => ∃ l, l = ledgerFrom t (u8 r.p.payload 4) (u32 r.p.payload 0) ∧ x = answer (le 1 l.length ++ zeros 7 ++ l.flatMap parcelBytes) t)
  ∧ Does .culCalRun .culCalRun
      (fun r t => permitted (chkCulCalRun r t))
      (fun r t x => ∃ u y n, n = (if onGrid (t.cul.cfg.tick * ms) t then t.time else nextGrid (t.cul.cfg.tick * ms) t)
        ∧ x = (.interim .queued, u) ∧ u.cul.cal = some y ∧ y.req = r ∧ y.stage = ((culUnit r 0x10 7).filter (1 ≤ ·)).getD 7
        ∧ y.sensor = u8 r.p.payload 0 ∧ y.start = n ∧ y.endAt = n + u8 r.p.payload 1 * sec)

/-- The SEN commands complete (R144 to R146, R149, R152, R155, R158). Each under the conditions that its chapter gives, with the effect that it gives. -/
def Obligations.SenCommandsComplete : Prop :=
  Does .senChannelSet .senChannelSet
      (fun r t => permitted (chkSenChannelSet r t))
      (fun r t x => x = done (modSenCh ((senChTarget r).getD 0) (fun c => { c with next := some { group := u8 r.p.payload 0, bias := u8 r.p.payload 1 == 1, window := u16 r.p.payload 2, hp := u16 r.p.payload 4, thrOn := u16 r.p.payload 6, thrOff := u16 r.p.payload 8, retrig := u8 r.p.payload 10, zcMax := u8 r.p.payload 11, envTau := u16 r.p.payload 12, silent := u16 r.p.payload 14, cover := bits32 r.p.payload 16 } }) t))
  ∧ Does .senClassWrite .senClassWrite
      (fun r t => permitted (chkSenClassWrite r t))
      (fun r t x => x = done (modSenCh ((senChTarget r).getD 0) (fun c => { c with nextTable := some (r.p.payload.take 64, u16 r.p.payload 64) }) t))
  ∧ Does .senTrain .senTrain
      (fun r t => permitted (chkSenTrain r t) && u8 r.p.payload 0 == 0)
      (fun r t x => x = done (modSenCh ((senChTarget r).getD 0) (fun c => { dropRings c with training := some 0, hk := [] }) t))
  ∧ Does .senTrain .senTrain
      (fun r t => permitted (chkSenTrain r t) && u8 r.p.payload 0 == 1)
      (fun r t x => x = done (modSenCh ((senChTarget r).getD 0) (fun c => { c with training := some 1, hn := [] }) t))
  ∧ Does .senTrain .senTrain
      (fun r t => permitted (chkSenTrain r t) && u8 r.p.payload 0 == 3)
      (fun r t x => x = done (modSenCh ((senChTarget r).getD 0) (fun c => { dropRings c with training := none, hk := [], hn := [] }) t))
  ∧ Does .senTrain .senTrain
      (fun r t => permitted (chkSenTrain r t) && u8 r.p.payload 0 == 2 && windowShort (t.senCh ((senChTarget r).getD 0)).cfgToCome.window (medianRing (t.senCh ((senChTarget r).getD 0)).rings))
      (fun r t x => x = (.fin .configRejected [], (modSenCh ((senChTarget r).getD 0) (fun c => { dropRings c with training := none, hk := [], hn := [] }) t)))
  ∧ Does .senTrain .senTrain
      (fun r t => permitted (chkSenTrain r t) && u8 r.p.payload 0 == 2 && !windowShort (t.senCh ((senChTarget r).getD 0)).cfgToCome.window (medianRing (t.senCh ((senChTarget r).getD 0)).rings))
      (fun r t x => ∃ w, x.2 = modSenCh ((senChTarget r).getD 0) (fun c => { c with nextTable := some (packTable w, medianRing (t.senCh ((senChTarget r).getD 0)).rings) }) (modSenCh ((senChTarget r).getD 0) (fun c => { dropRings c with training := none, hk := [], hn := [] }) t) ∧ w.length = 256
        ∧ ∀ i, i < 256 → w.getD i 0 = trainEntry ((aget (t.senCh ((senChTarget r).getD 0)).hk i).getD 0) ((aget (t.senCh ((senChTarget r).getD 0)).hn i).getD 0) (histTotal (t.senCh ((senChTarget r).getD 0)).hk) (histTotal (t.senCh ((senChTarget r).getD 0)).hn) (u16 r.p.payload 2) (u16 r.p.payload 4))
  ∧ Does .senChannelRead .senChannelRead
      (fun r t => permitted (chkSenChannelRead r t))
      (fun r t x => ∃ c, c = t.senCh ((senChTarget r).getD 0)
        ∧ x = answer (le 1 c.diag ++ le 1 (bitsN [c.trained, c.training.isSome, decide (9 / 10 ≤ c.load)]) ++ le 2 c.ringdown
          ++ (c.totals.flatMap fun v => le 4 v) ++ le 4 (qf32 c.dr).toNat ++ le 4 (qf32 c.corr).toNat ++ le 8 t.time) t)
  ∧ Does .senCropSet .senCropSet
      (fun r t => permitted (chkSenCropSet r t))
      (fun r t x => ∃ p u, unitIndex r.p.target 0x05 = some (0x100 + p) ∧ x = done u ∧ u.sen.crops = t.sen.crops.set p (cropOf r.p.payload))
  ∧ Does .senYieldConfig .senYieldConfig
      (fun r t => permitted (chkSenYieldConfig r t))
      (fun r t x => ∃ u c, x = done u ∧ u.sen.next = some c ∧ c.crop = u8 r.p.payload 0 ∧ c.sources = u8 r.p.payload 1 ∧ c.moistPeriod = u16 r.p.payload 2
        ∧ c.kMf = bits32 r.p.payload 4 ∧ c.agreeTol = bits32 r.p.payload 44 ∧ c.flowMin = bits32 r.p.payload 52 ∧ c.elev = some (u32 r.p.payload 60))
  ∧ Does .senCalLoad .senCalLoad
      (fun r t => permitted (chkSenCalLoad r t) && u8 r.p.payload 0 == 2)
      (fun r t x => ∃ n u, n = u8 r.p.payload 1
        ∧ u = modSen (fun y => { y with loads := updAt y.loads n fun l => l.map fun l => { l with weighed := some (bits32 r.p.payload 4) } }) t
        ∧ x = (.fin .done (calReply n u), u))
  ∧ Does .senCalLoad .senCalLoad
      (fun r t => permitted (chkSenCalLoad r t) && u8 r.p.payload 0 == 0)
      (fun r t x => ∃ u, u = modSen (fun y => { y with running := some (u8 r.p.payload 1), loads := y.loads.set (u8 r.p.payload 1) (some { start := t.time, paddleUsed := (t.flowSrc 1).st == 1, cameraUsed := (t.flowSrc 2).st == 1 }) }) t
        ∧ x = (.fin .done (calReply (u8 r.p.payload 1) u), u))
  ∧ Does .senCalLoad .senCalLoad
      (fun r t => permitted (chkSenCalLoad r t) && u8 r.p.payload 0 == 1)
      (fun r t x => ∃ u, u = modSen (fun y => { y with running := none, loads := updAt y.loads (u8 r.p.payload 1) fun l => l.map fun l => { l with end_ := some t.time } }) t
        ∧ x = (.fin (if (u.sen.loads.getD (u8 r.p.payload 1) none).any (·.sound u.time) then .done else .degraded) (calReply (u8 r.p.payload 1) u), u))
  ∧ Does .senCalLoad .senCalLoad
      (fun r t => permitted (chkSenCalLoad r t) && u8 r.p.payload 0 == 3 && (calApply t).isSome)
      (fun r t x => ∃ u, calApply t = some u ∧ x = (.fin .done (calReply (u8 r.p.payload 1) u), u))
  ∧ Does .senCalLoad .senCalLoad
      (fun r t => permitted (chkSenCalLoad r t) && u8 r.p.payload 0 == 3 && (calApply t).isNone)
      (fun r t x => x = (.fin .configRejected [], t))
  ∧ Does .senCalLoad .senCalLoad
      (fun r t => permitted (chkSenCalLoad r t) && u8 r.p.payload 0 == 4)
      (fun r t x => ∃ u, u = modSen (fun y => { y with running := none, loads := List.replicate 8 none }) t ∧ x = (.fin .done (calReply (u8 r.p.payload 1) u), u))
  ∧ Does .senStatus .senStatus
      (fun r t => permitted (chkSenStatus r t))
      (fun r t x => ∃ v : Nat → List Byte, (∀ loc, v loc = le 4 ((t.sig1 loc).value.toNat % 2 ^ 32))
        ∧ x = answer (le 1 (srcStates t) ++ le 1 (bitsN [true, t.sen.running.isSome, t.sen.tareJump, (t.sig1 352).quality == .outOfRange,
            (t.sig1 352).quality == .disputed]) ++ le 2 (bitsN (t.sen.ch.map (·.masked))) ++ v 352 ++ v 362 ++ v 363 ++ v 358
          ++ le 4 (qf32 t.sen.tare).toNat ++ le 8 t.time) t)

/-- The MAP commands complete (R160, R161, R163, R165, R176, R177). Each under the conditions that its chapter gives, with the effect that it gives. -/
def Obligations.MapCommandsComplete : Prop :=
  Does .mapFieldOpen .mapFieldOpen
      (fun r t => permitted (chkMapFieldOpen r t) && u8 r.p.payload 4 == 0 && decide (t.map.fields.length < 64))
      (fun r t x => ∃ (f : Field) (u : State), f = { id := u32 r.p.payload 0, cell := u8 r.p.payload 5, origin := (bits64 r.p.payload 8, bits64 r.p.payload 16, bits64 r.p.payload 24) }
        ∧ u = modMap (fun m => { m with fields := m.fields ++ [f], open_ := f.id, crop := u8 r.p.payload 6, cache := [], loading := [], queue := [], remote := [], outOfField := false, storeFull := false, written := 0, noField := 0, skipped := 0, dropped := 0 }) t
        ∧ x = (.fin .done (le 4 0), mapEvent 0 noParcel 0 0 0xFFFF
            (setOrigin (f64d f.origin.1, f64d f.origin.2.1, f64d f.origin.2.2) (modCul (fun c => { c with toMap := [] }) u))))
  ∧ Does .mapFieldOpen .mapFieldOpen
      (fun r t => permitted (chkMapFieldOpen r t) && u8 r.p.payload 4 == 0 && decide (64 ≤ t.map.fields.length))
      (fun r t x => x = (.fin .noResource [], mapEvent 4 noParcel 0 0 0xFFFF t))
  ∧ Does .mapFieldOpen .mapFieldOpen
      (fun r t => permitted (chkMapFieldOpen r t) && u8 r.p.payload 4 == 1 && (t.field (u32 r.p.payload 0)).isSome)
      (fun r t x => ∃ f u, t.field (u32 r.p.payload 0) = some f
        ∧ u = modMap (fun m => { m with open_ := u32 r.p.payload 0, crop := u8 r.p.payload 6, cache := [], loading := [], queue := [], remote := [], outOfField := false, storeFull := false, written := 0, noField := 0, skipped := 0, dropped := 0 }) t
        ∧ x = (.fin .done (le 4 f.tiles.length), mapEvent 0 noParcel 0 0 0xFFFF
            (setOrigin (f64d f.origin.1, f64d f.origin.2.1, f64d f.origin.2.2) (modCul (fun c => { c with toMap := [] }) u))))
  ∧ Does .mapFieldClose .mapFieldClose
      (fun r t => permitted (chkMapFieldClose r t) && (applyRemote (writeParcels t)).map.queue.isEmpty)
      (fun r t x => x = done (closeField (applyRemote (writeParcels t))))
  ∧ Does .mapFieldClose .mapFieldClose
      (fun r t => permitted (chkMapFieldClose r t) && !(applyRemote (writeParcels t)).map.queue.isEmpty)
      (fun r t x => x = (.interim .queued, applyRemote (writeParcels t)))
  ∧ Does .mapConfig .mapConfig
      (fun r t => permitted (chkMapConfig r t))
      (fun r t x => ∃ u, x = done u ∧ u.map.width = (List.range 8).map (fun i => bits32 r.p.payload (4 * i)) ∧ u.map.flushPeriod = u16 r.p.payload 32
        ∧ u.map.fields = t.map.fields ∧ u.map.cache = t.map.cache)
  ∧ Does .mapTileRead .mapTileRead
      (fun r t => permitted (chkMapTileRead r t) && ((t.tile (i16 r.p.payload 4) (i16 r.p.payload 6)).isNone || (u32 r.p.payload 0 != 0 && u32 r.p.payload 0 != t.map.open_)))
      (fun r t x => ∃ ks, ks = (List.range (min (u8 r.p.payload 10) (4096 - u16 r.p.payload 8))).map (u16 r.p.payload 8 + ·)
        ∧ x = answer (match (t.field (if u32 r.p.payload 0 = 0 then t.map.open_ else u32 r.p.payload 0)).bind fun f => f.stored (i16 r.p.payload 4) (i16 r.p.payload 6) with
          | none => zeros 8
          | some y => le 1 ks.length ++ zeros 3 ++ le 4 y.new.1 ++ ks.flatMap fun k => ((aget y.new.2 k).getD {}).bytes) t)
  ∧ Does .mapTileRead .mapTileRead
      (fun r t => permitted (chkMapTileRead r t) && ((u32 r.p.payload 0 == 0 || u32 r.p.payload 0 == t.map.open_) && (t.tile (i16 r.p.payload 4) (i16 r.p.payload 6)).isSome))
      (fun r t x => ∃ y ks, t.tile (i16 r.p.payload 4) (i16 r.p.payload 6) = some y ∧ ks = (List.range (min (u8 r.p.payload 10) (4096 - u16 r.p.payload 8))).map (u16 r.p.payload 8 + ·)
        ∧ x = (.fin .done (le 1 ks.length ++ zeros 3 ++ le 4 0 ++ ks.flatMap fun k => ((aget y.snap k).getD {}).bytes), healCells (i16 r.p.payload 4) (i16 r.p.payload 6) ks t))
  ∧ Does .mapStatus .mapStatus
      (fun r t => permitted (chkMapStatus r t))
      (fun r t x => x = answer (le 4 t.map.open_ ++ le 2 t.map.cache.length ++ le 2 (t.map.cache.filter (·.dirtySince.isSome)).length ++ le 2 t.map.queue.length
        ++ le 2 (bitsN [t.map.outOfField, t.map.storeFull, t.map.exporting.isSome]) ++ le 4 t.map.written ++ le 4 t.map.noField
        ++ le 4 t.map.skipped ++ le 4 t.map.dropped ++ le 4 t.map.fields.length ++ le 8 t.time) t)
  ∧ Does .mapExport .mapExport
      (fun r t => permitted (chkMapExport r t) && u32 r.p.payload 0 != t.map.open_ && (t.field (u32 r.p.payload 0)).isSome)
      (fun r t x => ∃ f u, t.field (u32 r.p.payload 0) = some f ∧ x = (.interim .queued, u)
        ∧ u.map.exporting = some (r, f, u8 r.p.payload 4) ∧ u.map.export_ = none ∧ u.map.cache = t.map.cache)
  ∧ Does .mapExport .mapExport
      (fun r t => permitted (chkMapExport r t) && u32 r.p.payload 0 == t.map.open_ && ((flushAll t).field (u32 r.p.payload 0)).isSome)
      (fun r t x => ∃ f, (flushAll t).field (u32 r.p.payload 0) = some f
        ∧ x = (.interim .queued, modMap (fun m => { m with exporting := some (r, f, u8 r.p.payload 4), export_ := none }) (flushAll t)))
  ∧ Does .mapExportRead .mapExportRead
      (fun r t => permitted (chkMapExportRead r t))
      (fun r t x => x = answer (((t.map.export_.getD []).drop (u64 r.p.payload 0)).take (u16 r.p.payload 8)) t)

/-- The GDE commands complete (R181, R183, R190, R191, R194 to R196). Each under the conditions that its chapter gives, with the effect that it gives. A command that no law sample is at waits for it (R192). -/
def Obligations.GdeCommandsComplete : Prop :=
  Does .gdeConfig .gdeConfig
      (fun r t => permitted (chkGdeConfig r t) && !gdeSteering (gdeBefore t) && (gdeBefore t).gde.st != .finishing && !(((gdeBefore t).findLoop 2 0).isNone && (freeLoop (gdeBefore t)).isNone))
      (fun r t x => x = done (gdeStart (gdeInstall (gdeCfgOf r.p.payload) (gdeBefore t))))
  ∧ Does .gdeConfig .gdeConfig
      (fun r t => permitted (chkGdeConfig r t) && !gdeSteering (gdeBefore t) && (gdeBefore t).gde.st != .finishing && ((gdeBefore t).findLoop 2 0).isNone && (freeLoop (gdeBefore t)).isNone)
      (fun r t x => x = (.fin .configRejected [], gdeBefore t))
  ∧ Does .gdeConfig .gdeConfig
      (fun r t => permitted (chkGdeConfig r t) && (gdeSteering (gdeBefore t) || (gdeBefore t).gde.st == .finishing))
      (fun r t x => x = (.fin .wrongState [], gdeBefore t))
  ∧ Does .gdeLineWrite .gdeLineWrite
      (fun r t => permitted (chkGdeLineWrite r t) && u8 r.p.payload 0 == 0)
      (fun r t x => ∃ u n, n = (lineTarget r).getD 0 ∧ x = done u ∧ u.gde.lines = t.gde.lines
        ∧ u.gde.drafts = withoutLine t.map.open_ n t.gde.drafts ++ [{ field := t.map.open_, no := n, line := { type := u8 r.p.payload 1, spacing := bits32 r.p.payload 8, radius := bits32 r.p.payload 12, name := (r.p.payload.drop 16).take 16, total := u32 r.p.payload 4 } }])
  ∧ Does .gdeLineWrite .gdeLineWrite
      (fun r t => permitted (chkGdeLineWrite r t) && u8 r.p.payload 0 == 1 && (t.gde.drafts.find? fun y => y.field == t.map.open_ && y.no == ((lineTarget r).getD 0)).isSome)
      (fun r t x => ∃ y u, (t.gde.drafts.find? fun y => y.field == t.map.open_ && y.no == ((lineTarget r).getD 0)) = some y ∧ x = done u ∧ u.gde.lines = t.gde.lines
        ∧ u.gde.drafts = withoutLine t.map.open_ ((lineTarget r).getD 0) t.gde.drafts ++ [{ field := t.map.open_, no := ((lineTarget r).getD 0), line := { y.line with verts := y.line.verts ++ vertsOf r.p.payload (u16 r.p.payload 2) } }])
  ∧ Does .gdeLineWrite .gdeLineWrite
      (fun r t => permitted (chkGdeLineWrite r t) && u8 r.p.payload 0 == 2 && (t.gde.drafts.find? fun y => y.field == t.map.open_ && y.no == ((lineTarget r).getD 0)).isSome)
      (fun r t x => ∃ y u, (t.gde.drafts.find? fun y => y.field == t.map.open_ && y.no == ((lineTarget r).getD 0)) = some y ∧ x = done u ∧ u.gde.drafts = withoutLine t.map.open_ ((lineTarget r).getD 0) t.gde.drafts
        ∧ u.gde.lines = withoutLine t.map.open_ ((lineTarget r).getD 0) t.gde.lines ++ [{ field := t.map.open_, no := ((lineTarget r).getD 0), line := y.line }])
  ∧ Does .gdeLineWrite .gdeLineWrite
      (fun r t => permitted (chkGdeLineWrite r t) && u8 r.p.payload 0 == 3)
      (fun r t x => x = done (modGde (fun g => { g with lines := withoutLine t.map.open_ ((lineTarget r).getD 0) g.lines }) t))
  ∧ Does .gdeLineSelect .gdeLineSelect
      (fun r t => permitted (chkGdeLineSelect r t) && u8 r.p.payload 1 == 1 && !gdeSteering (gdeBefore t) && -4096 ≤ i16 r.p.payload 2 && i16 r.p.payload 2 ≤ 4095
          && (gdeLine (u8 r.p.payload 0) (gdeBefore t)).any fun l => (passOf l (i16 r.p.payload 2) (bits32 r.p.payload 4)).isSome)
      (fun r t x => ∃ u, x = (.fin .done (leInt 2 (i16 r.p.payload 2) ++ zeros 2), u)
        ∧ u = modGde (fun g => { g with nextSel := some ((gdeBefore t).time, { field := (gdeBefore t).map.open_, line := u8 r.p.payload 0, pass := i16 r.p.payload 2, shift := bits32 r.p.payload 4 }) }) (gdeBefore t))
  ∧ Does .gdeLineSelect .gdeLineSelect
      (fun r t => permitted (chkGdeLineSelect r t) && (gdeLine (u8 r.p.payload 0) (gdeBefore t)).isNone)
      (fun r t x => x = (.fin (if (gdeBefore t).map.open_ == 0 then .wrongState else .badParam) [], gdeBefore t))
  ∧ Does .gdeLineSelect .gdeLineSelect
      (fun r t => permitted (chkGdeLineSelect r t) && (gdeLine (u8 r.p.payload 0) (gdeBefore t)).isSome && gdeSteering (gdeBefore t) && ((gdeSel (gdeBefore t)).map (·.line)) != some (u8 r.p.payload 0))
      (fun r t x => x = (.fin .wrongState [], gdeBefore t))
  ∧ Does .gdeLineSelect .gdeLineSelect
      (fun r t => permitted (chkGdeLineSelect r t) && (gdeLine (u8 r.p.payload 0) (gdeBefore t)).isSome && !gdeSteering (gdeBefore t) && u8 r.p.payload 1 == 0 && ((gdeLine (u8 r.p.payload 0) (gdeBefore t)).bind fun l => nearestPass l (bits32 r.p.payload 4) (gdeBefore t)).isNone)
      (fun r t x => x = (.fin .wrongState [], gdeBefore t))
  ∧ Does .gdeLineSelect .gdeLineSelect
      (fun r t => permitted (chkGdeLineSelect r t) && !gdeSteering (gdeBefore t) && u8 r.p.payload 1 == 0 && ((gdeLine (u8 r.p.payload 0) (gdeBefore t)).any fun l => (nearestPass l (bits32 r.p.payload 4) (gdeBefore t)).any fun k => decide (-4096 ≤ k) && decide (k ≤ 4095) && (passOf l k (bits32 r.p.payload 4)).isSome))
      (fun r t x => ∃ l k, (gdeLine (u8 r.p.payload 0) (gdeBefore t)) = some l ∧ nearestPass l (bits32 r.p.payload 4) (gdeBefore t) = some k
        ∧ x = (.fin .done (leInt 2 k ++ zeros 2), modGde (fun g => { g with nextSel := some ((gdeBefore t).time, { field := (gdeBefore t).map.open_, line := u8 r.p.payload 0, pass := k, shift := bits32 r.p.payload 4 }) }) (gdeBefore t)))
  ∧ Does .gdeEngage .gdeEngage
      (fun r t => permitted (chkGdeEngage r t) && (gdeBefore t).gde.st == .ready)
      (fun r t x => ∃ u, u = gdeEngageNow (gdeBefore t) ∧ x = (if u.1 == .held then .interim .held else .fin u.1 [], u.2))
  ∧ Does .gdeEngage .gdeEngage
      (fun r t => permitted (chkGdeEngage r t) && ((gdeBefore t).gde.st == .off || (gdeBefore t).gde.st == .standby))
      (fun r t x => x = (.fin .wrongState [], gdeBefore t))
  ∧ Does .gdeEngage .gdeEngage
      (fun r t => permitted (chkGdeEngage r t) && ((gdeBefore t).gde.st == .engaged || (gdeBefore t).gde.st == .coasting))
      (fun r t x => x = (.fin .done [], gdeBefore t))
  ∧ Does .gdeEngage .gdeEngage
      (fun r t => permitted (chkGdeEngage r t) && (gdeBefore t).gde.st == .releasing && gdeBlockers (gdeBefore t) != 0x400)
      (fun r t x => x = (.fin .wrongState [], gdeBefore t))
  ∧ Does .gdeEngage .gdeEngage
      (fun r t => permitted (chkGdeEngage r t) && (gdeBefore t).gde.st == .finishing)
      (fun r t x => x = (.interim .held, modGde (fun g => { g with pending := some (some r), pendingAt := (gdeBefore t).time }) (gdeEndPending .superseded (gdeBefore t))))
  ∧ Does .gdeEngage .gdeEngage
      (fun r t => permitted (chkGdeEngage r t) && (gdeBefore t).gde.st == .faulted)
      (fun r t x => x = (.fin .hwFault [], gdeBefore t))
  ∧ Does .gdeEngage .gdeEngage
      (fun r t => permitted (chkGdeEngage r t) && (gdeBefore t).gde.st == .releasing && gdeBlockers (gdeBefore t) == 0x400)
      (fun r t x => ∃ u, u = gdeReEngage (gdeBefore t) ∧ x = (if u.1 == .held then .interim .held else .fin u.1 [], u.2))
  ∧ Does .gdeDisengage .gdeDisengage
      (fun r t => permitted (chkGdeDisengage r t))
      (fun r t x => ∃ u, u = gdeEndPending .superseded (gdeBefore t) ∧ x = done (if u8 r.p.payload 0 == 1 then (if gdeSteering u then releaseNow 0 u else u)
          else if gdeActive u then releaseRamp 0 u else u))
  ∧ Does .gdeStatus .gdeStatus
      (fun r t => permitted (chkGdeStatus r t))
      (fun r t x => ∃ g, g = t.gde
        ∧ x = answer (le 1 g.st.code ++ le 1 g.path ++ le 1 g.lastCause ++ le 1 (((gdeSel t).map (·.line)).getD 0xFF) ++ le 2 (gdeFlags t)
          ++ le 2 g.blockers ++ leInt 2 (((gdeSel t).map (·.pass)).getD 0) ++ le 2 (coastLeft t) ++ le 4 (qf32 g.e).toNat
          ++ le 4 (qf32 g.psi).toNat ++ le 4 (qf32 g.deltaSet).toNat ++ le 4 (qf32 (g.fused.getD 0)).toNat ++ le 4 (qf32 (g.arc.getD 0)).toNat
          ++ le 8 t.time) t)
  ∧ Does .gdeWasCal .gdeWasCal
      (fun r t => permitted (chkGdeWasCal r t) && u8 r.p.payload 0 < 3 && !gdeSteering (gdeBefore t) && (gdeBefore t).gde.st != .finishing
          && !decide (1 / 10 < kmh (absR (gdeSpeed (gdeBefore t)))) && (gdeBefore t).gde.recording.isNone)
      (fun r t x => ∃ u y, x = (.interim .queued, u) ∧ u.gde.recording = some y
        ∧ y.req = r ∧ y.op = u8 r.p.payload 0 ∧ y.angle = bits32 r.p.payload 4 ∧ y.start = (gdeBefore t).time)
  ∧ Does .gdeWasCal .gdeWasCal
      (fun r t => permitted (chkGdeWasCal r t) && u8 r.p.payload 0 == 4 && !gdeSteering (gdeBefore t) && (gdeBefore t).gde.st != .finishing && !decide (1 / 10 < kmh (absR (gdeSpeed (gdeBefore t)))))
      (fun r t x => x = done (modGde (fun g => { g with points := [none, none, none], cal := [], nextCal := none }) (gdeBefore t)))
  ∧ Does .gdeWasCal .gdeWasCal
      (fun r t => permitted (chkGdeWasCal r t) && (gdeSteering (gdeBefore t) || (gdeBefore t).gde.st == .finishing || decide (1 / 10 < kmh (absR (gdeSpeed (gdeBefore t)))) || (u8 r.p.payload 0 < 3 && (gdeBefore t).gde.recording.isSome) || (u8 r.p.payload 0 == 3 && ((gdeBefore t).gde.points.filterMap id).length < 3)))
      (fun r t x => x = (.fin .wrongState [], gdeBefore t))
  ∧ Does .gdeWasCal .gdeWasCal
      (fun r t => permitted (chkGdeWasCal r t) && u8 r.p.payload 0 == 3 && !gdeSteering (gdeBefore t) && (gdeBefore t).gde.st != .finishing && !decide (1 / 10 < kmh (absR (gdeSpeed (gdeBefore t)))) && decide (3 ≤ ((gdeBefore t).gde.points.filterMap id).length) && monotone (((gdeBefore t).gde.points.filterMap id).map (·.rawA)) && monotone (((gdeBefore t).gde.points.filterMap id).map (·.rawB)) && decide (20 ≤ (((gdeBefore t).gde.points.filterMap id).map fun p => f32d p.angle).foldl maxR (-60) - (((gdeBefore t).gde.points.filterMap id).map fun p => f32d p.angle).foldl minR 60))
      (fun r t x => x = done (modGde (fun g => { g with nextCal := some ((gdeBefore t).time, (gdeBefore t).gde.points.filterMap id) }) (gdeBefore t)))
  ∧ Does .gdeWasCal .gdeWasCal
      (fun r t => permitted (chkGdeWasCal r t) && u8 r.p.payload 0 == 3 && !gdeSteering (gdeBefore t) && (gdeBefore t).gde.st != .finishing && !decide (1 / 10 < kmh (absR (gdeSpeed (gdeBefore t)))) && decide (3 ≤ ((gdeBefore t).gde.points.filterMap id).length) && !(monotone (((gdeBefore t).gde.points.filterMap id).map (·.rawA)) && monotone (((gdeBefore t).gde.points.filterMap id).map (·.rawB)) && decide (20 ≤ (((gdeBefore t).gde.points.filterMap id).map fun p => f32d p.angle).foldl maxR (-60) - (((gdeBefore t).gde.points.filterMap id).map fun p => f32d p.angle).foldl minR 60)))
      (fun r t x => x = (.fin .configRejected [], gdeBefore t))
  ∧ Waits .gdeConfig .gdeConfig
  ∧ Waits .gdeLineWrite .gdeLineWrite
  ∧ Waits .gdeLineSelect .gdeLineSelect
  ∧ Waits .gdeEngage .gdeEngage
  ∧ Waits .gdeDisengage .gdeDisengage
  ∧ Waits .gdeWasCal .gdeWasCal

/-- The LPE commands complete (R200, R210, R211, R219, R226, R229, R232). Each under the conditions that its chapter gives, with the effect that it gives. -/
def Obligations.LpeCommandsComplete : Prop :=
  Does .lpeLoopConfig .lpeLoopConfig
      (fun r t => permitted (chkLpeLoopConfig (fun loc part s => producerOf loc s == some part) r t))
      (fun r t x => ∃ n c u, n = (freeLoop t).getD 0 ∧ c = parseLoopCfg r.p.payload ∧ x = (.fin .done (le 2 n), u)
        ∧ u.lpe.loops = (allocLoop n c t).lpe.loops ∧ u.lpe.partLoops = (allocLoop n c t).lpe.partLoops ++ [c])
  ∧ Does .lpeLoopRun .lpeLoopRun
      (fun r t => permitted (chkLpeLoopRun loopDest r t) && u8 r.p.payload 0 == 0)
      (fun r t x => x = done (stopLoop (loopTarget r) t))
  ∧ Does .lpeLoopRun .lpeLoopRun
      (fun r t => permitted (chkLpeLoopRun loopDest r t) && u8 r.p.payload 0 == 1)
      (fun r t x => ∃ u, u = runLoop (loopTarget r) (loopDest (loopTarget r) t) t ∧ x = (.fin u.1 [], u.2))
  ∧ Does .lpeBankWrite .lpeBankWrite
      (fun r t => permitted (chkLpeBankWrite r t))
      (fun r t x => x = done (writeBank (loopTarget r) (u8 r.p.payload 0) (u16 r.p.payload 2) ((r.p.payload.drop 8).take (u16 r.p.payload 4)) false t))
  ∧ Does .lpeBankSwap .lpeBankSwap
      (fun r t => permitted (chkLpeBankSwap r t) && (t.loop (loopTarget r)).st == .idle)
      (fun r t x => ∃ u, u = applySwap (loopTarget r) (u8 r.p.payload 0) t ∧ x = (.fin u.1 [], u.2))
  ∧ Does .lpeBankSwap .lpeBankSwap
      (fun r t => permitted (chkLpeBankSwap r t) && (t.loop (loopTarget r)).st != .idle && (u8 r.p.payload 0 == (t.loop (loopTarget r)).selected && (t.loop (loopTarget r)).pendingSwap.isNone))
      (fun r t x => x = done t)
  ∧ Does .lpeBankSwap .lpeBankSwap
      (fun r t => permitted (chkLpeBankSwap r t) && (t.loop (loopTarget r)).st != .idle && !(u8 r.p.payload 0 == (t.loop (loopTarget r)).selected && (t.loop (loopTarget r)).pendingSwap.isNone))
      (fun r t x => x = ((if (partOfPort r.port).isSome then .silent else .interim .queued), requestSwap (loopTarget r) (u8 r.p.payload 0) (some r) t))
  ∧ Does .lpeLoopStatus .lpeLoopStatus
      (fun r t => permitted (chkLpeLoopStatus r t) && (t.loop (loopTarget r)).st != .free)
      (fun r t x => ∃ n l, n = loopTarget r ∧ l = t.loop n
        ∧ x = answer (le 4 (loopStatus n t) ++ le 1 l.cfg.kind ++ le 1 l.cfg.index ++ le 1 (128 * b2n l.cfg.classP + l.cfg.period) ++ le 1 (n / 16)
          ++ le 4 l.nodes.r.toNat ++ le 4 l.nodes.y.toNat ++ le 4 l.nodes.e.toNat ++ le 4 l.nodes.u.toNat ++ le 4 l.i.toNat ++ zeros 4
          ++ le 8 l.stamp) t)
  ∧ Does .lpeLoopStatus .lpeLoopStatus
      (fun r t => permitted (chkLpeLoopStatus r t) && (t.loop (loopTarget r)).st == .free)
      (fun r t x => ∃ n l, n = loopTarget r ∧ l = t.loop n
        ∧ x = answer (le 4 (loopStatus n t) ++ le 1 0xFF ++ le 1 0xFF ++ le 1 0 ++ le 1 (n / 16)
          ++ le 4 l.nodes.r.toNat ++ le 4 l.nodes.y.toNat ++ le 4 l.nodes.e.toNat ++ le 4 l.nodes.u.toNat ++ le 4 l.i.toNat ++ zeros 4
          ++ le 8 l.stamp) t)
  ∧ Does .lpeTraceSet .lpeTraceSet
      (fun r t => permitted (chkLpeTraceSet r t) && u8 r.p.payload 0 == 1)
      (fun r t x => x = done (modTrace (loopTarget r - 0x100) (fun t => { t with mode := 0, st := 0, holder := none, buf := [], lastT := none }) t))
  ∧ Does .lpeTraceSet .lpeTraceSet
      (fun r t => permitted (chkLpeTraceSet r t) && u8 r.p.payload 0 == 0)
      (fun r t x => ∃ n, n = loopTarget r - 0x100
        ∧ x = done (armTrace n (modTrace n (fun y => { y with mode := u8 r.p.payload 1, pre := u16 r.p.payload 2, decim := u8 r.p.payload 4, clock := u8 r.p.payload 5, kind := u8 r.p.payload 6, nodeSlot := u8 r.p.payload 7, level := bits32 r.p.payload 8, nodes := (List.range 8).map fun i => u16 r.p.payload (12 + 2 * i), size := u32 r.p.payload 28, base := u64 r.p.payload 32, holder := some r.port }) t)))
  ∧ Does .lpeTraceSet .lpeTraceSet
      (fun r t => permitted (chkLpeTraceSet r t) && u8 r.p.payload 0 == 2)
      (fun r t x => x = done (modTrace (loopTarget r - 0x100) (fun y => { y with sw := y.sw || y.st == 1 }) t))
  ∧ Does .lpeTraceRead .lpeTraceRead
      (fun r t => permitted (chkLpeTraceRead r t))
      (fun r t x => ∃ got, got = ((t.trace (loopTarget r - 0x100)).ring.drop (u16 r.p.payload 0)).take (u8 r.p.payload 2)
        ∧ x = answer (le 2 got.length ++ zeros 6 ++ got.flatMap fun x => x.flatMap fun v => le 4 v.toNat) t)
  ∧ Does .lpeEngineStatus .lpeEngineStatus
      (fun r t => permitted (chkLpeEngineStatus r t))
      (fun r t x => ∃ used, used = (List.range 8).flatMap (fun g => le 1 (((t.lpe.loops.drop (16 * g)).take 16).filter fun l => l.st != .free).length)
        ∧ x = answer (le 4 (lpeStatusWord t) ++ le 4 (lpeMapWord t) ++ used ++ le 4 t.lpe.takeovers ++ zeros 4 ++ le 8 t.time) t)

/-- The VLV commands complete (R242, R247, R254, R257). Each under the conditions that its chapter gives, with the effect that it gives. -/
def Obligations.VlvCommandsComplete : Prop :=
  Does .vlvConfig .vlvConfig
      (fun r t => permitted (chkVlvConfig r t))
      (fun r t x => ∃ n c, n = valveTarget r ∧ c = parseValveCfg r.p.payload
        ∧ x = done (vlvSync n (modValve n (fun v => { v with cfg := c, sentCal := if c.posInput == 2 then v.sentCal else none }) t)))
  ∧ Does .vlvDrive .vlvDrive
      (fun r t => permitted (chkVlvDrive r t) && u8 r.p.payload 0 == 0 && (t.valve (valveTarget r)).st != .testing && (t.valve (valveTarget r)).st != .energised)
      (fun r t x => ∃ n, n = valveTarget r ∧ x = done (vlvSync n (endOn n .superseded (modValve n (fun v => { v with drive := false, heldOn := false }) t))))
  ∧ Does .vlvDrive .vlvDrive
      (fun r t => permitted (chkVlvDrive r t) && (u8 r.p.payload 0 == 0 && ((t.valve (valveTarget r)).st == .testing || (t.valve (valveTarget r)).st == .energised)))
      (fun r t x => ∃ n, n = valveTarget r
        ∧ x = (.silent, modValve n (fun v => { v with offReq := some r }) (endOff n .superseded (endOn n .superseded (modValve n (fun v => { v with drive := false, heldOn := false }) t)))))
  ∧ Does .vlvDrive .vlvDrive
      (fun r t => permitted (chkVlvDrive r t) && u8 r.p.payload 0 == 1 && ((endOn (valveTarget r) .superseded (modValve (valveTarget r) (fun v => { v with drive := true }) t)).valve (valveTarget r)).st == .energised)
      (fun r t x => x = done (endOff (valveTarget r) .superseded (endOn (valveTarget r) .superseded (modValve (valveTarget r) (fun v => { v with drive := true }) t))))
  ∧ Does .vlvDrive .vlvDrive
      (fun r t => permitted (chkVlvDrive r t) && u8 r.p.payload 0 == 1 && ((endOn (valveTarget r) .superseded (modValve (valveTarget r) (fun v => { v with drive := true }) t)).valve (valveTarget r)).st != .energised && ((endOn (valveTarget r) .superseded (modValve (valveTarget r) (fun v => { v with drive := true }) t)).valve (valveTarget r)).mode == 3 && !((endOn (valveTarget r) .superseded (modValve (valveTarget r) (fun v => { v with drive := true }) t)).valve (valveTarget r)).level)
      (fun r t x => x = done (endOn (valveTarget r) .superseded (modValve (valveTarget r) (fun v => { v with drive := true }) t)))
  ∧ Does .vlvDrive .vlvDrive
      (fun r t => permitted (chkVlvDrive r t) && (u8 r.p.payload 0 == 1 && !(((endOn (valveTarget r) .superseded (modValve (valveTarget r) (fun v => { v with drive := true }) t)).valve (valveTarget r)).mode == 3 && !((endOn (valveTarget r) .superseded (modValve (valveTarget r) (fun v => { v with drive := true }) t)).valve (valveTarget r)).level) && (((endOn (valveTarget r) .superseded (modValve (valveTarget r) (fun v => { v with drive := true }) t)).valve (valveTarget r)).st == .demag || ((endOn (valveTarget r) .superseded (modValve (valveTarget r) (fun v => { v with drive := true }) t)).valve (valveTarget r)).st == .offTime)))
      (fun r t x => x = (.interim .held, vlvSync (valveTarget r) (modValve (valveTarget r) (fun v => { v with heldOn := true }) (modValve (valveTarget r) (fun v => { v with onReq := some r }) (endOn (valveTarget r) .superseded (modValve (valveTarget r) (fun v => { v with drive := true }) t))))))
  ∧ Does .vlvDrive .vlvDrive
      (fun r t => permitted (chkVlvDrive r t) && u8 r.p.payload 0 == 1 && !(((endOn (valveTarget r) .superseded (modValve (valveTarget r) (fun v => { v with drive := true }) t)).valve (valveTarget r)).mode == 3 && !((endOn (valveTarget r) .superseded (modValve (valveTarget r) (fun v => { v with drive := true }) t)).valve (valveTarget r)).level) && ((endOn (valveTarget r) .superseded (modValve (valveTarget r) (fun v => { v with drive := true }) t)).valve (valveTarget r)).st == .deEnergised && (valveBanks (valveTarget r) (modValve (valveTarget r) (fun v => { v with onReq := some r }) (endOn (valveTarget r) .superseded (modValve (valveTarget r) (fun v => { v with drive := true }) t)))).isNone)
      (fun r t x => x = (.silent, (modValve (valveTarget r) (fun v => { v with onReq := some r }) (endOn (valveTarget r) .superseded (modValve (valveTarget r) (fun v => { v with drive := true }) t)))))
  ∧ Does .vlvDrive .vlvDrive
      (fun r t => permitted (chkVlvDrive r t) && u8 r.p.payload 0 == 1 && !(((endOn (valveTarget r) .superseded (modValve (valveTarget r) (fun v => { v with drive := true }) t)).valve (valveTarget r)).mode == 3 && !((endOn (valveTarget r) .superseded (modValve (valveTarget r) (fun v => { v with drive := true }) t)).valve (valveTarget r)).level) && ((endOn (valveTarget r) .superseded (modValve (valveTarget r) (fun v => { v with drive := true }) t)).valve (valveTarget r)).st == .deEnergised && (valveBanks (valveTarget r) (modValve (valveTarget r) (fun v => { v with onReq := some r }) (endOn (valveTarget r) .superseded (modValve (valveTarget r) (fun v => { v with drive := true }) t)))).isSome)
      (fun r t x => ∃ k c, valveBanks (valveTarget r) (modValve (valveTarget r) (fun v => { v with onReq := some r }) (endOn (valveTarget r) .superseded (modValve (valveTarget r) (fun v => { v with drive := true }) t))) = some (k, c)
        ∧ x = (.fin c [], refuseBank k c (modValve (valveTarget r) (fun v => { v with onReq := none, drive := false }) (modValve (valveTarget r) (fun v => { v with onReq := some r }) (endOn (valveTarget r) .superseded (modValve (valveTarget r) (fun v => { v with drive := true }) t))))))
  ∧ Does .vlvDrive .vlvDrive
      (fun r t => permitted (chkVlvDrive r t) && u8 r.p.payload 0 == 1 && !(((endOn (valveTarget r) .superseded (modValve (valveTarget r) (fun v => { v with drive := true }) t)).valve (valveTarget r)).mode == 3 && !((endOn (valveTarget r) .superseded (modValve (valveTarget r) (fun v => { v with drive := true }) t)).valve (valveTarget r)).level) && ((endOn (valveTarget r) .superseded (modValve (valveTarget r) (fun v => { v with drive := true }) t)).valve (valveTarget r)).st == .testing)
      (fun r t x => x = (.silent, (modValve (valveTarget r) (fun v => { v with onReq := some r }) (endOn (valveTarget r) .superseded (modValve (valveTarget r) (fun v => { v with drive := true }) t)))))
  ∧ Does .vlvStatus .vlvStatus
      (fun r t => permitted (chkVlvStatus r t))
      (fun r t x => ∃ v drv, v = t.valve (valveTarget r)
        ∧ drv = (match v.fn with
            | some f => (1, f)
            | none => if v.gde then (2, 0xFF) else if v.cfg.mode == 0 && v.mode == 0 then (0, 0xFF) else (3, v.cfg.owner))
        ∧ x = answer (le 4 v.word ++ le 2 (v.present.foldl (fun a k => a + 2 ^ k) 0) ++ le 1 drv.1 ++ le 1 drv.2
          ++ [v.mean1ms, v.position, v.dutyNow t.time, v.tm, v.rMeas, if v.bucketSeen then qf32 v.bucket else 0].flatMap (fun x => le 4 x.toNat)
          ++ le 4 v.switchOns ++ le 4 v.trips ++ le 8 t.time) t)
  ∧ Does .vlvClear .vlvClear
      (fun r t => permitted (chkVlvClear r t))
      (fun r t x => ∃ n u, n = valveTarget r ∧ u = modValve n (fun v => { (((v.setCode 8 false).setCode 9 false).setCode 10 false).setCode 12 false with st := .deEnergised, since := t.time, retries := 0 }) t ∧ x = done (vlvSync n (valveEvent 2 n u)))
  ∧ Does .vlvGroupStatus .vlvGroupStatus
      (fun r t => permitted (chkVlvGroupStatus r t))
      (fun r t x => ∃ g y, g = valveTarget r - 0x100 ∧ y = t.group g
        ∧ x = answer (le 1 y.st.code ++ le 1 (((t.vlv.ch.drop (12 * g)).take 12).filter fun v => v.st == .testing || v.st == .energised).length
          ++ zeros 2 ++ le 4 (qf32 y.volts).toNat ++ le 4 (qf32 y.amps).toNat
          ++ le 4 (qf32 ((groupCfgs g t).map fun c => if c.mode == 1 || c.mode == 2 then f32d c.iMax else if c.mode == 3 then f32d c.iHold else 0).sum).toNat
          ++ le 8 t.time) t)

/-- The FIO commands complete (R264, R272 to R279). Each under the conditions that its chapter gives, with the effect that it gives. -/
def Obligations.FioCommandsComplete : Prop :=
  Does .fioDiConfig .fioDiConfig
      (fun r t => permitted (chkFioDiConfig r t))
      (fun r t x => ∃ n c u, n = fioTarget r ∧ x = done u ∧ u = modDi n (fun d => { d with next := some (nextGrid ms t, c) }) t
        ∧ c.mode = u8 r.p.payload 0 ∧ c.itype = u8 r.p.payload 1 ∧ c.n = u16 r.p.payload 2 ∧ c.polarity = u8 r.p.payload 4
        ∧ c.gate = u16 r.p.payload 6 ∧ c.rWb = bits32 r.p.payload 8 ∧ c.zeroTime = u16 r.p.payload 12)
  ∧ Does .fioAiConfig .fioAiConfig
      (fun r t => permitted (chkFioAiConfig r t))
      (fun r t x => ∃ c, c = { mode := u8 r.p.payload 0, wb := u8 r.p.payload 1 == 1, gain := bits32 r.p.payload 4, offset := bits32 r.p.payload 8, tau := bits32 r.p.payload 12 }
        ∧ x = done (modAi (fioTarget r - 0x200) (fun a => { a with next := some (nextGrid ms t, c) }) t))
  ∧ Does .fioDoConfig .fioDoConfig
      (fun r t => permitted (chkFioDoConfig r t) && !t.id.outputsHeld && u8 r.p.payload 0 == 1 && (t.dout (fioTarget r - 0x100)).st != .unconfigured)
      (fun r t x => ∃ n, n = fioTarget r - 0x100
        ∧ x = done (withDo n (modDo n (fun d => { d with enable := true, owner := u8 r.p.payload 1, safe := u8 r.p.payload 2, test := u8 r.p.payload 3 })) t))
  ∧ Does .fioDoConfig .fioDoConfig
      (fun r t => permitted (chkFioDoConfig r t) && u8 r.p.payload 0 == 0)
      (fun r t x => ∃ n, n = fioTarget r - 0x100
        ∧ x = done (withDo n (fun s => doEnter n .unconfigured (modDo n (fun d => { d with present := [], retries := 0 }) (modDo n (fun d => { d with enable := false, owner := u8 r.p.payload 1, safe := u8 r.p.payload 2, test := u8 r.p.payload 3 }) s))) t))
  ∧ Does .fioDoConfig .fioDoConfig
      (fun r t => permitted (chkFioDoConfig r t) && !t.id.outputsHeld && u8 r.p.payload 0 == 1 && (t.dout (fioTarget r - 0x100)).st == .unconfigured)
      (fun r t x => ∃ n, n = fioTarget r - 0x100
        ∧ x = done (withDo n (fun s => modDo n (fun d => { d with demagEnd := some s.time, offClasses := [] }) (doEnter n .off (modDo n (fun d => { d with enable := true, owner := u8 r.p.payload 1, safe := u8 r.p.payload 2, test := u8 r.p.payload 3 }) s))) t))
  ∧ Does .fioDoConfig .fioDoConfig
      (fun r t => permitted (chkFioDoConfig r t) && t.id.outputsHeld && u8 r.p.payload 0 == 1)
      (fun r t x => ∃ n, n = fioTarget r - 0x100
        ∧ x = done (withDo n (fun s => safeDo n (if (t.dout n).st == .unconfigured then modDo n (fun d => { d with demagEnd := some t.time, offClasses := [] }) (doEnter n .off (modDo n (fun d => { d with enable := true, owner := u8 r.p.payload 1, safe := u8 r.p.payload 2, test := u8 r.p.payload 3 }) s)) else modDo n (fun d => { d with enable := true, owner := u8 r.p.payload 1, safe := u8 r.p.payload 2, test := u8 r.p.payload 3 }) s)) t))
  ∧ Does .fioDoClear .fioDoClear
      (fun r t => permitted (chkFioDoClear r t))
      (fun r t x => ∃ n u v, n = fioTarget r - 0x100
        ∧ u = modDo n (fun d => { ((d.setCode 5 false).setCode 6 false).setCode 7 false with st := .off, since := t.time, retries := 0 }) t
        ∧ v = fioEvent 3 (unit 0x0A (0x100 + n)) (u.dout n).st.code (u.dout n).diag (u.dout n).driverPart.toList u
        ∧ x = done (if (u.dout n).diag != (t.dout n).diag then
            fioEvent 1 (unit 0x0A (0x100 + n)) (u.dout n).st.code (u.dout n).diag (u.dout n).driverPart.toList v else v))
  ∧ Does .fioStatus .fioStatus
      (fun r t => permitted (chkFioStatus r t) && 0x200 ≤ fioTarget r)
      (fun r t x => ∃ a, a = t.ai (fioTarget r - 0x200) ∧ x = answer (le 1 a.st ++ le 1 0 ++ le 2 0 ++ le 4 a.value.toNat
          ++ le 4 (qf32 a.mean).toNat ++ le 4 0 ++ le 8 t.time) t)
  ∧ Does .fioStatus .fioStatus
      (fun r t => permitted (chkFioStatus r t) && fioTarget r < 64)
      (fun r t x => ∃ d, d = t.di (fioTarget r) ∧ x = answer (le 1 d.code ++ le 1 0 ++ le 2 0 ++ le 4 (if d.cfg.mode == 2 then qf32 d.freq else qf32 ((b2n d.value : Nat) : Rat)).toNat
          ++ le 4 (qf32 d.u).toNat ++ le 4 d.count ++ le 8 t.time) t)
  ∧ Does .fioStatus .fioStatus
      (fun r t => permitted (chkFioStatus r t) && 64 ≤ fioTarget r && fioTarget r < 0x200)
      (fun r t x => ∃ d, d = t.dout (fioTarget r - 0x100) ∧ x = answer (le 1 d.st.code ++ le 1 d.diag
          ++ le 2 (d.present.foldl (fun a k => a + 2 ^ k) 0 + 2 ^ 12 * d.retries + 2 ^ 15 * b2n d.heldOn) ++ le 4 (qf32 d.amps).toNat
          ++ le 4 (qf32 d.volts).toNat ++ le 4 d.count ++ le 8 t.time) t)

/-- The GNS and TIM commands complete (R288, R298, R303 to R305, R309 to R316). Each under the conditions that its chapter gives, with the effect that it gives. -/
def Obligations.GnsTimCommandsComplete : Prop :=
  Does .gnsConfig .gnsConfig
      (fun r t => permitted (chkGnsConfig gdeSteering r t))
      (fun r t x => ∃ u, x = done u ∧ u.gns = { t.gns with next := some (parseGnsCfg r.p.payload) } ∧ u.tim = t.tim)
  ∧ Does .gnsRtcmPut .gnsRtcmPut
      (fun r t => permitted (chkGnsRtcmPut r t))
      (fun r t x => ∃ v, v = rtcmFeed r.port r.p.payload t ∧ x = (.fin .done (le 2 v.1 ++ le 2 v.2.1), v.2.2))
  ∧ Does .gnsRawLatch .gnsRawLatch
      (fun r t => permitted (chkGnsRawLatch r t))
      (fun r t x => ∃ u, x = (.interim .queued, u) ∧ u.gns = { t.gns with requests := t.gns.requests ++ [r] })
  ∧ Does .gnsTest .gnsTest
      (fun r t => permitted (chkGnsTest r t))
      (fun r t x => ∃ u, x = done u ∧ u.gns = { t.gns with test := u8 r.p.payload 0 == 1 })
  ∧ Does .gnsRestart .gnsRestart
      (fun r t => permitted (chkGnsRestart gdeSteering r t))
      (fun r t x => ∃ u, x = done u ∧ u.gns.ch = t.gns.ch.map (fun g => if g.st == 7 then g else {}) ∧ u.gns.recovery = true
        ∧ u.gns.ephem = (if 1 ≤ u8 r.p.payload 0 then [] else t.gns.ephem) ∧ u.gns.lastPos = (if u8 r.p.payload 0 == 2 then none else t.gns.lastPos)
        ∧ u.gns.cfg = t.gns.cfg)
  ∧ Does .gnsStatus .gnsStatus
      (fun r t => permitted (chkGnsStatus r t))
      (fun r t x => ∃ track, track = (List.range 3).flatMap (fun a =>
          le 2 (((t.gns.ch.drop (128 * a)).take 128).filter fun g => g.st == 4 || g.st == 5).length)
        ∧ x = answer (le 1 t.gns.fix ++ le 1 t.gns.spoof ++ le 1 (bitsN t.gns.indicators) ++ (t.gns.ports.flatMap fun p => le 1 p.st.code)
          ++ le 2 (gnsFlags t) ++ track ++ le 2 t.gns.used ++ le 4 t.gns.framesOk ++ le 4 t.gns.framesBad ++ le 4 (t.gns.nextLatch - 1)
          ++ le 4 t.gns.age.toNat ++ le 8 t.time) t)
  ∧ Does .gnsChannelRead .gnsChannelRead
      (fun r t => permitted (chkGnsChannelRead r t) && u8 r.p.payload 3 == 0)
      (fun r t x => ∃ got, got = (t.gns.ch.zipIdx.drop (u16 r.p.payload 0)).take (u8 r.p.payload 2)
        ∧ x = answer (le 2 got.length ++ zeros 6 ++ got.flatMap fun e => chRecord e.2 e.1) t)
  ∧ Does .gnsChannelRead .gnsChannelRead
      (fun r t => permitted (chkGnsChannelRead r t) && u8 r.p.payload 3 == 1)
      (fun r t x => ∃ l got, (t.gns.ring.find? fun l => l.no == u32 r.p.payload 4) = some l ∧ got = (l.channels.zipIdx.drop (u16 r.p.payload 0)).take (u8 r.p.payload 2)
        ∧ x = answer (le 2 got.length ++ zeros 6 ++ got.flatMap fun e => chRecord e.2 e.1) t)
  ∧ Does .timConfig .timConfig
      (fun r t => permitted (chkTimConfig r t))
      (fun r t x => ∃ u c, x = done u ∧ u.tim = { t.tim with next := some (t.time + (sec - t.time % sec), c) } ∧ c.ref = u8 r.p.payload 0 ∧ c.ppsWidth = u8 r.p.payload 1
        ∧ c.ppsPol = u8 r.p.payload 2 ∧ c.delay0 = i32 r.p.payload 4 ∧ c.delay1 = i32 r.p.payload 8 ∧ c.inDelay = i32 r.p.payload 12
        ∧ c.slewMax = bits32 r.p.payload 16 ∧ c.slewTau = bits32 r.p.payload 20)
  ∧ Does .timStatus .timStatus
      (fun r t => permitted (chkTimStatus r t) && t.tim.holdSince.isNone)
      (fun r t x => x = answer (le 1 t.tim.st.code ++ le 1 (timFlags t) ++ leInt 2 t.tim.leap ++ le 4 t.tim.steps ++ leInt 8 t.tim.o ++ le 4 (qf32 t.tim.u).toNat
        ++ le 4 (qf32 t.tim.eps).toNat ++ le 4 (qf32 (t.tim.corr + t.tim.slew * 1000)).toNat ++ le 4 (qf32 0).toNat ++ le 8 t.time) t)
  ∧ Does .timStatus .timStatus
      (fun r t => permitted (chkTimStatus r t) && t.tim.holdSince.isSome)
      (fun r t x => ∃ h, t.tim.holdSince = some h ∧ x = answer (le 1 t.tim.st.code ++ le 1 (timFlags t) ++ leInt 2 t.tim.leap ++ le 4 t.tim.steps ++ leInt 8 t.tim.o ++ le 4 (qf32 t.tim.u).toNat
        ++ le 4 (qf32 t.tim.eps).toNat ++ le 4 (qf32 (t.tim.corr + t.tim.slew * 1000)).toNat ++ le 4 (qf32 (((t.time - h : Nat) : Rat) / 1000000000)).toNat ++ le 8 t.time) t)
  ∧ Does .timConvert .timConvert
      (fun r t => permitted (chkTimConvert r t) && u8 r.p.payload 0 == 0)
      (fun r t x => ∃ m o old b, m = (u64 r.p.payload 8 : Int) ∧ (o, old) = mappingAt m t ∧ x = (.fin (if old then .degraded else .done) b, t)
        ∧ b.take 16 = leInt 8 m ++ leInt 8 (m + o))
  ∧ Does .timConvert .timConvert
      (fun r t => permitted (chkTimConvert r t) && u8 r.p.payload 0 == 1 && (t.tim.maps.any fun y => decide ((y.1 : Int) ≤ i64 r.p.payload 8 - y.2)))
      (fun r t x => ∃ y bs, (t.tim.maps.find? fun y => decide ((y.1 : Int) ≤ i64 r.p.payload 8 - y.2)) = some y
        ∧ x = (.fin .done bs, t) ∧ bs.take 16 = leInt 8 (i64 r.p.payload 8 - y.2) ++ leInt 8 (i64 r.p.payload 8))
  ∧ Does .timConvert .timConvert
      (fun r t => permitted (chkTimConvert r t) && u8 r.p.payload 0 == 1 && !(t.tim.maps.any fun y => decide ((y.1 : Int) ≤ i64 r.p.payload 8 - y.2)))
      (fun r t x => ∃ bs, x = (.fin .degraded bs, t) ∧ bs.take 16 = leInt 8 (i64 r.p.payload 8 - (t.tim.maps.getLast?.map (·.2)).getD t.tim.o) ++ leInt 8 (i64 r.p.payload 8))
  ∧ Does .timEpochSet .timEpochSet
      (fun r t => permitted (chkTimEpochSet r t))
      (fun r t x => ∃ u, x = (.interim .queued, u) ∧ u.tim = { t.tim with epochReqs := t.tim.epochReqs ++ [r] })

/-- The FUS and CAM commands complete (R320, R325, R331, R334, R337, R342, R343, R353, R355, R356). Each under the conditions that its chapter gives, with the effect that it gives. -/
def Obligations.FusCamCommandsComplete : Prop :=
  Does .fusConfig .fusConfig
      (fun r t => permitted (chkFusConfig fusBusy r t))
      (fun r t x => ∃ u, x = done u ∧ u.fus = { t.fus with next := some (nextGrid ms t, fusCfgOf r.p.payload) })
  ∧ Does .fusFrameSet .fusFrameSet
      (fun r t => permitted (chkFusFrameSet fusBusy r t))
      (fun r t x => ∃ u, x = done u ∧ u.fus = { t.fus with frameWrites := t.fus.frameWrites ++ [(nextGrid ms t, frameTarget r, r.p.payload)] })
  ∧ Does .fusFrameRead .fusFrameRead
      (fun r t => permitted (chkFusFrameRead r t) && u8 r.p.payload 0 == 0)
      (fun r t x => ∃ f y, f = frameTarget r ∧ y = compose f t
        ∧ x = answer (t.frame f ++ quatBytes y.rot ++ [y.tr.1, y.tr.2.1, y.tr.2.2].flatMap (fun v => le 8 (qf64 v).toNat)
          ++ le 4 (qf32 (f64d (sqrt64 y.sr2))).toNat ++ le 4 (qf32 (f64d (sqrt64 y.st2))).toNat ++ le 8 0) t)
  ∧ Does .fusFrameRead .fusFrameRead
      (fun r t => permitted (chkFusFrameRead r t) && u8 r.p.payload 0 == 1 && t.fus.pose.isSome)
      (fun r t x => ∃ p y, t.fus.pose = some p ∧ y = (placeInMap (frameTarget r) p.2.1 p.2.2 t)
        ∧ x = answer (t.frame (frameTarget r) ++ quatBytes y.rot ++ [y.tr.1, y.tr.2.1, y.tr.2.2].flatMap (fun v => le 8 (qf64 v).toNat)
          ++ le 4 (qf32 (f64d (sqrt64 y.sr2))).toNat ++ le 4 (qf32 (f64d (sqrt64 y.st2))).toNat ++ le 8 p.1) t)
  ∧ Does .fusGroupSet .fusGroupSet
      (fun r t => permitted (chkFusGroupSet gdeSteering r t))
      (fun r t x => ∃ g u, unitIndex r.p.target 0x0D = some (0x200 + g) ∧ x = done u
        ∧ u.fus = { t.fus with groups := updAt t.fus.groups g fun y => { y with next := some (nextGrid ms t, groupCfgOf r.p.payload) } })
  ∧ Does .fusSourceSet .fusSourceSet
      (fun r t => permitted (chkFusSourceSet r t))
      (fun r t x => ∃ k u, unitIndex r.p.target 0x0D = some (0x300 + k) ∧ x = done u
        ∧ u.fus = { t.fus with sources := t.fus.sources.set k { handle := u32 r.p.payload 0, kind := u8 r.p.payload 4, frame := u8 r.p.payload 5 } })
  ∧ Does .fusStatus .fusStatus
      (fun r t => permitted (chkFusStatus r t))
      (fun r t x => ∃ imu groups, imu = (t.fus.imu.getD 0 {}).st + 4 * (t.fus.imu.getD 1 {}).st + 16 * (t.fus.imu.getD 2 {}).st
        ∧ groups = bitsN (t.fus.groups.map fun g => (g.ms.take g.cfg.count).any fun m => m.st != 0)
        ∧ x = answer (le 1 t.fus.mode.code ++ le 1 imu ++ le 2 groups ++ le 2 (fusFlags t) ++ le 2 (trackCount t) ++ le 4 t.fus.late
          ++ le 4 t.fus.dropped ++ le 4 (qf32 ((t.fus.pose.map fun p => p.2.1.hacc).getD 0)).toNat ++ le 4 (qf32 ((poseQC t).2 : Rat)).toNat
          ++ le 8 t.time) t)
  ∧ Does .fusTrackRead .fusTrackRead
      (fun r t => permitted (chkFusTrackRead r t) && !t.fus.table.isEmpty)
      (fun r t x => ∃ n, n = min (u8 r.p.payload 1) (128 - u8 r.p.payload 0)
        ∧ x = answer (le 1 n ++ zeros 7 ++ (t.fus.table.drop (64 * u8 r.p.payload 0)).take (64 * n)) t)
  ∧ Does .fusTrackRead .fusTrackRead
      (fun r t => permitted (chkFusTrackRead r t) && t.fus.table.isEmpty)
      (fun r t x => ∃ n, n = min (u8 r.p.payload 1) (128 - u8 r.p.payload 0)
        ∧ x = answer (le 1 n ++ zeros 7 ++ (((List.range 128).flatMap fun i => trackBytes i {} none t.time).drop (64 * u8 r.p.payload 0)).take (64 * n)) t)
  ∧ Does .camLinkSet .camLinkSet
      (fun r t => permitted (chkCamLinkSet r t) && (!(u8 r.p.payload 0 != 0 && u8 r.p.payload 0 != (t.link ((camUnit r 0 4).getD 4)).gear && ((t.link ((camUnit r 0 4).getD 4)).st == .up || (t.link ((camUnit r 0 4).getD 4)).st == .down))))
      (fun r t x => ∃ routes, routes = (List.range 2).map (fun i =>
          ({ vc := u8 r.p.payload (4 + 8 * i), pipe := u8 r.p.payload (4 + 8 * i + 1), dt := u8 r.p.payload (4 + 8 * i + 2), dtShort := u8 r.p.payload (4 + 8 * i + 3), emb := u8 r.p.payload (4 + 8 * i + 4) } : CamRoute))
        ∧ x = camApply { t.cam with links := updAt t.cam.links ((camUnit r 0 4).getD 4) fun y => { y with gear := u8 r.p.payload 0, poc := u8 r.p.payload 1 == 1, routes := routes, pocTrip := if u8 r.p.payload 1 == 1 then y.pocTrip else none } } t)
  ∧ Does .camLinkSet .camLinkSet
      (fun r t => permitted (chkCamLinkSet r t) && (u8 r.p.payload 0 != 0 && u8 r.p.payload 0 != (t.link ((camUnit r 0 4).getD 4)).gear && ((t.link ((camUnit r 0 4).getD 4)).st == .up || (t.link ((camUnit r 0 4).getD 4)).st == .down)))
      (fun r t x => ∃ l routes u, l = (camUnit r 0 4).getD 4 ∧ routes = (List.range 2).map (fun i =>
          ({ vc := u8 r.p.payload (4 + 8 * i), pipe := u8 r.p.payload (4 + 8 * i + 1), dt := u8 r.p.payload (4 + 8 * i + 2), dtShort := u8 r.p.payload (4 + 8 * i + 3), emb := u8 r.p.payload (4 + 8 * i + 4) } : CamRoute))
        ∧ u = (camApply { t.cam with links := updAt t.cam.links l fun y => { y with gear := u8 r.p.payload 0, poc := u8 r.p.payload 1 == 1, routes := routes, pocTrip := if u8 r.p.payload 1 == 1 then y.pocTrip else none } } t).2
        ∧ x = done (linkEnter l .training u))
  ∧ Does .camPipeSet .camPipeSet
      (fun r t => permitted (chkCamPipeSet r t))
      (fun r t x => ∃ c, c = camCfgOf r.p.payload
        ∧ x = camApply { t.cam with pipes := updAt t.cam.pipes ((camUnit r 0x10 8).getD 8) fun y => { y with cfg := c, params := c.params, cur := none } } t)
  ∧ Does .camPairSet .camPairSet
      (fun r t => permitted (chkCamPairSet r t) && u8 r.p.payload 0 != 0xFF && u8 r.p.payload 1 != 0xFF)
      (fun r t x => x = camApply { t.cam with pairs := t.cam.pairs.set ((camUnit r 0x20 4).getD 4) { a := u8 r.p.payload 0, b := u8 r.p.payload 1, tol := u16 r.p.payload 2, handle := u32 r.p.payload 4, st := 3 } } t)
  ∧ Does .camPairSet .camPairSet
      (fun r t => permitted (chkCamPairSet r t) && (u8 r.p.payload 0 == 0xFF || u8 r.p.payload 1 == 0xFF))
      (fun r t x => x = camApply { t.cam with pairs := t.cam.pairs.set ((camUnit r 0x20 4).getD 4) {} } t)
  ∧ Does .camFsyncSet .camFsyncSet
      (fun r t => permitted (chkCamFsyncSet r t) && u32 r.p.payload 0 != 0)
      (fun r t x => ∃ at_, at_ = nextGrid (u32 r.p.payload 0 * us) t
        ∧ x = camApply { t.cam with fsync := updAt t.cam.fsync ((camUnit r 0x30 8).getD 8) fun y => { y with next := some (at_, u32 r.p.payload 0, u16 r.p.payload 4, u8 r.p.payload 6) } } t)
  ∧ Does .camFsyncSet .camFsyncSet
      (fun r t => permitted (chkCamFsyncSet r t) && u32 r.p.payload 0 == 0)
      (fun r t x => x = camApply { t.cam with fsync := updAt t.cam.fsync ((camUnit r 0x30 8).getD 8) fun y => { y with next := some (t.time, 0, u16 r.p.payload 4, u8 r.p.payload 6) } } t)
  ∧ Does .camSensorWrite .camSensorWrite
      (fun r t => permitted (chkCamSensorWrite r t))
      (fun r t x => ∃ p w, p = (camUnit r 0x10 8).getD 8 ∧ w = camWriteOf r (((t.routeOfPipe p).map (·.1)).getD 0) (t.pipe p).params
        ∧ x = (.interim .queued, modCam (fun c => { c with writes := c.writes ++ [w] }) t))
  ∧ Does .camVaSet .camVaSet
      (fun r t => permitted (chkCamVaSet r t))
      (fun r t x => x = camApply { t.cam with jobs := updAt t.cam.jobs ((camUnit r 0x100 24).getD 24) fun _ => { enable := u8 r.p.payload 0 == 1, prio := u8 r.p.payload 1, decim := u8 r.p.payload 2, minConf := u8 r.p.payload 3, handle := u32 r.p.payload 4, edge := (List.range 8).map fun i => bits32 r.p.payload (8 + 4 * i) } } t)
  ∧ Does .camStatus .camStatus
      (fun r t => (camUnit r 0 4).isSome)
      (fun r t x => ∃ y, y = t.link ((camUnit r 0 4).getD 0)
        ∧ x = answer (le 1 y.st.code ++ zeros 3 ++ le 4 (qf32 (linkLoad t.cam y)).toNat ++ zeros 4 ++ le 4 y.discarded ++ zeros 8 ++ le 8 t.time) t)
  ∧ Does .camStatus .camStatus
      (fun r t => (camUnit r 0 4).isNone && (camUnit r 0x10 8).isSome)
      (fun r t x => ∃ p y, camUnit r 0x10 8 = some p ∧ y = t.pipe p
        ∧ x = answer (le 1 y.st.code ++ le 1 (((t.pairOf p).map fun k => (t.pair k).st).getD 0) ++ zeros 2 ++ le 4 (qf32 (((List.range 3).map fun f => jobLoad t.cam (8 * f + p)).foldl (· + ·) 0)).toNat
          ++ le 4 y.nextNo ++ le 4 y.errors ++ le 4 y.skipped ++ zeros 4 ++ le 8 t.time) t)

/-- The CAN commands complete (R363, R366, R376, R382, R383, R385, R388). Each under the conditions that its chapter gives, with the effect that it gives. -/
def Obligations.CanCommandsComplete : Prop :=
  Does .canConfig .canConfig
      (fun r t => permitted (chkCanConfig r t))
      (fun r t x => ∃ c g u, c = (canTarget r).getD 12 ∧ g = canCfgOf r.p.payload
        ∧ u = reserveBufs (modCan c (fun y => { y with cfg := g, joining := g.enable }) t)
        ∧ x = done (if !g.enable && (u.canCh c).st != .excluded then canEnter c .off u else u))
  ∧ Does .canBufferSet .canBufferSet
      (fun r t => permitted (chkCanBufferSet r t))
      (fun r t x => x = done (modBuf ((canTarget r).getD 12) (u8 r.p.payload 0) (fun y => { y with dir := u8 r.p.payload 1, owner := u8 r.p.payload 2, xlBase := u64 r.p.payload 4 }) t))
  ∧ Does .canFilterSet .canFilterSet
      (fun r t => permitted (chkCanFilterSet r t))
      (fun r t x => x = done (modCan (filterTarget r / 64) (fun y => { y with filters := y.filters.set (filterTarget r % 64) (filterOf r.p.payload) }) t))
  ∧ Does .canPower .canPower
      (fun r t => permitted (chkCanPower r t) && u8 r.p.payload 0 == 1)
      (fun r t x => ∃ c, c = (canTarget r).getD 12
        ∧ x = done (modCan c (fun y => { y with wake := u8 r.p.payload 1, wuf := (u8 r.p.payload 2, u8 r.p.payload 3, u32 r.p.payload 4, u32 r.p.payload 8, u64 r.p.payload 12) }) (canEnter c .sleep t)))
  ∧ Does .canPower .canPower
      (fun r t => permitted (chkCanPower r t) && u8 r.p.payload 0 == 0)
      (fun r t x => x = done (if (t.canCh ((canTarget r).getD 12)).st == .sleep then modCan ((canTarget r).getD 12) (fun y => { y with joining := true }) t else t))
  ∧ Does .canRecover .canRecover
      (fun r t => permitted (chkCanRecover r t))
      (fun r t x => ∃ c, c = (canTarget r).getD 12 ∧ x = (.interim .queued, canEnter c .recovering (modCan c (fun y => { y with recover := some r }) t)))
  ∧ Does .canTtSet .canTtSet
      (fun r t => permitted (chkCanTtSet r t))
      (fun r t x => x = done (modCan ((canTarget r).getD 12) (fun y => { y with tt := some (ttOf r.p.payload), ttRun := false, cycleCount := 0, otherMaster := false }) t))
  ∧ Does .canClaim .canClaim
      (fun r t => permitted (chkCanClaim r t) && u64 r.p.payload 0 != 0)
      (fun r t x => ∃ c, c = (canTarget r).getD 12
        ∧ x = done (sendClaim c (setAddress c (u8 r.p.payload 8) (modCan c (fun y => { y with claim := some (u64 r.p.payload 0, u8 r.p.payload 8, u8 r.p.payload 9, u8 r.p.payload 10) }) t))))
  ∧ Does .canClaim .canClaim
      (fun r t => permitted (chkCanClaim r t) && u64 r.p.payload 0 == 0)
      (fun r t x => x = done (setAddress ((canTarget r).getD 12) 0xFF (modCan ((canTarget r).getD 12) (fun y => { y with claim := none }) t)))
  ∧ Does .canStatus .canStatus
      (fun r t => permitted (chkCanStatus r t))
      (fun r t x => ∃ c y, c = (canTarget r).getD 12 ∧ y = t.canCh c
        ∧ x = answer (le 4 (canStatusWord c t) ++ le 1 y.address ++ zeros 3 ++ le 4 y.unmatched ++ le 4 y.unmirrored ++ le 4 y.ttMissed
          ++ le 4 y.busOffs ++ le 8 t.time) t)

/-- The FLT commands complete (R392, R393, R399, R400, R402, R403). Each under the conditions that its chapter gives, with the effect that it gives. A command that no exchange instant is at waits for it (R396). -/
def Obligations.FltCommandsComplete : Prop :=
  Does .fltConfig .fltConfig
      (fun r t => permitted (chkFltConfig r t))
      (fun r t x => ∃ c, c.enable = (u8 r.p.payload 0 == 1)
        ∧ c.gwPort = u8 r.p.payload 1 ∧ c.owner = u8 r.p.payload 2 ∧ c.massif = u32 r.p.payload 4 ∧ c.udpPort = u16 r.p.payload 8 ∧ c.bw = u16 r.p.payload 10
        ∧ c.linkTimeout = u16 r.p.payload 12 ∧ c.lostTime = u16 r.p.payload 14 ∧ c.lostHold = u16 r.p.payload 16 ∧ c.grantTimeout = u16 r.p.payload 18
        ∧ x = done (modFlt (fun f => { f with cfg := c })
            (if c.enable && !(fltBefore t).flt.cfg.enable then fltBegin (fltBefore t) else fltBefore t)))
  ∧ Does .fltKeySet .fltKeySet
      (fun r t => permitted (chkFltKeySet r t))
      (fun r t x => x = done (closeDtls (modFlt (fun f => { f with key := some (r.p.payload.take 32) }) (fltBefore t))))
  ∧ Does .fltMemberSet .fltMemberSet
      (fun r t => permitted (chkFltMemberSet r t))
      (fun r t x => x = done (modMember (fltTarget r - 0x10) (fun _ => { kind := u8 r.p.payload 0, ip := u8 r.p.payload 1, port := u16 r.p.payload 2, addr := (r.p.payload.drop 4).take 16, heard := t.time, st := if u8 r.p.payload 0 == 0 then 0 else 2 }) (fltBefore t)))
  ∧ Does .fltHazardSet .fltHazardSet
      (fun r t => permitted (chkFltHazardSet r t) && u8 r.p.payload 2 != 0 && decide ((fltBefore t).flt.hazards.length < 64))
      (fun r t x => ∃ u v h, v = ((fltBefore t).flt.version + 1) % 65536
        ∧ h = { issuer := ownMember (fltBefore t), number := u16 r.p.payload 32, version := v, params := le 2 v ++ (r.p.payload.drop 2).take 34, expiry := i64 r.p.payload 24 }
        ∧ x = done u ∧ u.flt.version = v
        ∧ u.flt.hazards = ((fltBefore t).flt.hazards.filter fun y => !(y.issuer == ownMember (fltBefore t) && y.number == u16 r.p.payload 32)) ++ [h])
  ∧ Does .fltHazardSet .fltHazardSet
      (fun r t => permitted (chkFltHazardSet r t) && u8 r.p.payload 2 == 0)
      (fun r t x => ∃ u v w, u = fltBefore t ∧ v = (u.flt.version + 1) % 65536
        ∧ w = modFlt (fun f => { f with hazards := f.hazards.filter fun y => !(y.issuer == ownMember u && y.number == u16 r.p.payload 32) }) (modFlt (fun f => { f with version := v }) u)
        ∧ x = done (if fltOn w then enqueue (peersOf w fun _ => true) 3 (le 1 (ownMember w) ++ zeros 1 ++ le 2 (u16 r.p.payload 32) ++ (le 2 v ++ (r.p.payload.drop 2).take 34)) none w else w))
  ∧ Does .fltHazardSet .fltHazardSet
      (fun r t => permitted (chkFltHazardSet r t) && u8 r.p.payload 2 != 0)
      (fun r t x => ∃ u, u = putHazard { issuer := ownMember (fltBefore t), number := u16 r.p.payload 32, version := ((fltBefore t).flt.version + 1) % 65536, params := le 2 (((fltBefore t).flt.version + 1) % 65536) ++ (r.p.payload.drop 2).take 34, expiry := i64 r.p.payload 24 } (modFlt (fun f => { f with version := ((fltBefore t).flt.version + 1) % 65536 }) (fltBefore t))
        ∧ x = (match u with | some y => done y | none => (.fin .noResource [], fltBefore t)))
  ∧ Does .fltLine .fltLine
      (fun r t => permitted (chkFltLine r t) && u8 r.p.payload 0 == 0
          && fltOn (lineChunks 512 (((gdeLine (u8 r.p.payload 1) (fltBefore t)).map (·.verts)).getD []) (fltBefore t)).2
          && !(fieldPeers (lineChunks 512 (((gdeLine (u8 r.p.payload 1) (fltBefore t)).map (·.verts)).getD []) (fltBefore t)).2).isEmpty)
      (fun r t x => ∃ v, v = lineChunks 512 (((gdeLine (u8 r.p.payload 1) (fltBefore t)).map (·.verts)).getD []) (fltBefore t)
        ∧ x = (.interim .queued, v.1.foldl (fun s c => enqueue (fieldPeers v.2) 6 c (some r) s) v.2))
  ∧ Does .fltLine .fltLine
      (fun r t => permitted (chkFltLine r t) && (u8 r.p.payload 0 == 0 && (!fltOn (lineChunks 512 (((gdeLine (u8 r.p.payload 1) (fltBefore t)).map (·.verts)).getD []) (fltBefore t)).2 || (fieldPeers (lineChunks 512 (((gdeLine (u8 r.p.payload 1) (fltBefore t)).map (·.verts)).getD []) (fltBefore t)).2).isEmpty)))
      (fun r t x => x = done (lineChunks 512 (((gdeLine (u8 r.p.payload 1) (fltBefore t)).map (·.verts)).getD []) (fltBefore t)).2)
  ∧ Does .fltLine .fltLine
      (fun r t => permitted (chkFltLine r t) && u8 r.p.payload 0 == 1 && ((fltBefore t).flt.inbox[u8 r.p.payload 1]?).isSome && (fltBefore t).openField.isSome)
      (fun r t x => ∃ u y f, u = fltBefore t ∧ u.flt.inbox[u8 r.p.payload 1]? = some y ∧ u.openField = some f
        ∧ x = answer (le 1 0 ++ le 1 y.chunk.type ++ le 2 (((y.verts.drop (u32 r.p.payload 2)).take 500).map (convertVertex y.chunk.origin f.origin)).length
          ++ le 4 y.chunk.total ++ le 4 y.chunk.spacing.toNat ++ le 4 y.chunk.radius.toNat ++ (y.chunk.name ++ zeros 16).take 16
          ++ (((y.verts.drop (u32 r.p.payload 2)).take 500).map (convertVertex y.chunk.origin f.origin)).flatMap fun v => leInt 4 v.1 ++ leInt 4 v.2) u)
  ∧ Does .fltUnload .fltUnload
      (fun r t => permitted (chkFltUnload r t) && u8 r.p.payload 0 == 0 && (fltBefore t).flt.unl == .idle)
      (fun r t x => x = done (unlEnter .requested (modFlt (fun f => { f with cart := u8 r.p.payload 1, cartCode := none, fresh := [], endTo := f.endTo.filter (· != u8 r.p.payload 1) }) (fltBefore t))))
  ∧ Does .fltUnload .fltUnload
      (fun r t => permitted (chkFltUnload r t) && u8 r.p.payload 0 == 0 && (fltBefore t).flt.unl != .idle)
      (fun r t x => x = (.fin .wrongState [], fltBefore t))
  ∧ Does .fltUnload .fltUnload
      (fun r t => permitted (chkFltUnload r t) && u8 r.p.payload 0 == 1)
      (fun r t x => x = done (if (fltBefore t).flt.unl == .idle then fltBefore t else unlEnter .ending (fltBefore t)))
  ∧ Does .fltStatus .fltStatus
      (fun r t => permitted (chkFltStatus r t) && fltTarget r == 0)
      (fun r t x => x = answer (le 4 ((t.flt.members.zipIdx).map fun y => y.1.st * 4 ^ y.2).sum ++ le 1 t.flt.unl.code ++ zeros 3 ++ le 4 t.flt.discarded
        ++ le 4 t.flt.chunks ++ le 4 t.flt.drops ++ le 8 t.time) t)
  ∧ Does .fltStatus .fltStatus
      (fun r t => permitted (chkFltStatus r t) && fltTarget r != 0)
      (fun r t x => x = answer (((t.member (fltTarget r - 0x10)).status ++ zeros 64).take 64) t)
  ∧ Waits .fltConfig .fltConfig
  ∧ Waits .fltKeySet .fltKeySet
  ∧ Waits .fltMemberSet .fltMemberSet
  ∧ Waits .fltHazardSet .fltHazardSet
  ∧ Waits .fltLine .fltLine
  ∧ Waits .fltUnload .fltUnload

/-- The COL commands complete (R405, R407, R411, R412, R419, R429, R434). Each under the conditions that its chapter gives, with the effect that it gives. -/
def Obligations.ColCommandsComplete : Prop :=
  Does .colPartitionConfig .colPartitionConfig
      (fun r t => permitted (chkColPartitionConfig r t))
      (fun r t x => ∃ n c u, n = (unitIndex r.p.target 0x11).getD 0xFFFF ∧ c.period = u8 r.p.payload 0 ∧ c.pair = u8 r.p.payload 1
        ∧ c.critical = bitOf (u8 r.p.payload 2) 0 ∧ c.supervisory = bitOf (u8 r.p.payload 2) 1 ∧ c.shedRank = u8 r.p.payload 3
        ∧ c.wcet = u32 r.p.payload 4 ∧ c.dirtyMax = u32 r.p.payload 8 ∧ c.stateSize = u32 r.p.payload 12 ∧ c.journal = u32 r.p.payload 16
        ∧ c.checkpoint = u32 r.p.payload 20 ∧ c.image = u32 r.p.payload 24
        ∧ u = (endRun n t).setPart n { t.part n with cfg := some c, st := .stopped, admitted := false, pair := none, reason := 0, resp := 0, run := none }
        ∧ x = done (match (t.part n).pair with | some q => refreshResp q u | none => u))
  ∧ Does .colInputSet .colInputSet
      (fun r t => permitted (chkColInputSet r t) && u16 r.p.payload 0 == 0 && u16 r.p.payload 2 == u16 r.p.payload 4)
      (fun r t x => ∃ n, n = (unitIndex r.p.target 0x11).getD 0xFFFF
        ∧ x = done (t.setPart n { t.part n with inputs := (List.range (u16 r.p.payload 2)).map fun i => u32 r.p.payload (8 + 4 * i) }))
  ∧ Does .colInputSet .colInputSet
      (fun r t => permitted (chkColInputSet r t) && u16 r.p.payload 2 + u16 r.p.payload 0 ≤ (t.part ((unitIndex r.p.target 0x11).getD 0xFFFF)).inputs.length && u16 r.p.payload 4 == (t.part ((unitIndex r.p.target 0x11).getD 0xFFFF)).inputs.length)
      (fun r t x => x = done (t.setPart ((unitIndex r.p.target 0x11).getD 0xFFFF) { t.part ((unitIndex r.p.target 0x11).getD 0xFFFF) with inputs := (t.part ((unitIndex r.p.target 0x11).getD 0xFFFF)).inputs.take (u16 r.p.payload 0) ++ ((List.range (u16 r.p.payload 2)).map fun i => u32 r.p.payload (8 + 4 * i)) ++ (t.part ((unitIndex r.p.target 0x11).getD 0xFFFF)).inputs.drop (u16 r.p.payload 0 + u16 r.p.payload 2) }))
  ∧ Does .colAdmit .colAdmit
      (fun r t => permitted (chkColAdmit r t) && (placeAll t (offerOrder t) [] []).2.isEmpty && areaFits t (offered t) && mirrorFits t (offered t))
      (fun r t x => ∃ pl, pl = (placeAll t (offerOrder t) [] []).1
        ∧ x = (.fin .done (le 2 pl.length ++ zeros 2), pl.foldl (fun s y => admitPart y.1 y.2.1 s) t))
  ∧ Does .colAdmit .colAdmit
      (fun r t => permitted (chkColAdmit r t) && (!(placeAll t (offerOrder t) [] []).2.isEmpty || (!areaFits t (offered t) && !(offered t).isEmpty)))
      (fun r t x => ∃ a m, a = (placeAll t (offerOrder t) [] []).2 ++ (if areaFits t (offered t) then [] else ((offered t).filter fun y => !(placeAll t (offerOrder t) [] []).2.any (·.1 == y.1)).map fun y => (y.1, 7))
        ∧ m = a ++ (if mirrorFits t (offered t) then [] else ((offered t).filter fun y => y.2.critical && !a.any (·.1 == y.1)).map fun y => (y.1, 6))
        ∧ x = (.fin .configRejected [], m.foldl (fun s y => s.modPart y.1 fun p => { p with reason := y.2 }) t))
  ∧ Does .colPartitionRun .colPartitionRun
      (fun r t => permitted (chkColPartitionRun r t) && u8 r.p.payload 0 == 1 && (t.part ((unitIndex r.p.target 0x11).getD 0xFFFF)).st == .stopped
          && (t.part ((unitIndex r.p.target 0x11).getD 0xFFFF)).admitted && t.mayRun && t.pwr.selftest / 32 % 2 == 0)
      (fun r t x => ∃ n, n = (unitIndex r.p.target 0x11).getD 0xFFFF
        ∧ x = (.interim .queued, (endRun n t).modPart n fun p => { p with run := some { start := true, req := some r } }))
  ∧ Does .colPartitionRun .colPartitionRun
      (fun r t => permitted (chkColPartitionRun r t) && (u8 r.p.payload 0 == 1 && ((t.part ((unitIndex r.p.target 0x11).getD 0xFFFF)).st == .running || (t.part ((unitIndex r.p.target 0x11).getD 0xFFFF)).st == .restoring)))
      (fun r t x => x = done (endRun ((unitIndex r.p.target 0x11).getD 0xFFFF) t))
  ∧ Does .colPartitionRun .colPartitionRun
      (fun r t => permitted (chkColPartitionRun r t) && u8 r.p.payload 0 == 1 && (t.part ((unitIndex r.p.target 0x11).getD 0xFFFF)).st == .stopped && !((t.part ((unitIndex r.p.target 0x11).getD 0xFFFF)).admitted && t.mayRun && t.pwr.selftest / 32 % 2 == 0))
      (fun r t x => x = (.fin .wrongState [], t))
  ∧ Does .colPartitionRun .colPartitionRun
      (fun r t => permitted (chkColPartitionRun r t) && (u8 r.p.payload 0 == 0 && ((t.part ((unitIndex r.p.target 0x11).getD 0xFFFF)).st == .running || (t.part ((unitIndex r.p.target 0x11).getD 0xFFFF)).st == .restoring)))
      (fun r t x => x = (.interim .queued, (endRun ((unitIndex r.p.target 0x11).getD 0xFFFF) t).modPart ((unitIndex r.p.target 0x11).getD 0xFFFF) fun p => { p with run := some { start := false, req := some r } }))
  ∧ Does .colPartitionRun .colPartitionRun
      (fun r t => permitted (chkColPartitionRun r t) && (u8 r.p.payload 0 == 0 && ((t.part ((unitIndex r.p.target 0x11).getD 0xFFFF)).st == .shed || (t.part ((unitIndex r.p.target 0x11).getD 0xFFFF)).st == .faulted)))
      (fun r t x => x = done ((endRun ((unitIndex r.p.target 0x11).getD 0xFFFF) t).modPart ((unitIndex r.p.target 0x11).getD 0xFFFF) fun p => { p with st := .stopped, fOverrun := false, fUncovered := false, fDiverged := false, fResumed := false, fJournalFull := false, fReplaced := false, fShed := false, consecutive := 0, run := none }))
  ∧ Does .colPartitionRun .colPartitionRun
      (fun r t => permitted (chkColPartitionRun r t) && u8 r.p.payload 0 == 0 && (t.part ((unitIndex r.p.target 0x11).getD 0xFFFF)).st == .stopped)
      (fun r t x => x = done (endRun ((unitIndex r.p.target 0x11).getD 0xFFFF) t))
  ∧ Does .colStatus .colStatus
      (fun r t => permitted (chkColStatus r t))
      (fun r t x => ∃ flags, flags = bitsN [t.col.singleMirror, t.col.noSpare, t.col.windowUntil.any (fun w => decide (t.time < w)), deputyReady t,
          t.col.managerLost, t.col.uncovered]
        ∧ x = answer (le 4 (pairBits t .active) ++ le 4 (pairBits t .spare) ++ le 4 (pairBits t .excluded)
          ++ le 1 (orFF t.id.cfg.deputy) ++ zeros 1 ++ le 2 flags ++ le 4 t.col.recoveries ++ le 4 t.col.reexecuted ++ le 8 t.time) t)
  ∧ Does .colPartitionStatus .colPartitionStatus
      (fun r t => permitted (chkColPartitionStatus r t))
      (fun r t x => ∃ p flags, p = t.part ((unitIndex r.p.target 0x11).getD 0xFFFF)
        ∧ flags = bitsN [p.fOverrun, p.fUncovered, p.fDiverged, p.fResumed, p.fJournalFull, p.fReplaced, p.fShed]
        ∧ x = answer (le 1 p.st.code ++ le 1 (orFF p.pair) ++ le 1 p.reason ++ zeros 1 ++ le 2 flags ++ zeros 2
          ++ leInt 4 (ceilRat p.resp) ++ le 4 p.maxExec ++ le 8 p.periodNo ++ le 4 p.overruns ++ le 4 p.reexecuted ++ le 8 t.time) t)
  ∧ Does .colRoleReturn .colRoleReturn
      (fun r t => permitted (chkColRoleReturn r t))
      (fun r t x => ∃ u, x = (.interim .queued, u) ∧ u.col = { t.col with roleReturn := some r })
  ∧ Does .colInject .colInject
      (fun r t => permitted (chkColInject r t))
      (fun r t x => x = done (pairFault ((unitIndex r.p.target 0x11).getD 0xFFFF - 0x200) t))

/-- The MEM, DMA and CRN commands complete (R438 to R440, R446 to R448, R461, R464, R472, R475, R479 to R481). Each under the conditions that its chapter gives, with the effect that it gives. -/
def Obligations.MemDmaCrnCommandsComplete : Prop :=
  Does .memStatus .memStatus
      (fun r t => permitted (chkMemStatus r t))
      (fun r t x => x = answer (le 1 (channelCode 0 t + 4 * channelCode 1 t) ++ le 1 (bitsN [t.mem.remapFull, t.mem.scrubLate, t.mem.selfTestFailed]) ++ zeros 2
        ++ (t.mem.failed.flatMap fun d => le 1 (orFF d)) ++ le 4 t.mem.corrected ++ le 4 t.mem.uncorrectable ++ le 4 t.mem.consumed
        ++ le 1 (t.mem.remap.filter (·.isSome)).length ++ le 1 (t.mem.scrubLines * 100 / passLines) ++ le 2 t.mem.faults
        ++ le 8 t.mem.lastPass ++ le 8 t.time) t)
  ∧ Does .memScrubConfig .memScrubConfig
      (fun r t => permitted (chkMemScrubConfig r t))
      (fun r t x => ∃ u, x = done u ∧ u.mem = { t.mem with nextParams := some (u16 r.p.payload 0, u16 r.p.payload 2, u16 r.p.payload 4, u16 r.p.payload 6, u16 r.p.payload 8) })
  ∧ Does .memRegionSet .memRegionSet
      (fun r t => permitted (chkMemRegionSet r t) && u64 r.p.payload 8 != 0)
      (fun r t x => ∃ u, x = done u ∧ u.mem = { t.mem with regions := t.mem.regions.set ((unitIndex r.p.target 0x12).getD 0 - 0x100) (some { base := u64 r.p.payload 0, size := u64 r.p.payload 8, owner := u8 r.p.payload 16 }) })
  ∧ Does .memRegionSet .memRegionSet
      (fun r t => permitted (chkMemRegionSet r t) && u64 r.p.payload 8 == 0)
      (fun r t x => ∃ u, x = done u ∧ u.mem = { t.mem with regions := t.mem.regions.set ((unitIndex r.p.target 0x12).getD 0 - 0x100) none } ∧ u = { t with mem := u.mem })
  ∧ Does .memDeviceFail .memDeviceFail
      (fun r t => permitted (chkMemDeviceFail r t) && u8 r.p.payload 0 == 0)
      (fun r t x => ∃ u, u.mem = { t.mem with failed := t.mem.failed.set (2 * u8 r.p.payload 1 + u8 r.p.payload 2) (some (u8 r.p.payload 3)) }
        ∧ x = done (memEvent 5 (some (u8 r.p.payload 1)) (some (u8 r.p.payload 2)) (some (u8 r.p.payload 3)) 0xFF none 0 u))
  ∧ Does .memDeviceFail .memDeviceFail
      (fun r t => permitted (chkMemDeviceFail r t) && u8 r.p.payload 0 == 1)
      (fun r t x => ∃ k, k = 2 * u8 r.p.payload 1 + u8 r.p.payload 2
        ∧ x = done { t with mem := { t.mem with failed := t.mem.failed.set k (if t.mem.failed.getD k none == some (u8 r.p.payload 3) then none else t.mem.failed.getD k none) } })
  ∧ Does .memRemapClear .memRemapClear
      (fun r t => permitted (chkMemRemapClear r t) && u8 r.p.payload 0 != 0xFF)
      (fun r t x => x = done (clearRemap (u8 r.p.payload 0) t))
  ∧ Does .memRemapClear .memRemapClear
      (fun r t => permitted (chkMemRemapClear r t) && u8 r.p.payload 0 == 0xFF)
      (fun r t x => x = done ((List.range 32).foldl (fun s i => clearRemap i s) t))
  ∧ Does .memInject .memInject
      (fun r t => permitted (chkMemInject r t) && u8 r.p.payload 8 != 3)
      (fun r t x => ∃ u, x = done u ∧ u.mem = { t.mem with errors := t.mem.errors ++ [{ line := u64 r.p.payload 0, pat := injectPat (u8 r.p.payload 8) (u8 r.p.payload 9) (u8 r.p.payload 10), injected := true }] })
  ∧ Does .memInject .memInject
      (fun r t => permitted (chkMemInject r t) && u8 r.p.payload 8 == 3)
      (fun r t x => x = done (storeLine (u64 r.p.payload 0) (zeros 64) true t))
  ∧ Does .dmaChannelSet .dmaChannelSet
      (fun r t => permitted (chkDmaChannelSet r t))
      (fun r t x => x = done (modCh ((unitIndex r.p.target 0x13).getD 0xFFFF) (fun y => { y with enabled := u8 r.p.payload 0 == 1, owner := u8 r.p.payload 1 }) t))
  ∧ Does .dmaStatus .dmaStatus
      (fun r t => permitted (chkDmaStatus r t))
      (fun r t x => ∃ y, y = t.dch ((unitIndex r.p.target 0x13).getD 0xFFFF)
        ∧ x = answer (le 4 (chStatus y) ++ le 1 y.owner ++ zeros 3 ++ le 8 y.current ++ le 4 y.bytes ++ le 4 y.done ++ le 8 t.time) t)
  ∧ Does .crnStatus .crnStatus
      (fun r t => permitted (chkCrnStatus r t))
      (fun r t x => x = answer (le 1 (b2n t.crn.mounted) ++ le 1 (bitsN [t.crn.originFull, t.crn.rebuilt]) ++ le 2 (t.crn.cursors.filter (·.isSome)).length
        ++ le 4 t.crn.seq ++ le 4 ((t.crn.ring.head?.map (·.seq)).getD 0) ++ le 4 ((t.crn.origin.head?.map (·.seq)).getD 0)
        ++ le 4 t.crn.originLines ++ le 4 t.crn.dropped ++ le 8 (opNow t) ++ le 4 t.crn.powerCycles ++ zeros 4 ++ le 8 t.time) t)
  ∧ Does .crnCursorOpen .crnCursorOpen
      (fun r t => permitted (chkCrnCursorOpen r t) && u8 r.p.payload 0 == 2)
      (fun r t x => ∃ k u, k = ((t.crn.cursors.zipIdx.find? fun e => e.1.isNone).map (·.2)).getD 0
        ∧ x = (.fin .done (le 1 k ++ zeros 3 ++ le 4 (u64 r.p.payload 8 % 2 ^ 32)), u)
        ∧ u.crn = { t.crn with cursors := t.crn.cursors.set k (some { port := r.port, part := (unitIndex r.p.target 0x14).getD 0xFFFF - 0x10, next := u64 r.p.payload 8 % 2 ^ 32, group := u8 r.p.payload 1, lastRead := t.time }) })
  ∧ Does .crnCursorOpen .crnCursorOpen
      (fun r t => permitted (chkCrnCursorOpen r t) && u8 r.p.payload 0 == 0)
      (fun r t x => ∃ k n, k = ((t.crn.cursors.zipIdx.find? fun e => e.1.isNone).map (·.2)).getD 0 ∧ n = ((t.partRecs ((unitIndex r.p.target 0x14).getD 0xFFFF - 0x10)).head?.map (·.seq)).getD (afterNewest ((unitIndex r.p.target 0x14).getD 0xFFFF - 0x10) t)
        ∧ x = (.fin .done (le 1 k ++ zeros 3 ++ le 4 n), { t with crn := { t.crn with cursors := t.crn.cursors.set k (some { port := r.port, part := ((unitIndex r.p.target 0x14).getD 0xFFFF - 0x10), next := n, group := u8 r.p.payload 1, lastRead := t.time }) } }))
  ∧ Does .crnCursorOpen .crnCursorOpen
      (fun r t => permitted (chkCrnCursorOpen r t) && u8 r.p.payload 0 == 1)
      (fun r t x => ∃ k n, k = ((t.crn.cursors.zipIdx.find? fun e => e.1.isNone).map (·.2)).getD 0 ∧ n = afterNewest ((unitIndex r.p.target 0x14).getD 0xFFFF - 0x10) t
        ∧ x = (.fin .done (le 1 k ++ zeros 3 ++ le 4 n), { t with crn := { t.crn with cursors := t.crn.cursors.set k (some { port := r.port, part := ((unitIndex r.p.target 0x14).getD 0xFFFF - 0x10), next := n, group := u8 r.p.payload 1, lastRead := t.time }) } }))
  ∧ Does .crnCursorOpen .crnCursorOpen
      (fun r t => permitted (chkCrnCursorOpen r t) && u8 r.p.payload 0 == 3)
      (fun r t x => ∃ k n, k = ((t.crn.cursors.zipIdx.find? fun e => e.1.isNone).map (·.2)).getD 0 ∧ n = (((t.partRecs ((unitIndex r.p.target 0x14).getD 0xFFFF - 0x10)).find? fun y => u64 r.p.payload 8 ≤ y.opTime).map (·.seq)).getD (afterNewest ((unitIndex r.p.target 0x14).getD 0xFFFF - 0x10) t)
        ∧ x = (.fin .done (le 1 k ++ zeros 3 ++ le 4 n), { t with crn := { t.crn with cursors := t.crn.cursors.set k (some { port := r.port, part := ((unitIndex r.p.target 0x14).getD 0xFFFF - 0x10), next := n, group := u8 r.p.payload 1, lastRead := t.time }) } }))
  ∧ Does .crnRead .crnRead
      (fun r t => permitted (chkCrnRead r t))
      (fun r t x => ∃ c got next b u, cursorOf r t = some c ∧ (got, next) = takeRecs c.group (cursorRecs c t) (u8 r.p.payload 0) (cursorStart c t).2.2
        ∧ x = (.fin .done (le 2 got.length ++ b ++ got.flatMap CRec.bytes), u) ∧ b.length = 14
        ∧ u.crn = { t.crn with cursors := t.crn.cursors.set ((unitIndex r.p.target 0x14).getD 0xFFFF - 0x100) (some { c with next := next, lastRead := t.time, cleared := false }) })
  ∧ Does .crnCursorClose .crnCursorClose
      (fun r t => permitted (chkCrnCursorClose r t))
      (fun r t x => ∃ u, x = done u ∧ u.crn = { t.crn with cursors := t.crn.cursors.set ((unitIndex r.p.target 0x14).getD 0xFFFF - 0x100) none })
  ∧ Does .crnClear .crnClear
      (fun r t => permitted (chkCrnClear r t) && (emptyPart ((unitIndex r.p.target 0x14).getD 0xFFFF - 0x10) t).crn.mounted)
      (fun r t x => ∃ i, i = (unitIndex r.p.target 0x14).getD 0xFFFF
        ∧ x = done (crnEvent 1 (i - 0x10) 0 0 (unit 0x14 i) (emptyPart (i - 0x10) t)))
  ∧ Does .crnClear .crnClear
      (fun r t => permitted (chkCrnClear r t) && !(emptyPart ((unitIndex r.p.target 0x14).getD 0xFFFF - 0x10) t).crn.mounted && (((unitIndex r.p.target 0x14).getD 0xFFFF - 0x10) :: (emptyPart ((unitIndex r.p.target 0x14).getD 0xFFFF - 0x10) t).crn.clearedUnmounted.filter (· != ((unitIndex r.p.target 0x14).getD 0xFFFF - 0x10))).length < 2)
      (fun r t x => x = done { (emptyPart ((unitIndex r.p.target 0x14).getD 0xFFFF - 0x10) t) with crn := { (emptyPart ((unitIndex r.p.target 0x14).getD 0xFFFF - 0x10) t).crn with clearedUnmounted := ((unitIndex r.p.target 0x14).getD 0xFFFF - 0x10) :: (emptyPart ((unitIndex r.p.target 0x14).getD 0xFFFF - 0x10) t).crn.clearedUnmounted.filter (· != ((unitIndex r.p.target 0x14).getD 0xFFFF - 0x10)) } })
  ∧ Does .crnClear .crnClear
      (fun r t => permitted (chkCrnClear r t) && !(emptyPart ((unitIndex r.p.target 0x14).getD 0xFFFF - 0x10) t).crn.mounted && decide (2 ≤ (((unitIndex r.p.target 0x14).getD 0xFFFF - 0x10) :: (emptyPart ((unitIndex r.p.target 0x14).getD 0xFFFF - 0x10) t).crn.clearedUnmounted.filter (· != ((unitIndex r.p.target 0x14).getD 0xFFFF - 0x10))).length))
      (fun r t x => ∃ u : State, u = { (emptyPart ((unitIndex r.p.target 0x14).getD 0xFFFF - 0x10) t) with crn := { (emptyPart ((unitIndex r.p.target 0x14).getD 0xFFFF - 0x10) t).crn with clearedUnmounted := [], mounted := true, pendingRec := none } }
        ∧ x = done (crnEvent 1 1 0 0 (unit 0x14 0x11) (crnEvent 1 0 0 0 (unit 0x14 0x10) u)))
  ∧ Does .crnAppWrite .crnAppWrite
      (fun r t => permitted (chkCrnAppWrite r t) && (acceptAllRaised t.crn.raised.length t).crn.queue.length < 256)
      (fun r t x => x = done (acceptEvent { code := 0x1400 + u8 r.p.payload 0, source := 0x80 + r.port, payload := r.p.payload.drop 4, moduleTime := (acceptAllRaised t.crn.raised.length t).time }
          (acceptAllRaised t.crn.raised.length t)))
  ∧ Does .crnAppWrite .crnAppWrite
      (fun r t => permitted (chkCrnAppWrite r t) && 256 ≤ (acceptAllRaised t.crn.raised.length t).crn.queue.length)
      (fun r t x => x = (.fin .noResource [], acceptEvent { code := 0x1400 + u8 r.p.payload 0, source := 0x80 + r.port, payload := r.p.payload.drop 4, moduleTime := (acceptAllRaised t.crn.raised.length t).time } (acceptAllRaised t.crn.raised.length t)))

/-- The UPD and PWR commands complete (R486 to R488, R490, R492, R495, R498, R500, R502). Each under the conditions that its chapter gives, with the effect that it gives. -/
def Obligations.UpdPwrCommandsComplete : Prop :=
  Does .updBegin .updBegin
      (fun r t => permitted (chkUpdBegin r t) && t.upd.image != u64 r.p.payload 0)
      (fun r t x => x = answer (le 4 0) (updEnter .receiving 0 0xFF 0xFF (modUpd (fun u => { u with image := u64 r.p.payload 0, pieces := u32 r.p.payload 8, feeder := u8 r.p.payload 12, held := [], store := [], bufs := [], manifest := none, staged := 0 }) t)))
  ∧ Does .updBegin .updBegin
      (fun r t => permitted (chkUpdBegin r t) && t.upd.image == u64 r.p.payload 0)
      (fun r t x => x = answer (le 4 t.upd.held.length) t)
  ∧ Does .updPiece .updPiece
      (fun r t => permitted (chkUpdPiece r t) && (pieceFragment (u32 r.p.payload 8) (u16 r.p.payload 12) (r.p.payload.drop 16) t).isSome)
      (fun r t x => ∃ k u, pieceFragment (u32 r.p.payload 8) (u16 r.p.payload 12) (r.p.payload.drop 16) t = some (k, u)
        ∧ x = answer (le 1 k ++ zeros 3) u)
  ∧ Does .updPiece .updPiece
      (fun r t => permitted (chkUpdPiece r t) && (pieceFragment (u32 r.p.payload 8) (u16 r.p.payload 12) (r.p.payload.drop 16) t).isNone)
      (fun r t x => x = (.fin .noResource [], t))
  ∧ Does .updStatus .updStatus
      (fun r t => permitted (chkUpdStatus r t))
      (fun r t x => x = answer (le 1 t.upd.st.code ++ le 1 t.upd.reason ++ le 1 t.upd.component ++ le 1 t.upd.staged ++ le 8 t.upd.image ++ le 4 t.upd.held.length
        ++ le 4 ((missingFrom 0 t).headD 0xFFFFFFFF) ++ le 4 t.upd.tagFails ++ le 4 t.upd.rollback
        ++ le 2 (t.upd.active.setId.getD Config.factoryImageSet) ++ zeros 2 ++ le 8 t.time) t)
  ∧ Does .updMissing .updMissing
      (fun r t => permitted (chkUpdMissing r t))
      (fun r t x => ∃ l, l = (missingFrom (u32 r.p.payload 0) t).take 1000 ∧ x = answer (le 2 l.length ++ zeros 2 ++ l.flatMap fun i => le 4 i) t)
  ∧ Does .updInstall .updInstall
      (fun r t => permitted (chkUpdInstall r t) && t.upd.manifest.any fun m => !(installQueue m t).isEmpty)
      (fun r t x => ∃ m q u, t.upd.manifest = some m ∧ q = installQueue m t ∧ x = (.interim .queued, u)
        ∧ u = modUpd (fun u => { u with req := some r })
            (updEnter .installing 0 ((q.map (·.1)).headD 0xFF) 0xFF (modUpd (fun u => { u with queue := q, retried := false }) t)))
  ∧ Does .updInstall .updInstall
      (fun r t => permitted (chkUpdInstall r t) && t.upd.manifest.any fun m => (installQueue m t).isEmpty)
      (fun r t x => ∃ m, t.upd.manifest = some m
        ∧ x = done (updStaged (updEnter .installing 0 0xFF 0xFF (modUpd (fun u => { u with queue := installQueue m t, retried := false }) t))))
  ∧ Does .updCommit .updCommit
      (fun r t => permitted (chkUpdCommit r t) && u8 r.p.payload 0 == 0 && updManager (interimReply r .queued t))
      (fun r t x => x = done (modUpd (fun u => { u with restartDue := true })
          (updEnter .committing 0 0xFF 0xFF (updSwitch (interimReply r .queued t)))))
  ∧ Does .updCommit .updCommit
      (fun r t => permitted (chkUpdCommit r t) && u8 r.p.payload 0 == 1)
      (fun r t x => x = done (modUpd (fun u => { u with restartDue := true }) (updReturn (interimReply r .queued t))))
  ∧ Does .updCommit .updCommit
      (fun r t => permitted (chkUpdCommit r t) && u8 r.p.payload 0 == 0 && !updManager (interimReply r .queued t))
      (fun r t x => x = done (modUpd (fun u => { u with restartDue := true }) (updEnter .committing 0 0xFF 0xFF (modUpd (fun u => { u with pending := u.image }) (interimReply r .queued t)))))
  ∧ Does .updAbort .updAbort
      (fun r t => permitted (chkUpdAbort r t) && t.upd.st != .installing)
      (fun r t x => x = done (updAbortNow t))
  ∧ Does .updAbort .updAbort
      (fun r t => permitted (chkUpdAbort r t) && t.upd.st == .installing)
      (fun r t x => x = done (modUpd (fun u => { u with abortDue := true }) t))
  ∧ Does .pwrSet .pwrSet
      (fun r t => permitted (chkPwrSet r t) && t.pwr.move.isNone && (PwrSt.ofCode (u8 r.p.payload 0)).getD .standby != t.pwr.st)
      (fun r t x => ∃ target u, target = (PwrSt.ofCode (u8 r.p.payload 0)).getD .standby ∧ x = (.interim .queued, u)
        ∧ u = modPwr (fun p => { p with move := some { target := target, immediate := u8 r.p.payload 1 == 1, drainMs := u16 r.p.payload 2, alarm := if target == .sleep then u32 r.p.payload 4 else 0, req := some r } }) t)
  ∧ Does .pwrSet .pwrSet
      (fun r t => permitted (chkPwrSet r t) && t.pwr.move.isNone && (PwrSt.ofCode (u8 r.p.payload 0)).getD .standby == t.pwr.st)
      (fun r t x => x = done t)
  ∧ Does .pwrSet .pwrSet
      (fun r t => permitted (chkPwrSet r t) && t.pwr.move.isSome)
      (fun r t x => ∃ m target, t.pwr.move = some m ∧ target = (PwrSt.ofCode (u8 r.p.payload 0)).getD .standby
        ∧ x = supersedeMove m { target := target, immediate := u8 r.p.payload 1 == 1, drainMs := u16 r.p.payload 2, alarm := if target == .sleep then u32 r.p.payload 4 else 0, req := some r } r t)
  ∧ Does .pwrConfig .pwrConfig
      (fun r t => permitted (chkPwrConfig r t))
      (fun r t x => ∃ u, x = done u ∧ u.pwr = { t.pwr with hostBits := u8 r.p.payload 0, hostSlots := u8 r.p.payload 1, wakeEn := u8 r.p.payload 2, drainDefault := u16 r.p.payload 4, addrs := (List.range (u8 r.p.payload 3)).map (hostAddrOf r.p.payload) })
  ∧ Does .pwrStatus .pwrStatus
      (fun r t => permitted (chkPwrStatus r t))
      (fun r t x => ∃ (p : PwrState) (f : Rat → List Byte), p = t.pwr ∧ (∀ q, f q = le 4 (qf32 q).toNat)
        ∧ x = answer (le 1 p.st.code ++ le 1 ((p.move.map (·.target)).getD p.st).code
          ++ le 2 (bitsN [p.move.isSome, draining t, p.perfLimit, p.saveComplete, p.ign, p.wake, p.heldMove.isSome, p.exhausted])
          ++ le 2 ((p.paths.getD 0 {}).st.code + 8 * (p.paths.getD 1 {}).st.code) ++ le 1 p.bank.code ++ le 1 p.lastWake
          ++ f (p.paths.getD 0 {}).volts ++ f (p.paths.getD 1 {}).volts ++ f p.power ++ f p.cap ++ f p.bankV ++ f p.bankMf
          ++ f p.budget ++ f t.sum.tb ++ le 8 t.time) t)

/-- The SUM commands complete (R518, R524, R526, R527). Each under the conditions that its chapter gives, with the effect that it gives. -/
def Obligations.SumCommandsComplete : Prop :=
  Does .sumStatus .sumStatus
      (fun r t => permitted (chkSumStatus r t) && t.id.summitLost)
      (fun r t x => x = answer (le 1 1 ++ zeros 31 ++ le 8 t.time) t)
  ∧ Does .sumStatus .sumStatus
      (fun r t => permitted (chkSumStatus r t) && !t.id.summitLost)
      (fun r t x => x = answer (le 1 0 ++ le 1 (if t.sum.faulted then 2 else if t.sum.tempHold then 1 else 0) ++ le 1 ((t.sum.busy.map (·.1)).getD 0xFF)
        ++ le 1 (bitsN (t.sum.regions.map (·.slot.isSome))) ++ le 4 (sumFlags t) ++ le 1 (bitsN (t.sum.sessionKeys.map (·.isSome)))
        ++ le 1 (bitsN (t.sum.imageKey.isSome :: t.sum.signKeys.map (·.isSome))) ++ zeros 2 ++ le 4 (qf32 t.sum.tb).toNat ++ le 4 t.sum.shocks ++ zeros 4
        ++ le 8 (opNow t) ++ le 8 t.time) t)
  ∧ Does .sumConfig .sumConfig
      (fun r t => permitted (chkSumConfig r t))
      (fun r t x => ∃ u, x = done u ∧ u.sum = { t.sum with cfg := { shockThr := bits32 r.p.payload 0, rhLimit := bits32 r.p.payload 4, rhTime := u16 r.p.payload 8, composeGap := u16 r.p.payload 10, stripGap := u16 r.p.payload 12, faultGroups := u32 r.p.payload 16 } })
  ∧ Does .sumKeySet .sumKeySet
      (fun r t => permitted (chkSumKeySet r t) && u8 r.p.payload 0 == 1)
      (fun r t x => ∃ u, u.sum = { t.sum with imageKey := if u8 r.p.payload 2 == 0 then some ((r.p.payload.drop 8).take 32) else none }
        ∧ x = done (sumEvent 6 (u8 r.p.payload 1) (b2n (u8 r.p.payload 2 == 0)) sumUnit 0 u))
  ∧ Does .sumKeySet .sumKeySet
      (fun r t => permitted (chkSumKeySet r t) && u8 r.p.payload 0 == 0)
      (fun r t x => ∃ k l, k = u8 r.p.payload 1 ∧ l = (u8 r.p.payload 2 == 0)
        ∧ x = done (sumEvent 6 k (b2n l) sumUnit 0 (closeSlot k r (modSum (fun m => { m with sessionKeys := m.sessionKeys.set k (if l then some ((r.p.payload.drop 8).take 32, u32 r.p.payload 4) else none) }) t))))
  ∧ Does .sumKeySet .sumKeySet
      (fun r t => permitted (chkSumKeySet r t) && u8 r.p.payload 0 == 2)
      (fun r t x => ∃ k l, k = u8 r.p.payload 1 ∧ l = (u8 r.p.payload 2 == 0)
        ∧ x = done (sumEvent 6 k (b2n l) sumUnit 0 (modSum (fun m => { m with signKeys := m.signKeys.set k (if l then some ((r.p.payload.drop 8).take 96) else none) }) t)))
  ∧ Does .sumWindowText .sumWindowText
      (fun r t => permitted (chkSumWindowText r t))
      (fun r t x => ∃ u, u.sum = { t.sum with appText := u8 r.p.payload 0 :: (((r.p.payload.drop 4).take 40).map (·.toNat)).take (u8 r.p.payload 1) }
        ∧ x = (.interim .queued, queueRegion 3 { content := regionShows 3 u, text := some r } u))

/-- Chapters 02 and 03: the signal space and the command protocol: each event has the effect that its chapter gives, where it is due. -/
def Obligations.SysEventsOccur : Prop :=
  (∀ (now : Nat) (p0 : Packet) (opcode : Nat) (status : Nat), OccursOn (.replyPacket now p0 opcode status)
      (fun s => !(!reachable_ s))
      (fun s =>
        let p := normal p0 s
        match arrival 0 p s with
        | .nothing => s
        | .stranger e => countFailure (ethBase e) (countDiscarded s)
        | .on port _ =>
          match answered p opcode status port s with
          | some a => { s with sys := { s.sys with awaiting := s.sys.awaiting.erase a } }
          | none => countDiscarded s))
  ∧ (∀ (now : Nat) (d : Discard), OccursOn (.packetDiscard now d)
      (fun s => d == .untrusted)
      (fun s => countDiscarded s))
  ∧ (∀ (now : Nat) (d : Discard) (eth : Nat), OccursOn (.packetDiscard now d)
      (fun s => d == .noSession eth)
      (fun s => countFailure (ethBase eth) s))
  ∧ (∀ (now : Nat) (d : Discard) (via : Via) (dst : Nat) (b : List Byte), OccursOn (.packetDiscard now d)
      (fun s => d == .frame via dst b && (unframed via b).isNone)
      (fun s => dispatch (countDiscarded s)))
  ∧ (∀ (now : Nat) (d : Discard) (via : Via) (dst : Nat) (b x : List Byte), OccursOn (.packetDiscard now d)
      (fun s => d == .frame via dst b && unframed via b == some x)
      (fun s => dispatch (takeBytes via dst x s)))
  ∧ (∀ (now : Nat) (port : Nat) (tag : Nat) (f : Flight), OccursOn (.queueTimeout now port tag)
      (fun s => s.flight port tag == some f && !f.started && f.admitted + queueLimit (f.req.p.flags.toNat % 4) ≤ s.time)
      (fun s => finish f.req .timeout [] s))
  ∧ (∀ (now : Nat) (port : Nat), OccursOn (.halfOpenExpiry now port)
      (fun s => ((s.session port).any fun x => x.halfOpen && x.openedAt + 2 * sec ≤ s.time))
      (fun s => dropSession port s))
  ∧ (∀ (now : Nat), OccursOn (.authFailReport now)
      (fun _ => true)
      (fun s => doAuthReport s))
  ∧ (∀ (now : Nat), OccursOn (.forcedPublish now)
      (fun _ => true)
      (fun s => doForcedPublish s))
  ∧ (∀ (now : Nat), OccursOn (.forceHoldElapsed now)
      (fun _ => true)
      (fun s =>
        (s.sig.forces.filter fun f => f.setAt + f.hold * sec ≤ s.time).foldl
          (fun s f => endForce f.localNo (forceEvent (forceParams f) 2 s)) s))
  ∧ (∀ (now : Nat), OccursOn (.routeEffective now)
      (fun _ => true)
      (fun s =>
        let due := s.sig.routeChanges.filter fun c => c.effectiveAt ≤ s.time
        due.foldl (fun s c => applyRoute c s)
          { s with sig := { s.sig with routeChanges := s.sig.routeChanges.filter fun c => s.time < c.effectiveAt } }))
  ∧ (∀ (now : Nat), OccursOn (.routeExport now)
      (fun _ => true)
      (fun s =>
        (sortBy (fun a b => decide (b.prio ≤ a.prio)) (s.sig.routes.filter fun r => !r.isImport && r.period != 0)).foldl (fun s r =>
          if onGrid (r.period * us) s && aget s.sig.lastExport r.entry != some s.time then
            { s with sig := { s.sig with
                exports := if (s.stored r.handle).linePoison then s.sig.exports
                           else { time := s.time, handle := r.handle, modules := r.modules, massif := r.massif, prio := r.prio,
                                  record := s.view r.handle } :: s.sig.exports
                lastExport := aset s.sig.lastExport r.entry s.time } } |> consumeRec 0x60 r.handle
          else s) s))
  ∧ (∀ (now : Nat) (r : RouteRecord), OccursOn (.routeRecordReceived now r)
      (fun s => (s.importRoute r.handle).isSome && (aget s.sig.imported r.handle).isSome)
      (fun s => doRecordReceived r.handle r.value r.stamp r.confidence r.quality r.ty r.seq r.source r.blockLen r.published r.offset s))
  ∧ (∀ (now : Nat), OccursOn (.staleAtReached now)
      (fun _ => true)
      (fun s =>
        { s with sig := { s.sig with
            own := s.sig.own.map fun e => (e.1, expired (s.handle e.1) e.2 s)
            imported := s.sig.imported.map fun e => (e.1, expired e.1 e.2 s) } }))
  ∧ (∀ (now : Nat) (c : MachineConfig), OccursOn (.machineConfigLoad now c)
      (fun s => !(s.id.role == .none || s.id.dupIndex))
      (fun s =>
        match loadConfig c s with
        | some s => sendMachine (modId (fun d => { d with cfgStatus := some .done }) s)
        | none => modId (fun d => { d with cfgStatus := some .configRejected }) s))
  ∧ (∀ (now : Nat) (n : Nat) (taken : Nat) (slot : Option MailSlot), OccursOn (.mailboxSubmit now n taken slot)
      (fun s => !(127 < n || !reachable_ s))
      (fun s => doMailbox n taken slot s))
  ∧ (∀ (now : Nat) (partition : Nat) (addr : Nat) (width : Nat) (value : Nat), OccursOn (.registerWrite now partition addr width value)
      (fun _ => true)
      (fun s => doAccess { agent := (s.part partition).pair.getD 0, partition := some partition, addr := addr, size := width, store := some (le width value) } s))

/-- Chapter 04: machine functions: each event has the effect that its chapter gives, where it is due. -/
def Obligations.FunEventsOccur : Prop :=
  (∀ (now : Nat), OccursOn (.functionSample now)
      (fun _ => true)
      (fun s => doFunctionSample s))
  ∧ (∀ (now : Nat), OccursOn (.interlockHoldExpiry now)
      (fun _ => true)
      (fun s => forFns funInterlocks s))
  ∧ (∀ (now : Nat), OccursOn (.enableTimeout now)
      (fun _ => true)
      (fun s =>
        forFns (fun f s =>
          let x := s.fn f
          if x.st == .enabling && x.since + (s.fnConf f).enableTimeout * ms ≤ s.time then
            funDegrade f 5 (s.fnConf f).dmFeedback (modFn f (fun x => { x with timedOut := true }) s)
          else s) s))
  ∧ (∀ (now : Nat), OccursOn (.recoverHold now)
      (fun _ => true)
      (fun s => forFns (fun f s => if (s.fn f).st == .degraded then funTrigger f s else s) s))
  ∧ (∀ (now : Nat), OccursOn (.pnrTimeout now)
      (fun _ => true)
      (fun s =>
        forFns (fun f s =>
          if (s.fn f).st == .stopping && (s.fn f).restAt.any (fun t => decide (t + 2 * sec ≤ s.time)) then funFinish f 10 s else s) s))
  ∧ (∀ (now : Nat) (ack : Bool), OccursOn (.switchOffComplete now ack)
      (fun _ => true)
      (fun s => forFns (fun f s => funFinished f ack s) s))
  ∧ (∀ (now : Nat), OccursOn (.overrideEnd now)
      (fun _ => true)
      (fun s => forFns endOverride s))

/-- Chapters 05 to 07: Couloir, sensing and the yield map: each event has the effect that its chapter gives, where it is due. -/
def Obligations.CropEventsOccur : Prop :=
  (∀ (now : Nat), OccursOn (.calWindowEnd now)
      (fun s => s.cul.cal.any fun k => decide (k.endAt ≤ s.time))
      (fun s => doCalWindowEnd s))
  ∧ (∀ (now : Nat), OccursOn (.couloirTick now)
      (fun s => s.acting && onGrid (s.cul.cfg.tick * ms) s && !s.cul.st.busy)
      (fun s => doMapTick (doCouloirTick s)))
  ∧ (∀ (now : Nat), OccursOn (.couloirTick now)
      (fun s => s.acting && onGrid (s.cul.cfg.tick * ms) s && s.cul.st.busy)
      (fun s => doMapTick (doCouloirTick s)))
  ∧ (∀ (now : Nat), OccursOn (.poseWait now)
      (fun _ => true)
      (fun s =>
        let s := takePoses s
        modCul (fun c => { c with ledger := c.ledger.map fun p => writePose p s, toMap := c.toMap.map fun p => writePose p s }) s))
  ∧ (∀ (now : Nat), OccursOn (.velocityHoldExpiry now)
      (fun s => !(!s.cul.st.busy))
      (fun s =>
        let old := s.cul.belts
        let new := old.zipIdx.map fun (b, k) =>
          let g := s.stage (beltStage k)
          if heldFor b.badSince s.time (g.hold * ms) then { b with v := f32d g.vFallback, fallback := true } else b
        noteFallback old (modCul (fun c => { c with belts := new }) s)))
  ∧ (∀ (now : Nat), OccursOn (.parcelAged now)
      (fun s => !(!s.cul.st.busy))
      (fun s => culDrained <| (openParcels s).foldl (fun s p => if p.cut + s.cul.cfg.maxAge * sec ≤ s.time then forceClose 1 1 { p with rear := rearOf s p } s else s) s))
  ∧ (∀ (now : Nat), OccursOn (.refillEnd now)
      (fun s => s.cul.refill.any fun x => x.1 != 0 && decide (x.1 ≤ s.time))
      (fun s => modCul (fun c => { c with refill := none }) s))
  ∧ (∀ (now : Nat) (ch : Nat) (age : Nat) (before : List Int) (crossing : Int) (after : List Int), OccursOn (.impactDetected now ch age before crossing after)
      (fun s => !(16 ≤ ch || (s.senCh ch).cfg.group == 0))
      (fun s => doImpact ch age (before ++ crossing :: after) s))
  ∧ (∀ (now : Nat) (m : List (Rat × Nat)), OccursOn (.reportInterval now m)
      (fun s => !(s.time - gridTime s % (s.sen.interval * ms) ≤ s.sen.boundary || capturePends (s.time - gridTime s % (s.sen.interval * ms)) s))
      (fun s => doReport m s))
  ∧ (∀ (now : Nat) (beam : BeamMeas), OccursOn (.flowDecision now beam)
      (fun s => !(!s.sen.isYield || !onGrid (100 * ms) s || s.time < 100 * ms))
      (fun s => doFlowDecision beam s))
  ∧ (∀ (now : Nat) (samples : List Rat) (bridge : BridgeMeas), OccursOn (.plateBlock now samples bridge)
      (fun s => !(!srcOn 0 s))
      (fun s => doPlateBlock samples bridge s))
  ∧ (∀ (now : Nat) (tb : Rat), OccursOn (.paddlePass now tb)
      (fun s => !(!srcOn 1 s))
      (fun s =>
        let c := s.sen.cfg
        let (free, s) := takeFreeRat s
        let (vol, t) := match elevV s with
          | some v => (maxR 0 (v * tb * 100 - f32d c.h0) * f32d c.aPad, aligned 1 s.time v s)
          | none => (maxR 0 free, s.time)
        let s := modSen (fun x => { x with vol := (x.vol ++ [(s.time, vol)]) }) s
        let s := modLoad (fun l => { l with paddle := l.paddle + vol * f32d s.sen.active.testWeight / 100000 }) s
        pushVal 1 t vol s))
  ∧ (∀ (now : Nat) (c : Rat) (cEmpty : Rat) (cRef : Rat) (temp : Rat) (readings : List (Nat × Rat)) (ok : Bool), OccursOn (.moistureSample now c cEmpty cRef temp readings ok)
      (fun s => !(!srcOn 3 s))
      (fun s => doMoisture c cEmpty cRef temp readings ok s))
  ∧ (∀ (now : Nat) (block : List Rat), OccursOn (.tareRetake now block)
      (fun s => srcOn 0 s && !s.sen.tareDone && (tareReadings block s).length != 0 && (tareFrom s).any fun t => decide (t + 2 * sec ≤ s.time))
      (fun s => doTareRetake block s))
  ∧ (∀ (now : Nat) (r : Req) (f : Field), OccursOn (.exportBuilt now)
      (fun s => s.map.exporting == some (r, f, 1))
      (fun s =>
        finish r .done (le 8 (fieldFile (s.id.machine % 16) f).length ++ le 4 (Crypto.crc32c (fieldFile (s.id.machine % 16) f)))
                (modMap (fun m => { m with exporting := none, export_ := some (fieldFile (s.id.machine % 16) f) }) s)))
  ∧ (∀ (now : Nat) (r : Req) (f : Field) (k : Nat), OccursOn (.exportBuilt now)
      (fun s => s.map.exporting == some (r, f, k) && k != 1)
      (fun s =>
        finish r .done (le 8 (taskData f s).length ++ le 4 (Crypto.crc32c (taskData f s)))
                (modMap (fun m => { m with exporting := none, export_ := some (taskData f s) }) s)))
  ∧ (∀ (now : Nat) (te : Int) (tn : Int), OccursOn (.tileLoadComplete now te tn)
      (fun s => !(!s.map.loading.contains (te, tn)))
      (fun s =>
        let s := modMap (fun m => { m with loading := m.loading.filter fun x => x != (te, tn) }) s
        match s.openField.bind fun f => f.stored te tn with
        | some x => if (s.tile te tn).isSome then s else cacheTile [] { te := te, tn := tn, cells := x.new.2, snap := x.new.2, written := s.map.clock } s
        | none => s))
  ∧ (∀ (now : Nat), OccursOn (.tileFlush now)
      (fun _ => true)
      (fun s => (s.map.cache.filter fun t => t.dirtySince.any fun d => decide (d + s.map.flushPeriod * sec ≤ s.time)).foldl (fun s t => flushTile t s) s))

/-- Chapter 08: guidance: each event has the effect that its chapter gives, where it is due. -/
def Obligations.GdeEventsOccur : Prop :=
  (∀ (now : Nat), OccursOn (.wasPointRecorded now)
      (fun s => (s.gde.recording.any fun x => decide (x.start + sec ≤ s.time)))
      (fun s => recordPoint s))
  ∧ (∀ (now : Nat) (ready : Bool), OccursOn (.lawSample now ready)
      (fun s => !(!gdeNow s))
      (fun s =>
        if !gdeOn s then gdeStartDue s else
        let s := if s.gde.seenAt == some s.time then s else gdeEvaluate ready s
        let h := gdeHandle 3 s
        let level := h != 0 && (s.view h).fresh && (s.view h).value.toNat % 2 == 1
        let rise := level && !s.gde.swLevel
        let s := gdeStartDue (modGde (fun g => { g with swLevel := level }) s)
        let s := if rise then (engageRequest none s).2 else s
        let s := gdeLaw s
        let s := if s.gde.alertUntil ≤ s.time && s.gde.st != .coasting && s.gde.cfg.isSome then gdeAlert false s else s
        modGde (fun g => { g with doneAt := g.seenAt }) (gdePublish s)))
  ∧ (∀ (now : Nat), OccursOn (.coastExpiry now)
      (fun s => (s.gde.st == .coasting && (rampCauses s).contains 5))
      (fun s => releaseRamp 5 s))
  ∧ (∀ (now : Nat), OccursOn (.releaseRampEnd now)
      (fun s => (s.gde.st == .releasing && s.gde.ramp.any (fun x => decide (x.1 + s.gcfg.ramp * ms ≤ s.time))))
      (fun s => rampEnd s))
  ∧ (∀ (now : Nat), OccursOn (.gdeSwitchOffComplete now)
      (fun s => !(!gdeOffDone s))
      (fun s =>
        let s := modGde (fun g => { g with pnrAt := none }) s
        if s.gde.st != .finishing then s
        else if s.gde.pending.isSome && gdeBlockers s == 0 then
          let (st, s) := gdeEngageNow s
          gdeEndPending st (if st == .done then s else gdeEnter .standby none s)
        else gdeEndPending .wrongState (gdeEnter .standby none s)))

/-- Chapter 09: loop engines: each event has the effect that its chapter gives, where it is due. -/
def Obligations.LpeEventsOccur : Prop :=
  (∀ (now : Nat) (n : Nat) (part : Nat) (v : Nat), OccursOn (.loopCtrlSwap now n part v)
      (fun s => (s.loop n).st != .free && (s.loop n).cfg.owner == part && (v == 1 || v == 2) && (s.part part).inPeriod)
      (fun s =>
        s.setPart part { s.part part with swaps := (s.part part).swaps ++
                [(n, v - 1, (s.sys.flights.filter fun f => f.req.port == part && f.colPeriod == some (s.part part).periodNo).length)] }))
  ∧ (∀ (now : Nat) (n : Nat) (part : Nat) (v : Nat), OccursOn (.loopCtrlSwap now n part v)
      (fun s => (s.loop n).st == .free || (s.loop n).cfg.owner != part || 2 < v)
      (fun s => lpeAccessFault s))
  ∧ (∀ (now : Nat) (u : Nat) (part : Nat), OccursOn (.trcArm now u part)
      (fun s => !(s.supervisory != some part || 7 < u))
      (fun s => armTrace u s))
  ∧ (∀ (now : Nat) (u : Nat) (part : Nat), OccursOn (.trcArm now u part)
      (fun s => (s.supervisory != some part || 7 < u))
      (fun s => lpeAccessFault s))
  ∧ (∀ (now : Nat) (u : Nat) (part : Nat), OccursOn (.trcSwtrig now u part)
      (fun s => !(s.supervisory != some part || 7 < u))
      (fun s => modTrace u (fun t => { t with sw := t.sw || t.st == 1 }) s))
  ∧ (∀ (now : Nat) (u : Nat) (part : Nat), OccursOn (.trcSwtrig now u part)
      (fun s => (s.supervisory != some part || 7 < u))
      (fun s => lpeAccessFault s))
  ∧ (∀ (now : Nat) (loop : Nat), OccursOn (.loopSample now loop)
      (fun s => decide (loop < 128))
      (fun s => doLoopSample loop (gdeLoopHook loop (funRelease s))))
  ∧ (∀ (now : Nat) (n : Nat), OccursOn (.outputRelease now n)
      (fun s => !s.id.clockFail)
      (fun s => releaseOut n s))
  ∧ (∀ (now : Nat) (di : Nat), OccursOn (.repPulse now di)
      (fun s => decide (di < 16))
      (fun s => doRepPulse di s))
  ∧ (∀ (now : Nat) (phys : Nat), OccursOn (.engineFault now phys)
      (fun s => !(9 ≤ phys || s.lpe.excluded.getD phys true))
      (fun s => doEngineFault phys s))
  ∧ (∀ (now : Nat) (logi : Nat), OccursOn (.takeoverComplete now logi)
      (fun s => (s.lpe.loading.any fun e => e.1 == logi) && !s.id.clockFail)
      (fun s => doTakeoverComplete logi s))
  ∧ (∀ (now : Nat) (good : Bool) (p : Nat), OccursOn (.spareReferenceCheck now good)
      (fun s => s.lpe.spare == some p && !good)
      (fun s => loseSpare p s))
  ∧ (∀ (now : Nat) (good : Bool), OccursOn (.spareReferenceCheck now good)
      (fun s => s.lpe.spare.isSome && good)
      (fun s => s))

/-- Chapter 10: valve drivers: each event has the effect that its chapter gives, where it is due. -/
def Obligations.VlvEventsOccur : Prop :=
  (∀ (now : Nat) (n : Nat) (m : ValveMeas), OccursOn (.valveInstant now n m)
      (fun s => !(!onGrid (20 * us) s || 48 ≤ n))
      (fun s =>
        let sp := valveSetPoint n s
        let grp := (s.group (n / 12)).st
        let lost := loopLost n s
        let t := s.time
        let rec_ := s.valveSp n
        let s := modValve n (fun v =>
          let v := sensePosition m t (senseValve m t sp grp lost v)
          if v.mode == 3 then { v with level := levelOf v rec_ } else v) s
        vlvSync n (moveValve n (valveLatchCheck n s))))
  ∧ (∀ (now : Nat) (n : Nat) (seen : List (Nat × Rat × Rat)), OccursOn (.testPulseEnd now n seen)
      (fun s => (s.valve n).st == .testing && (s.valve n).since + 50 * us ≤ s.time && seen.isEmpty)
      (fun s => vlvSync n (enterEnergised n s)))
  ∧ (∀ (now : Nat) (n : Nat) (seen : List (Nat × Rat × Rat)), OccursOn (.testPulseEnd now n seen)
      (fun s => (s.valve n).st == .testing && (s.valve n).since + 50 * us ≤ s.time)
      (fun s => doTestPulseEnd n seen s))
  ∧ (∀ (now : Nat) (n : Nat) (high : Bool) (low : Bool), OccursOn (.shortTrip now n high low)
      (fun s => ((s.valve n).st == .testing || (s.valve n).st == .energised) && (high || low))
      (fun s => vlvSync n (tripValve n (if high && low then 10 else if high then 8 else 9) (b2n (low && !high)) s)))
  ∧ (∀ (now : Nat) (n : Nat), OccursOn (.retryWaitExpiry now n)
      (fun s => (s.valve n).st == .retryWait && (s.valve n).tripAt + 10 * ms ≤ s.time && (s.valve n).want)
      (fun s => vlvSync n (enterEnergised n (modValve n (fun v => { v with retries := v.retries + 1 }) s))))
  ∧ (∀ (now : Nat) (n : Nat), OccursOn (.retryReset now n)
      (fun s => (s.valve n).st == .energised && (s.valve n).retries != 0 && max (s.valve n).since (s.valve n).tripAt + 100 * ms ≤ s.time)
      (fun s => vlvSync n (modValve n (fun v => { ((v.setCode 8 false).setCode 9 false).setCode 10 false with retries := 0 }) s)))
  ∧ (∀ (now : Nat) (n : Nat) (current : Rat), OccursOn (.demagComplete now n current)
      (fun s => (s.valve n).st == .demag && decide (current < 2 / 100))
      (fun s => vlvSync n (modValve n (fun v => { v with st := .offTime, since := s.time, demagEnd := some s.time, biasAt := some s.time }) s)))
  ∧ (∀ (now : Nat) (n : Nat), OccursOn (.demagTimeout now n)
      (fun s => (s.valve n).st == .demag && (s.valve n).since + (s.valve n).cfg.demagMax * ms ≤ s.time)
      (fun s => vlvSync n (enterLatched n (modValve n (fun v => { v.setCode 8 true with terminal := 1 }) s))))
  ∧ (∀ (now : Nat) (n : Nat), OccursOn (.offTimeEnd now n)
      (fun s => (s.valve n).st == .offTime && heldFor (s.valve n).demagEnd s.time ((s.valve n).cfg.offTime * us))
      (fun s => doOffTimeEnd n s))
  ∧ (∀ (now : Nat) (n : Nat) (hMax : Rat) (hMin : Rat) (hi : List Rat) (lo : List Rat), OccursOn (.offStateCheck now n hMax hMin hi lo)
      (fun s => ((s.valve n).st == .deEnergised || (s.valve n).st == .offTime || (s.valve n).st == .latched || (s.valve n).st == .retryWait)
        && heldFor (s.valve n).biasAt s.time (2 * ms) && !hi.isEmpty)
      (fun s => doOffStateCheck n hMax hMin hi lo s))
  ∧ (∀ (now : Nat) (g : Nat) (m : GroupMeas), OccursOn (.groupStateEval now g m)
      (fun s => !(!onGrid (10 * us) s || 4 ≤ g))
      (fun s => doGroupEval g m s))
  ∧ (∀ (now : Nat) (n : Nat) (samples : List Rat), OccursOn (.coilThermalUpdate now n samples)
      (fun s => (s.valve n).mode != 0 && onGrid ms s)
      (fun s => doCoilThermal n samples s))
  ∧ (∀ (now : Nat) (n : Nat) (duty : Rat) (samples : List Rat) (vGroup : Rat) (t0 k : Nat) (d a : Rat), OccursOn (.resistanceMeasurement now n duty samples vGroup)
      (fun s => steadyNow n duty samples s == some (t0, d, a, k) && k != 0 && decide (windowNs (s.valve n).cfg ≤ ((s.time - t0 : Nat) : Rat)))
      (fun s => doResistance n duty samples vGroup s))
  ∧ (∀ (now : Nat) (n : Nat) (cal : Nat) (nibs : List Nat), OccursOn (.sentFrame now n cal nibs)
      (fun s => (s.valve n).cfg.posInput == 2)
      (fun s => doSentFrame n cal nibs s))
  ∧ (∀ (now : Nat) (n : Nat) (samples : List Rat), OccursOn (.valvePublish now n samples)
      (fun s => !(!onGrid ms s || 48 ≤ n))
      (fun s => doValvePublish n samples s))

/-- Chapter 11: field inputs, outputs and supplies: each event has the effect that its chapter gives, where it is due. -/
def Obligations.FioEventsOccur : Prop :=
  (∀ (now : Nat) (n : Nat) (samples : List Rat), OccursOn (.diOutChange now n samples)
      (fun s => decide (n < 64) && ((diApply n s).di n).cfg.mode != 0 && onGrid ((diApply n s).di n).cfg.step (diApply n s))
      (fun s => doDiOutChange n samples s))
  ∧ (∀ (now : Nat) (n : Nat), OccursOn (.diPeriodicPublish now n)
      (fun s => !(!onGrid (10 * ms) s || 64 ≤ n))
      (fun s => publishDi n (diApply n s)))
  ∧ (∀ (now : Nat) (n : Nat), OccursOn (.pulseFrequency now n)
      (fun s => onGrid ms (diApply n s) && ((diApply n s).di n).cfg.mode == 2)
      (fun s => doPulseFrequency n s))
  ∧ (∀ (now : Nat) (n : Nat) (vIn : Rat) (temp : Rat), OccursOn (.wireBreakCheck now n vIn temp)
      (fun s => decide (n < 64) && onGrid ms (diApply n s))
      (fun s => doWireBreak n vIn temp s))
  ∧ (∀ (now : Nat) (n : Nat) (m : AiMeas), OccursOn (.aiConversion now n m)
      (fun s => onGrid ms s && n < 16)
      (fun s => doAiConversion n m s))
  ∧ (∀ (now : Nat) (n : Nat), OccursOn (.aiShuntRetry now n)
      (fun s => (heldFor (s.ai n).shuntOff s.time sec))
      (fun s => modAi n (fun a => { a with shuntOff := none, clearSince := none }) s))
  ∧ (∀ (now : Nat) (n : Nat) (m : DoMeas), OccursOn (.doInstant now n m)
      (fun s => !(!onGrid (10 * us) s || 32 ≤ n || (s.dout n).st == .unconfigured))
      (fun s => withDo n (fun s => moveDo n (senseDo n m s)) (consumeRec (hwSource 0x0A80) (s.handle (256 + n)) s)))
  ∧ (∀ (now : Nat) (n : Nat) (seen : List (Nat × Rat × Rat)), OccursOn (.doTestPulseEnd now n seen)
      (fun s => (s.dout n).st == .testing && (s.dout n).since + 50 * us ≤ s.time && seen.isEmpty)
      (fun s => withDo n (doEnter n .on) s))
  ∧ (∀ (now : Nat) (n : Nat) (seen : List (Nat × Rat × Rat)), OccursOn (.doTestPulseEnd now n seen)
      (fun s => (s.dout n).st == .testing && (s.dout n).since + 50 * us ≤ s.time)
      (fun s => doDoTestPulseEnd n seen s))
  ∧ (∀ (now : Nat) (n : Nat) (amps : Rat) (limiting : Bool), OccursOn (.doTrip now n amps limiting)
      (fun s => ((s.dout n).st == .testing || (s.dout n).st == .on) && ((limiting && heldFor (s.dout n).limitSince s.time (100 * us)) || (s.dout n).overload s.time amps))
      (fun s =>
        withDo n (fun s' =>
                doEnter n (if (s.dout n).retries < 3 then .retryWait else .latched) (modDo n (fun d =>
                  { ((d.setCode 5 false).setCode 6 false).setCode (if limiting && heldFor (s.dout n).limitSince s.time (100 * us) then 6 else 5) true with
                    tripAt := s'.time, limitSince := none }) s')) s))
  ∧ (∀ (now : Nat) (n : Nat), OccursOn (.doRetryExpiry now n)
      (fun s => (s.dout n).st == .retryWait && (s.dout n).tripAt + 10 * ms ≤ s.time && doWant n s && !(s.dout n).forcedSafe)
      (fun s => withDo n (fun s => doEnter n .on (modDo n (fun d => { d with retries := d.retries + 1 }) s)) s))
  ∧ (∀ (now : Nat) (n : Nat), OccursOn (.doRetryReset now n)
      (fun s => (s.dout n).st == .on && (s.dout n).retries != 0 && max (s.dout n).since (s.dout n).tripAt + 100 * ms ≤ s.time)
      (fun s => withDo n (modDo n (fun d => { (d.setCode 5 false).setCode 6 false with retries := 0 })) s))
  ∧ (∀ (now : Nat) (n : Nat) (current : Rat), OccursOn (.doDemagComplete now n current)
      (fun s => (s.dout n).st == .demag && decide (current < 5 / 1000))
      (fun s => doDoDemagComplete n current s))
  ∧ (∀ (now : Nat) (n : Nat) (pin : Rat), OccursOn (.doOffStateCheck now n pin)
      (fun s => ((s.dout n).st == .off || (s.dout n).st == .latched) && heldFor (s.dout n).demagEnd s.time ms)
      (fun s => doDoOffCheck n pin s))
  ∧ (∀ (now : Nat) (k : Nat) (volts : Rat) (limiting : Bool), OccursOn (.supplyEval now k volts limiting)
      (fun s => !(!onGrid (10 * us) s || 4 ≤ k))
      (fun s => doSupplyEval k volts limiting s))
  ∧ (∀ (now : Nat) (k : Nat), OccursOn (.sensorSupplyRetry now k)
      (fun s => heldFor (s.supply k).offAt s.time sec)
      (fun s => { s with fio := { s.fio with supplies := updAt s.fio.supplies k fun x => { x with offAt := none, limitSince := none } } }))

/-- Chapters 12 and 13: satellite positioning and time: each event has the effect that its chapter gives, where it is due. -/
def Obligations.GnsTimEventsOccur : Prop :=
  (∀ (now : Nat) (e : GnssEpoch), OccursOn (.gnssEpoch now e)
      (fun _ => true)
      (fun s => noteLeap e (timGnssEpoch (doGnssEpoch e s))))
  ∧ (∀ (now : Nat), OccursOn (.spoofClearTimer now)
      (fun s => s.gns.spoof != 0 && heldFor s.gns.quietSince s.time (60 * sec))
      (fun s => gnsEvent 5 none 0 { s with gns := { s.gns with spoof := 0 } }))
  ∧ (∀ (now : Nat) (a : Nat) (mA : Rat) (loLocked : Bool) (refDev : Rat), OccursOn (.portStateEval now a mA loLocked refDev)
      (fun s => onGrid ms s && a < 3 && (s.gport a).st != .excluded)
      (fun s => doPortEval a mA loLocked refDev s))
  ∧ (∀ (now : Nat) (a : Nat) (good : Bool), OccursOn (.correlatorSelfTest now a good)
      (fun s => !(3 ≤ a || good || s.gns.cfg.bias.getD a 3 == 3))
      (fun s => excludePort a s))
  ∧ (∀ (now : Nat) (c : Nat) (exceeds : Bool), OccursOn (.dwellComplete now c exceeds)
      (fun s => !((s.gch c).st != 1))
      (fun s =>
        modGch c (fun g => if !exceeds then { g with dwell1 := false } else if g.dwell1 then { g with st := 2, dwell1 := false }
          else { g with dwell1 := true }) s))
  ∧ (∀ (now : Nat) (c : Nat) (pli : Rat), OccursOn (.carrierLockLoss now c pli)
      (fun s => ((s.gch c).st == 4 || (s.gch c).st == 5 || (s.gch c).st == 6) && decide (pli < 7 / 10))
      (fun s => modGch c (fun g => { g with st := 2, lockMs := 0, slip := true, flags := 0, used := false }) s))
  ∧ (∀ (now : Nat) (c : Nat) (u : NavUnit), OccursOn (.navUnit now c u)
      (fun s => decide (u.parity < 2) && 127 < s.gns.cfg.navPart)
      (fun s => { s with gns := { s.gns with ephem := ((systemOf (s.gch c).signal, (s.gch c).svid) :: s.gns.ephem).eraseDups, almanac := true } }))
  ∧ (∀ (now : Nat) (c : Nat) (u : NavUnit), OccursOn (.navUnit now c u)
      (fun s => s.gns.cfg.navPart ≤ 127)
      (fun s => doNavUnit c u s))
  ∧ (∀ (now : Nat) (udp : Nat) (source : Nat) (bytes : List Byte), OccursOn (.rtcmDatagram now udp source bytes)
      (fun s => !(s.gns.cfg.rtcmUdp == 0 || udp != s.gns.cfg.rtcmUdp || !s.gns.cfg.any))
      (fun s => (rtcmFeed (0x100 + source) bytes s).2.2))
  ∧ (∀ (now : Nat) (a : Nat) (band : Nat) (agcDrop : Rat) (cn0Drop : Rat) (noNotch : Bool), OccursOn (.interferenceCheck now a band agcDrop cn0Drop noNotch)
      (fun s => !(3 ≤ a || 4 ≤ band))
      (fun s => doInterference a band agcDrop cn0Drop noNotch s))
  ∧ (∀ (now : Nat) (temp : Rat), OccursOn (.timeStateEval now temp)
      (fun s => !(!onGrid ms s))
      (fun s => doTimeEval temp s))
  ∧ (∀ (now : Nat) (falling : Bool), OccursOn (.ppsInEdge now falling)
      (fun s => !(falling != bitOf s.tim.cfg.ppsPol 2))
      (fun s => doPpsIn falling s))
  ∧ (∀ (now : Nat), OccursOn (.ppsInLost now)
      (fun s => s.tim.ppsIn.any (fun p => decide (p + 1500 * ms ≤ s.time)) && !s.tim.ppsLost)
      (fun s => timEvent 3 0 (modTim (fun t => { t with ppsLost := true, ppsUsable := false, ppsCount := 0 }) s)))
  ∧ (∀ (now : Nat) (k : Nat), OccursOn (.ppsOutEdge now k)
      (fun s => !(2 ≤ k))
      (fun s =>
        let d := if k == 0 then s.tim.cfg.delay0 else s.tim.cfg.delay1
        let at_ := ((s.time : Int) + d).toNat
        if at_ < nextPps k s then s else
        let new := repPhased k s
        modTim (fun t => { t with ppsLast := t.ppsLast.set k (nextPps k s), rephase := if new then t.rephase.set k none else t.rephase
                                  ppsO := if new then t.ppsO.set k t.o else t.ppsO
                                  ppsEdges := (k, s.time, s.time + t.cfg.ppsWidth * ms) :: t.ppsEdges }) s))
  ∧ (∀ (now : Nat) (at_ : Nat) (d : Int), OccursOn (.mappingStep now)
      (fun s => s.tim.step == some (at_, d) && at_ ≤ s.time)
      (fun s => stepMapping d (modTim (fun t => { t with step := none }) s)))
  ∧ (∀ (now : Nat) (g l : Int), OccursOn (.leapSecond now)
      (fun s => s.tim.leapNext == some (g, l) && s.tim.mapped && decide (g * 1000000000 ≤ (s.time : Int) + s.tim.o))
      (fun s => timEvent 2 0 (modTim (fun t => { t with leap := l, leapNext := none, leaps := ((g, t.leap, l) :: t.leaps).take 16 }) s)))
  ∧ (∀ (now : Nat) (m : GptpMsg) (gm : Nat), OccursOn (.gptpMessage now m)
      (fun s => m == .announce gm && gm != s.tim.gm)
      (fun s => timEvent 6 0 (modTim (fun t => { t with gm := gm }) s)))
  ∧ (∀ (now : Nat) (m : GptpMsg) (eth : Nat), OccursOn (.gptpMessage now m)
      (fun s => m == .send eth && bitOf s.tim.cfg.gptpPorts eth)
      (fun s => modTim (fun t => { t with announces := announceOf eth s :: t.announces }) s))
  ∧ (∀ (now : Nat) (m : GptpMsg) (off : Int) (leap : Int) (lock : Bool), OccursOn (.gptpMessage now m)
      (fun s => m == .sync off none leap lock && s.follows)
      (fun s => { s with id := { s.id with managerOffset := off, timeLock := lock } }))
  ∧ (∀ (now : Nat), OccursOn (.epochSetTimeout now)
      (fun _ => true)
      (fun s =>
        let old := s.tim.epochReqs.filter fun r => r.p.time + 2 * sec ≤ s.time
        old.foldl (fun s r => finish r .wrongState [] s)
          (modTim (fun t => { t with epochReqs := t.epochReqs.filter fun r => s.time < r.p.time + 2 * sec }) s)))

/-- Chapters 14 and 15: fusion and camera links: each event has the effect that its chapter gives, where it is due. -/
def Obligations.FusCamEventsOccur : Prop :=
  (∀ (now : Nat) (m : FusInstant), OccursOn (.fusionInstant now m)
      (fun _ => true)
      (fun s => gdeEgo (doFusionInstant m s)))
  ∧ (∀ (now : Nat) (e : PoseEst), OccursOn (.posePublish now e)
      (fun s => !(!onGrid (10 * ms) s || !fusOn s))
      (fun s => doPosePublish e s))
  ∧ (∀ (now : Nat) (lat : Rat) (lon : Rat) (height : Rat), OccursOn (.ga1Prediction now lat lon height)
      (fun s => !(!fusOn s))
      (fun s =>
        let q : Quality := if posePublished s && s.fus.egoQ == .valid then .valid else .masked
        let c := if posePublished s then (poseQC s).2 else 0
        let s := pubVal 467 2 (q64v lat) q c s.time s
        let s := pubVal 468 2 (q64v lon) q c s.time s
        pubVal 469 2 (q64v height) q c s.time s))
  ∧ (∀ (now : Nat) (source : Nat) (stamp : Nat) (dets : List Detection), OccursOn (.detectionBlock now source stamp dets)
      (fun s => fusOn s && source < 8 && (s.fus.sources.getD source {}).kind != 0)
      (fun s => modFus (fun x => { x with blocks := x.blocks ++ [{ stamp := stamp, source := source, src := s.fus.sources.getD source {}, dets := dets }] }) s))
  ∧ (∀ (now : Nat), OccursOn (.trackTimeout now)
      (fun _ => true)
      (fun s =>
        let s := processBlocks s
        modFus (fun x => { x with tracks := x.tracks.map (Track.expire s.time x.cfg.tDrop) }) s))
  ∧ (∀ (now : Nat) (l : Nat) (m : LinkMeas), OccursOn (.linkStateEval now l m)
      (fun s => !(4 ≤ l || !onGrid ms s))
      (fun s => doLinkEval l m s))
  ∧ (∀ (now : Nat) (l : Nat) (k : CsiPacket), OccursOn (.csi2Packet now l k)
      (fun s => decide (l < 4) && (s.link l).st == .up && k.eccBad)
      (fun s => modLink l (fun y => { y with discarded := y.discarded + 1 }) s))
  ∧ (∀ (now : Nat) (l : Nat) (k : CsiPacket) (r : CamRoute), OccursOn (.csi2Packet now l k)
      (fun s => decide (l < 4) && (s.link l).st == .up && !k.eccBad
        && (s.link l).routes.find? (fun r => r.vc == k.vc && r.pipe < 8) == some r && (s.pipe r.pipe).st != .off
        && k.dt == 0)
      (fun s => openFrame r.pipe s))
  ∧ (∀ (now : Nat) (l : Nat) (acked : Nat), OccursOn (.sensorWriteComplete now l acked)
      (fun s => s.cam.writes.any fun w => w.link == l && w.completed.isNone)
      (fun s => doWriteComplete l acked s))
  ∧ (∀ (now : Nat) (k : Nat), OccursOn (.fsyncEdge now k)
      (fun s => (s.cam.fsync.getD k {}).next.isNone && (s.cam.fsync.getD k {}).period != 0
        && onGrid ((s.cam.fsync.getD k {}).period * us) s && (s.cam.fsync.getD k {}).heldUntil ≤ s.time)
      (fun s => doFsyncEdge k s))
  ∧ (∀ (now : Nat) (k : Nat), OccursOn (.resyncRelease now k)
      (fun s => (s.pair k).st == 2 && (s.pair k).releaseAt + 10 * pairPeriod k s ≤ s.time)
      (fun s => modPair k (fun y => { y with retryAt := s.time + 10 * sec }) (pairEnter k 3 s)))
  ∧ (∀ (now : Nat) (k : Nat), OccursOn (.resyncRelease now k)
      (fun s => (s.pair k).st == 2 && s.time < (s.pair k).releaseAt + 10 * pairPeriod k s && (s.pair k).releaseAt ≤ s.time && !(s.pair k).matching)
      (fun s => modPair k (fun y => { y with matching := true, qa := [], qb := [], hits := 0 }) s))
  ∧ (∀ (now : Nat) (res : VaResult), OccursOn (.vaJobComplete now res)
      (fun s => s.cam.running.any fun j => j.1 != 8)
      (fun s => doVaComplete res s))
  ∧ (∀ (now : Nat) (res : VaResult), OccursOn (.vaJobComplete now res)
      (fun s => s.cam.running.any fun j => j.1 == 8)
      (fun s => doJobComplete res s))
  ∧ (∀ (now : Nat) (l : Nat), OccursOn (.pocOvercurrent now l)
      (fun s => (s.link l).poc && (s.link l).pocTrip.isNone)
      (fun s => doPocTrip l s))
  ∧ (∀ (now : Nat) (l : Nat), OccursOn (.pocRetry now l)
      (fun _ => true)
      (fun s => modLink l (fun x => if x.pocTrip.any (· + sec ≤ s.time) then { x with pocTrip := none } else x) s))

/-- Chapter 16: machine bus ports: each event has the effect that its chapter gives, where it is due. -/
def Obligations.CanEventsOccur : Prop :=
  (∀ (now : Nat) (c : Nat) (partition : Nat) (word : Nat) (value : Nat), OccursOn (.canTxreq now c partition word value)
      (fun s => !(12 ≤ c || 4 ≤ word))
      (fun s => bitmapWrite c partition word value (fun b s => txRequest c b s) s))
  ∧ (∀ (now : Nat) (c : Nat) (partition : Nat) (word : Nat) (value : Nat), OccursOn (.canTxabort now c partition word value)
      (fun s => !(12 ≤ c || 4 ≤ word))
      (fun s => bitmapWrite c partition word value (fun b s => txAbort c b s) s))
  ∧ (∀ (now : Nat) (ch : Nat) (f : CanFrame), OccursOn (.canFrameReceived now ch f)
      (fun s => decide (ch < 12) && (s.canCh ch).st.on)
      (fun s => receiveFrame ch f s))
  ∧ (∀ (now : Nat) (c : Nat), OccursOn (.arbitrationStart now c)
      (fun s => !(12 ≤ c || !(s.canCh c).st.on || (s.canCh c).cfg.mode != 0 || (s.canCh c).bufs.any (fun b => b.tx == .active)))
      (fun s => doArbitration c s))
  ∧ (∀ (now : Nat) (c : Nat) (a : TxAttempt), OccursOn (.txAttemptEnd now c a)
      (fun s => (s.canCh c).bufs.any fun b => b.tx == .active)
      (fun s => doAttemptEnd c a s))
  ∧ (∀ (now : Nat) (c : Nat) (b : Nat), OccursOn (.deadlineExpiry now c b)
      (fun s => ((s.canBuf c b).tx == .pending || (s.canBuf c b).tx == .stranded) && (s.canBuf c b).deadline != 0 && (s.canBuf c b).deadline ≤ s.time && onGrid (10 * us) s)
      (fun s => txEnd c b .expired s))
  ∧ (∀ (now : Nat) (c : Nat), OccursOn (.recoveryDelayExpiry now c)
      (fun s => (s.canCh c).st == .busOff && (s.canCh c).cfg.recovery == 0 && (s.canCh c).busOffAt + (s.canCh c).cfg.recoveryDelay * ms ≤ s.time)
      (fun s => canEnter c .recovering s))
  ∧ (∀ (now : Nat) (c : Nat), OccursOn (.recoveryComplete now c)
      (fun s => ((s.canCh c).st == .recovering))
      (fun s => canEnter c .errorActive s))
  ∧ (∀ (now : Nat) (c : Nat), OccursOn (.alonePace now c)
      (fun _ => true)
      (fun s => modCan c (fun x => if x.alone && x.aloneAt.any (· + 100 * ms ≤ s.time) then { x with aloneAt := none } else x) s))
  ∧ (∀ (now : Nat) (c : Nat) (good : Bool), OccursOn (.canSelfTest now c good)
      (fun s => !(good || 12 ≤ c))
      (fun s => canEnter c .excluded s))
  ∧ (∀ (now : Nat) (c : Nat) (w : WakeSeen), OccursWhen (.canWake now c w)
      (fun s => (s.canCh c).st == .sleep && (wakeBy c (s.canCh c) w).1)
      (fun s => fireWake 1 (doCanWake c w s)))
  ∧ (∀ (now : Nat) (c : Nat) (w : WakeSeen), OccursWhen (.canWake now c w)
      (fun s => !((s.canCh c).st == .sleep && (wakeBy c (s.canCh c) w).1))
      (fun s => doCanWake c w s))
  ∧ (∀ (now : Nat) (c : Nat) (trigger : Nat), OccursOn (.ttTrigger now c trigger)
      (fun s => ((s.canCh c).tt.bind fun t => t.triggers[trigger]?).isSome && ttOn c s && (s.canCh c).ttRun && (s.canCh c).st.on)
      (fun s => doTtTrigger c trigger s))
  ∧ (∀ (now : Nat) (c : Nat) (r : TtRef) (n prio : Nat), OccursOn (.ttReference now c r)
      (fun s => r == .received n prio && (s.canCh c).tt.isSome && ttOn c s && (s.canCh c).st.on)
      (fun s =>
        modCan c (fun x => { x with
                ttRun := true, cycleCount := n % 64, cycleAt := s.time, otherMaster := prio < s.tim.cfg.ttcanPrio }) s))
  ∧ (∀ (now : Nat) (c : Nat) (r : TtRef), OccursOn (.ttReference now c r)
      (fun s => (s.canCh c).tt.isSome && ttOn c s && (s.canCh c).st.on)
      (fun s => doTtReference c r s))
  ∧ (∀ (now : Nat) (c : Nat) (m : ClaimMsg), OccursOn (.addressClaimMessage now c m)
      (fun s => m == .request && (s.canCh c).claim.isSome && (s.canCh c).st.on)
      (fun s => sendClaim c s))
  ∧ (∀ (now : Nat) (c : Nat) (m : ClaimMsg), OccursOn (.addressClaimMessage now c m)
      (fun s => (s.canCh c).claim.isSome && (s.canCh c).st.on)
      (fun s => doClaimMsg c m s))
  ∧ (∀ (now : Nat) (c : Nat) (dominantAfterFlag : Bool), OccursOn (.receiveError now c dominantAfterFlag)
      (fun s => !(12 ≤ c || !(s.canCh c).st.on))
      (fun s => errState c (modCan c (fun x => { x with rec_ := min 255 (x.rec_ + (if dominantAfterFlag then 8 else 1)) }) s)))
  ∧ (∀ (now : Nat) (c : Nat), OccursOn (.recessiveBitsDetected now c)
      (fun s => ((s.canCh c).joining))
      (fun s => canEnter c .errorActive s))

/-- Chapter 17: fleet coordination: each event has the effect that its chapter gives, where it is due. -/
def Obligations.FltEventsOccur : Prop :=
  (∀ (now : Nat), OccursOn (.exchangeInstant now)
      (fun s => !(!fltNow s))
      (fun s =>
        if !fltOn s then fltStartDue s else
        let s := if s.flt.appliedAt == some s.time then s else fltApply s
        let s := fltStartDue s
        let s := (List.range 16).foldl (fun s m => memberStep false m s) s
        modFlt (fun f => { f with doneAt := f.appliedAt }) (fltSend (unlPublish (unlStep s)))))
  ∧ (∀ (now : Nat) (ip : Nat) (addr : List Byte) (d : FleetDatagram), OccursOn (.fleetDatagram now ip addr d)
      (fun s => !(!fltOn s))
      (fun s =>
        let x := s.member d.sender
        let n := if ip == 4 then 4 else 16
        let known := d.sender < 16 && x.kind != 0 && x.ip == ip && x.addr.take n == addr.take n && x.session
        if !known || d.massif != s.flt.cfg.massif || d.magic != 0x464D424F || d.version != 1 || d.records.isEmpty || 64 < d.records.length then
          modFlt (fun f => { f with discarded := f.discarded + 1 }) s
        else
          let s := modMember d.sender (fun x => { x with heard := s.time, seen := true }) s
          if timeFree s then s
          else modFlt (fun f => { f with received := f.received ++ d.records.map fun r => (d.sender, s.time, r) }) s))
  ∧ (∀ (now : Nat) (m : Nat), OccursOn (.dtlsHandshake now m)
      (fun s => !(!fltOn s || s.sum.randomFault || s.id.summitLost || 16 ≤ m || (s.member m).kind == 0 || s.flt.key.isNone))
      (fun s => modMember m (fun x => { x with session := true, seq := 1 }) s))
  ∧ (∀ (now : Nat), OccursOn (.memberTimeout now)
      (fun s => (fltOn s))
      (fun s => (List.range 16).foldl (fun s m => memberStep true m s) s))
  ∧ (∀ (now : Nat), OccursOn (.grantTimeout now)
      (fun s => fltOn s && fltNow s)
      (fun s => grantTimeout (fltStartDue (fltBefore s))))
  ∧ (∀ (now : Nat), OccursOn (.lostHoldExpiry now)
      (fun s => fltOn s && fltNow s)
      (fun s => lostHold (fltStartDue (fltBefore s))))
  ∧ (∀ (now : Nat), OccursOn (.hazardExpiry now)
      (fun s => !(timeFree s))
      (fun s => modFlt (fun f => { f with hazards := f.hazards.filter fun x => decide (gpsNow s < x.expiry) }) s))

/-- Chapter 18: compute islands and redundancy: each event has the effect that its chapter gives, where it is due. -/
def Obligations.ColEventsOccur : Prop :=
  (∀ (now : Nat) (n : Nat), OccursOn (.periodStart now n)
      (fun s => startsNow n s)
      (fun s => doPartitionPeriod n s))
  ∧ (∀ (now : Nat) (n : Nat) (value : Nat) (execUs : Nat), OccursOn (.doneWrite now n value execUs)
      (fun s => (s.part n).st == .running && (s.part n).inPeriod && value == (s.part n).periodNo)
      (fun s => s.setPart n { s.part n with inPeriod := false, committing := true, maxExec := max (s.part n).maxExec execUs }))
  ∧ (∀ (now : Nat) (n : Nat), OccursOn (.commitComplete now n)
      (fun s => (s.part n).committing)
      (fun s => doCommitComplete n s))
  ∧ (∀ (now : Nat) (ready : Bool), OccursOn (.releaseBoundary now ready)
      (fun _ => true)
      (fun s =>
        roleBoundary ready ((s.col.parts.map (·.1)).foldl (fun s n => settleRun n s)
                ((s.col.parts.map (·.1)).foldl (fun s n => releasePart n s) s))))
  ∧ (∀ (now : Nat) (n : Nat), OccursOn (.wcetExpiry now n)
      (fun s => ((s.part n).inPeriod))
      (fun s => overrun n s))
  ∧ (∀ (now : Nat) (pairs : List Nat), OccursOn (.pairFault now pairs)
      (fun _ => true)
      (fun s => (sortBy (fun a b => decide (a ≤ b)) pairs).foldl (fun s q => pairFault q s) s))
  ∧ (∀ (now : Nat) (pair : Nat), OccursOn (.restoreComplete now pair)
      (fun s => s.col.restoring.any fun e => e.1 == pair)
      (fun s => doRestoreComplete pair s))
  ∧ (∀ (now : Nat) (pair : Nat) (good : Bool), OccursOn (.spareCheck now pair good)
      (fun s => !(good || s.col.pairs.getD pair .excluded != .spare))
      (fun s => pairFault pair s))
  ∧ (∀ (now : Nat) (m : MirrorRecord), OccursOn (.commitMirrorReceived now m)
      (fun s => !(!(s.id.role == .deputy || s.id.role == .displaced)))
      (fun s =>
        let s := doMirrorReceived m s
        let s := match m.couloir with
          | some x => modCul (fun c => { c with mirror := some x }) s
          | none => s
        m.tiles.foldl (fun s c => holdTile c s) (holdField m.field s)))
  ∧ (∀ (now : Nat), OccursOn (.heartbeatSend now)
      (fun s => s.acting && !(s.id.clockFail || s.pwr.saving || s.pwr.st == .off || s.pwr.st == .sleep))
      (fun s => { s with col := { s.col with hbOut := { time := s.time, notice := false } :: s.col.hbOut } }))
  ∧ (∀ (now : Nat), OccursOn (.heartbeatSend now)
      (fun s => !s.acting)
      (fun s => { s with col := { s.col with lastHeartbeat := some s.time } }))
  ∧ (∀ (now : Nat), OccursOn (.failureNotice now)
      (fun _ => true)
      (fun s => managerGone s))
  ∧ (∀ (now : Nat), OccursOn (.managerLost now)
      (fun s => (s.col.lastHeartbeat.any fun t => decide (t + 500 * us ≤ s.time)))
      (fun s => managerGone s))
  ∧ (∀ (now : Nat) (reports : List PeerReport), OccursOn (.peerDiscovery now reports)
      (fun s => s.id.index.isSome)
      (fun s => doPeers reports s))

/-- Chapters 19 to 21: memory, DMA and Cairn: each event has the effect that its chapter gives, where it is due. -/
def Obligations.MemDmaCrnEventsOccur : Prop :=
  (∀ (now : Nat) (line : Nat) (pat : List (Nat × Nat)) (bits : Nat), OccursOn (.scrubRead now line pat bits)
      (fun s => areaOf (lineOf line) == .sram || areaOf (lineOf line) == .mram || (areaOf (lineOf line) == .dram && !s.pwr.scrubPaused))
      (fun s => withMarks [lineOf line] (fun s => doScrubRead line pat bits s) s))
  ∧ (∀ (now : Nat), OccursOn (.scrubDue now)
      (fun s => !s.mem.scrubLate && passOverdue s)
      (fun s => memEvent 7 none none none 0xFE none 0 { s with mem := { s.mem with scrubLate := true } }))
  ∧ (∀ (now : Nat) (c : Nat) (n : Nat), OccursOn (.dmaStart now c n)
      (fun s => !ownsCh c n s || (s.dch c).st == .running || (s.dch c).st == .idleAtTail)
      (fun s => dmaAccessFault s))
  ∧ (∀ (now : Nat) (c : Nat) (n : Nat), OccursOn (.dmaStart now c n)
      (fun s => ownsCh c n s && !((s.dch c).st == .running || (s.dch c).st == .idleAtTail) && (s.dch c).enabled)
      (fun s => fetchDesc c (s.dch c).head (modCh c (fun x => { x with cause := 0, prevCrc := none }) s)))
  ∧ (∀ (now : Nat) (c : Nat) (n : Nat), OccursOn (.dmaAbort now c n)
      (fun s => !ownsCh c n s)
      (fun s => dmaAccessFault s))
  ∧ (∀ (now : Nat) (c : Nat) (n : Nat), OccursOn (.dmaAbort now c n)
      (fun s => ownsCh c n s && ((s.dch c).st == .running || (s.dch c).st == .idleAtTail))
      (fun s => modCh c (fun x => { x with st := .stopped, desc := none }) s))
  ∧ (∀ (now : Nat) (c : Nat) (n : Nat), OccursOn (.chDoorbell now c n)
      (fun s => !ownsCh c n s)
      (fun s => dmaAccessFault s))
  ∧ (∀ (now : Nat) (c : Nat) (n : Nat), OccursOn (.chDoorbell now c n)
      (fun s => ownsCh c n s && (s.dch c).st == .running)
      (fun s => modCh c (fun x => { x with doorbellPending := true }) s))
  ∧ (∀ (now : Nat) (c : Nat) (n : Nat), OccursOn (.chDoorbell now c n)
      (fun s => ownsCh c n s && (s.dch c).st == .idleAtTail)
      (fun s => tailReread c s))
  ∧ (∀ (now : Nat) (ch : Nat), OccursOn (.descriptorComplete now ch)
      (fun s => (s.dch ch).desc.isSome && (s.dch ch).st == .running)
      (fun s => withMarks [] (fun s => doDescriptorComplete ch s) s))
  ∧ (∀ (now : Nat), OccursWhen (.cairnEventAccept now)
      (fun s => !s.crn.raised.isEmpty)
      (fun s => doEventAccept s))
  ∧ (∀ (now : Nat), OccursWhen (.recordWritten now)
      (fun s => !(!s.crn.mounted || !s.summitOn))
      (fun s =>
        match s.crn.queue with
        | [] => s
        | q :: rest =>
          let s := writeRecord q.ev.code q.ev.source q.ev.payload q.ev.moduleTime q.opTime { s with crn := { s.crn with queue := rest } }
          if s.crn.dropsToReport != 0 && s.crn.queue.length < 128 then
            let n := s.crn.dropsToReport
            crnEvent 2 0xFF n ((s.crn.seq + 1) % 2 ^ 32) crnUnit { s with crn := { s.crn with dropsToReport := 0 } }
          else s))
  ∧ (∀ (now : Nat) (k : Nat), OccursWhen (.cursorTimeout now k)
      (fun s => (s.crn.cursors.getD k none).any fun c => decide (c.lastRead + 600 * sec ≤ s.time))
      (fun s => { s with crn := { s.crn with cursors := s.crn.cursors.set k none } }))
  ∧ (∀ (now : Nat) (a : MemAccess), OccursOn (.memoryAccess now a)
      (fun _ => true)
      (fun s => withMarks [lineOf a.addr] (fun s => doAccess a s) s))
  ∧ (∀ (now : Nat) (ch : Nat), OccursOn (.halfCompletion now ch)
      (fun s => (s.dch ch).desc.isSome && (s.dch ch).st == .running && !(s.dch ch).halfDone)
      (fun s => withMarks [] (fun s => doHalf ch s) s))

/-- Chapters 22 and 23: update and power: each event has the effect that its chapter gives, where it is due. -/
def Obligations.UpdPwrEventsOccur : Prop :=
  (∀ (now : Nat), OccursOn (.pieceBufferTimeout now)
      (fun _ => true)
      (fun s => modUpd (fun u => { u with bufs := u.bufs.filter fun x => decide (s.time < x.last + 60 * sec) }) s))
  ∧ (∀ (now : Nat) (good : Bool), OccursOn (.componentInstalled now good)
      (fun s => !s.id.summitLost && s.upd.st == .installing && !s.upd.queue.isEmpty && s.upd.manifest.isSome)
      (fun s => doComponent good s))
  ∧ (∀ (now : Nat), OccursOn (.rollbackRaise now)
      (fun s => s.upd.st == .committing && s.upd.manifest.isSome && !s.id.summitLost && s.pwr.ready && s.pwr.selftest == 0 && s.upd.active.image == s.upd.image
        && (!updManager s || s.id.peers.all fun p => p.image == s.upd.active.image))
      (fun s => doRollbackRaise s))
  ∧ (∀ (now : Nat) (managerImage : Nat), OccursOn (.pendingResolve now managerImage)
      (fun s => !(updManager s || s.id.summitLost))
      (fun s => doPendingResolve managerImage s))
  ∧ (∀ (now : Nat), OccursWhen (.powerStepComplete now)
      (fun s => s.pwr.move.isSome && s.pwr.st == .standby)
      (fun s => doStepComplete s))
  ∧ (∀ (now : Nat), OccursWhen (.powerStepComplete now)
      (fun s => s.pwr.st == .idle && s.pwr.move.any (fun m => decide (m.target.code < 3)) && (runningParts s).isEmpty)
      (fun s => runMove 6 s))
  ∧ (∀ (now : Nat), OccursOn (.drainEnd now)
      (fun s => (draining s && drained s))
      (fun s => endDrain s))
  ∧ (∀ (now : Nat), OccursOn (.drainTimeout now)
      (fun s => (draining s && s.pwr.move.any (fun m => m.drainUntil.any fun t => decide (t ≤ s.time))))
      (fun s => endDrain s))
  ∧ (∀ (now : Nat) (source : Nat), OccursWhen (.wake now source)
      (fun _ => true)
      (fun s => fireWake source s))
  ∧ (∀ (now : Nat) (rising : Bool), OccursWhen (.ignEdge now rising)
      (fun s => rising && s.pwr.st != .off)
      (fun s => fireWake 2 (reportEdge 7 true (modPwr (fun p => { p with ign := true }) s))))
  ∧ (∀ (now : Nat) (rising : Bool), OccursWhen (.ignEdge now rising)
      (fun s => !rising && s.pwr.st != .off)
      (fun s => reportEdge 7 false (modPwr (fun p => { p with ign := false }) s)))
  ∧ (∀ (now : Nat) (rising : Bool), OccursWhen (.wakeEdge now rising)
      (fun s => rising && s.pwr.st != .off)
      (fun s => fireWake 3 (reportEdge 8 true (modPwr (fun p => { p with wake := true }) s))))
  ∧ (∀ (now : Nat) (rising : Bool), OccursWhen (.wakeEdge now rising)
      (fun s => !rising && s.pwr.st != .off)
      (fun s => reportEdge 8 false (modPwr (fun p => { p with wake := false }) s)))
  ∧ (∀ (now : Nat), OccursWhen (.summitAlarm now)
      (fun s => (s.pwr.st == .sleep && s.pwr.alarmAt.any fun t => decide (t ≤ s.time)))
      (fun s => fireWake 4 s))
  ∧ (∀ (now : Nat) (r : SelfTest), OccursWhen (.ready now r)
      (fun _ => true)
      (fun s => restartIfDue (doReady r s)))
  ∧ (∀ (now : Nat) (a : PathMeas) (b : PathMeas), OccursWhen (.logicPathEval now a b)
      (fun _ => true)
      (fun s => doPathEval a b s))
  ∧ (∀ (now : Nat) (ended : Nat) (records : Nat), OccursWhen (.supplyFailure now ended records)
      (fun s => !(s.pwr.st == .off || !supplyFailed s))
      (fun s =>
        let main := s.mainOn
        let s := modPwr (fun p => { p with saving := true, modReady := false }) s
        let s := if main then outputsSafe (sendNotice (discardAll s)) else s
        if s.id.summitLost then enterOff s else
        let s := updSave (endAllForces s)
        let s := if main || s.pwr.ready then
            (if 1 ≤ ended then writeCheckpoints s else modPwr (fun p => { p with saveComplete := false }) s) else s
        let s := if ended == 0 then { s with crn := { s.crn with closed := true, raised := [], queue := [] } }
          else saveCairn (if 2 ≤ ended then none else some records) s
        enterOff (modPwr (fun p => { p with saveComplete := decide (3 ≤ ended) && p.ready }) s)))
  ∧ (∀ (now : Nat) (volts : Rat) (mf : Rat) (charger : Bool), OccursWhen (.bankMeasurement now volts mf charger)
      (fun s => !(s.pwr.st == .off || s.id.summitLost))
      (fun s =>
        let p := s.pwr
        let late := decide (p.chargeStart + 5 * sec ≤ s.time)
        let measure := decide (48 ≤ volts) || (late && decide (44 ≤ volts)) || p.bankMeasured
        let new : BankSt :=
          if p.bank == .fault || !charger || (late && decide (volts < 44)) then .fault
          else if measure then (if decide (mf < 19 / 5) then .fault else if decide (44 ≤ volts) then .ready else .charging)
          else .charging
        let s := modPwr (fun p => { p with bankV := volts, bankMf := if measure then mf else p.bankMf, bankMeasured := measure, bank := new }) s
        if new == p.bank then s else pwrEvent 4 0xFF new.code 0 s))
  ∧ (∀ (now : Nat) (w : Rat), OccursWhen (.thermalBudget now w)
      (fun s => !(!s.summitOn))
      (fun s => limitStep (modPwr (fun p => { thermalStep w s.sum.tb p with baseplate := s.sum.tb }) s)))
  ∧ (∀ (now : Nat), OccursOn (.limitInsufficient now)
      (fun s => heldFor s.pwr.overSince s.time (10 * sec) && !s.pwr.limitSent)
      (fun s => pwrEvent 9 0xFF 0 0 (modPwr (fun p => { p with limitSent := true }) s)))

/-- Chapter 24: Summit: each event has the effect that its chapter gives, where it is due. -/
def Obligations.SumEventsOccur : Prop :=
  (∀ (now : Nat) (count : Nat), OccursWhen (.clockWindow now count)
      (fun s => !(s.id.summitLost || !s.mainOn))
      (fun s =>
        let bad := count + 300 < 600000 || 600300 < count
        let n := if bad then s.id.badWindows + 1 else 0
        let s := modId (fun d => { d with badWindows := n }) (modSum (fun m => { m with lclk := count }) s)
        if 3 ≤ n then clockFailure s else s))
  ∧ (∀ (now : Nat), OccursWhen (.pllLossOfLock now)
      (fun s => !(s.id.summitLost || !s.mainOn))
      (fun s => clockFailure s))
  ∧ (∀ (now : Nat) (v : Nat) (i : Nat), OccursWhen (.strapRead now v)
      (fun s => s.id.index == some i && !s.id.summitLost && v % 8 != i && s.id.straps != some (v % 8))
      (fun s => cairn 0x0182 0x70 (le 1 i ++ le 1 (v % 8) ++ zeros 2) (modId (fun d => { d with straps := some (v % 8), strapChanged := true }) s)))
  ∧ (∀ (now : Nat) (arrived : Bool), OccursWhen (.summitHeartbeat now arrived)
      (fun s => s.mainOn && arrived)
      (fun s => stopMove (modSum (fun m => { m with heartbeat := s.time }) s)))
  ∧ (∀ (now : Nat) (arrived : Bool), OccursWhen (.summitHeartbeat now arrived)
      (fun s => s.mainOn && !arrived && s.sum.heartbeat + 10 * ms ≤ s.time)
      (fun s => stopMove (sumExclude s)))
  ∧ (∀ (now : Nat) (count : Nat), OccursWhen (.summitOscCheck now count)
      (fun s => s.mainOn && !s.id.summitLost && s.tim.st == .locked && (count + 10000 < 50000000 || 50010000 < count))
      (fun s =>
        stopMove (let u := modSum (fun m => { m with oscBad := s.sum.oscBad + 1 }) s
                if 3 ≤ s.sum.oscBad + 1 then sumExclude u else u)))
  ∧ (∀ (now : Nat) (count : Nat), OccursWhen (.summitOscCheck now count)
      (fun s => s.mainOn && !s.id.summitLost && !(s.tim.st == .locked && (count + 10000 < 50000000 || 50010000 < count)))
      (fun s => stopMove (modSum (fun m => { m with oscBad := 0 }) s)))
  ∧ (∀ (now : Nat) (m : HealthMeas), OccursWhen (.healthPublish now m)
      (fun s => !(!s.summitOn))
      (fun s =>
        let s := (List.range 24).foldl (fun s i => sensorRead i (m.temps.getD i none) s) s
        let s := tempHoldStep (humStep m.rh (baseStep { s with pwr := { s.pwr with bankV := m.bankV } }))
        if s.mainOn then healthPublish m s else s))
  ∧ (∀ (now : Nat) (x : Rat) (y : Rat) (z : Rat) (peak : Rat) (us : Nat), OccursWhen (.shockEvent now x y z peak us)
      (fun s => !(!s.summitOn || us < 500 || decide (peak ≤ f32d s.sum.cfg.shockThr)))
      (fun s =>
        let b := fun (v : Rat) => le 4 (qf32 v).toNat
        let s := cairn 0x1781 0x70 (b x ++ b y ++ b z ++ le 4 us) s
        sumEvent 3 0xFF 1 sumUnit (qf32 peak) (modSum (fun m => { m with shocks := m.shocks + 1, shockPeak := qf32 peak }) s)))
  ∧ (∀ (now : Nat) (rh : Rat), OccursWhen (.humidityAlert now rh)
      (fun s => s.summitOn)
      (fun s => humStep rh s))
  ∧ (∀ (now : Nat), OccursWhen (.randomSourceFault now)
      (fun s => !(!s.summitOn || s.sum.randomFault))
      (fun s => sumEvent 8 0xFF 1 sumUnit 0 (modSum (fun m => { m with randomFault := true }) s)))
  ∧ (∀ (now : Nat) (r : Nat), OccursWhen (.regionRecompose now r)
      (fun s => !(s.id.summitLost || 3 < r || !regionOn r s))
      (fun s =>
        let c := regionShows r s
        if c == (s.region r).composed then s else queueRegion r { content := c } s))
  ∧ (∀ (now : Nat) (frame : Nat) (bias : Bool), OccursWhen (.waveformStart now frame bias)
      (fun s => !(s.sum.retryAt.isSome))
      (fun s => startWaveform frame bias s))
  ∧ (∀ (now : Nat) (r : Nat) (clean : Bool), OccursWhen (.waveformComplete now)
      (fun s => s.summitOn && s.sum.busy == some (r, clean) && (s.region r).started.any (fun t => decide (t + waveTime r clean ≤ s.time)))
      (fun s => doWaveformComplete s))
  ∧ (∀ (now : Nat) (frame : Nat) (bias : Bool), OccursWhen (.biasRetry now frame bias)
      (fun s => (s.sum.retryAt.any fun t => decide (t ≤ s.time)))
      (fun s => startWaveform frame bias s))

end
end

