-- ==== Sys2Proof/Laws/Command.lean ====
section
/-! SUPPORT. What the row of a packet command does once its packet is taken. -/
namespace Sys2Proof.Machine

/-- The gate keeps the opcode of its row. -/
theorem gateRest_op {r r' : Req} {s s' : State} (h : gateRest r s = .go r' s') : r' = r := by
  unfold gateRest at h
  simp only at h
  repeat' split at h
  all_goals first
    | (cases h; rfl)
    | cases h

theorem gateAuth_op {r r' : Req} {c : Nat} {s s' : State} (h : gateAuth r c s = .go r' s') : r'.op = r.op := by
  unfold gateAuth at h
  have hf : ∀ (r' : Req) (s' : State), gateAuth.fail r s ≠ .go r' s' := by
    intro r' s' hh
    simp only [gateAuth.fail, refuse] at hh
    split at hh <;> simp at hh
  split at h
  · split at h
    · split at h
      · rw [gateRest_op h]
      · exact absurd h (hf _ _)
    · exact absurd h (hf _ _)
  · exact absurd h (hf _ _)

theorem gate_op {op : Op} {p : Packet} {r : Req} {s s' : State} (h : gate op p s = .go r s') : r.op = op := by
  unfold gate gateCode at h
  simp only at h
  split at h
  · simp at h
  · repeat' split at h
    all_goals cases h
  · repeat' split at h
    all_goals first
      | (simp [refuse] at h; done)
      | exact gateAuth_op h
      | (rw [gateRest_op h])

/-- A single request wins. -/
theorem arbitrate_one (res : Nat) (x : Nat × Nat) (s : State) : (arbitrate res [x] s).1 = some x.1 := by
  obtain ⟨i, q⟩ := x
  have h : (List.foldl (fun m (r : Nat × Nat) => max m r.2) 0 [(i, q)]) = q := by simp
  simp only [arbitrate, h]
  simp [sortBy, insertBy]
  split <;> rfl

/-- The dispatcher takes a packet that has arrived alone. -/
theorem nextArrived_one {x : Op × Packet} {s : State} (h : s.sys.arrived = [x]) : nextArrived s = some x := by
  unfold nextArrived
  simp only [h]
  cases hc : contender s x with
  | none => simp [List.find?, hc]
  | some c => simp [List.find?, hc, arbitrate_one]

/-- A packet that meets no other is taken as it arrives. -/
theorem arrive_alone {op : Op} {p : Packet} {s : State} (ha : s.sys.arrived = []) (hm : moreNow s = false) :
    arrive op p s = takePacket op p s := by
  have hs : { s with sys := { s.sys with arrived := [] } } = s := by rw [← ha]
  unfold arrive dispatch
  simp only [ha, List.nil_append]
  have hm2 : moreNow { s with sys := { s.sys with arrived := [(op, p)] } } = false := hm
  rw [hm2]
  simp only [Bool.false_eq_true, if_false, List.length_singleton]
  unfold dispatchN
  rw [nextArrived_one (s := { s with sys := { s.sys with arrived := [(op, p)] } }) (x := (op, p)) rfl]
  simp only [List.erase_cons_head, hs]
  rfl

/-- An admitted packet that nothing holds up starts. -/
theorem admitted_run {op : Op} {p : Packet} {r : Req} {s t : State} (h : admitted op p s = some (r, t)) :
    r.op = op ∧ runCmd op p s = startWaiting 129 (start r t) := by
  unfold admitted at h
  simp only at h
  split at h
  · simp at h
  rename_i hc
  split at h
  · simp at h
  rename_i r1 s1 hg
  split at h
  · simp at h
  rename_i hch
  split at h
  · simp at h
  rename_i s2 hrate
  split at h
  · simp at h
  rename_i hheld
  simp only [Option.some.injEq, Prod.mk.injEq] at h
  obtain ⟨rfl, rfl⟩ := h
  have hop := gate_op hg
  refine ⟨hop, ?_⟩
  simp only [Bool.or_eq_true, not_or, Bool.not_eq_true] at hch hheld
  obtain ⟨hcol, hblk⟩ := hheld
  have hadm : takePacket op p (tick p.time s) = startWaiting 129 (start r1 s2) := by
    unfold takePacket
    rw [hg]
    simp only [admitCmd]
    rw [if_neg (by simp [hch.1]), hrate]
    simp only
    have hn : (enterChain r1 s1).1.prev = none := by
      cases hx : (enterChain r1 s1).1.prev with
      | none => rfl
      | some x => simp [hx] at hch
    rw [hn]
    simp only [Option.isSome_none, Bool.false_eq_true, if_false]
    rw [if_neg (by simp [hcol])]
    by_cases hw : waitsSample r1 s2 = true
    · rw [if_pos hw]; simp only [start, if_pos hw]
    · rw [if_neg hw, if_neg (by simp [hblk])]
  simp only [Bool.or_eq_true, not_or, Bool.not_eq_true] at hc
  obtain ⟨⟨⟨hreach, hrep⟩, harr⟩, hmore⟩ := hc
  have harr2 : (tick p.time s).sys.arrived = [] := by simpa using harr
  have halone := arrive_alone (op := op) (p := p) harr2 hmore
  unfold runCmd
  simp only
  rw [if_neg (by simp [hreach]), ← hadm, ← halone]
  split
  · rename_i n hv
    have hr : replay op p n (tick p.time s) = (none, tick p.time s) := by
      unfold replay
      simp only
      rw [if_pos]
      unfold replays at hrep
      rw [hv] at hrep
      simp only at hrep
      rw [hrep]
      rfl
    rw [hr]
  · rfl

/-- A taken packet is admitted, and waits for no sample. -/
theorem taken_admitted {op : Op} {p : Packet} {r : Req} {s t : State} (h : taken op p s = some (r, t)) :
    admitted op p s = some (r, t) ∧ waitsSample r t = false := by
  simpa [taken, Option.filter_eq_some_iff] using h

/-- A taken packet starts at once: its own rules decide. -/
theorem taken_run {op : Op} {p : Packet} {r : Req} {s t : State} (h : taken op p s = some (r, t)) :
    r.op = op ∧ runCmd op p s = startWaiting 129 (afterCommand r.op (settle r (effOf r t))) := by
  obtain ⟨ha, hw⟩ := taken_admitted h
  obtain ⟨hop, hr⟩ := admitted_run ha
  exact ⟨hop, by rw [hr, start, if_neg (by simp [hw])]⟩

/-- Time that has come does not come again. -/
theorem tick_tick (t : Nat) (s : State) : tick t (tick t s) = tick t s := by simp [tick]

/-- The row of a taken command. -/
theorem command_taken {op : Op} {p : Packet} {r : Req} {s t : State} (h : taken op p s = some (r, t)) :
    r.op = op ∧ command op p s = .next (after p r (effOf r t) s) := by
  have h2 : taken op p (tick p.time s) = some (r, t) := by
    rw [← h]; unfold taken admitted; simp only [tick_tick]
  obtain ⟨hop, hr⟩ := taken_run h2
  exact ⟨hop, by simp only [command, within, after, hr]⟩

/-- The row of a command that waits for its sample. -/
theorem command_waits {op : Op} {p : Packet} {r : Req} {s t : State} (h : admitted op p s = some (r, t)) (hw : waitsSample r t = true) :
    command op p s = .next { startWaiting 129 (awaitSample r t) with time := max s.time p.time, pending := s.pending } := by
  have h2 : admitted op p (tick p.time s) = some (r, t) := by
    rw [← h]; unfold admitted; simp only [tick_tick]
  obtain ⟨-, hr⟩ := admitted_run h2
  simp only [command, within, hr, start, hw, if_true]

/-- A command completes where its own rules answer so. -/
theorem does_of {op : Op} {i : Packet → Instr} {C : Req → State → Bool} {E : Req → State → Res × State → Prop}
    (hi : ∀ p s, exec (i p) s = command op p s) (h : ∀ r t, r.op = op → C r t = true → E r t (effOf r t)) : Does op i C E := by
  intro p s r t ht hc
  obtain ⟨hop, hx⟩ := command_taken ht
  exact ⟨effOf r t, by rw [hi, hx], h r t hop hc⟩

/-- A command with none of its refusals runs. -/
theorem check_permitted {s : State} {cs : List (Bool × Status)} {k : Unit → Res × State} (h : permitted cs = true) : check s cs k = k () := by
  have : cs.find? (·.1) = none := by
    simp only [List.find?_eq_none]
    intro x hx
    simpa using List.all_eq_true.mp h x hx
  simp only [check, this]

/-- A command with a refusal ends with its status. -/
theorem check_refused {s : State} {cs : List (Bool × Status)} {k : Unit → Res × State} {c : Bool × Status}
    (h : cs.find? (·.1) = some c) : check s cs k = (.fin c.2 [], s) := by
  simp only [check, h]

/-- What an event of the main domain leaves while that domain is powered. -/
theorem mainEvent_on {t : Nat} {f : State → State} {s : State} (h : s.mainOn = true) :
    mainEvent t f s = .next (ensuing t (f (tick t s)) s) := by
  have h2 : (tick t s).mainOn = true := h
  simp only [mainEvent, anyEvent, within, ensuing, h2, if_true]

/-- What an event of every power state leaves. -/
theorem anyEvent_on (t : Nat) (f : State → State) (s : State) : anyEvent t f s = .next (ensuing t (f (tick t s)) s) := rfl

/-- An event of the main domain happens where its effect is as stated. -/
theorem occursOn_of {i : Instr} {t : Nat} {f : State → State} {C : State → Bool} {E : State → State} (hi : ∀ s, C (tick i.time s) = true → exec i s = mainEvent t f s)
    (ht : i.time = t) (h : ∀ s, C s = true → f s = E s) : OccursOn i C E := by
  intro s hm hc
  subst ht
  unfold Occurs
  rw [hi s hc, mainEvent_on hm, h _ hc]

/-- An event of any power state happens where its effect is as stated. -/
theorem occursWhen_of {i : Instr} {t : Nat} {f : State → State} {C : State → Bool} {E : State → State} (hi : ∀ s, C (tick i.time s) = true → exec i s = anyEvent t f s)
    (ht : i.time = t) (h : ∀ s, C s = true → f s = E s) : OccursWhen i C E := by
  intro s hc
  subst ht
  unfold Occurs
  rw [hi s hc, anyEvent_on, h _ hc]

end Sys2Proof.Machine
end

