-- ==== Sys2Proof/Laws/Memory.lean ====
section
/-! SUPPORT. The laws of the byte memory: a read after a write, and the canonical form that every memory operation keeps. -/
namespace Sys2Proof.Machine

/-- Canonical cells are canonical above any lower bound that lies below their first address. -/
theorem memWfFrom_weaken {lo lo' : Option Nat} {m : List Host.Cell} (h : memWfFrom lo m = true)
    (hl : ∀ c ∈ m.head?, ∀ l ∈ lo', l < c.1) : memWfFrom lo' m = true := by
  cases m with
  | nil => rfl
  | cons c m =>
    simp only [memWfFrom, Bool.and_eq_true] at h ⊢
    refine ⟨⟨?_, h.1.2⟩, h.2⟩
    cases lo' with
    | none => rfl
    | some l => simpa using hl c (by simp) l (by simp)

/-- A canonical list starts above its bound. -/
theorem memWfFrom_head {l : Nat} {c : Host.Cell} {m : List Host.Cell} (h : memWfFrom (some l) (c :: m) = true) : l < c.1 := by
  simp only [memWfFrom, Bool.and_eq_true, decide_eq_true_eq] at h
  exact h.1.1

/-- Every cell of a canonical list lies above its bound. -/
theorem memWfFrom_all {l : Nat} {m : List Host.Cell} (h : memWfFrom (some l) m = true) : ∀ c ∈ m, l < c.1 := by
  induction m generalizing l with
  | nil => simp
  | cons c m ih =>
    intro d hd
    have h1 := memWfFrom_head h
    simp only [memWfFrom, Bool.and_eq_true] at h
    rcases List.mem_cons.mp hd with rfl | hd
    · exact h1
    · exact lt_trans h1 (ih h.2 d hd)

/-- A write keeps the canonical form above any bound below its address. -/
theorem memWrite_wfFrom {lo : Option Nat} {m : List Host.Cell} (a : Nat) (b : Byte) (h : memWfFrom lo m = true) (ha : ∀ l ∈ lo, l < a) :
    memWfFrom lo (memWrite m a b) = true := by
  induction m generalizing lo with
  | nil =>
    unfold memWrite
    split
    · rfl
    · rename_i hb
      simp only [memWfFrom, Bool.and_eq_true, Bool.and_true]
      exact ⟨by cases lo with | none => rfl | some l => simpa using ha l rfl, by simpa [bne] using hb⟩
  | cons c m ih =>
    have h0 := h
    simp only [memWfFrom, Bool.and_eq_true] at h
    unfold memWrite
    split
    · rename_i hc
      simp only [memWfFrom, Bool.and_eq_true]
      exact ⟨h.1, ih h.2 (by simpa using hc)⟩
    · rename_i hc
      split
      · rename_i he
        have he' : c.1 = a := by simpa using he
        split
        · refine memWfFrom_weaken h.2 ?_
          intro d hd l hl
          have hd' : d ∈ m := by
            cases m with
            | nil => simp at hd
            | cons x m => simp only [List.head?_cons, Option.mem_some_iff] at hd; subst hd; simp
          exact lt_trans (ha l hl) (he' ▸ memWfFrom_all h.2 d hd')
        · rename_i hb
          simp only [memWfFrom, Bool.and_eq_true]
          exact ⟨⟨by cases lo with | none => rfl | some l => simpa using ha l rfl, by simpa [bne] using hb⟩, he' ▸ h.2⟩
      · rename_i he
        split
        · exact h0
        · rename_i hb
          simp only [memWfFrom, Bool.and_eq_true, decide_eq_true_eq]
          have : c.1 ≠ a := by simpa using he
          exact ⟨⟨by cases lo with | none => rfl | some l => simpa using ha l rfl, by simpa [bne] using hb⟩, ⟨by omega, h.1.2⟩, h.2⟩

/-- A write keeps the canonical form. -/
theorem memWrite_wf {m : List Host.Cell} (a : Nat) (b : Byte) (h : Memory.wf m = true) : Memory.wf (memWrite m a b) = true :=
  memWrite_wfFrom a b h (by simp)

/-- A write of several bytes keeps the canonical form. -/
theorem memWriteList_wf {m : List Host.Cell} (a : Nat) (bs : List Byte) (h : Memory.wf m = true) : Memory.wf (memWriteList m a bs) = true := by
  induction bs generalizing m a with
  | nil => exact h
  | cons b bs ih => exact ih (a + 1) (memWrite_wf a b h)

/-- What an address below every cell reads as. -/
theorem memRead_above {m : List Host.Cell} {l a : Nat} (h : memWfFrom (some l) m = true) (ha : a ≤ l) : memRead m a = memDefault := by
  have : m.find? (fun c => c.1 == a) = none := by
    rw [List.find?_eq_none]
    intro c hc
    have := memWfFrom_all h c hc
    simp only [beq_iff_eq]
    omega
  simp [memRead, this]

/-- A read of the first cell's address. -/
theorem memRead_cons (c : Host.Cell) (m : List Host.Cell) (a : Nat) : memRead (c :: m) a = if c.1 = a then c.2 else memRead m a := by
  simp only [memRead, List.find?_cons]
  by_cases h : c.1 = a
  · simp [h]
  · have : (c.1 == a) = false := by simpa using h
    simp [this, h]

/-- Reads after a write: the written byte at its address, and every other byte as before. -/
theorem memRead_memWrite {lo : Option Nat} {m : List Host.Cell} (h : memWfFrom lo m = true) (a : Nat) (b : Byte) (x : Nat) :
    memRead (memWrite m a b) x = if x = a then b else memRead m x := by
  induction m generalizing lo with
  | nil =>
    unfold memWrite
    split
    · rename_i hb
      have : b = memDefault := by simpa using hb
      subst this
      split <;> simp [memRead]
    · simp only [memRead_cons]
      by_cases hx : x = a
      · simp [hx]
      · simp [hx, Ne.symm hx]
  | cons c m ih =>
    simp only [memWfFrom, Bool.and_eq_true] at h
    unfold memWrite
    split
    · rename_i hc
      simp only [memRead_cons, ih h.2]
      by_cases hx : x = a
      · subst hx
        rw [if_neg (by omega)]; simp
      · simp [hx]
    · rename_i hc
      split
      · rename_i he
        have he' : c.1 = a := by simpa using he
        split
        · rename_i hb
          have hb' : b = memDefault := by simpa using hb
          subst hb'
          by_cases hx : x = a
          · subst hx
            simp only [if_true]
            exact memRead_above h.2 (le_of_eq he'.symm)
          · simp only [memRead_cons, hx, if_false]
            rw [if_neg (by omega)]
        · simp only [memRead_cons]
          by_cases hx : x = a
          · simp [hx]
          · simp [hx, Ne.symm hx, he']
      · rename_i he
        have hne : c.1 ≠ a := by simpa using he
        split
        · rename_i hb
          have hb' : b = memDefault := by simpa using hb
          subst hb'
          by_cases hx : x = a
          · subst hx
            simp only [if_true, memRead_cons]
            rw [if_neg hne]
            exact memRead_above h.2 (by omega)
          · simp [hx]
        · simp only [memRead_cons]
          by_cases hx : x = a
          · simp [hx]
          · simp [hx, Ne.symm hx]

/-- A byte outside the written range reads as before. -/
theorem memRead_memWriteList_other {m : List Host.Cell} (h : Memory.wf m = true) (a : Nat) (bs : List Byte) (x : Nat)
    (hx : x < a ∨ a + bs.length ≤ x) : memRead (memWriteList m a bs) x = memRead m x := by
  induction bs generalizing m a with
  | nil => rfl
  | cons b bs ih =>
    simp only [List.length_cons] at hx
    rw [memWriteList, ih (memWrite_wf a b h) (a + 1) (by omega), memRead_memWrite h, if_neg (by omega)]

/-- A byte of the written range reads as written. -/
theorem memRead_memWriteList_same {m : List Host.Cell} (h : Memory.wf m = true) (a : Nat) (bs : List Byte) (k : Nat) (hk : k < bs.length) :
    memRead (memWriteList m a bs) (a + k) = bs[k] := by
  induction bs generalizing m a k with
  | nil => simp at hk
  | cons b bs ih =>
    cases k with
    | zero =>
      rw [memWriteList, memRead_memWriteList_other (memWrite_wf a b h) (a + 1) bs (a + 0) (by omega), memRead_memWrite h, if_pos (by omega)]
      rfl
    | succ k =>
      have := ih (m := memWrite m a b) (memWrite_wf a b h) (a + 1) k (by simpa using hk)
      rw [memWriteList, show a + (k + 1) = a + 1 + k by omega, this]
      rfl

/-- What was written reads back. -/
theorem memReadList_memWriteList {m : List Host.Cell} (h : Memory.wf m = true) (a : Nat) (bs : List Byte) :
    memReadList (memWriteList m a bs) a bs.length = bs := by
  apply List.ext_getElem
  · simp [memReadList]
  · intro k h1 h2
    simp only [memReadList, List.getElem_map, List.getElem_range]
    exact memRead_memWriteList_same h a bs k h2

/-- A line store keeps the canonical form. -/
theorem storeLine_wf {s : State} (line : Nat) (data : List Byte) (mark : Bool) (h : memoryWf s = true) : memoryWf (storeLine line data mark s) = true := by
  unfold storeLine
  split
  · exact h
  · split
    · exact h
    · exact memWriteList_wf line _ h

/-- A partial store keeps the canonical form. -/
theorem storePart_wf {s : State} (a : Nat) (data : List Byte) (h : memoryWf s = true) : memoryWf (storePart a data s) = true :=
  memWriteList_wf a data h

/-- The memory that a start-up keeps stays canonical. -/
theorem memWfFrom_filter {lo : Option Nat} {m : List Host.Cell} (p : Host.Cell → Bool) (h : memWfFrom lo m = true) : memWfFrom lo (m.filter p) = true := by
  induction m generalizing lo with
  | nil => rfl
  | cons c m ih =>
    have h0 := h
    simp only [memWfFrom, Bool.and_eq_true] at h
    simp only [List.filter_cons]
    split
    · simp only [memWfFrom, Bool.and_eq_true]
      exact ⟨h.1, ih h.2⟩
    · refine ih (memWfFrom_weaken h.2 ?_)
      intro d hd l hl
      have hd' : d ∈ m := by
        cases m with
        | nil => simp at hd
        | cons x m => simp only [List.head?_cons, Option.mem_some_iff] at hd; subst hd; simp
      have h2 := memWfFrom_all h.2 d hd'
      cases lo with
      | none => simp at hl
      | some k =>
        simp only [Option.mem_some_iff] at hl
        subst hl
        simp only [decide_eq_true_eq] at h
        omega

/-- The memory after reset is in canonical form. -/
theorem reset_memoryWf : memoryWf State.reset = true := by decide

end Sys2Proof.Machine
end

