-- ==== Sys2Proof/Laws/State.lean ====
section
/-! SUPPORT. One lemma per field per update of the state, and the laws of keyed lists, so that no later proof unfolds a record update. -/
namespace Sys2Proof.Machine

/-- The value under the key that was set. -/
@[simp] theorem aget_aset_same {α : Type} (l : List (Nat × α)) (k : Nat) (v : α) : aget (aset l k v) k = some v := by
  induction l with
  | nil => simp [aget, aset]
  | cons e l ih =>
    unfold aset
    split
    · rename_i h
      have : (e.1 == k) = false := by simp; omega
      simp only [aget, List.find?_cons, this] at ih ⊢
      exact ih
    · split <;> simp [aget]

/-- The values under other keys stay. -/
theorem aget_aset_other {α : Type} (l : List (Nat × α)) {k j : Nat} (v : α) (h : j ≠ k) : aget (aset l k v) j = aget l j := by
  have hkj : (k == j) = false := by simp; omega
  induction l with
  | nil => simp [aget, aset, hkj]
  | cons e l ih =>
    unfold aset
    split
    · simp only [aget, List.find?_cons] at ih ⊢
      split
      · rfl
      · exact ih
    · split
      · rename_i he
        have : (e.1 == j) = false := by simp at he ⊢; omega
        simp [aget, List.find?_cons, hkj, this]
      · simp [aget, List.find?_cons, hkj]

/-- An update of one entry leaves the others. -/
theorem getD_updAt_other {α : Type} (l : List α) {i j : Nat} (f : α → α) (d : α) (h : j ≠ i) : (updAt l i f).getD j d = l.getD j d := by
  simp [updAt, List.getD_eq_getElem?_getD, List.getElem?_modify, Ne.symm h]

/-- An update of one entry. -/
theorem getD_updAt_same {α : Type} (l : List α) {i : Nat} (f : α → α) (d : α) (h : i < l.length) : (updAt l i f).getD i d = f (l.getD i d) := by
  simp [updAt, List.getD_eq_getElem?_getD, List.getElem?_modify, h]

variable (s : State)

@[simp] theorem tick_time (t : Nat) : (tick t s).time = max s.time t := rfl
@[simp] theorem tick_pending (t : Nat) : (tick t s).pending = s.pending := rfl
@[simp] theorem tick_out (t : Nat) : (tick t s).out = s.out := rfl
@[simp] theorem tick_free (t : Nat) : (tick t s).free = s.free := rfl
@[simp] theorem tick_id (t : Nat) : (tick t s).id = s.id := rfl
@[simp] theorem tick_sys (t : Nat) : (tick t s).sys = s.sys := rfl
@[simp] theorem tick_sig (t : Nat) : (tick t s).sig = s.sig := rfl
@[simp] theorem tick_mem (t : Nat) : (tick t s).mem = s.mem := rfl
@[simp] theorem tick_dma (t : Nat) : (tick t s).dma = s.dma := rfl
@[simp] theorem tick_crn (t : Nat) : (tick t s).crn = s.crn := rfl
@[simp] theorem tick_col (t : Nat) : (tick t s).col = s.col := rfl
@[simp] theorem tick_pwr (t : Nat) : (tick t s).pwr = s.pwr := rfl
@[simp] theorem tick_lpe (t : Nat) : (tick t s).lpe = s.lpe := rfl
@[simp] theorem tick_vlv (t : Nat) : (tick t s).vlv = s.vlv := rfl
@[simp] theorem tick_fio (t : Nat) : (tick t s).fio = s.fio := rfl
@[simp] theorem tick_gns (t : Nat) : (tick t s).gns = s.gns := rfl
@[simp] theorem tick_tim (t : Nat) : (tick t s).tim = s.tim := rfl
@[simp] theorem tick_can (t : Nat) : (tick t s).can = s.can := rfl
@[simp] theorem tick_fus (t : Nat) : (tick t s).fus = s.fus := rfl
@[simp] theorem tick_cam (t : Nat) : (tick t s).cam = s.cam := rfl
@[simp] theorem tick_cul (t : Nat) : (tick t s).cul = s.cul := rfl
@[simp] theorem tick_map (t : Nat) : (tick t s).map = s.map := rfl
@[simp] theorem tick_sen (t : Nat) : (tick t s).sen = s.sen := rfl
@[simp] theorem tick_fun_ (t : Nat) : (tick t s).fun_ = s.fun_ := rfl
@[simp] theorem tick_gde (t : Nat) : (tick t s).gde = s.gde := rfl
@[simp] theorem tick_flt (t : Nat) : (tick t s).flt = s.flt := rfl
@[simp] theorem tick_upd (t : Nat) : (tick t s).upd = s.upd := rfl
@[simp] theorem tick_sum (t : Nat) : (tick t s).sum = s.sum := rfl

@[simp] theorem modId_time (f : IdState → IdState) : (modId f s).time = s.time := rfl
@[simp] theorem modId_pending (f : IdState → IdState) : (modId f s).pending = s.pending := rfl
@[simp] theorem modId_out (f : IdState → IdState) : (modId f s).out = s.out := rfl
@[simp] theorem modId_free (f : IdState → IdState) : (modId f s).free = s.free := rfl
@[simp] theorem modId_id (f : IdState → IdState) : (modId f s).id = f s.id := rfl
@[simp] theorem modId_sys (f : IdState → IdState) : (modId f s).sys = s.sys := rfl
@[simp] theorem modId_sig (f : IdState → IdState) : (modId f s).sig = s.sig := rfl
@[simp] theorem modId_mem (f : IdState → IdState) : (modId f s).mem = s.mem := rfl
@[simp] theorem modId_dma (f : IdState → IdState) : (modId f s).dma = s.dma := rfl
@[simp] theorem modId_crn (f : IdState → IdState) : (modId f s).crn = s.crn := rfl
@[simp] theorem modId_col (f : IdState → IdState) : (modId f s).col = s.col := rfl
@[simp] theorem modId_pwr (f : IdState → IdState) : (modId f s).pwr = s.pwr := rfl
@[simp] theorem modId_lpe (f : IdState → IdState) : (modId f s).lpe = s.lpe := rfl
@[simp] theorem modId_vlv (f : IdState → IdState) : (modId f s).vlv = s.vlv := rfl
@[simp] theorem modId_fio (f : IdState → IdState) : (modId f s).fio = s.fio := rfl
@[simp] theorem modId_gns (f : IdState → IdState) : (modId f s).gns = s.gns := rfl
@[simp] theorem modId_tim (f : IdState → IdState) : (modId f s).tim = s.tim := rfl
@[simp] theorem modId_can (f : IdState → IdState) : (modId f s).can = s.can := rfl
@[simp] theorem modId_fus (f : IdState → IdState) : (modId f s).fus = s.fus := rfl
@[simp] theorem modId_cam (f : IdState → IdState) : (modId f s).cam = s.cam := rfl
@[simp] theorem modId_cul (f : IdState → IdState) : (modId f s).cul = s.cul := rfl
@[simp] theorem modId_map (f : IdState → IdState) : (modId f s).map = s.map := rfl
@[simp] theorem modId_sen (f : IdState → IdState) : (modId f s).sen = s.sen := rfl
@[simp] theorem modId_fun_ (f : IdState → IdState) : (modId f s).fun_ = s.fun_ := rfl
@[simp] theorem modId_gde (f : IdState → IdState) : (modId f s).gde = s.gde := rfl
@[simp] theorem modId_flt (f : IdState → IdState) : (modId f s).flt = s.flt := rfl
@[simp] theorem modId_upd (f : IdState → IdState) : (modId f s).upd = s.upd := rfl
@[simp] theorem modId_sum (f : IdState → IdState) : (modId f s).sum = s.sum := rfl

@[simp] theorem modPwr_time (f : PwrState → PwrState) : (modPwr f s).time = s.time := rfl
@[simp] theorem modPwr_pending (f : PwrState → PwrState) : (modPwr f s).pending = s.pending := rfl
@[simp] theorem modPwr_out (f : PwrState → PwrState) : (modPwr f s).out = s.out := rfl
@[simp] theorem modPwr_free (f : PwrState → PwrState) : (modPwr f s).free = s.free := rfl
@[simp] theorem modPwr_id (f : PwrState → PwrState) : (modPwr f s).id = s.id := rfl
@[simp] theorem modPwr_sys (f : PwrState → PwrState) : (modPwr f s).sys = s.sys := rfl
@[simp] theorem modPwr_sig (f : PwrState → PwrState) : (modPwr f s).sig = s.sig := rfl
@[simp] theorem modPwr_mem (f : PwrState → PwrState) : (modPwr f s).mem = s.mem := rfl
@[simp] theorem modPwr_dma (f : PwrState → PwrState) : (modPwr f s).dma = s.dma := rfl
@[simp] theorem modPwr_crn (f : PwrState → PwrState) : (modPwr f s).crn = s.crn := rfl
@[simp] theorem modPwr_col (f : PwrState → PwrState) : (modPwr f s).col = s.col := rfl
@[simp] theorem modPwr_pwr (f : PwrState → PwrState) : (modPwr f s).pwr = f s.pwr := rfl
@[simp] theorem modPwr_lpe (f : PwrState → PwrState) : (modPwr f s).lpe = s.lpe := rfl
@[simp] theorem modPwr_vlv (f : PwrState → PwrState) : (modPwr f s).vlv = s.vlv := rfl
@[simp] theorem modPwr_fio (f : PwrState → PwrState) : (modPwr f s).fio = s.fio := rfl
@[simp] theorem modPwr_gns (f : PwrState → PwrState) : (modPwr f s).gns = s.gns := rfl
@[simp] theorem modPwr_tim (f : PwrState → PwrState) : (modPwr f s).tim = s.tim := rfl
@[simp] theorem modPwr_can (f : PwrState → PwrState) : (modPwr f s).can = s.can := rfl
@[simp] theorem modPwr_fus (f : PwrState → PwrState) : (modPwr f s).fus = s.fus := rfl
@[simp] theorem modPwr_cam (f : PwrState → PwrState) : (modPwr f s).cam = s.cam := rfl
@[simp] theorem modPwr_cul (f : PwrState → PwrState) : (modPwr f s).cul = s.cul := rfl
@[simp] theorem modPwr_map (f : PwrState → PwrState) : (modPwr f s).map = s.map := rfl
@[simp] theorem modPwr_sen (f : PwrState → PwrState) : (modPwr f s).sen = s.sen := rfl
@[simp] theorem modPwr_fun_ (f : PwrState → PwrState) : (modPwr f s).fun_ = s.fun_ := rfl
@[simp] theorem modPwr_gde (f : PwrState → PwrState) : (modPwr f s).gde = s.gde := rfl
@[simp] theorem modPwr_flt (f : PwrState → PwrState) : (modPwr f s).flt = s.flt := rfl
@[simp] theorem modPwr_upd (f : PwrState → PwrState) : (modPwr f s).upd = s.upd := rfl
@[simp] theorem modPwr_sum (f : PwrState → PwrState) : (modPwr f s).sum = s.sum := rfl

@[simp] theorem modSum_time (f : SumState → SumState) : (modSum f s).time = s.time := rfl
@[simp] theorem modSum_pending (f : SumState → SumState) : (modSum f s).pending = s.pending := rfl
@[simp] theorem modSum_out (f : SumState → SumState) : (modSum f s).out = s.out := rfl
@[simp] theorem modSum_free (f : SumState → SumState) : (modSum f s).free = s.free := rfl
@[simp] theorem modSum_id (f : SumState → SumState) : (modSum f s).id = s.id := rfl
@[simp] theorem modSum_sys (f : SumState → SumState) : (modSum f s).sys = s.sys := rfl
@[simp] theorem modSum_sig (f : SumState → SumState) : (modSum f s).sig = s.sig := rfl
@[simp] theorem modSum_mem (f : SumState → SumState) : (modSum f s).mem = s.mem := rfl
@[simp] theorem modSum_dma (f : SumState → SumState) : (modSum f s).dma = s.dma := rfl
@[simp] theorem modSum_crn (f : SumState → SumState) : (modSum f s).crn = s.crn := rfl
@[simp] theorem modSum_col (f : SumState → SumState) : (modSum f s).col = s.col := rfl
@[simp] theorem modSum_pwr (f : SumState → SumState) : (modSum f s).pwr = s.pwr := rfl
@[simp] theorem modSum_lpe (f : SumState → SumState) : (modSum f s).lpe = s.lpe := rfl
@[simp] theorem modSum_vlv (f : SumState → SumState) : (modSum f s).vlv = s.vlv := rfl
@[simp] theorem modSum_fio (f : SumState → SumState) : (modSum f s).fio = s.fio := rfl
@[simp] theorem modSum_gns (f : SumState → SumState) : (modSum f s).gns = s.gns := rfl
@[simp] theorem modSum_tim (f : SumState → SumState) : (modSum f s).tim = s.tim := rfl
@[simp] theorem modSum_can (f : SumState → SumState) : (modSum f s).can = s.can := rfl
@[simp] theorem modSum_fus (f : SumState → SumState) : (modSum f s).fus = s.fus := rfl
@[simp] theorem modSum_cam (f : SumState → SumState) : (modSum f s).cam = s.cam := rfl
@[simp] theorem modSum_cul (f : SumState → SumState) : (modSum f s).cul = s.cul := rfl
@[simp] theorem modSum_map (f : SumState → SumState) : (modSum f s).map = s.map := rfl
@[simp] theorem modSum_sen (f : SumState → SumState) : (modSum f s).sen = s.sen := rfl
@[simp] theorem modSum_fun_ (f : SumState → SumState) : (modSum f s).fun_ = s.fun_ := rfl
@[simp] theorem modSum_gde (f : SumState → SumState) : (modSum f s).gde = s.gde := rfl
@[simp] theorem modSum_flt (f : SumState → SumState) : (modSum f s).flt = s.flt := rfl
@[simp] theorem modSum_upd (f : SumState → SumState) : (modSum f s).upd = s.upd := rfl
@[simp] theorem modSum_sum (f : SumState → SumState) : (modSum f s).sum = f s.sum := rfl

@[simp] theorem modTim_time (f : TimState → TimState) : (modTim f s).time = s.time := rfl
@[simp] theorem modTim_pending (f : TimState → TimState) : (modTim f s).pending = s.pending := rfl
@[simp] theorem modTim_out (f : TimState → TimState) : (modTim f s).out = s.out := rfl
@[simp] theorem modTim_free (f : TimState → TimState) : (modTim f s).free = s.free := rfl
@[simp] theorem modTim_id (f : TimState → TimState) : (modTim f s).id = s.id := rfl
@[simp] theorem modTim_sys (f : TimState → TimState) : (modTim f s).sys = s.sys := rfl
@[simp] theorem modTim_sig (f : TimState → TimState) : (modTim f s).sig = s.sig := rfl
@[simp] theorem modTim_mem (f : TimState → TimState) : (modTim f s).mem = s.mem := rfl
@[simp] theorem modTim_dma (f : TimState → TimState) : (modTim f s).dma = s.dma := rfl
@[simp] theorem modTim_crn (f : TimState → TimState) : (modTim f s).crn = s.crn := rfl
@[simp] theorem modTim_col (f : TimState → TimState) : (modTim f s).col = s.col := rfl
@[simp] theorem modTim_pwr (f : TimState → TimState) : (modTim f s).pwr = s.pwr := rfl
@[simp] theorem modTim_lpe (f : TimState → TimState) : (modTim f s).lpe = s.lpe := rfl
@[simp] theorem modTim_vlv (f : TimState → TimState) : (modTim f s).vlv = s.vlv := rfl
@[simp] theorem modTim_fio (f : TimState → TimState) : (modTim f s).fio = s.fio := rfl
@[simp] theorem modTim_gns (f : TimState → TimState) : (modTim f s).gns = s.gns := rfl
@[simp] theorem modTim_tim (f : TimState → TimState) : (modTim f s).tim = f s.tim := rfl
@[simp] theorem modTim_can (f : TimState → TimState) : (modTim f s).can = s.can := rfl
@[simp] theorem modTim_fus (f : TimState → TimState) : (modTim f s).fus = s.fus := rfl
@[simp] theorem modTim_cam (f : TimState → TimState) : (modTim f s).cam = s.cam := rfl
@[simp] theorem modTim_cul (f : TimState → TimState) : (modTim f s).cul = s.cul := rfl
@[simp] theorem modTim_map (f : TimState → TimState) : (modTim f s).map = s.map := rfl
@[simp] theorem modTim_sen (f : TimState → TimState) : (modTim f s).sen = s.sen := rfl
@[simp] theorem modTim_fun_ (f : TimState → TimState) : (modTim f s).fun_ = s.fun_ := rfl
@[simp] theorem modTim_gde (f : TimState → TimState) : (modTim f s).gde = s.gde := rfl
@[simp] theorem modTim_flt (f : TimState → TimState) : (modTim f s).flt = s.flt := rfl
@[simp] theorem modTim_upd (f : TimState → TimState) : (modTim f s).upd = s.upd := rfl
@[simp] theorem modTim_sum (f : TimState → TimState) : (modTim f s).sum = s.sum := rfl

@[simp] theorem modUpd_time (f : UpdState → UpdState) : (modUpd f s).time = s.time := rfl
@[simp] theorem modUpd_pending (f : UpdState → UpdState) : (modUpd f s).pending = s.pending := rfl
@[simp] theorem modUpd_out (f : UpdState → UpdState) : (modUpd f s).out = s.out := rfl
@[simp] theorem modUpd_free (f : UpdState → UpdState) : (modUpd f s).free = s.free := rfl
@[simp] theorem modUpd_id (f : UpdState → UpdState) : (modUpd f s).id = s.id := rfl
@[simp] theorem modUpd_sys (f : UpdState → UpdState) : (modUpd f s).sys = s.sys := rfl
@[simp] theorem modUpd_sig (f : UpdState → UpdState) : (modUpd f s).sig = s.sig := rfl
@[simp] theorem modUpd_mem (f : UpdState → UpdState) : (modUpd f s).mem = s.mem := rfl
@[simp] theorem modUpd_dma (f : UpdState → UpdState) : (modUpd f s).dma = s.dma := rfl
@[simp] theorem modUpd_crn (f : UpdState → UpdState) : (modUpd f s).crn = s.crn := rfl
@[simp] theorem modUpd_col (f : UpdState → UpdState) : (modUpd f s).col = s.col := rfl
@[simp] theorem modUpd_pwr (f : UpdState → UpdState) : (modUpd f s).pwr = s.pwr := rfl
@[simp] theorem modUpd_lpe (f : UpdState → UpdState) : (modUpd f s).lpe = s.lpe := rfl
@[simp] theorem modUpd_vlv (f : UpdState → UpdState) : (modUpd f s).vlv = s.vlv := rfl
@[simp] theorem modUpd_fio (f : UpdState → UpdState) : (modUpd f s).fio = s.fio := rfl
@[simp] theorem modUpd_gns (f : UpdState → UpdState) : (modUpd f s).gns = s.gns := rfl
@[simp] theorem modUpd_tim (f : UpdState → UpdState) : (modUpd f s).tim = s.tim := rfl
@[simp] theorem modUpd_can (f : UpdState → UpdState) : (modUpd f s).can = s.can := rfl
@[simp] theorem modUpd_fus (f : UpdState → UpdState) : (modUpd f s).fus = s.fus := rfl
@[simp] theorem modUpd_cam (f : UpdState → UpdState) : (modUpd f s).cam = s.cam := rfl
@[simp] theorem modUpd_cul (f : UpdState → UpdState) : (modUpd f s).cul = s.cul := rfl
@[simp] theorem modUpd_map (f : UpdState → UpdState) : (modUpd f s).map = s.map := rfl
@[simp] theorem modUpd_sen (f : UpdState → UpdState) : (modUpd f s).sen = s.sen := rfl
@[simp] theorem modUpd_fun_ (f : UpdState → UpdState) : (modUpd f s).fun_ = s.fun_ := rfl
@[simp] theorem modUpd_gde (f : UpdState → UpdState) : (modUpd f s).gde = s.gde := rfl
@[simp] theorem modUpd_flt (f : UpdState → UpdState) : (modUpd f s).flt = s.flt := rfl
@[simp] theorem modUpd_upd (f : UpdState → UpdState) : (modUpd f s).upd = f s.upd := rfl
@[simp] theorem modUpd_sum (f : UpdState → UpdState) : (modUpd f s).sum = s.sum := rfl

@[simp] theorem modCul_time (f : CulState → CulState) : (modCul f s).time = s.time := rfl
@[simp] theorem modCul_pending (f : CulState → CulState) : (modCul f s).pending = s.pending := rfl
@[simp] theorem modCul_out (f : CulState → CulState) : (modCul f s).out = s.out := rfl
@[simp] theorem modCul_free (f : CulState → CulState) : (modCul f s).free = s.free := rfl
@[simp] theorem modCul_id (f : CulState → CulState) : (modCul f s).id = s.id := rfl
@[simp] theorem modCul_sys (f : CulState → CulState) : (modCul f s).sys = s.sys := rfl
@[simp] theorem modCul_sig (f : CulState → CulState) : (modCul f s).sig = s.sig := rfl
@[simp] theorem modCul_mem (f : CulState → CulState) : (modCul f s).mem = s.mem := rfl
@[simp] theorem modCul_dma (f : CulState → CulState) : (modCul f s).dma = s.dma := rfl
@[simp] theorem modCul_crn (f : CulState → CulState) : (modCul f s).crn = s.crn := rfl
@[simp] theorem modCul_col (f : CulState → CulState) : (modCul f s).col = s.col := rfl
@[simp] theorem modCul_pwr (f : CulState → CulState) : (modCul f s).pwr = s.pwr := rfl
@[simp] theorem modCul_lpe (f : CulState → CulState) : (modCul f s).lpe = s.lpe := rfl
@[simp] theorem modCul_vlv (f : CulState → CulState) : (modCul f s).vlv = s.vlv := rfl
@[simp] theorem modCul_fio (f : CulState → CulState) : (modCul f s).fio = s.fio := rfl
@[simp] theorem modCul_gns (f : CulState → CulState) : (modCul f s).gns = s.gns := rfl
@[simp] theorem modCul_tim (f : CulState → CulState) : (modCul f s).tim = s.tim := rfl
@[simp] theorem modCul_can (f : CulState → CulState) : (modCul f s).can = s.can := rfl
@[simp] theorem modCul_fus (f : CulState → CulState) : (modCul f s).fus = s.fus := rfl
@[simp] theorem modCul_cam (f : CulState → CulState) : (modCul f s).cam = s.cam := rfl
@[simp] theorem modCul_cul (f : CulState → CulState) : (modCul f s).cul = f s.cul := rfl
@[simp] theorem modCul_map (f : CulState → CulState) : (modCul f s).map = s.map := rfl
@[simp] theorem modCul_sen (f : CulState → CulState) : (modCul f s).sen = s.sen := rfl
@[simp] theorem modCul_fun_ (f : CulState → CulState) : (modCul f s).fun_ = s.fun_ := rfl
@[simp] theorem modCul_gde (f : CulState → CulState) : (modCul f s).gde = s.gde := rfl
@[simp] theorem modCul_flt (f : CulState → CulState) : (modCul f s).flt = s.flt := rfl
@[simp] theorem modCul_upd (f : CulState → CulState) : (modCul f s).upd = s.upd := rfl
@[simp] theorem modCul_sum (f : CulState → CulState) : (modCul f s).sum = s.sum := rfl

@[simp] theorem modSen_time (f : SenState → SenState) : (modSen f s).time = s.time := rfl
@[simp] theorem modSen_pending (f : SenState → SenState) : (modSen f s).pending = s.pending := rfl
@[simp] theorem modSen_out (f : SenState → SenState) : (modSen f s).out = s.out := rfl
@[simp] theorem modSen_free (f : SenState → SenState) : (modSen f s).free = s.free := rfl
@[simp] theorem modSen_id (f : SenState → SenState) : (modSen f s).id = s.id := rfl
@[simp] theorem modSen_sys (f : SenState → SenState) : (modSen f s).sys = s.sys := rfl
@[simp] theorem modSen_sig (f : SenState → SenState) : (modSen f s).sig = s.sig := rfl
@[simp] theorem modSen_mem (f : SenState → SenState) : (modSen f s).mem = s.mem := rfl
@[simp] theorem modSen_dma (f : SenState → SenState) : (modSen f s).dma = s.dma := rfl
@[simp] theorem modSen_crn (f : SenState → SenState) : (modSen f s).crn = s.crn := rfl
@[simp] theorem modSen_col (f : SenState → SenState) : (modSen f s).col = s.col := rfl
@[simp] theorem modSen_pwr (f : SenState → SenState) : (modSen f s).pwr = s.pwr := rfl
@[simp] theorem modSen_lpe (f : SenState → SenState) : (modSen f s).lpe = s.lpe := rfl
@[simp] theorem modSen_vlv (f : SenState → SenState) : (modSen f s).vlv = s.vlv := rfl
@[simp] theorem modSen_fio (f : SenState → SenState) : (modSen f s).fio = s.fio := rfl
@[simp] theorem modSen_gns (f : SenState → SenState) : (modSen f s).gns = s.gns := rfl
@[simp] theorem modSen_tim (f : SenState → SenState) : (modSen f s).tim = s.tim := rfl
@[simp] theorem modSen_can (f : SenState → SenState) : (modSen f s).can = s.can := rfl
@[simp] theorem modSen_fus (f : SenState → SenState) : (modSen f s).fus = s.fus := rfl
@[simp] theorem modSen_cam (f : SenState → SenState) : (modSen f s).cam = s.cam := rfl
@[simp] theorem modSen_cul (f : SenState → SenState) : (modSen f s).cul = s.cul := rfl
@[simp] theorem modSen_map (f : SenState → SenState) : (modSen f s).map = s.map := rfl
@[simp] theorem modSen_sen (f : SenState → SenState) : (modSen f s).sen = f s.sen := rfl
@[simp] theorem modSen_fun_ (f : SenState → SenState) : (modSen f s).fun_ = s.fun_ := rfl
@[simp] theorem modSen_gde (f : SenState → SenState) : (modSen f s).gde = s.gde := rfl
@[simp] theorem modSen_flt (f : SenState → SenState) : (modSen f s).flt = s.flt := rfl
@[simp] theorem modSen_upd (f : SenState → SenState) : (modSen f s).upd = s.upd := rfl
@[simp] theorem modSen_sum (f : SenState → SenState) : (modSen f s).sum = s.sum := rfl

@[simp] theorem modMap_time (f : MapState → MapState) : (modMap f s).time = s.time := rfl
@[simp] theorem modMap_pending (f : MapState → MapState) : (modMap f s).pending = s.pending := rfl
@[simp] theorem modMap_out (f : MapState → MapState) : (modMap f s).out = s.out := rfl
@[simp] theorem modMap_free (f : MapState → MapState) : (modMap f s).free = s.free := rfl
@[simp] theorem modMap_id (f : MapState → MapState) : (modMap f s).id = s.id := rfl
@[simp] theorem modMap_sys (f : MapState → MapState) : (modMap f s).sys = s.sys := rfl
@[simp] theorem modMap_sig (f : MapState → MapState) : (modMap f s).sig = s.sig := rfl
@[simp] theorem modMap_mem (f : MapState → MapState) : (modMap f s).mem = s.mem := rfl
@[simp] theorem modMap_dma (f : MapState → MapState) : (modMap f s).dma = s.dma := rfl
@[simp] theorem modMap_crn (f : MapState → MapState) : (modMap f s).crn = s.crn := rfl
@[simp] theorem modMap_col (f : MapState → MapState) : (modMap f s).col = s.col := rfl
@[simp] theorem modMap_pwr (f : MapState → MapState) : (modMap f s).pwr = s.pwr := rfl
@[simp] theorem modMap_lpe (f : MapState → MapState) : (modMap f s).lpe = s.lpe := rfl
@[simp] theorem modMap_vlv (f : MapState → MapState) : (modMap f s).vlv = s.vlv := rfl
@[simp] theorem modMap_fio (f : MapState → MapState) : (modMap f s).fio = s.fio := rfl
@[simp] theorem modMap_gns (f : MapState → MapState) : (modMap f s).gns = s.gns := rfl
@[simp] theorem modMap_tim (f : MapState → MapState) : (modMap f s).tim = s.tim := rfl
@[simp] theorem modMap_can (f : MapState → MapState) : (modMap f s).can = s.can := rfl
@[simp] theorem modMap_fus (f : MapState → MapState) : (modMap f s).fus = s.fus := rfl
@[simp] theorem modMap_cam (f : MapState → MapState) : (modMap f s).cam = s.cam := rfl
@[simp] theorem modMap_cul (f : MapState → MapState) : (modMap f s).cul = s.cul := rfl
@[simp] theorem modMap_map (f : MapState → MapState) : (modMap f s).map = f s.map := rfl
@[simp] theorem modMap_sen (f : MapState → MapState) : (modMap f s).sen = s.sen := rfl
@[simp] theorem modMap_fun_ (f : MapState → MapState) : (modMap f s).fun_ = s.fun_ := rfl
@[simp] theorem modMap_gde (f : MapState → MapState) : (modMap f s).gde = s.gde := rfl
@[simp] theorem modMap_flt (f : MapState → MapState) : (modMap f s).flt = s.flt := rfl
@[simp] theorem modMap_upd (f : MapState → MapState) : (modMap f s).upd = s.upd := rfl
@[simp] theorem modMap_sum (f : MapState → MapState) : (modMap f s).sum = s.sum := rfl

@[simp] theorem modGde_time (f : GdeState → GdeState) : (modGde f s).time = s.time := rfl
@[simp] theorem modGde_pending (f : GdeState → GdeState) : (modGde f s).pending = s.pending := rfl
@[simp] theorem modGde_out (f : GdeState → GdeState) : (modGde f s).out = s.out := rfl
@[simp] theorem modGde_free (f : GdeState → GdeState) : (modGde f s).free = s.free := rfl
@[simp] theorem modGde_id (f : GdeState → GdeState) : (modGde f s).id = s.id := rfl
@[simp] theorem modGde_sys (f : GdeState → GdeState) : (modGde f s).sys = s.sys := rfl
@[simp] theorem modGde_sig (f : GdeState → GdeState) : (modGde f s).sig = s.sig := rfl
@[simp] theorem modGde_mem (f : GdeState → GdeState) : (modGde f s).mem = s.mem := rfl
@[simp] theorem modGde_dma (f : GdeState → GdeState) : (modGde f s).dma = s.dma := rfl
@[simp] theorem modGde_crn (f : GdeState → GdeState) : (modGde f s).crn = s.crn := rfl
@[simp] theorem modGde_col (f : GdeState → GdeState) : (modGde f s).col = s.col := rfl
@[simp] theorem modGde_pwr (f : GdeState → GdeState) : (modGde f s).pwr = s.pwr := rfl
@[simp] theorem modGde_lpe (f : GdeState → GdeState) : (modGde f s).lpe = s.lpe := rfl
@[simp] theorem modGde_vlv (f : GdeState → GdeState) : (modGde f s).vlv = s.vlv := rfl
@[simp] theorem modGde_fio (f : GdeState → GdeState) : (modGde f s).fio = s.fio := rfl
@[simp] theorem modGde_gns (f : GdeState → GdeState) : (modGde f s).gns = s.gns := rfl
@[simp] theorem modGde_tim (f : GdeState → GdeState) : (modGde f s).tim = s.tim := rfl
@[simp] theorem modGde_can (f : GdeState → GdeState) : (modGde f s).can = s.can := rfl
@[simp] theorem modGde_fus (f : GdeState → GdeState) : (modGde f s).fus = s.fus := rfl
@[simp] theorem modGde_cam (f : GdeState → GdeState) : (modGde f s).cam = s.cam := rfl
@[simp] theorem modGde_cul (f : GdeState → GdeState) : (modGde f s).cul = s.cul := rfl
@[simp] theorem modGde_map (f : GdeState → GdeState) : (modGde f s).map = s.map := rfl
@[simp] theorem modGde_sen (f : GdeState → GdeState) : (modGde f s).sen = s.sen := rfl
@[simp] theorem modGde_fun_ (f : GdeState → GdeState) : (modGde f s).fun_ = s.fun_ := rfl
@[simp] theorem modGde_gde (f : GdeState → GdeState) : (modGde f s).gde = f s.gde := rfl
@[simp] theorem modGde_flt (f : GdeState → GdeState) : (modGde f s).flt = s.flt := rfl
@[simp] theorem modGde_upd (f : GdeState → GdeState) : (modGde f s).upd = s.upd := rfl
@[simp] theorem modGde_sum (f : GdeState → GdeState) : (modGde f s).sum = s.sum := rfl

@[simp] theorem modFun_time (f : FunState → FunState) : (modFun f s).time = s.time := rfl
@[simp] theorem modFun_pending (f : FunState → FunState) : (modFun f s).pending = s.pending := rfl
@[simp] theorem modFun_out (f : FunState → FunState) : (modFun f s).out = s.out := rfl
@[simp] theorem modFun_free (f : FunState → FunState) : (modFun f s).free = s.free := rfl
@[simp] theorem modFun_id (f : FunState → FunState) : (modFun f s).id = s.id := rfl
@[simp] theorem modFun_sys (f : FunState → FunState) : (modFun f s).sys = s.sys := rfl
@[simp] theorem modFun_sig (f : FunState → FunState) : (modFun f s).sig = s.sig := rfl
@[simp] theorem modFun_mem (f : FunState → FunState) : (modFun f s).mem = s.mem := rfl
@[simp] theorem modFun_dma (f : FunState → FunState) : (modFun f s).dma = s.dma := rfl
@[simp] theorem modFun_crn (f : FunState → FunState) : (modFun f s).crn = s.crn := rfl
@[simp] theorem modFun_col (f : FunState → FunState) : (modFun f s).col = s.col := rfl
@[simp] theorem modFun_pwr (f : FunState → FunState) : (modFun f s).pwr = s.pwr := rfl
@[simp] theorem modFun_lpe (f : FunState → FunState) : (modFun f s).lpe = s.lpe := rfl
@[simp] theorem modFun_vlv (f : FunState → FunState) : (modFun f s).vlv = s.vlv := rfl
@[simp] theorem modFun_fio (f : FunState → FunState) : (modFun f s).fio = s.fio := rfl
@[simp] theorem modFun_gns (f : FunState → FunState) : (modFun f s).gns = s.gns := rfl
@[simp] theorem modFun_tim (f : FunState → FunState) : (modFun f s).tim = s.tim := rfl
@[simp] theorem modFun_can (f : FunState → FunState) : (modFun f s).can = s.can := rfl
@[simp] theorem modFun_fus (f : FunState → FunState) : (modFun f s).fus = s.fus := rfl
@[simp] theorem modFun_cam (f : FunState → FunState) : (modFun f s).cam = s.cam := rfl
@[simp] theorem modFun_cul (f : FunState → FunState) : (modFun f s).cul = s.cul := rfl
@[simp] theorem modFun_map (f : FunState → FunState) : (modFun f s).map = s.map := rfl
@[simp] theorem modFun_sen (f : FunState → FunState) : (modFun f s).sen = s.sen := rfl
@[simp] theorem modFun_fun_ (f : FunState → FunState) : (modFun f s).fun_ = f s.fun_ := rfl
@[simp] theorem modFun_gde (f : FunState → FunState) : (modFun f s).gde = s.gde := rfl
@[simp] theorem modFun_flt (f : FunState → FunState) : (modFun f s).flt = s.flt := rfl
@[simp] theorem modFun_upd (f : FunState → FunState) : (modFun f s).upd = s.upd := rfl
@[simp] theorem modFun_sum (f : FunState → FunState) : (modFun f s).sum = s.sum := rfl

@[simp] theorem modFlt_time (f : FltState → FltState) : (modFlt f s).time = s.time := rfl
@[simp] theorem modFlt_pending (f : FltState → FltState) : (modFlt f s).pending = s.pending := rfl
@[simp] theorem modFlt_out (f : FltState → FltState) : (modFlt f s).out = s.out := rfl
@[simp] theorem modFlt_free (f : FltState → FltState) : (modFlt f s).free = s.free := rfl
@[simp] theorem modFlt_id (f : FltState → FltState) : (modFlt f s).id = s.id := rfl
@[simp] theorem modFlt_sys (f : FltState → FltState) : (modFlt f s).sys = s.sys := rfl
@[simp] theorem modFlt_sig (f : FltState → FltState) : (modFlt f s).sig = s.sig := rfl
@[simp] theorem modFlt_mem (f : FltState → FltState) : (modFlt f s).mem = s.mem := rfl
@[simp] theorem modFlt_dma (f : FltState → FltState) : (modFlt f s).dma = s.dma := rfl
@[simp] theorem modFlt_crn (f : FltState → FltState) : (modFlt f s).crn = s.crn := rfl
@[simp] theorem modFlt_col (f : FltState → FltState) : (modFlt f s).col = s.col := rfl
@[simp] theorem modFlt_pwr (f : FltState → FltState) : (modFlt f s).pwr = s.pwr := rfl
@[simp] theorem modFlt_lpe (f : FltState → FltState) : (modFlt f s).lpe = s.lpe := rfl
@[simp] theorem modFlt_vlv (f : FltState → FltState) : (modFlt f s).vlv = s.vlv := rfl
@[simp] theorem modFlt_fio (f : FltState → FltState) : (modFlt f s).fio = s.fio := rfl
@[simp] theorem modFlt_gns (f : FltState → FltState) : (modFlt f s).gns = s.gns := rfl
@[simp] theorem modFlt_tim (f : FltState → FltState) : (modFlt f s).tim = s.tim := rfl
@[simp] theorem modFlt_can (f : FltState → FltState) : (modFlt f s).can = s.can := rfl
@[simp] theorem modFlt_fus (f : FltState → FltState) : (modFlt f s).fus = s.fus := rfl
@[simp] theorem modFlt_cam (f : FltState → FltState) : (modFlt f s).cam = s.cam := rfl
@[simp] theorem modFlt_cul (f : FltState → FltState) : (modFlt f s).cul = s.cul := rfl
@[simp] theorem modFlt_map (f : FltState → FltState) : (modFlt f s).map = s.map := rfl
@[simp] theorem modFlt_sen (f : FltState → FltState) : (modFlt f s).sen = s.sen := rfl
@[simp] theorem modFlt_fun_ (f : FltState → FltState) : (modFlt f s).fun_ = s.fun_ := rfl
@[simp] theorem modFlt_gde (f : FltState → FltState) : (modFlt f s).gde = s.gde := rfl
@[simp] theorem modFlt_flt (f : FltState → FltState) : (modFlt f s).flt = f s.flt := rfl
@[simp] theorem modFlt_upd (f : FltState → FltState) : (modFlt f s).upd = s.upd := rfl
@[simp] theorem modFlt_sum (f : FltState → FltState) : (modFlt f s).sum = s.sum := rfl

@[simp] theorem modFus_time (f : FusState → FusState) : (modFus f s).time = s.time := rfl
@[simp] theorem modFus_pending (f : FusState → FusState) : (modFus f s).pending = s.pending := rfl
@[simp] theorem modFus_out (f : FusState → FusState) : (modFus f s).out = s.out := rfl
@[simp] theorem modFus_free (f : FusState → FusState) : (modFus f s).free = s.free := rfl
@[simp] theorem modFus_id (f : FusState → FusState) : (modFus f s).id = s.id := rfl
@[simp] theorem modFus_sys (f : FusState → FusState) : (modFus f s).sys = s.sys := rfl
@[simp] theorem modFus_sig (f : FusState → FusState) : (modFus f s).sig = s.sig := rfl
@[simp] theorem modFus_mem (f : FusState → FusState) : (modFus f s).mem = s.mem := rfl
@[simp] theorem modFus_dma (f : FusState → FusState) : (modFus f s).dma = s.dma := rfl
@[simp] theorem modFus_crn (f : FusState → FusState) : (modFus f s).crn = s.crn := rfl
@[simp] theorem modFus_col (f : FusState → FusState) : (modFus f s).col = s.col := rfl
@[simp] theorem modFus_pwr (f : FusState → FusState) : (modFus f s).pwr = s.pwr := rfl
@[simp] theorem modFus_lpe (f : FusState → FusState) : (modFus f s).lpe = s.lpe := rfl
@[simp] theorem modFus_vlv (f : FusState → FusState) : (modFus f s).vlv = s.vlv := rfl
@[simp] theorem modFus_fio (f : FusState → FusState) : (modFus f s).fio = s.fio := rfl
@[simp] theorem modFus_gns (f : FusState → FusState) : (modFus f s).gns = s.gns := rfl
@[simp] theorem modFus_tim (f : FusState → FusState) : (modFus f s).tim = s.tim := rfl
@[simp] theorem modFus_can (f : FusState → FusState) : (modFus f s).can = s.can := rfl
@[simp] theorem modFus_fus (f : FusState → FusState) : (modFus f s).fus = f s.fus := rfl
@[simp] theorem modFus_cam (f : FusState → FusState) : (modFus f s).cam = s.cam := rfl
@[simp] theorem modFus_cul (f : FusState → FusState) : (modFus f s).cul = s.cul := rfl
@[simp] theorem modFus_map (f : FusState → FusState) : (modFus f s).map = s.map := rfl
@[simp] theorem modFus_sen (f : FusState → FusState) : (modFus f s).sen = s.sen := rfl
@[simp] theorem modFus_fun_ (f : FusState → FusState) : (modFus f s).fun_ = s.fun_ := rfl
@[simp] theorem modFus_gde (f : FusState → FusState) : (modFus f s).gde = s.gde := rfl
@[simp] theorem modFus_flt (f : FusState → FusState) : (modFus f s).flt = s.flt := rfl
@[simp] theorem modFus_upd (f : FusState → FusState) : (modFus f s).upd = s.upd := rfl
@[simp] theorem modFus_sum (f : FusState → FusState) : (modFus f s).sum = s.sum := rfl

@[simp] theorem modCam_time (f : CamState → CamState) : (modCam f s).time = s.time := rfl
@[simp] theorem modCam_pending (f : CamState → CamState) : (modCam f s).pending = s.pending := rfl
@[simp] theorem modCam_out (f : CamState → CamState) : (modCam f s).out = s.out := rfl
@[simp] theorem modCam_free (f : CamState → CamState) : (modCam f s).free = s.free := rfl
@[simp] theorem modCam_id (f : CamState → CamState) : (modCam f s).id = s.id := rfl
@[simp] theorem modCam_sys (f : CamState → CamState) : (modCam f s).sys = s.sys := rfl
@[simp] theorem modCam_sig (f : CamState → CamState) : (modCam f s).sig = s.sig := rfl
@[simp] theorem modCam_mem (f : CamState → CamState) : (modCam f s).mem = s.mem := rfl
@[simp] theorem modCam_dma (f : CamState → CamState) : (modCam f s).dma = s.dma := rfl
@[simp] theorem modCam_crn (f : CamState → CamState) : (modCam f s).crn = s.crn := rfl
@[simp] theorem modCam_col (f : CamState → CamState) : (modCam f s).col = s.col := rfl
@[simp] theorem modCam_pwr (f : CamState → CamState) : (modCam f s).pwr = s.pwr := rfl
@[simp] theorem modCam_lpe (f : CamState → CamState) : (modCam f s).lpe = s.lpe := rfl
@[simp] theorem modCam_vlv (f : CamState → CamState) : (modCam f s).vlv = s.vlv := rfl
@[simp] theorem modCam_fio (f : CamState → CamState) : (modCam f s).fio = s.fio := rfl
@[simp] theorem modCam_gns (f : CamState → CamState) : (modCam f s).gns = s.gns := rfl
@[simp] theorem modCam_tim (f : CamState → CamState) : (modCam f s).tim = s.tim := rfl
@[simp] theorem modCam_can (f : CamState → CamState) : (modCam f s).can = s.can := rfl
@[simp] theorem modCam_fus (f : CamState → CamState) : (modCam f s).fus = s.fus := rfl
@[simp] theorem modCam_cam (f : CamState → CamState) : (modCam f s).cam = f s.cam := rfl
@[simp] theorem modCam_cul (f : CamState → CamState) : (modCam f s).cul = s.cul := rfl
@[simp] theorem modCam_map (f : CamState → CamState) : (modCam f s).map = s.map := rfl
@[simp] theorem modCam_sen (f : CamState → CamState) : (modCam f s).sen = s.sen := rfl
@[simp] theorem modCam_fun_ (f : CamState → CamState) : (modCam f s).fun_ = s.fun_ := rfl
@[simp] theorem modCam_gde (f : CamState → CamState) : (modCam f s).gde = s.gde := rfl
@[simp] theorem modCam_flt (f : CamState → CamState) : (modCam f s).flt = s.flt := rfl
@[simp] theorem modCam_upd (f : CamState → CamState) : (modCam f s).upd = s.upd := rfl
@[simp] theorem modCam_sum (f : CamState → CamState) : (modCam f s).sum = s.sum := rfl

@[simp] theorem modCan_time (c : Nat) (f : CanCh → CanCh) : (modCan c f s).time = s.time := rfl
@[simp] theorem modCan_pending (c : Nat) (f : CanCh → CanCh) : (modCan c f s).pending = s.pending := rfl
@[simp] theorem modCan_out (c : Nat) (f : CanCh → CanCh) : (modCan c f s).out = s.out := rfl
@[simp] theorem modCan_free (c : Nat) (f : CanCh → CanCh) : (modCan c f s).free = s.free := rfl
@[simp] theorem modCan_id (c : Nat) (f : CanCh → CanCh) : (modCan c f s).id = s.id := rfl
@[simp] theorem modCan_sys (c : Nat) (f : CanCh → CanCh) : (modCan c f s).sys = s.sys := rfl
@[simp] theorem modCan_sig (c : Nat) (f : CanCh → CanCh) : (modCan c f s).sig = s.sig := rfl
@[simp] theorem modCan_mem (c : Nat) (f : CanCh → CanCh) : (modCan c f s).mem = s.mem := rfl
@[simp] theorem modCan_dma (c : Nat) (f : CanCh → CanCh) : (modCan c f s).dma = s.dma := rfl
@[simp] theorem modCan_crn (c : Nat) (f : CanCh → CanCh) : (modCan c f s).crn = s.crn := rfl
@[simp] theorem modCan_col (c : Nat) (f : CanCh → CanCh) : (modCan c f s).col = s.col := rfl
@[simp] theorem modCan_pwr (c : Nat) (f : CanCh → CanCh) : (modCan c f s).pwr = s.pwr := rfl
@[simp] theorem modCan_lpe (c : Nat) (f : CanCh → CanCh) : (modCan c f s).lpe = s.lpe := rfl
@[simp] theorem modCan_vlv (c : Nat) (f : CanCh → CanCh) : (modCan c f s).vlv = s.vlv := rfl
@[simp] theorem modCan_fio (c : Nat) (f : CanCh → CanCh) : (modCan c f s).fio = s.fio := rfl
@[simp] theorem modCan_gns (c : Nat) (f : CanCh → CanCh) : (modCan c f s).gns = s.gns := rfl
@[simp] theorem modCan_tim (c : Nat) (f : CanCh → CanCh) : (modCan c f s).tim = s.tim := rfl
@[simp] theorem modCan_can (c : Nat) (f : CanCh → CanCh) : (modCan c f s).can = { s.can with ch := updAt s.can.ch c f } := rfl
@[simp] theorem modCan_fus (c : Nat) (f : CanCh → CanCh) : (modCan c f s).fus = s.fus := rfl
@[simp] theorem modCan_cam (c : Nat) (f : CanCh → CanCh) : (modCan c f s).cam = s.cam := rfl
@[simp] theorem modCan_cul (c : Nat) (f : CanCh → CanCh) : (modCan c f s).cul = s.cul := rfl
@[simp] theorem modCan_map (c : Nat) (f : CanCh → CanCh) : (modCan c f s).map = s.map := rfl
@[simp] theorem modCan_sen (c : Nat) (f : CanCh → CanCh) : (modCan c f s).sen = s.sen := rfl
@[simp] theorem modCan_fun_ (c : Nat) (f : CanCh → CanCh) : (modCan c f s).fun_ = s.fun_ := rfl
@[simp] theorem modCan_gde (c : Nat) (f : CanCh → CanCh) : (modCan c f s).gde = s.gde := rfl
@[simp] theorem modCan_flt (c : Nat) (f : CanCh → CanCh) : (modCan c f s).flt = s.flt := rfl
@[simp] theorem modCan_upd (c : Nat) (f : CanCh → CanCh) : (modCan c f s).upd = s.upd := rfl
@[simp] theorem modCan_sum (c : Nat) (f : CanCh → CanCh) : (modCan c f s).sum = s.sum := rfl

@[simp] theorem modCh_time (c : Nat) (f : DmaCh → DmaCh) : (modCh c f s).time = s.time := rfl
@[simp] theorem modCh_pending (c : Nat) (f : DmaCh → DmaCh) : (modCh c f s).pending = s.pending := rfl
@[simp] theorem modCh_out (c : Nat) (f : DmaCh → DmaCh) : (modCh c f s).out = s.out := rfl
@[simp] theorem modCh_free (c : Nat) (f : DmaCh → DmaCh) : (modCh c f s).free = s.free := rfl
@[simp] theorem modCh_id (c : Nat) (f : DmaCh → DmaCh) : (modCh c f s).id = s.id := rfl
@[simp] theorem modCh_sys (c : Nat) (f : DmaCh → DmaCh) : (modCh c f s).sys = s.sys := rfl
@[simp] theorem modCh_sig (c : Nat) (f : DmaCh → DmaCh) : (modCh c f s).sig = s.sig := rfl
@[simp] theorem modCh_mem (c : Nat) (f : DmaCh → DmaCh) : (modCh c f s).mem = s.mem := rfl
@[simp] theorem modCh_dma (c : Nat) (f : DmaCh → DmaCh) : (modCh c f s).dma = { s.dma with ch := updAt s.dma.ch c f } := rfl
@[simp] theorem modCh_crn (c : Nat) (f : DmaCh → DmaCh) : (modCh c f s).crn = s.crn := rfl
@[simp] theorem modCh_col (c : Nat) (f : DmaCh → DmaCh) : (modCh c f s).col = s.col := rfl
@[simp] theorem modCh_pwr (c : Nat) (f : DmaCh → DmaCh) : (modCh c f s).pwr = s.pwr := rfl
@[simp] theorem modCh_lpe (c : Nat) (f : DmaCh → DmaCh) : (modCh c f s).lpe = s.lpe := rfl
@[simp] theorem modCh_vlv (c : Nat) (f : DmaCh → DmaCh) : (modCh c f s).vlv = s.vlv := rfl
@[simp] theorem modCh_fio (c : Nat) (f : DmaCh → DmaCh) : (modCh c f s).fio = s.fio := rfl
@[simp] theorem modCh_gns (c : Nat) (f : DmaCh → DmaCh) : (modCh c f s).gns = s.gns := rfl
@[simp] theorem modCh_tim (c : Nat) (f : DmaCh → DmaCh) : (modCh c f s).tim = s.tim := rfl
@[simp] theorem modCh_can (c : Nat) (f : DmaCh → DmaCh) : (modCh c f s).can = s.can := rfl
@[simp] theorem modCh_fus (c : Nat) (f : DmaCh → DmaCh) : (modCh c f s).fus = s.fus := rfl
@[simp] theorem modCh_cam (c : Nat) (f : DmaCh → DmaCh) : (modCh c f s).cam = s.cam := rfl
@[simp] theorem modCh_cul (c : Nat) (f : DmaCh → DmaCh) : (modCh c f s).cul = s.cul := rfl
@[simp] theorem modCh_map (c : Nat) (f : DmaCh → DmaCh) : (modCh c f s).map = s.map := rfl
@[simp] theorem modCh_sen (c : Nat) (f : DmaCh → DmaCh) : (modCh c f s).sen = s.sen := rfl
@[simp] theorem modCh_fun_ (c : Nat) (f : DmaCh → DmaCh) : (modCh c f s).fun_ = s.fun_ := rfl
@[simp] theorem modCh_gde (c : Nat) (f : DmaCh → DmaCh) : (modCh c f s).gde = s.gde := rfl
@[simp] theorem modCh_flt (c : Nat) (f : DmaCh → DmaCh) : (modCh c f s).flt = s.flt := rfl
@[simp] theorem modCh_upd (c : Nat) (f : DmaCh → DmaCh) : (modCh c f s).upd = s.upd := rfl
@[simp] theorem modCh_sum (c : Nat) (f : DmaCh → DmaCh) : (modCh c f s).sum = s.sum := rfl

@[simp] theorem modDi_time (n : Nat) (f : Di → Di) : (modDi n f s).time = s.time := rfl
@[simp] theorem modDi_pending (n : Nat) (f : Di → Di) : (modDi n f s).pending = s.pending := rfl
@[simp] theorem modDi_out (n : Nat) (f : Di → Di) : (modDi n f s).out = s.out := rfl
@[simp] theorem modDi_free (n : Nat) (f : Di → Di) : (modDi n f s).free = s.free := rfl
@[simp] theorem modDi_id (n : Nat) (f : Di → Di) : (modDi n f s).id = s.id := rfl
@[simp] theorem modDi_sys (n : Nat) (f : Di → Di) : (modDi n f s).sys = s.sys := rfl
@[simp] theorem modDi_sig (n : Nat) (f : Di → Di) : (modDi n f s).sig = s.sig := rfl
@[simp] theorem modDi_mem (n : Nat) (f : Di → Di) : (modDi n f s).mem = s.mem := rfl
@[simp] theorem modDi_dma (n : Nat) (f : Di → Di) : (modDi n f s).dma = s.dma := rfl
@[simp] theorem modDi_crn (n : Nat) (f : Di → Di) : (modDi n f s).crn = s.crn := rfl
@[simp] theorem modDi_col (n : Nat) (f : Di → Di) : (modDi n f s).col = s.col := rfl
@[simp] theorem modDi_pwr (n : Nat) (f : Di → Di) : (modDi n f s).pwr = s.pwr := rfl
@[simp] theorem modDi_lpe (n : Nat) (f : Di → Di) : (modDi n f s).lpe = s.lpe := rfl
@[simp] theorem modDi_vlv (n : Nat) (f : Di → Di) : (modDi n f s).vlv = s.vlv := rfl
@[simp] theorem modDi_fio (n : Nat) (f : Di → Di) : (modDi n f s).fio = { s.fio with di := updAt s.fio.di n f } := rfl
@[simp] theorem modDi_gns (n : Nat) (f : Di → Di) : (modDi n f s).gns = s.gns := rfl
@[simp] theorem modDi_tim (n : Nat) (f : Di → Di) : (modDi n f s).tim = s.tim := rfl
@[simp] theorem modDi_can (n : Nat) (f : Di → Di) : (modDi n f s).can = s.can := rfl
@[simp] theorem modDi_fus (n : Nat) (f : Di → Di) : (modDi n f s).fus = s.fus := rfl
@[simp] theorem modDi_cam (n : Nat) (f : Di → Di) : (modDi n f s).cam = s.cam := rfl
@[simp] theorem modDi_cul (n : Nat) (f : Di → Di) : (modDi n f s).cul = s.cul := rfl
@[simp] theorem modDi_map (n : Nat) (f : Di → Di) : (modDi n f s).map = s.map := rfl
@[simp] theorem modDi_sen (n : Nat) (f : Di → Di) : (modDi n f s).sen = s.sen := rfl
@[simp] theorem modDi_fun_ (n : Nat) (f : Di → Di) : (modDi n f s).fun_ = s.fun_ := rfl
@[simp] theorem modDi_gde (n : Nat) (f : Di → Di) : (modDi n f s).gde = s.gde := rfl
@[simp] theorem modDi_flt (n : Nat) (f : Di → Di) : (modDi n f s).flt = s.flt := rfl
@[simp] theorem modDi_upd (n : Nat) (f : Di → Di) : (modDi n f s).upd = s.upd := rfl
@[simp] theorem modDi_sum (n : Nat) (f : Di → Di) : (modDi n f s).sum = s.sum := rfl

@[simp] theorem modAi_time (n : Nat) (f : Ai → Ai) : (modAi n f s).time = s.time := rfl
@[simp] theorem modAi_pending (n : Nat) (f : Ai → Ai) : (modAi n f s).pending = s.pending := rfl
@[simp] theorem modAi_out (n : Nat) (f : Ai → Ai) : (modAi n f s).out = s.out := rfl
@[simp] theorem modAi_free (n : Nat) (f : Ai → Ai) : (modAi n f s).free = s.free := rfl
@[simp] theorem modAi_id (n : Nat) (f : Ai → Ai) : (modAi n f s).id = s.id := rfl
@[simp] theorem modAi_sys (n : Nat) (f : Ai → Ai) : (modAi n f s).sys = s.sys := rfl
@[simp] theorem modAi_sig (n : Nat) (f : Ai → Ai) : (modAi n f s).sig = s.sig := rfl
@[simp] theorem modAi_mem (n : Nat) (f : Ai → Ai) : (modAi n f s).mem = s.mem := rfl
@[simp] theorem modAi_dma (n : Nat) (f : Ai → Ai) : (modAi n f s).dma = s.dma := rfl
@[simp] theorem modAi_crn (n : Nat) (f : Ai → Ai) : (modAi n f s).crn = s.crn := rfl
@[simp] theorem modAi_col (n : Nat) (f : Ai → Ai) : (modAi n f s).col = s.col := rfl
@[simp] theorem modAi_pwr (n : Nat) (f : Ai → Ai) : (modAi n f s).pwr = s.pwr := rfl
@[simp] theorem modAi_lpe (n : Nat) (f : Ai → Ai) : (modAi n f s).lpe = s.lpe := rfl
@[simp] theorem modAi_vlv (n : Nat) (f : Ai → Ai) : (modAi n f s).vlv = s.vlv := rfl
@[simp] theorem modAi_fio (n : Nat) (f : Ai → Ai) : (modAi n f s).fio = { s.fio with ai := updAt s.fio.ai n f } := rfl
@[simp] theorem modAi_gns (n : Nat) (f : Ai → Ai) : (modAi n f s).gns = s.gns := rfl
@[simp] theorem modAi_tim (n : Nat) (f : Ai → Ai) : (modAi n f s).tim = s.tim := rfl
@[simp] theorem modAi_can (n : Nat) (f : Ai → Ai) : (modAi n f s).can = s.can := rfl
@[simp] theorem modAi_fus (n : Nat) (f : Ai → Ai) : (modAi n f s).fus = s.fus := rfl
@[simp] theorem modAi_cam (n : Nat) (f : Ai → Ai) : (modAi n f s).cam = s.cam := rfl
@[simp] theorem modAi_cul (n : Nat) (f : Ai → Ai) : (modAi n f s).cul = s.cul := rfl
@[simp] theorem modAi_map (n : Nat) (f : Ai → Ai) : (modAi n f s).map = s.map := rfl
@[simp] theorem modAi_sen (n : Nat) (f : Ai → Ai) : (modAi n f s).sen = s.sen := rfl
@[simp] theorem modAi_fun_ (n : Nat) (f : Ai → Ai) : (modAi n f s).fun_ = s.fun_ := rfl
@[simp] theorem modAi_gde (n : Nat) (f : Ai → Ai) : (modAi n f s).gde = s.gde := rfl
@[simp] theorem modAi_flt (n : Nat) (f : Ai → Ai) : (modAi n f s).flt = s.flt := rfl
@[simp] theorem modAi_upd (n : Nat) (f : Ai → Ai) : (modAi n f s).upd = s.upd := rfl
@[simp] theorem modAi_sum (n : Nat) (f : Ai → Ai) : (modAi n f s).sum = s.sum := rfl

@[simp] theorem modDo_time (n : Nat) (f : DigOut → DigOut) : (modDo n f s).time = s.time := rfl
@[simp] theorem modDo_pending (n : Nat) (f : DigOut → DigOut) : (modDo n f s).pending = s.pending := rfl
@[simp] theorem modDo_out (n : Nat) (f : DigOut → DigOut) : (modDo n f s).out = s.out := rfl
@[simp] theorem modDo_free (n : Nat) (f : DigOut → DigOut) : (modDo n f s).free = s.free := rfl
@[simp] theorem modDo_id (n : Nat) (f : DigOut → DigOut) : (modDo n f s).id = s.id := rfl
@[simp] theorem modDo_sys (n : Nat) (f : DigOut → DigOut) : (modDo n f s).sys = s.sys := rfl
@[simp] theorem modDo_sig (n : Nat) (f : DigOut → DigOut) : (modDo n f s).sig = s.sig := rfl
@[simp] theorem modDo_mem (n : Nat) (f : DigOut → DigOut) : (modDo n f s).mem = s.mem := rfl
@[simp] theorem modDo_dma (n : Nat) (f : DigOut → DigOut) : (modDo n f s).dma = s.dma := rfl
@[simp] theorem modDo_crn (n : Nat) (f : DigOut → DigOut) : (modDo n f s).crn = s.crn := rfl
@[simp] theorem modDo_col (n : Nat) (f : DigOut → DigOut) : (modDo n f s).col = s.col := rfl
@[simp] theorem modDo_pwr (n : Nat) (f : DigOut → DigOut) : (modDo n f s).pwr = s.pwr := rfl
@[simp] theorem modDo_lpe (n : Nat) (f : DigOut → DigOut) : (modDo n f s).lpe = s.lpe := rfl
@[simp] theorem modDo_vlv (n : Nat) (f : DigOut → DigOut) : (modDo n f s).vlv = s.vlv := rfl
@[simp] theorem modDo_fio (n : Nat) (f : DigOut → DigOut) : (modDo n f s).fio = { s.fio with dout := updAt s.fio.dout n f } := rfl
@[simp] theorem modDo_gns (n : Nat) (f : DigOut → DigOut) : (modDo n f s).gns = s.gns := rfl
@[simp] theorem modDo_tim (n : Nat) (f : DigOut → DigOut) : (modDo n f s).tim = s.tim := rfl
@[simp] theorem modDo_can (n : Nat) (f : DigOut → DigOut) : (modDo n f s).can = s.can := rfl
@[simp] theorem modDo_fus (n : Nat) (f : DigOut → DigOut) : (modDo n f s).fus = s.fus := rfl
@[simp] theorem modDo_cam (n : Nat) (f : DigOut → DigOut) : (modDo n f s).cam = s.cam := rfl
@[simp] theorem modDo_cul (n : Nat) (f : DigOut → DigOut) : (modDo n f s).cul = s.cul := rfl
@[simp] theorem modDo_map (n : Nat) (f : DigOut → DigOut) : (modDo n f s).map = s.map := rfl
@[simp] theorem modDo_sen (n : Nat) (f : DigOut → DigOut) : (modDo n f s).sen = s.sen := rfl
@[simp] theorem modDo_fun_ (n : Nat) (f : DigOut → DigOut) : (modDo n f s).fun_ = s.fun_ := rfl
@[simp] theorem modDo_gde (n : Nat) (f : DigOut → DigOut) : (modDo n f s).gde = s.gde := rfl
@[simp] theorem modDo_flt (n : Nat) (f : DigOut → DigOut) : (modDo n f s).flt = s.flt := rfl
@[simp] theorem modDo_upd (n : Nat) (f : DigOut → DigOut) : (modDo n f s).upd = s.upd := rfl
@[simp] theorem modDo_sum (n : Nat) (f : DigOut → DigOut) : (modDo n f s).sum = s.sum := rfl

@[simp] theorem modPort_time (a : Nat) (f : GnsPort → GnsPort) : (modPort a f s).time = s.time := rfl
@[simp] theorem modPort_pending (a : Nat) (f : GnsPort → GnsPort) : (modPort a f s).pending = s.pending := rfl
@[simp] theorem modPort_out (a : Nat) (f : GnsPort → GnsPort) : (modPort a f s).out = s.out := rfl
@[simp] theorem modPort_free (a : Nat) (f : GnsPort → GnsPort) : (modPort a f s).free = s.free := rfl
@[simp] theorem modPort_id (a : Nat) (f : GnsPort → GnsPort) : (modPort a f s).id = s.id := rfl
@[simp] theorem modPort_sys (a : Nat) (f : GnsPort → GnsPort) : (modPort a f s).sys = s.sys := rfl
@[simp] theorem modPort_sig (a : Nat) (f : GnsPort → GnsPort) : (modPort a f s).sig = s.sig := rfl
@[simp] theorem modPort_mem (a : Nat) (f : GnsPort → GnsPort) : (modPort a f s).mem = s.mem := rfl
@[simp] theorem modPort_dma (a : Nat) (f : GnsPort → GnsPort) : (modPort a f s).dma = s.dma := rfl
@[simp] theorem modPort_crn (a : Nat) (f : GnsPort → GnsPort) : (modPort a f s).crn = s.crn := rfl
@[simp] theorem modPort_col (a : Nat) (f : GnsPort → GnsPort) : (modPort a f s).col = s.col := rfl
@[simp] theorem modPort_pwr (a : Nat) (f : GnsPort → GnsPort) : (modPort a f s).pwr = s.pwr := rfl
@[simp] theorem modPort_lpe (a : Nat) (f : GnsPort → GnsPort) : (modPort a f s).lpe = s.lpe := rfl
@[simp] theorem modPort_vlv (a : Nat) (f : GnsPort → GnsPort) : (modPort a f s).vlv = s.vlv := rfl
@[simp] theorem modPort_fio (a : Nat) (f : GnsPort → GnsPort) : (modPort a f s).fio = s.fio := rfl
@[simp] theorem modPort_gns (a : Nat) (f : GnsPort → GnsPort) : (modPort a f s).gns = { s.gns with ports := updAt s.gns.ports a f } := rfl
@[simp] theorem modPort_tim (a : Nat) (f : GnsPort → GnsPort) : (modPort a f s).tim = s.tim := rfl
@[simp] theorem modPort_can (a : Nat) (f : GnsPort → GnsPort) : (modPort a f s).can = s.can := rfl
@[simp] theorem modPort_fus (a : Nat) (f : GnsPort → GnsPort) : (modPort a f s).fus = s.fus := rfl
@[simp] theorem modPort_cam (a : Nat) (f : GnsPort → GnsPort) : (modPort a f s).cam = s.cam := rfl
@[simp] theorem modPort_cul (a : Nat) (f : GnsPort → GnsPort) : (modPort a f s).cul = s.cul := rfl
@[simp] theorem modPort_map (a : Nat) (f : GnsPort → GnsPort) : (modPort a f s).map = s.map := rfl
@[simp] theorem modPort_sen (a : Nat) (f : GnsPort → GnsPort) : (modPort a f s).sen = s.sen := rfl
@[simp] theorem modPort_fun_ (a : Nat) (f : GnsPort → GnsPort) : (modPort a f s).fun_ = s.fun_ := rfl
@[simp] theorem modPort_gde (a : Nat) (f : GnsPort → GnsPort) : (modPort a f s).gde = s.gde := rfl
@[simp] theorem modPort_flt (a : Nat) (f : GnsPort → GnsPort) : (modPort a f s).flt = s.flt := rfl
@[simp] theorem modPort_upd (a : Nat) (f : GnsPort → GnsPort) : (modPort a f s).upd = s.upd := rfl
@[simp] theorem modPort_sum (a : Nat) (f : GnsPort → GnsPort) : (modPort a f s).sum = s.sum := rfl

@[simp] theorem modGch_time (c : Nat) (f : GnsCh → GnsCh) : (modGch c f s).time = s.time := rfl
@[simp] theorem modGch_pending (c : Nat) (f : GnsCh → GnsCh) : (modGch c f s).pending = s.pending := rfl
@[simp] theorem modGch_out (c : Nat) (f : GnsCh → GnsCh) : (modGch c f s).out = s.out := rfl
@[simp] theorem modGch_free (c : Nat) (f : GnsCh → GnsCh) : (modGch c f s).free = s.free := rfl
@[simp] theorem modGch_id (c : Nat) (f : GnsCh → GnsCh) : (modGch c f s).id = s.id := rfl
@[simp] theorem modGch_sys (c : Nat) (f : GnsCh → GnsCh) : (modGch c f s).sys = s.sys := rfl
@[simp] theorem modGch_sig (c : Nat) (f : GnsCh → GnsCh) : (modGch c f s).sig = s.sig := rfl
@[simp] theorem modGch_mem (c : Nat) (f : GnsCh → GnsCh) : (modGch c f s).mem = s.mem := rfl
@[simp] theorem modGch_dma (c : Nat) (f : GnsCh → GnsCh) : (modGch c f s).dma = s.dma := rfl
@[simp] theorem modGch_crn (c : Nat) (f : GnsCh → GnsCh) : (modGch c f s).crn = s.crn := rfl
@[simp] theorem modGch_col (c : Nat) (f : GnsCh → GnsCh) : (modGch c f s).col = s.col := rfl
@[simp] theorem modGch_pwr (c : Nat) (f : GnsCh → GnsCh) : (modGch c f s).pwr = s.pwr := rfl
@[simp] theorem modGch_lpe (c : Nat) (f : GnsCh → GnsCh) : (modGch c f s).lpe = s.lpe := rfl
@[simp] theorem modGch_vlv (c : Nat) (f : GnsCh → GnsCh) : (modGch c f s).vlv = s.vlv := rfl
@[simp] theorem modGch_fio (c : Nat) (f : GnsCh → GnsCh) : (modGch c f s).fio = s.fio := rfl
@[simp] theorem modGch_gns (c : Nat) (f : GnsCh → GnsCh) : (modGch c f s).gns = { s.gns with ch := updAt s.gns.ch c f } := rfl
@[simp] theorem modGch_tim (c : Nat) (f : GnsCh → GnsCh) : (modGch c f s).tim = s.tim := rfl
@[simp] theorem modGch_can (c : Nat) (f : GnsCh → GnsCh) : (modGch c f s).can = s.can := rfl
@[simp] theorem modGch_fus (c : Nat) (f : GnsCh → GnsCh) : (modGch c f s).fus = s.fus := rfl
@[simp] theorem modGch_cam (c : Nat) (f : GnsCh → GnsCh) : (modGch c f s).cam = s.cam := rfl
@[simp] theorem modGch_cul (c : Nat) (f : GnsCh → GnsCh) : (modGch c f s).cul = s.cul := rfl
@[simp] theorem modGch_map (c : Nat) (f : GnsCh → GnsCh) : (modGch c f s).map = s.map := rfl
@[simp] theorem modGch_sen (c : Nat) (f : GnsCh → GnsCh) : (modGch c f s).sen = s.sen := rfl
@[simp] theorem modGch_fun_ (c : Nat) (f : GnsCh → GnsCh) : (modGch c f s).fun_ = s.fun_ := rfl
@[simp] theorem modGch_gde (c : Nat) (f : GnsCh → GnsCh) : (modGch c f s).gde = s.gde := rfl
@[simp] theorem modGch_flt (c : Nat) (f : GnsCh → GnsCh) : (modGch c f s).flt = s.flt := rfl
@[simp] theorem modGch_upd (c : Nat) (f : GnsCh → GnsCh) : (modGch c f s).upd = s.upd := rfl
@[simp] theorem modGch_sum (c : Nat) (f : GnsCh → GnsCh) : (modGch c f s).sum = s.sum := rfl

@[simp] theorem modLoop_time (n : Nat) (f : Loop → Loop) : (modLoop n f s).time = s.time := rfl
@[simp] theorem modLoop_pending (n : Nat) (f : Loop → Loop) : (modLoop n f s).pending = s.pending := rfl
@[simp] theorem modLoop_out (n : Nat) (f : Loop → Loop) : (modLoop n f s).out = s.out := rfl
@[simp] theorem modLoop_free (n : Nat) (f : Loop → Loop) : (modLoop n f s).free = s.free := rfl
@[simp] theorem modLoop_id (n : Nat) (f : Loop → Loop) : (modLoop n f s).id = s.id := rfl
@[simp] theorem modLoop_sys (n : Nat) (f : Loop → Loop) : (modLoop n f s).sys = s.sys := rfl
@[simp] theorem modLoop_sig (n : Nat) (f : Loop → Loop) : (modLoop n f s).sig = s.sig := rfl
@[simp] theorem modLoop_mem (n : Nat) (f : Loop → Loop) : (modLoop n f s).mem = s.mem := rfl
@[simp] theorem modLoop_dma (n : Nat) (f : Loop → Loop) : (modLoop n f s).dma = s.dma := rfl
@[simp] theorem modLoop_crn (n : Nat) (f : Loop → Loop) : (modLoop n f s).crn = s.crn := rfl
@[simp] theorem modLoop_col (n : Nat) (f : Loop → Loop) : (modLoop n f s).col = s.col := rfl
@[simp] theorem modLoop_pwr (n : Nat) (f : Loop → Loop) : (modLoop n f s).pwr = s.pwr := rfl
@[simp] theorem modLoop_lpe (n : Nat) (f : Loop → Loop) : (modLoop n f s).lpe = { s.lpe with loops := updAt s.lpe.loops n f } := rfl
@[simp] theorem modLoop_vlv (n : Nat) (f : Loop → Loop) : (modLoop n f s).vlv = s.vlv := rfl
@[simp] theorem modLoop_fio (n : Nat) (f : Loop → Loop) : (modLoop n f s).fio = s.fio := rfl
@[simp] theorem modLoop_gns (n : Nat) (f : Loop → Loop) : (modLoop n f s).gns = s.gns := rfl
@[simp] theorem modLoop_tim (n : Nat) (f : Loop → Loop) : (modLoop n f s).tim = s.tim := rfl
@[simp] theorem modLoop_can (n : Nat) (f : Loop → Loop) : (modLoop n f s).can = s.can := rfl
@[simp] theorem modLoop_fus (n : Nat) (f : Loop → Loop) : (modLoop n f s).fus = s.fus := rfl
@[simp] theorem modLoop_cam (n : Nat) (f : Loop → Loop) : (modLoop n f s).cam = s.cam := rfl
@[simp] theorem modLoop_cul (n : Nat) (f : Loop → Loop) : (modLoop n f s).cul = s.cul := rfl
@[simp] theorem modLoop_map (n : Nat) (f : Loop → Loop) : (modLoop n f s).map = s.map := rfl
@[simp] theorem modLoop_sen (n : Nat) (f : Loop → Loop) : (modLoop n f s).sen = s.sen := rfl
@[simp] theorem modLoop_fun_ (n : Nat) (f : Loop → Loop) : (modLoop n f s).fun_ = s.fun_ := rfl
@[simp] theorem modLoop_gde (n : Nat) (f : Loop → Loop) : (modLoop n f s).gde = s.gde := rfl
@[simp] theorem modLoop_flt (n : Nat) (f : Loop → Loop) : (modLoop n f s).flt = s.flt := rfl
@[simp] theorem modLoop_upd (n : Nat) (f : Loop → Loop) : (modLoop n f s).upd = s.upd := rfl
@[simp] theorem modLoop_sum (n : Nat) (f : Loop → Loop) : (modLoop n f s).sum = s.sum := rfl

@[simp] theorem modTrace_time (u : Nat) (f : Trace → Trace) : (modTrace u f s).time = s.time := rfl
@[simp] theorem modTrace_pending (u : Nat) (f : Trace → Trace) : (modTrace u f s).pending = s.pending := rfl
@[simp] theorem modTrace_out (u : Nat) (f : Trace → Trace) : (modTrace u f s).out = s.out := rfl
@[simp] theorem modTrace_free (u : Nat) (f : Trace → Trace) : (modTrace u f s).free = s.free := rfl
@[simp] theorem modTrace_id (u : Nat) (f : Trace → Trace) : (modTrace u f s).id = s.id := rfl
@[simp] theorem modTrace_sys (u : Nat) (f : Trace → Trace) : (modTrace u f s).sys = s.sys := rfl
@[simp] theorem modTrace_sig (u : Nat) (f : Trace → Trace) : (modTrace u f s).sig = s.sig := rfl
@[simp] theorem modTrace_mem (u : Nat) (f : Trace → Trace) : (modTrace u f s).mem = s.mem := rfl
@[simp] theorem modTrace_dma (u : Nat) (f : Trace → Trace) : (modTrace u f s).dma = s.dma := rfl
@[simp] theorem modTrace_crn (u : Nat) (f : Trace → Trace) : (modTrace u f s).crn = s.crn := rfl
@[simp] theorem modTrace_col (u : Nat) (f : Trace → Trace) : (modTrace u f s).col = s.col := rfl
@[simp] theorem modTrace_pwr (u : Nat) (f : Trace → Trace) : (modTrace u f s).pwr = s.pwr := rfl
@[simp] theorem modTrace_lpe (u : Nat) (f : Trace → Trace) : (modTrace u f s).lpe = { s.lpe with traces := updAt s.lpe.traces u f } := rfl
@[simp] theorem modTrace_vlv (u : Nat) (f : Trace → Trace) : (modTrace u f s).vlv = s.vlv := rfl
@[simp] theorem modTrace_fio (u : Nat) (f : Trace → Trace) : (modTrace u f s).fio = s.fio := rfl
@[simp] theorem modTrace_gns (u : Nat) (f : Trace → Trace) : (modTrace u f s).gns = s.gns := rfl
@[simp] theorem modTrace_tim (u : Nat) (f : Trace → Trace) : (modTrace u f s).tim = s.tim := rfl
@[simp] theorem modTrace_can (u : Nat) (f : Trace → Trace) : (modTrace u f s).can = s.can := rfl
@[simp] theorem modTrace_fus (u : Nat) (f : Trace → Trace) : (modTrace u f s).fus = s.fus := rfl
@[simp] theorem modTrace_cam (u : Nat) (f : Trace → Trace) : (modTrace u f s).cam = s.cam := rfl
@[simp] theorem modTrace_cul (u : Nat) (f : Trace → Trace) : (modTrace u f s).cul = s.cul := rfl
@[simp] theorem modTrace_map (u : Nat) (f : Trace → Trace) : (modTrace u f s).map = s.map := rfl
@[simp] theorem modTrace_sen (u : Nat) (f : Trace → Trace) : (modTrace u f s).sen = s.sen := rfl
@[simp] theorem modTrace_fun_ (u : Nat) (f : Trace → Trace) : (modTrace u f s).fun_ = s.fun_ := rfl
@[simp] theorem modTrace_gde (u : Nat) (f : Trace → Trace) : (modTrace u f s).gde = s.gde := rfl
@[simp] theorem modTrace_flt (u : Nat) (f : Trace → Trace) : (modTrace u f s).flt = s.flt := rfl
@[simp] theorem modTrace_upd (u : Nat) (f : Trace → Trace) : (modTrace u f s).upd = s.upd := rfl
@[simp] theorem modTrace_sum (u : Nat) (f : Trace → Trace) : (modTrace u f s).sum = s.sum := rfl

@[simp] theorem modValve_time (n : Nat) (f : Valve → Valve) : (modValve n f s).time = s.time := rfl
@[simp] theorem modValve_pending (n : Nat) (f : Valve → Valve) : (modValve n f s).pending = s.pending := rfl
@[simp] theorem modValve_out (n : Nat) (f : Valve → Valve) : (modValve n f s).out = s.out := rfl
@[simp] theorem modValve_free (n : Nat) (f : Valve → Valve) : (modValve n f s).free = s.free := rfl
@[simp] theorem modValve_id (n : Nat) (f : Valve → Valve) : (modValve n f s).id = s.id := rfl
@[simp] theorem modValve_sys (n : Nat) (f : Valve → Valve) : (modValve n f s).sys = s.sys := rfl
@[simp] theorem modValve_sig (n : Nat) (f : Valve → Valve) : (modValve n f s).sig = s.sig := rfl
@[simp] theorem modValve_mem (n : Nat) (f : Valve → Valve) : (modValve n f s).mem = s.mem := rfl
@[simp] theorem modValve_dma (n : Nat) (f : Valve → Valve) : (modValve n f s).dma = s.dma := rfl
@[simp] theorem modValve_crn (n : Nat) (f : Valve → Valve) : (modValve n f s).crn = s.crn := rfl
@[simp] theorem modValve_col (n : Nat) (f : Valve → Valve) : (modValve n f s).col = s.col := rfl
@[simp] theorem modValve_pwr (n : Nat) (f : Valve → Valve) : (modValve n f s).pwr = s.pwr := rfl
@[simp] theorem modValve_lpe (n : Nat) (f : Valve → Valve) : (modValve n f s).lpe = s.lpe := rfl
@[simp] theorem modValve_vlv (n : Nat) (f : Valve → Valve) : (modValve n f s).vlv = { s.vlv with ch := updAt s.vlv.ch n f } := rfl
@[simp] theorem modValve_fio (n : Nat) (f : Valve → Valve) : (modValve n f s).fio = s.fio := rfl
@[simp] theorem modValve_gns (n : Nat) (f : Valve → Valve) : (modValve n f s).gns = s.gns := rfl
@[simp] theorem modValve_tim (n : Nat) (f : Valve → Valve) : (modValve n f s).tim = s.tim := rfl
@[simp] theorem modValve_can (n : Nat) (f : Valve → Valve) : (modValve n f s).can = s.can := rfl
@[simp] theorem modValve_fus (n : Nat) (f : Valve → Valve) : (modValve n f s).fus = s.fus := rfl
@[simp] theorem modValve_cam (n : Nat) (f : Valve → Valve) : (modValve n f s).cam = s.cam := rfl
@[simp] theorem modValve_cul (n : Nat) (f : Valve → Valve) : (modValve n f s).cul = s.cul := rfl
@[simp] theorem modValve_map (n : Nat) (f : Valve → Valve) : (modValve n f s).map = s.map := rfl
@[simp] theorem modValve_sen (n : Nat) (f : Valve → Valve) : (modValve n f s).sen = s.sen := rfl
@[simp] theorem modValve_fun_ (n : Nat) (f : Valve → Valve) : (modValve n f s).fun_ = s.fun_ := rfl
@[simp] theorem modValve_gde (n : Nat) (f : Valve → Valve) : (modValve n f s).gde = s.gde := rfl
@[simp] theorem modValve_flt (n : Nat) (f : Valve → Valve) : (modValve n f s).flt = s.flt := rfl
@[simp] theorem modValve_upd (n : Nat) (f : Valve → Valve) : (modValve n f s).upd = s.upd := rfl
@[simp] theorem modValve_sum (n : Nat) (f : Valve → Valve) : (modValve n f s).sum = s.sum := rfl

@[simp] theorem setPart_time (n : Nat) (p : Part) : (s.setPart n p).time = s.time := rfl
@[simp] theorem setPart_pending (n : Nat) (p : Part) : (s.setPart n p).pending = s.pending := rfl
@[simp] theorem setPart_out (n : Nat) (p : Part) : (s.setPart n p).out = s.out := rfl
@[simp] theorem setPart_free (n : Nat) (p : Part) : (s.setPart n p).free = s.free := rfl
@[simp] theorem setPart_id (n : Nat) (p : Part) : (s.setPart n p).id = s.id := rfl
@[simp] theorem setPart_sys (n : Nat) (p : Part) : (s.setPart n p).sys = s.sys := rfl
@[simp] theorem setPart_sig (n : Nat) (p : Part) : (s.setPart n p).sig = s.sig := rfl
@[simp] theorem setPart_mem (n : Nat) (p : Part) : (s.setPart n p).mem = s.mem := rfl
@[simp] theorem setPart_dma (n : Nat) (p : Part) : (s.setPart n p).dma = s.dma := rfl
@[simp] theorem setPart_crn (n : Nat) (p : Part) : (s.setPart n p).crn = s.crn := rfl
@[simp] theorem setPart_col (n : Nat) (p : Part) : (s.setPart n p).col = { s.col with parts := aset s.col.parts n p } := rfl
@[simp] theorem setPart_pwr (n : Nat) (p : Part) : (s.setPart n p).pwr = s.pwr := rfl
@[simp] theorem setPart_lpe (n : Nat) (p : Part) : (s.setPart n p).lpe = s.lpe := rfl
@[simp] theorem setPart_vlv (n : Nat) (p : Part) : (s.setPart n p).vlv = s.vlv := rfl
@[simp] theorem setPart_fio (n : Nat) (p : Part) : (s.setPart n p).fio = s.fio := rfl
@[simp] theorem setPart_gns (n : Nat) (p : Part) : (s.setPart n p).gns = s.gns := rfl
@[simp] theorem setPart_tim (n : Nat) (p : Part) : (s.setPart n p).tim = s.tim := rfl
@[simp] theorem setPart_can (n : Nat) (p : Part) : (s.setPart n p).can = s.can := rfl
@[simp] theorem setPart_fus (n : Nat) (p : Part) : (s.setPart n p).fus = s.fus := rfl
@[simp] theorem setPart_cam (n : Nat) (p : Part) : (s.setPart n p).cam = s.cam := rfl
@[simp] theorem setPart_cul (n : Nat) (p : Part) : (s.setPart n p).cul = s.cul := rfl
@[simp] theorem setPart_map (n : Nat) (p : Part) : (s.setPart n p).map = s.map := rfl
@[simp] theorem setPart_sen (n : Nat) (p : Part) : (s.setPart n p).sen = s.sen := rfl
@[simp] theorem setPart_fun_ (n : Nat) (p : Part) : (s.setPart n p).fun_ = s.fun_ := rfl
@[simp] theorem setPart_gde (n : Nat) (p : Part) : (s.setPart n p).gde = s.gde := rfl
@[simp] theorem setPart_flt (n : Nat) (p : Part) : (s.setPart n p).flt = s.flt := rfl
@[simp] theorem setPart_upd (n : Nat) (p : Part) : (s.setPart n p).upd = s.upd := rfl
@[simp] theorem setPart_sum (n : Nat) (p : Part) : (s.setPart n p).sum = s.sum := rfl

@[simp] theorem setMailbox_time (n : Nat) (m : Mailbox) : (s.setMailbox n m).time = s.time := rfl
@[simp] theorem setMailbox_pending (n : Nat) (m : Mailbox) : (s.setMailbox n m).pending = s.pending := rfl
@[simp] theorem setMailbox_out (n : Nat) (m : Mailbox) : (s.setMailbox n m).out = s.out := rfl
@[simp] theorem setMailbox_free (n : Nat) (m : Mailbox) : (s.setMailbox n m).free = s.free := rfl
@[simp] theorem setMailbox_id (n : Nat) (m : Mailbox) : (s.setMailbox n m).id = s.id := rfl
@[simp] theorem setMailbox_sys (n : Nat) (m : Mailbox) : (s.setMailbox n m).sys = { s.sys with mailboxes := aset s.sys.mailboxes n m } := rfl
@[simp] theorem setMailbox_sig (n : Nat) (m : Mailbox) : (s.setMailbox n m).sig = s.sig := rfl
@[simp] theorem setMailbox_mem (n : Nat) (m : Mailbox) : (s.setMailbox n m).mem = s.mem := rfl
@[simp] theorem setMailbox_dma (n : Nat) (m : Mailbox) : (s.setMailbox n m).dma = s.dma := rfl
@[simp] theorem setMailbox_crn (n : Nat) (m : Mailbox) : (s.setMailbox n m).crn = s.crn := rfl
@[simp] theorem setMailbox_col (n : Nat) (m : Mailbox) : (s.setMailbox n m).col = s.col := rfl
@[simp] theorem setMailbox_pwr (n : Nat) (m : Mailbox) : (s.setMailbox n m).pwr = s.pwr := rfl
@[simp] theorem setMailbox_lpe (n : Nat) (m : Mailbox) : (s.setMailbox n m).lpe = s.lpe := rfl
@[simp] theorem setMailbox_vlv (n : Nat) (m : Mailbox) : (s.setMailbox n m).vlv = s.vlv := rfl
@[simp] theorem setMailbox_fio (n : Nat) (m : Mailbox) : (s.setMailbox n m).fio = s.fio := rfl
@[simp] theorem setMailbox_gns (n : Nat) (m : Mailbox) : (s.setMailbox n m).gns = s.gns := rfl
@[simp] theorem setMailbox_tim (n : Nat) (m : Mailbox) : (s.setMailbox n m).tim = s.tim := rfl
@[simp] theorem setMailbox_can (n : Nat) (m : Mailbox) : (s.setMailbox n m).can = s.can := rfl
@[simp] theorem setMailbox_fus (n : Nat) (m : Mailbox) : (s.setMailbox n m).fus = s.fus := rfl
@[simp] theorem setMailbox_cam (n : Nat) (m : Mailbox) : (s.setMailbox n m).cam = s.cam := rfl
@[simp] theorem setMailbox_cul (n : Nat) (m : Mailbox) : (s.setMailbox n m).cul = s.cul := rfl
@[simp] theorem setMailbox_map (n : Nat) (m : Mailbox) : (s.setMailbox n m).map = s.map := rfl
@[simp] theorem setMailbox_sen (n : Nat) (m : Mailbox) : (s.setMailbox n m).sen = s.sen := rfl
@[simp] theorem setMailbox_fun_ (n : Nat) (m : Mailbox) : (s.setMailbox n m).fun_ = s.fun_ := rfl
@[simp] theorem setMailbox_gde (n : Nat) (m : Mailbox) : (s.setMailbox n m).gde = s.gde := rfl
@[simp] theorem setMailbox_flt (n : Nat) (m : Mailbox) : (s.setMailbox n m).flt = s.flt := rfl
@[simp] theorem setMailbox_upd (n : Nat) (m : Mailbox) : (s.setMailbox n m).upd = s.upd := rfl
@[simp] theorem setMailbox_sum (n : Nat) (m : Mailbox) : (s.setMailbox n m).sum = s.sum := rfl

@[simp] theorem setOwn_time (n : Nat) (r : Rec) : (s.setOwn n r).time = s.time := rfl
@[simp] theorem setOwn_pending (n : Nat) (r : Rec) : (s.setOwn n r).pending = s.pending := rfl
@[simp] theorem setOwn_out (n : Nat) (r : Rec) : (s.setOwn n r).out = s.out := rfl
@[simp] theorem setOwn_free (n : Nat) (r : Rec) : (s.setOwn n r).free = s.free := rfl
@[simp] theorem setOwn_id (n : Nat) (r : Rec) : (s.setOwn n r).id = s.id := rfl
@[simp] theorem setOwn_sys (n : Nat) (r : Rec) : (s.setOwn n r).sys = s.sys := rfl
@[simp] theorem setOwn_sig (n : Nat) (r : Rec) : (s.setOwn n r).sig = { s.sig with own := aset s.sig.own n r } := rfl
@[simp] theorem setOwn_mem (n : Nat) (r : Rec) : (s.setOwn n r).mem = s.mem := rfl
@[simp] theorem setOwn_dma (n : Nat) (r : Rec) : (s.setOwn n r).dma = s.dma := rfl
@[simp] theorem setOwn_crn (n : Nat) (r : Rec) : (s.setOwn n r).crn = s.crn := rfl
@[simp] theorem setOwn_col (n : Nat) (r : Rec) : (s.setOwn n r).col = s.col := rfl
@[simp] theorem setOwn_pwr (n : Nat) (r : Rec) : (s.setOwn n r).pwr = s.pwr := rfl
@[simp] theorem setOwn_lpe (n : Nat) (r : Rec) : (s.setOwn n r).lpe = s.lpe := rfl
@[simp] theorem setOwn_vlv (n : Nat) (r : Rec) : (s.setOwn n r).vlv = s.vlv := rfl
@[simp] theorem setOwn_fio (n : Nat) (r : Rec) : (s.setOwn n r).fio = s.fio := rfl
@[simp] theorem setOwn_gns (n : Nat) (r : Rec) : (s.setOwn n r).gns = s.gns := rfl
@[simp] theorem setOwn_tim (n : Nat) (r : Rec) : (s.setOwn n r).tim = s.tim := rfl
@[simp] theorem setOwn_can (n : Nat) (r : Rec) : (s.setOwn n r).can = s.can := rfl
@[simp] theorem setOwn_fus (n : Nat) (r : Rec) : (s.setOwn n r).fus = s.fus := rfl
@[simp] theorem setOwn_cam (n : Nat) (r : Rec) : (s.setOwn n r).cam = s.cam := rfl
@[simp] theorem setOwn_cul (n : Nat) (r : Rec) : (s.setOwn n r).cul = s.cul := rfl
@[simp] theorem setOwn_map (n : Nat) (r : Rec) : (s.setOwn n r).map = s.map := rfl
@[simp] theorem setOwn_sen (n : Nat) (r : Rec) : (s.setOwn n r).sen = s.sen := rfl
@[simp] theorem setOwn_fun_ (n : Nat) (r : Rec) : (s.setOwn n r).fun_ = s.fun_ := rfl
@[simp] theorem setOwn_gde (n : Nat) (r : Rec) : (s.setOwn n r).gde = s.gde := rfl
@[simp] theorem setOwn_flt (n : Nat) (r : Rec) : (s.setOwn n r).flt = s.flt := rfl
@[simp] theorem setOwn_upd (n : Nat) (r : Rec) : (s.setOwn n r).upd = s.upd := rfl
@[simp] theorem setOwn_sum (n : Nat) (r : Rec) : (s.setOwn n r).sum = s.sum := rfl

@[simp] theorem setLast_time (r : MemResult) : (setLast r s).time = s.time := rfl
@[simp] theorem setLast_pending (r : MemResult) : (setLast r s).pending = s.pending := rfl
@[simp] theorem setLast_out (r : MemResult) : (setLast r s).out = s.out := rfl
@[simp] theorem setLast_free (r : MemResult) : (setLast r s).free = s.free := rfl
@[simp] theorem setLast_id (r : MemResult) : (setLast r s).id = s.id := rfl
@[simp] theorem setLast_sys (r : MemResult) : (setLast r s).sys = s.sys := rfl
@[simp] theorem setLast_sig (r : MemResult) : (setLast r s).sig = s.sig := rfl
@[simp] theorem setLast_mem (r : MemResult) : (setLast r s).mem = { s.mem with last := r } := rfl
@[simp] theorem setLast_dma (r : MemResult) : (setLast r s).dma = s.dma := rfl
@[simp] theorem setLast_crn (r : MemResult) : (setLast r s).crn = s.crn := rfl
@[simp] theorem setLast_col (r : MemResult) : (setLast r s).col = s.col := rfl
@[simp] theorem setLast_pwr (r : MemResult) : (setLast r s).pwr = s.pwr := rfl
@[simp] theorem setLast_lpe (r : MemResult) : (setLast r s).lpe = s.lpe := rfl
@[simp] theorem setLast_vlv (r : MemResult) : (setLast r s).vlv = s.vlv := rfl
@[simp] theorem setLast_fio (r : MemResult) : (setLast r s).fio = s.fio := rfl
@[simp] theorem setLast_gns (r : MemResult) : (setLast r s).gns = s.gns := rfl
@[simp] theorem setLast_tim (r : MemResult) : (setLast r s).tim = s.tim := rfl
@[simp] theorem setLast_can (r : MemResult) : (setLast r s).can = s.can := rfl
@[simp] theorem setLast_fus (r : MemResult) : (setLast r s).fus = s.fus := rfl
@[simp] theorem setLast_cam (r : MemResult) : (setLast r s).cam = s.cam := rfl
@[simp] theorem setLast_cul (r : MemResult) : (setLast r s).cul = s.cul := rfl
@[simp] theorem setLast_map (r : MemResult) : (setLast r s).map = s.map := rfl
@[simp] theorem setLast_sen (r : MemResult) : (setLast r s).sen = s.sen := rfl
@[simp] theorem setLast_fun_ (r : MemResult) : (setLast r s).fun_ = s.fun_ := rfl
@[simp] theorem setLast_gde (r : MemResult) : (setLast r s).gde = s.gde := rfl
@[simp] theorem setLast_flt (r : MemResult) : (setLast r s).flt = s.flt := rfl
@[simp] theorem setLast_upd (r : MemResult) : (setLast r s).upd = s.upd := rfl
@[simp] theorem setLast_sum (r : MemResult) : (setLast r s).sum = s.sum := rfl

end Sys2Proof.Machine
end

