-- ==== Sys2Proof/Laws/Ops.lean ====
section
/-! SUPPORT. For each shared operation, all that it can change. -/
namespace Sys2Proof.Machine

/-- A Cairn event changes Cairn alone. -/
theorem cairn_frame (code source : Nat) (payload : List Byte) (s : State) : ∃ c, cairn code source payload s = { s with crn := c } := by
  unfold cairn
  split
  · exact ⟨s.crn, rfl⟩
  · exact ⟨_, rfl⟩

/-- What holds at the start of a fold and is kept by each step holds at its end. -/
theorem foldl_frame {α β : Type} (P : β → Prop) {f : β → α → β} (hf : ∀ u a, P u → P (f u a)) : ∀ (l : List α) (u : β), P u → P (l.foldl f u)
  | [], _, h => h
  | a :: l, u, h => foldl_frame P hf l (f u a) (hf u a h)

/-- A packet that leaves changes the mailboxes and the sent packets alone. -/
theorem sendOut_frame (o : OutPkt) (s : State) : ∃ a b, sendOut o s = { s with sys := a, out := b } := by
  unfold sendOut
  simp only
  split
  · split
    · exact ⟨_, s.out, rfl⟩
    · exact ⟨s.sys, _, rfl⟩
  · exact ⟨s.sys, _, rfl⟩

/-- An originated packet changes chapter 03's state and the sent packets alone. -/
theorem originate_frame (port opcode : Nat) (target : BitVec 32) (payload : List Byte) (s : State) :
    ∃ a b, originate port opcode target payload s = { s with sys := a, out := b } := by
  unfold originate takeTag
  simp only
  split
  · exact sendOut_frame _ _
  · exact sendOut_frame _ _

/-- The next tag of a port changes chapter 03's state alone. -/
theorem takeTag_frame (port : Nat) (s : State) : ∃ a, (takeTag port s).2 = { s with sys := a } := ⟨_, rfl⟩

/-- Datagrams to the hosts change chapter 03's state and the sent packets alone. -/
theorem toHosts_frame (opcode : Nat) (target : BitVec 32) (payload : List Byte) (s : State) :
    ∃ a b, toHosts opcode target payload s = { s with sys := a, out := b } := by
  unfold toHosts
  split
  · exact ⟨s.sys, s.out, rfl⟩
  · refine foldl_frame (fun u => ∃ a b, u = { s with sys := a, out := b }) ?_ _ _ ⟨s.sys, s.out, rfl⟩
    rintro _ i ⟨a, b, rfl⟩
    obtain ⟨c, d, h⟩ := sendOut_frame _ _
    exact ⟨c, d, h⟩

/-- An event of the module changes chapter 03's state, the sent packets and Cairn alone. -/
theorem event_frame (opcode target : Nat) (payload : List Byte) (parts : List Nat) (source : Nat) (s : State) :
    ∃ a b c, event opcode target payload parts source s = { s with sys := a, out := b, crn := c } := by
  have fold : ∀ (l : List Nat) (u : State), (∃ a b, u = { s with sys := a, out := b }) →
      ∃ a b, l.foldl (fun s n => originate n opcode (BitVec.ofNat 32 target) payload s) u = { s with sys := a, out := b } := by
    intro l
    induction l with
    | nil => intro u h; exact h
    | cons n l ih =>
      intro u h
      obtain ⟨a, b, rfl⟩ := h
      refine ih _ ?_
      obtain ⟨c, d, h⟩ := originate_frame n opcode (BitVec.ofNat 32 target) payload { s with sys := a, out := b }
      exact ⟨c, d, h⟩
  unfold event
  simp only
  obtain ⟨a, b, hf⟩ := fold parts _ (toHosts_frame opcode (BitVec.ofNat 32 target) payload s)
  rw [hf]
  obtain ⟨c, hc⟩ := cairn_frame opcode source payload { s with sys := a, out := b }
  exact ⟨a, b, c, hc⟩

/-- `MEM_EVENT` changes chapter 03's state, the sent packets and Cairn alone. -/
theorem memEvent_frame (cause : Nat) (chan sub dev : Option Nat) (agent : Nat) (owner : Option Nat) (addr : Nat) (s : State) :
    ∃ a b c, memEvent cause chan sub dev agent owner addr s = { s with sys := a, out := b, crn := c } := event_frame _ _ _ _ _ _

/-- A refused access: one more fault, and the requester is told. -/
theorem refuseAccess_frame (x : MemAccess) (s : State) : ∃ a b c, refuseAccess x s =
    { s with sys := a, out := b, crn := c
             mem := { s.mem with faults := s.mem.faults + 1, last := { data := zeros x.size, fault := true } } } := by
  unfold refuseAccess accessFault
  obtain ⟨a, b, c, h⟩ := memEvent_frame 8 (evChan x.addr) (evSub x.addr) none x.agent none (lineOf x.addr)
    { s with mem := { s.mem with faults := s.mem.faults + 1 } }
  rw [h]
  exact ⟨a, b, c, rfl⟩

/-- A reply changes mailboxes, journals and the sent packets alone. -/
theorem sendReply_frame (r : Req) (st : Status) (payload : List Byte) (now : Bool) (s : State) :
    ∃ m b c, sendReply r st payload now s = { s with sys := { s.sys with mailboxes := m }, out := b, col := c } := by
  unfold sendReply
  simp only
  split
  · exact ⟨s.sys.mailboxes, s.out, s.col, rfl⟩
  · split
    · exact ⟨s.sys.mailboxes, _, s.col, rfl⟩
    · split
      · split
        · exact ⟨_, s.out, _, rfl⟩
        · exact ⟨_, s.out, _, rfl⟩
      · exact ⟨_, s.out, s.col, rfl⟩

/-- A flight that ends changes chapter 03's state alone: the flights and the chains. -/
theorem endFlight_frame (port tag : Nat) (bad : Bool) (s : State) :
    ∃ f c, endFlight port tag bad s = { s with sys := { s.sys with flights := f, chains := c } } := ⟨_, _, rfl⟩

/-- A spent session closes with its cursors. -/
theorem closeSpent_frame (port : Nat) (s : State) :
    ∃ x c, closeSpent port s = { s with sys := { s.sys with sessions := x }, crn := { s.crn with cursors := c } } := by
  unfold closeSpent
  split
  · exact ⟨_, _, rfl⟩
  · exact ⟨s.sys.sessions, s.crn.cursors, rfl⟩

/-- A command that ends changes chapter 03's state, the sent packets, journals and cursors alone. -/
theorem finish_frame (r : Req) (st : Status) (payload : List Byte) (s : State) :
    ∃ a b c d, finish r st payload s = { s with sys := a, out := b, col := c, crn := d } := by
  unfold finish
  simp only
  obtain ⟨m, b, c, h⟩ := sendReply_frame r st payload (!((s.flight r.port r.p.tag).bind (·.colPeriod)).isSome) s
  rw [h]
  obtain ⟨x, d, h2⟩ := closeSpent_frame r.port (endFlight r.port r.p.tag (!st.success)
    { s with sys := { s.sys with mailboxes := m }, out := b, col := c })
  rw [h2]
  exact ⟨_, _, _, _, rfl⟩

/-- A publication changes the signal space alone. -/
theorem storeOwn_frame (loc : Nat) (r : Rec) (s : State) : ∃ g, storeOwn loc r s = { s with sig := g } := by
  have step1 : ∀ (h : Nat) (old new : Rec) (u : State), (∃ g, u = { s with sig := g }) → ∃ g, exportOnChange h old new u = { s with sig := g } := by
    intro h old new u hu
    obtain ⟨g, rfl⟩ := hu
    unfold exportOnChange
    split
    · exact ⟨g, rfl⟩
    · exact ⟨_, rfl⟩
  unfold storeOwn
  split
  · exact ⟨s.sig, rfl⟩
  refine step1 _ _ _ _ ?_
  have step2 : ∀ (c : Bool) (a b : State), (∃ g, a = { s with sig := g }) → (∃ g, b = { s with sig := g }) →
      ∃ g, (if c = true then a else b) = { s with sig := g } := by
    intro c a b ha hb
    cases c
    · exact hb
    · exact ha
  exact step2 _ _ _ ⟨_, rfl⟩ ⟨_, rfl⟩

/-- Arbitration changes the last-winner records alone. -/
theorem arbitrate_frame (res : Nat) (reqs : List (Nat × Nat)) (s : State) : ∃ g, (arbitrate res reqs s).2 = { s with sig := { s.sig with lastWinner := g } } := by
  unfold arbitrate
  split
  · exact ⟨s.sig.lastWinner, rfl⟩
  · exact ⟨_, rfl⟩

/-- A free value changes the count of free values alone. -/
theorem takeFree_frame (s : State) : (takeFree s).2 = { s with free := s.free + 1 } := rfl

end Sys2Proof.Machine
end

