-- ==== Sys2Proof/Laws/Frames.lean ====
section
/-! SUPPORT. What events, publications and replies leave alone: memory, the CAN channels, DMA, power, valves and loops. -/
namespace Sys2Proof.Machine

@[simp] theorem cairn_mem_eq (code source : Nat) (payload : List Byte) (s : State) : (cairn code source payload s).mem = s.mem := by
  obtain ⟨_, h⟩ := cairn_frame code source payload s; rw [h]
@[simp] theorem cairn_can_eq (code source : Nat) (payload : List Byte) (s : State) : (cairn code source payload s).can = s.can := by
  obtain ⟨_, h⟩ := cairn_frame code source payload s; rw [h]
@[simp] theorem cairn_dma_eq (code source : Nat) (payload : List Byte) (s : State) : (cairn code source payload s).dma = s.dma := by
  obtain ⟨_, h⟩ := cairn_frame code source payload s; rw [h]
@[simp] theorem cairn_pwr_eq (code source : Nat) (payload : List Byte) (s : State) : (cairn code source payload s).pwr = s.pwr := by
  obtain ⟨_, h⟩ := cairn_frame code source payload s; rw [h]
@[simp] theorem cairn_vlv_eq (code source : Nat) (payload : List Byte) (s : State) : (cairn code source payload s).vlv = s.vlv := by
  obtain ⟨_, h⟩ := cairn_frame code source payload s; rw [h]
@[simp] theorem cairn_lpe_eq (code source : Nat) (payload : List Byte) (s : State) : (cairn code source payload s).lpe = s.lpe := by
  obtain ⟨_, h⟩ := cairn_frame code source payload s; rw [h]

@[simp] theorem toHosts_mem_eq (opcode : Nat) (target : BitVec 32) (payload : List Byte) (s : State) : (toHosts opcode target payload s).mem = s.mem := by
  obtain ⟨_, _, h⟩ := toHosts_frame opcode target payload s; rw [h]
@[simp] theorem toHosts_can_eq (opcode : Nat) (target : BitVec 32) (payload : List Byte) (s : State) : (toHosts opcode target payload s).can = s.can := by
  obtain ⟨_, _, h⟩ := toHosts_frame opcode target payload s; rw [h]
@[simp] theorem toHosts_dma_eq (opcode : Nat) (target : BitVec 32) (payload : List Byte) (s : State) : (toHosts opcode target payload s).dma = s.dma := by
  obtain ⟨_, _, h⟩ := toHosts_frame opcode target payload s; rw [h]
@[simp] theorem toHosts_pwr_eq (opcode : Nat) (target : BitVec 32) (payload : List Byte) (s : State) : (toHosts opcode target payload s).pwr = s.pwr := by
  obtain ⟨_, _, h⟩ := toHosts_frame opcode target payload s; rw [h]
@[simp] theorem toHosts_vlv_eq (opcode : Nat) (target : BitVec 32) (payload : List Byte) (s : State) : (toHosts opcode target payload s).vlv = s.vlv := by
  obtain ⟨_, _, h⟩ := toHosts_frame opcode target payload s; rw [h]
@[simp] theorem toHosts_lpe_eq (opcode : Nat) (target : BitVec 32) (payload : List Byte) (s : State) : (toHosts opcode target payload s).lpe = s.lpe := by
  obtain ⟨_, _, h⟩ := toHosts_frame opcode target payload s; rw [h]

@[simp] theorem originate_mem_eq (port opcode : Nat) (target : BitVec 32) (payload : List Byte) (s : State) : (originate port opcode target payload s).mem = s.mem := by
  obtain ⟨_, _, h⟩ := originate_frame port opcode target payload s; rw [h]
@[simp] theorem originate_can_eq (port opcode : Nat) (target : BitVec 32) (payload : List Byte) (s : State) : (originate port opcode target payload s).can = s.can := by
  obtain ⟨_, _, h⟩ := originate_frame port opcode target payload s; rw [h]
@[simp] theorem originate_dma_eq (port opcode : Nat) (target : BitVec 32) (payload : List Byte) (s : State) : (originate port opcode target payload s).dma = s.dma := by
  obtain ⟨_, _, h⟩ := originate_frame port opcode target payload s; rw [h]
@[simp] theorem originate_pwr_eq (port opcode : Nat) (target : BitVec 32) (payload : List Byte) (s : State) : (originate port opcode target payload s).pwr = s.pwr := by
  obtain ⟨_, _, h⟩ := originate_frame port opcode target payload s; rw [h]
@[simp] theorem originate_vlv_eq (port opcode : Nat) (target : BitVec 32) (payload : List Byte) (s : State) : (originate port opcode target payload s).vlv = s.vlv := by
  obtain ⟨_, _, h⟩ := originate_frame port opcode target payload s; rw [h]
@[simp] theorem originate_lpe_eq (port opcode : Nat) (target : BitVec 32) (payload : List Byte) (s : State) : (originate port opcode target payload s).lpe = s.lpe := by
  obtain ⟨_, _, h⟩ := originate_frame port opcode target payload s; rw [h]

@[simp] theorem event_mem_eq (opcode : Nat) (target : Nat) (payload : List Byte) (parts : List Nat) (source : Nat) (s : State) : (event opcode target payload parts source s).mem = s.mem := by
  obtain ⟨_, _, _, h⟩ := event_frame opcode target payload parts source s; rw [h]
@[simp] theorem event_can_eq (opcode : Nat) (target : Nat) (payload : List Byte) (parts : List Nat) (source : Nat) (s : State) : (event opcode target payload parts source s).can = s.can := by
  obtain ⟨_, _, _, h⟩ := event_frame opcode target payload parts source s; rw [h]
@[simp] theorem event_dma_eq (opcode : Nat) (target : Nat) (payload : List Byte) (parts : List Nat) (source : Nat) (s : State) : (event opcode target payload parts source s).dma = s.dma := by
  obtain ⟨_, _, _, h⟩ := event_frame opcode target payload parts source s; rw [h]
@[simp] theorem event_pwr_eq (opcode : Nat) (target : Nat) (payload : List Byte) (parts : List Nat) (source : Nat) (s : State) : (event opcode target payload parts source s).pwr = s.pwr := by
  obtain ⟨_, _, _, h⟩ := event_frame opcode target payload parts source s; rw [h]
@[simp] theorem event_vlv_eq (opcode : Nat) (target : Nat) (payload : List Byte) (parts : List Nat) (source : Nat) (s : State) : (event opcode target payload parts source s).vlv = s.vlv := by
  obtain ⟨_, _, _, h⟩ := event_frame opcode target payload parts source s; rw [h]
@[simp] theorem event_lpe_eq (opcode : Nat) (target : Nat) (payload : List Byte) (parts : List Nat) (source : Nat) (s : State) : (event opcode target payload parts source s).lpe = s.lpe := by
  obtain ⟨_, _, _, h⟩ := event_frame opcode target payload parts source s; rw [h]

@[simp] theorem storeOwn_mem_eq (loc : Nat) (r : Rec) (s : State) : (storeOwn loc r s).mem = s.mem := by
  obtain ⟨_, h⟩ := storeOwn_frame loc r s; rw [h]
@[simp] theorem storeOwn_can_eq (loc : Nat) (r : Rec) (s : State) : (storeOwn loc r s).can = s.can := by
  obtain ⟨_, h⟩ := storeOwn_frame loc r s; rw [h]
@[simp] theorem storeOwn_dma_eq (loc : Nat) (r : Rec) (s : State) : (storeOwn loc r s).dma = s.dma := by
  obtain ⟨_, h⟩ := storeOwn_frame loc r s; rw [h]
@[simp] theorem storeOwn_pwr_eq (loc : Nat) (r : Rec) (s : State) : (storeOwn loc r s).pwr = s.pwr := by
  obtain ⟨_, h⟩ := storeOwn_frame loc r s; rw [h]
@[simp] theorem storeOwn_vlv_eq (loc : Nat) (r : Rec) (s : State) : (storeOwn loc r s).vlv = s.vlv := by
  obtain ⟨_, h⟩ := storeOwn_frame loc r s; rw [h]
@[simp] theorem storeOwn_lpe_eq (loc : Nat) (r : Rec) (s : State) : (storeOwn loc r s).lpe = s.lpe := by
  obtain ⟨_, h⟩ := storeOwn_frame loc r s; rw [h]

@[simp] theorem finish_mem_eq (r : Req) (st : Status) (payload : List Byte) (s : State) : (finish r st payload s).mem = s.mem := by
  obtain ⟨_, _, _, _, h⟩ := finish_frame r st payload s; rw [h]
@[simp] theorem finish_can_eq (r : Req) (st : Status) (payload : List Byte) (s : State) : (finish r st payload s).can = s.can := by
  obtain ⟨_, _, _, _, h⟩ := finish_frame r st payload s; rw [h]
@[simp] theorem finish_dma_eq (r : Req) (st : Status) (payload : List Byte) (s : State) : (finish r st payload s).dma = s.dma := by
  obtain ⟨_, _, _, _, h⟩ := finish_frame r st payload s; rw [h]
@[simp] theorem finish_pwr_eq (r : Req) (st : Status) (payload : List Byte) (s : State) : (finish r st payload s).pwr = s.pwr := by
  obtain ⟨_, _, _, _, h⟩ := finish_frame r st payload s; rw [h]
@[simp] theorem finish_vlv_eq (r : Req) (st : Status) (payload : List Byte) (s : State) : (finish r st payload s).vlv = s.vlv := by
  obtain ⟨_, _, _, _, h⟩ := finish_frame r st payload s; rw [h]
@[simp] theorem finish_lpe_eq (r : Req) (st : Status) (payload : List Byte) (s : State) : (finish r st payload s).lpe = s.lpe := by
  obtain ⟨_, _, _, _, h⟩ := finish_frame r st payload s; rw [h]

@[simp] theorem publish_mem_eq (loc : Nat) (r : Rec) (fresh : Nat) (s : State) : (publish loc r fresh s).mem = s.mem := by
  unfold publish publishAs; first | (simp; done) | (simp [takeFree]; done) | (split <;> simp; done)
@[simp] theorem publish_can_eq (loc : Nat) (r : Rec) (fresh : Nat) (s : State) : (publish loc r fresh s).can = s.can := by
  unfold publish publishAs; first | (simp; done) | (simp [takeFree]; done) | (split <;> simp; done)
@[simp] theorem publish_dma_eq (loc : Nat) (r : Rec) (fresh : Nat) (s : State) : (publish loc r fresh s).dma = s.dma := by
  unfold publish publishAs; first | (simp; done) | (simp [takeFree]; done) | (split <;> simp; done)
@[simp] theorem publish_pwr_eq (loc : Nat) (r : Rec) (fresh : Nat) (s : State) : (publish loc r fresh s).pwr = s.pwr := by
  unfold publish publishAs; first | (simp; done) | (simp [takeFree]; done) | (split <;> simp; done)
@[simp] theorem publish_vlv_eq (loc : Nat) (r : Rec) (fresh : Nat) (s : State) : (publish loc r fresh s).vlv = s.vlv := by
  unfold publish publishAs; first | (simp; done) | (simp [takeFree]; done) | (split <;> simp; done)
@[simp] theorem publish_lpe_eq (loc : Nat) (r : Rec) (fresh : Nat) (s : State) : (publish loc r fresh s).lpe = s.lpe := by
  unfold publish publishAs; first | (simp; done) | (simp [takeFree]; done) | (split <;> simp; done)

@[simp] theorem pubVal_mem_eq (loc ty : Nat) (value : BitVec 64) (q : Quality) (conf stamp : Nat) (s : State) : (pubVal loc ty value q conf stamp s).mem = s.mem := by
  unfold pubVal; first | (simp; done) | (simp [takeFree]; done) | (split <;> simp; done)
@[simp] theorem pubVal_can_eq (loc ty : Nat) (value : BitVec 64) (q : Quality) (conf stamp : Nat) (s : State) : (pubVal loc ty value q conf stamp s).can = s.can := by
  unfold pubVal; first | (simp; done) | (simp [takeFree]; done) | (split <;> simp; done)
@[simp] theorem pubVal_dma_eq (loc ty : Nat) (value : BitVec 64) (q : Quality) (conf stamp : Nat) (s : State) : (pubVal loc ty value q conf stamp s).dma = s.dma := by
  unfold pubVal; first | (simp; done) | (simp [takeFree]; done) | (split <;> simp; done)
@[simp] theorem pubVal_pwr_eq (loc ty : Nat) (value : BitVec 64) (q : Quality) (conf stamp : Nat) (s : State) : (pubVal loc ty value q conf stamp s).pwr = s.pwr := by
  unfold pubVal; first | (simp; done) | (simp [takeFree]; done) | (split <;> simp; done)
@[simp] theorem pubVal_vlv_eq (loc ty : Nat) (value : BitVec 64) (q : Quality) (conf stamp : Nat) (s : State) : (pubVal loc ty value q conf stamp s).vlv = s.vlv := by
  unfold pubVal; first | (simp; done) | (simp [takeFree]; done) | (split <;> simp; done)
@[simp] theorem pubVal_lpe_eq (loc ty : Nat) (value : BitVec 64) (q : Quality) (conf stamp : Nat) (s : State) : (pubVal loc ty value q conf stamp s).lpe = s.lpe := by
  unfold pubVal; first | (simp; done) | (simp [takeFree]; done) | (split <;> simp; done)

@[simp] theorem pubHw_mem_eq (loc ty : Nat) (value : BitVec 64) (q : Quality) (stamp fresh : Nat) (s : State) : (pubHw loc ty value q stamp fresh s).mem = s.mem := by
  unfold pubHw; first | (simp; done) | (simp [takeFree]; done) | (split <;> simp; done)
@[simp] theorem pubHw_can_eq (loc ty : Nat) (value : BitVec 64) (q : Quality) (stamp fresh : Nat) (s : State) : (pubHw loc ty value q stamp fresh s).can = s.can := by
  unfold pubHw; first | (simp; done) | (simp [takeFree]; done) | (split <;> simp; done)
@[simp] theorem pubHw_dma_eq (loc ty : Nat) (value : BitVec 64) (q : Quality) (stamp fresh : Nat) (s : State) : (pubHw loc ty value q stamp fresh s).dma = s.dma := by
  unfold pubHw; first | (simp; done) | (simp [takeFree]; done) | (split <;> simp; done)
@[simp] theorem pubHw_pwr_eq (loc ty : Nat) (value : BitVec 64) (q : Quality) (stamp fresh : Nat) (s : State) : (pubHw loc ty value q stamp fresh s).pwr = s.pwr := by
  unfold pubHw; first | (simp; done) | (simp [takeFree]; done) | (split <;> simp; done)
@[simp] theorem pubHw_vlv_eq (loc ty : Nat) (value : BitVec 64) (q : Quality) (stamp fresh : Nat) (s : State) : (pubHw loc ty value q stamp fresh s).vlv = s.vlv := by
  unfold pubHw; first | (simp; done) | (simp [takeFree]; done) | (split <;> simp; done)
@[simp] theorem pubHw_lpe_eq (loc ty : Nat) (value : BitVec 64) (q : Quality) (stamp fresh : Nat) (s : State) : (pubHw loc ty value q stamp fresh s).lpe = s.lpe := by
  unfold pubHw; first | (simp; done) | (simp [takeFree]; done) | (split <;> simp; done)

@[simp] theorem pubBool_mem_eq (loc : Nat) (b : Bool) (q : Quality) (conf stamp : Nat) (s : State) : (pubBool loc b q conf stamp s).mem = s.mem := by
  unfold pubBool; first | (simp; done) | (simp [takeFree]; done) | (split <;> simp; done)
@[simp] theorem pubBool_can_eq (loc : Nat) (b : Bool) (q : Quality) (conf stamp : Nat) (s : State) : (pubBool loc b q conf stamp s).can = s.can := by
  unfold pubBool; first | (simp; done) | (simp [takeFree]; done) | (split <;> simp; done)
@[simp] theorem pubBool_dma_eq (loc : Nat) (b : Bool) (q : Quality) (conf stamp : Nat) (s : State) : (pubBool loc b q conf stamp s).dma = s.dma := by
  unfold pubBool; first | (simp; done) | (simp [takeFree]; done) | (split <;> simp; done)
@[simp] theorem pubBool_pwr_eq (loc : Nat) (b : Bool) (q : Quality) (conf stamp : Nat) (s : State) : (pubBool loc b q conf stamp s).pwr = s.pwr := by
  unfold pubBool; first | (simp; done) | (simp [takeFree]; done) | (split <;> simp; done)
@[simp] theorem pubBool_vlv_eq (loc : Nat) (b : Bool) (q : Quality) (conf stamp : Nat) (s : State) : (pubBool loc b q conf stamp s).vlv = s.vlv := by
  unfold pubBool; first | (simp; done) | (simp [takeFree]; done) | (split <;> simp; done)
@[simp] theorem pubBool_lpe_eq (loc : Nat) (b : Bool) (q : Quality) (conf stamp : Nat) (s : State) : (pubBool loc b q conf stamp s).lpe = s.lpe := by
  unfold pubBool; first | (simp; done) | (simp [takeFree]; done) | (split <;> simp; done)

@[simp] theorem pubBlock_mem_eq (loc : Nat) (bytes : List Byte) (q : Quality) (conf stamp : Nat) (s : State) : (pubBlock loc bytes q conf stamp s).mem = s.mem := by
  simp [pubBlock, pubBlockAt, takeFree]
@[simp] theorem pubBlock_can_eq (loc : Nat) (bytes : List Byte) (q : Quality) (conf stamp : Nat) (s : State) : (pubBlock loc bytes q conf stamp s).can = s.can := by
  simp [pubBlock, pubBlockAt, takeFree]
@[simp] theorem pubBlock_dma_eq (loc : Nat) (bytes : List Byte) (q : Quality) (conf stamp : Nat) (s : State) : (pubBlock loc bytes q conf stamp s).dma = s.dma := by
  simp [pubBlock, pubBlockAt, takeFree]
@[simp] theorem pubBlock_pwr_eq (loc : Nat) (bytes : List Byte) (q : Quality) (conf stamp : Nat) (s : State) : (pubBlock loc bytes q conf stamp s).pwr = s.pwr := by
  simp [pubBlock, pubBlockAt, takeFree]
@[simp] theorem pubBlock_vlv_eq (loc : Nat) (bytes : List Byte) (q : Quality) (conf stamp : Nat) (s : State) : (pubBlock loc bytes q conf stamp s).vlv = s.vlv := by
  simp [pubBlock, pubBlockAt, takeFree]
@[simp] theorem pubBlock_lpe_eq (loc : Nat) (bytes : List Byte) (q : Quality) (conf stamp : Nat) (s : State) : (pubBlock loc bytes q conf stamp s).lpe = s.lpe := by
  simp [pubBlock, pubBlockAt, takeFree]

@[simp] theorem camEvent_mem_eq (target cause st settings frame : Nat) (owner : Option Nat) (source : Nat) (s : State) : (camEvent target cause st settings frame owner source s).mem = s.mem := by
  unfold camEvent; first | (simp; done) | (simp [takeFree]; done) | (split <;> simp; done)
@[simp] theorem camEvent_can_eq (target cause st settings frame : Nat) (owner : Option Nat) (source : Nat) (s : State) : (camEvent target cause st settings frame owner source s).can = s.can := by
  unfold camEvent; first | (simp; done) | (simp [takeFree]; done) | (split <;> simp; done)
@[simp] theorem camEvent_dma_eq (target cause st settings frame : Nat) (owner : Option Nat) (source : Nat) (s : State) : (camEvent target cause st settings frame owner source s).dma = s.dma := by
  unfold camEvent; first | (simp; done) | (simp [takeFree]; done) | (split <;> simp; done)
@[simp] theorem camEvent_pwr_eq (target cause st settings frame : Nat) (owner : Option Nat) (source : Nat) (s : State) : (camEvent target cause st settings frame owner source s).pwr = s.pwr := by
  unfold camEvent; first | (simp; done) | (simp [takeFree]; done) | (split <;> simp; done)
@[simp] theorem camEvent_vlv_eq (target cause st settings frame : Nat) (owner : Option Nat) (source : Nat) (s : State) : (camEvent target cause st settings frame owner source s).vlv = s.vlv := by
  unfold camEvent; first | (simp; done) | (simp [takeFree]; done) | (split <;> simp; done)
@[simp] theorem camEvent_lpe_eq (target cause st settings frame : Nat) (owner : Option Nat) (source : Nat) (s : State) : (camEvent target cause st settings frame owner source s).lpe = s.lpe := by
  unfold camEvent; first | (simp; done) | (simp [takeFree]; done) | (split <;> simp; done)

@[simp] theorem pipeEvent_mem_eq (p cause st settings frame : Nat) (s : State) : (pipeEvent p cause st settings frame s).mem = s.mem := by
  unfold pipeEvent; first | (simp; done) | (simp [takeFree]; done) | (split <;> simp; done)
@[simp] theorem pipeEvent_can_eq (p cause st settings frame : Nat) (s : State) : (pipeEvent p cause st settings frame s).can = s.can := by
  unfold pipeEvent; first | (simp; done) | (simp [takeFree]; done) | (split <;> simp; done)
@[simp] theorem pipeEvent_dma_eq (p cause st settings frame : Nat) (s : State) : (pipeEvent p cause st settings frame s).dma = s.dma := by
  unfold pipeEvent; first | (simp; done) | (simp [takeFree]; done) | (split <;> simp; done)
@[simp] theorem pipeEvent_pwr_eq (p cause st settings frame : Nat) (s : State) : (pipeEvent p cause st settings frame s).pwr = s.pwr := by
  unfold pipeEvent; first | (simp; done) | (simp [takeFree]; done) | (split <;> simp; done)
@[simp] theorem pipeEvent_vlv_eq (p cause st settings frame : Nat) (s : State) : (pipeEvent p cause st settings frame s).vlv = s.vlv := by
  unfold pipeEvent; first | (simp; done) | (simp [takeFree]; done) | (split <;> simp; done)
@[simp] theorem pipeEvent_lpe_eq (p cause st settings frame : Nat) (s : State) : (pipeEvent p cause st settings frame s).lpe = s.lpe := by
  unfold pipeEvent; first | (simp; done) | (simp [takeFree]; done) | (split <;> simp; done)

@[simp] theorem canEvent_mem_eq (c cause : Nat) (buffer : Option Nat) (id age : Nat) (s : State) : (canEvent c cause buffer id age s).mem = s.mem := by
  unfold canEvent; first | (simp; done) | (simp [takeFree]; done) | (split <;> simp; done)
@[simp] theorem canEvent_can_eq (c cause : Nat) (buffer : Option Nat) (id age : Nat) (s : State) : (canEvent c cause buffer id age s).can = s.can := by
  unfold canEvent; first | (simp; done) | (simp [takeFree]; done) | (split <;> simp; done)
@[simp] theorem canEvent_dma_eq (c cause : Nat) (buffer : Option Nat) (id age : Nat) (s : State) : (canEvent c cause buffer id age s).dma = s.dma := by
  unfold canEvent; first | (simp; done) | (simp [takeFree]; done) | (split <;> simp; done)
@[simp] theorem canEvent_pwr_eq (c cause : Nat) (buffer : Option Nat) (id age : Nat) (s : State) : (canEvent c cause buffer id age s).pwr = s.pwr := by
  unfold canEvent; first | (simp; done) | (simp [takeFree]; done) | (split <;> simp; done)
@[simp] theorem canEvent_vlv_eq (c cause : Nat) (buffer : Option Nat) (id age : Nat) (s : State) : (canEvent c cause buffer id age s).vlv = s.vlv := by
  unfold canEvent; first | (simp; done) | (simp [takeFree]; done) | (split <;> simp; done)
@[simp] theorem canEvent_lpe_eq (c cause : Nat) (buffer : Option Nat) (id age : Nat) (s : State) : (canEvent c cause buffer id age s).lpe = s.lpe := by
  unfold canEvent; first | (simp; done) | (simp [takeFree]; done) | (split <;> simp; done)

@[simp] theorem colEvent_mem_eq (cause : Nat) (pair part spare : Option Nat) (target : Nat) (s : State) : (colEvent cause pair part spare target s).mem = s.mem := by
  unfold colEvent; first | (simp; done) | (simp [takeFree]; done) | (split <;> simp; done)
@[simp] theorem colEvent_can_eq (cause : Nat) (pair part spare : Option Nat) (target : Nat) (s : State) : (colEvent cause pair part spare target s).can = s.can := by
  unfold colEvent; first | (simp; done) | (simp [takeFree]; done) | (split <;> simp; done)
@[simp] theorem colEvent_dma_eq (cause : Nat) (pair part spare : Option Nat) (target : Nat) (s : State) : (colEvent cause pair part spare target s).dma = s.dma := by
  unfold colEvent; first | (simp; done) | (simp [takeFree]; done) | (split <;> simp; done)
@[simp] theorem colEvent_pwr_eq (cause : Nat) (pair part spare : Option Nat) (target : Nat) (s : State) : (colEvent cause pair part spare target s).pwr = s.pwr := by
  unfold colEvent; first | (simp; done) | (simp [takeFree]; done) | (split <;> simp; done)
@[simp] theorem colEvent_vlv_eq (cause : Nat) (pair part spare : Option Nat) (target : Nat) (s : State) : (colEvent cause pair part spare target s).vlv = s.vlv := by
  unfold colEvent; first | (simp; done) | (simp [takeFree]; done) | (split <;> simp; done)
@[simp] theorem colEvent_lpe_eq (cause : Nat) (pair part spare : Option Nat) (target : Nat) (s : State) : (colEvent cause pair part spare target s).lpe = s.lpe := by
  unfold colEvent; first | (simp; done) | (simp [takeFree]; done) | (split <;> simp; done)

@[simp] theorem culEvent_mem_eq (cause : Nat) (stage : Option Nat) (parcel : Nat) (s : State) : (culEvent cause stage parcel s).mem = s.mem := by
  unfold culEvent; first | (simp; done) | (simp [takeFree]; done) | (split <;> simp; done)
@[simp] theorem culEvent_can_eq (cause : Nat) (stage : Option Nat) (parcel : Nat) (s : State) : (culEvent cause stage parcel s).can = s.can := by
  unfold culEvent; first | (simp; done) | (simp [takeFree]; done) | (split <;> simp; done)
@[simp] theorem culEvent_dma_eq (cause : Nat) (stage : Option Nat) (parcel : Nat) (s : State) : (culEvent cause stage parcel s).dma = s.dma := by
  unfold culEvent; first | (simp; done) | (simp [takeFree]; done) | (split <;> simp; done)
@[simp] theorem culEvent_pwr_eq (cause : Nat) (stage : Option Nat) (parcel : Nat) (s : State) : (culEvent cause stage parcel s).pwr = s.pwr := by
  unfold culEvent; first | (simp; done) | (simp [takeFree]; done) | (split <;> simp; done)
@[simp] theorem culEvent_vlv_eq (cause : Nat) (stage : Option Nat) (parcel : Nat) (s : State) : (culEvent cause stage parcel s).vlv = s.vlv := by
  unfold culEvent; first | (simp; done) | (simp [takeFree]; done) | (split <;> simp; done)
@[simp] theorem culEvent_lpe_eq (cause : Nat) (stage : Option Nat) (parcel : Nat) (s : State) : (culEvent cause stage parcel s).lpe = s.lpe := by
  unfold culEvent; first | (simp; done) | (simp [takeFree]; done) | (split <;> simp; done)

@[simp] theorem fioEvent_mem_eq (cause target st diag : Nat) (parts : List Nat) (s : State) : (fioEvent cause target st diag parts s).mem = s.mem := by
  unfold fioEvent; first | (simp; done) | (simp [takeFree]; done) | (split <;> simp; done)
@[simp] theorem fioEvent_can_eq (cause target st diag : Nat) (parts : List Nat) (s : State) : (fioEvent cause target st diag parts s).can = s.can := by
  unfold fioEvent; first | (simp; done) | (simp [takeFree]; done) | (split <;> simp; done)
@[simp] theorem fioEvent_dma_eq (cause target st diag : Nat) (parts : List Nat) (s : State) : (fioEvent cause target st diag parts s).dma = s.dma := by
  unfold fioEvent; first | (simp; done) | (simp [takeFree]; done) | (split <;> simp; done)
@[simp] theorem fioEvent_pwr_eq (cause target st diag : Nat) (parts : List Nat) (s : State) : (fioEvent cause target st diag parts s).pwr = s.pwr := by
  unfold fioEvent; first | (simp; done) | (simp [takeFree]; done) | (split <;> simp; done)
@[simp] theorem fioEvent_vlv_eq (cause target st diag : Nat) (parts : List Nat) (s : State) : (fioEvent cause target st diag parts s).vlv = s.vlv := by
  unfold fioEvent; first | (simp; done) | (simp [takeFree]; done) | (split <;> simp; done)
@[simp] theorem fioEvent_lpe_eq (cause target st diag : Nat) (parts : List Nat) (s : State) : (fioEvent cause target st diag parts s).lpe = s.lpe := by
  unfold fioEvent; first | (simp; done) | (simp [takeFree]; done) | (split <;> simp; done)

@[simp] theorem fltEvent_mem_eq (cause member st : Nat) (s : State) : (fltEvent cause member st s).mem = s.mem := by
  unfold fltEvent; first | (simp; done) | (simp [takeFree]; done) | (split <;> simp; done)
@[simp] theorem fltEvent_can_eq (cause member st : Nat) (s : State) : (fltEvent cause member st s).can = s.can := by
  unfold fltEvent; first | (simp; done) | (simp [takeFree]; done) | (split <;> simp; done)
@[simp] theorem fltEvent_dma_eq (cause member st : Nat) (s : State) : (fltEvent cause member st s).dma = s.dma := by
  unfold fltEvent; first | (simp; done) | (simp [takeFree]; done) | (split <;> simp; done)
@[simp] theorem fltEvent_pwr_eq (cause member st : Nat) (s : State) : (fltEvent cause member st s).pwr = s.pwr := by
  unfold fltEvent; first | (simp; done) | (simp [takeFree]; done) | (split <;> simp; done)
@[simp] theorem fltEvent_vlv_eq (cause member st : Nat) (s : State) : (fltEvent cause member st s).vlv = s.vlv := by
  unfold fltEvent; first | (simp; done) | (simp [takeFree]; done) | (split <;> simp; done)
@[simp] theorem fltEvent_lpe_eq (cause member st : Nat) (s : State) : (fltEvent cause member st s).lpe = s.lpe := by
  unfold fltEvent; first | (simp; done) | (simp [takeFree]; done) | (split <;> simp; done)

@[simp] theorem fusEvent_mem_eq (target cause : Nat) (index : Option Nat) (st : Nat) (s : State) : (fusEvent target cause index st s).mem = s.mem := by
  unfold fusEvent; first | (simp; done) | (simp [takeFree]; done) | (split <;> simp; done)
@[simp] theorem fusEvent_can_eq (target cause : Nat) (index : Option Nat) (st : Nat) (s : State) : (fusEvent target cause index st s).can = s.can := by
  unfold fusEvent; first | (simp; done) | (simp [takeFree]; done) | (split <;> simp; done)
@[simp] theorem fusEvent_dma_eq (target cause : Nat) (index : Option Nat) (st : Nat) (s : State) : (fusEvent target cause index st s).dma = s.dma := by
  unfold fusEvent; first | (simp; done) | (simp [takeFree]; done) | (split <;> simp; done)
@[simp] theorem fusEvent_pwr_eq (target cause : Nat) (index : Option Nat) (st : Nat) (s : State) : (fusEvent target cause index st s).pwr = s.pwr := by
  unfold fusEvent; first | (simp; done) | (simp [takeFree]; done) | (split <;> simp; done)
@[simp] theorem fusEvent_vlv_eq (target cause : Nat) (index : Option Nat) (st : Nat) (s : State) : (fusEvent target cause index st s).vlv = s.vlv := by
  unfold fusEvent; first | (simp; done) | (simp [takeFree]; done) | (split <;> simp; done)
@[simp] theorem fusEvent_lpe_eq (target cause : Nat) (index : Option Nat) (st : Nat) (s : State) : (fusEvent target cause index st s).lpe = s.lpe := by
  unfold fusEvent; first | (simp; done) | (simp [takeFree]; done) | (split <;> simp; done)

@[simp] theorem gdeEvent_mem_eq (cause : Nat) (index : Option Nat) (s : State) : (gdeEvent cause index s).mem = s.mem := by
  unfold gdeEvent; first | (simp; done) | (simp [takeFree]; done) | (split <;> simp; done)
@[simp] theorem gdeEvent_can_eq (cause : Nat) (index : Option Nat) (s : State) : (gdeEvent cause index s).can = s.can := by
  unfold gdeEvent; first | (simp; done) | (simp [takeFree]; done) | (split <;> simp; done)
@[simp] theorem gdeEvent_dma_eq (cause : Nat) (index : Option Nat) (s : State) : (gdeEvent cause index s).dma = s.dma := by
  unfold gdeEvent; first | (simp; done) | (simp [takeFree]; done) | (split <;> simp; done)
@[simp] theorem gdeEvent_pwr_eq (cause : Nat) (index : Option Nat) (s : State) : (gdeEvent cause index s).pwr = s.pwr := by
  unfold gdeEvent; first | (simp; done) | (simp [takeFree]; done) | (split <;> simp; done)
@[simp] theorem gdeEvent_vlv_eq (cause : Nat) (index : Option Nat) (s : State) : (gdeEvent cause index s).vlv = s.vlv := by
  unfold gdeEvent; first | (simp; done) | (simp [takeFree]; done) | (split <;> simp; done)
@[simp] theorem gdeEvent_lpe_eq (cause : Nat) (index : Option Nat) (s : State) : (gdeEvent cause index s).lpe = s.lpe := by
  unfold gdeEvent; first | (simp; done) | (simp [takeFree]; done) | (split <;> simp; done)

@[simp] theorem gnsEvent_mem_eq (cause : Nat) (port : Option Nat) (st : Nat) (s : State) : (gnsEvent cause port st s).mem = s.mem := by
  unfold gnsEvent; first | (simp; done) | (simp [takeFree]; done) | (split <;> simp; done)
@[simp] theorem gnsEvent_can_eq (cause : Nat) (port : Option Nat) (st : Nat) (s : State) : (gnsEvent cause port st s).can = s.can := by
  unfold gnsEvent; first | (simp; done) | (simp [takeFree]; done) | (split <;> simp; done)
@[simp] theorem gnsEvent_dma_eq (cause : Nat) (port : Option Nat) (st : Nat) (s : State) : (gnsEvent cause port st s).dma = s.dma := by
  unfold gnsEvent; first | (simp; done) | (simp [takeFree]; done) | (split <;> simp; done)
@[simp] theorem gnsEvent_pwr_eq (cause : Nat) (port : Option Nat) (st : Nat) (s : State) : (gnsEvent cause port st s).pwr = s.pwr := by
  unfold gnsEvent; first | (simp; done) | (simp [takeFree]; done) | (split <;> simp; done)
@[simp] theorem gnsEvent_vlv_eq (cause : Nat) (port : Option Nat) (st : Nat) (s : State) : (gnsEvent cause port st s).vlv = s.vlv := by
  unfold gnsEvent; first | (simp; done) | (simp [takeFree]; done) | (split <;> simp; done)
@[simp] theorem gnsEvent_lpe_eq (cause : Nat) (port : Option Nat) (st : Nat) (s : State) : (gnsEvent cause port st s).lpe = s.lpe := by
  unfold gnsEvent; first | (simp; done) | (simp [takeFree]; done) | (split <;> simp; done)

@[simp] theorem lpeEvent_mem_eq (cause : Nat) (phys logi loop : Option Nat) (target owner : Nat) (s : State) : (lpeEvent cause phys logi loop target owner s).mem = s.mem := by
  unfold lpeEvent; first | (simp; done) | (simp [takeFree]; done) | (split <;> simp; done)
@[simp] theorem lpeEvent_can_eq (cause : Nat) (phys logi loop : Option Nat) (target owner : Nat) (s : State) : (lpeEvent cause phys logi loop target owner s).can = s.can := by
  unfold lpeEvent; first | (simp; done) | (simp [takeFree]; done) | (split <;> simp; done)
@[simp] theorem lpeEvent_dma_eq (cause : Nat) (phys logi loop : Option Nat) (target owner : Nat) (s : State) : (lpeEvent cause phys logi loop target owner s).dma = s.dma := by
  unfold lpeEvent; first | (simp; done) | (simp [takeFree]; done) | (split <;> simp; done)
@[simp] theorem lpeEvent_pwr_eq (cause : Nat) (phys logi loop : Option Nat) (target owner : Nat) (s : State) : (lpeEvent cause phys logi loop target owner s).pwr = s.pwr := by
  unfold lpeEvent; first | (simp; done) | (simp [takeFree]; done) | (split <;> simp; done)
@[simp] theorem lpeEvent_vlv_eq (cause : Nat) (phys logi loop : Option Nat) (target owner : Nat) (s : State) : (lpeEvent cause phys logi loop target owner s).vlv = s.vlv := by
  unfold lpeEvent; first | (simp; done) | (simp [takeFree]; done) | (split <;> simp; done)
@[simp] theorem lpeEvent_lpe_eq (cause : Nat) (phys logi loop : Option Nat) (target owner : Nat) (s : State) : (lpeEvent cause phys logi loop target owner s).lpe = s.lpe := by
  unfold lpeEvent; first | (simp; done) | (simp [takeFree]; done) | (split <;> simp; done)

@[simp] theorem loopEvent_mem_eq (cause n : Nat) (s : State) : (loopEvent cause n s).mem = s.mem := by
  unfold loopEvent; first | (simp; done) | (simp [takeFree]; done) | (split <;> simp; done)
@[simp] theorem loopEvent_can_eq (cause n : Nat) (s : State) : (loopEvent cause n s).can = s.can := by
  unfold loopEvent; first | (simp; done) | (simp [takeFree]; done) | (split <;> simp; done)
@[simp] theorem loopEvent_dma_eq (cause n : Nat) (s : State) : (loopEvent cause n s).dma = s.dma := by
  unfold loopEvent; first | (simp; done) | (simp [takeFree]; done) | (split <;> simp; done)
@[simp] theorem loopEvent_pwr_eq (cause n : Nat) (s : State) : (loopEvent cause n s).pwr = s.pwr := by
  unfold loopEvent; first | (simp; done) | (simp [takeFree]; done) | (split <;> simp; done)
@[simp] theorem loopEvent_vlv_eq (cause n : Nat) (s : State) : (loopEvent cause n s).vlv = s.vlv := by
  unfold loopEvent; first | (simp; done) | (simp [takeFree]; done) | (split <;> simp; done)
@[simp] theorem loopEvent_lpe_eq (cause n : Nat) (s : State) : (loopEvent cause n s).lpe = s.lpe := by
  unfold loopEvent; first | (simp; done) | (simp [takeFree]; done) | (split <;> simp; done)

@[simp] theorem traceEvent_mem_eq (cause u : Nat) (s : State) : (traceEvent cause u s).mem = s.mem := by
  unfold traceEvent; first | (simp; done) | (simp [takeFree]; done) | (split <;> simp; done)
@[simp] theorem traceEvent_can_eq (cause u : Nat) (s : State) : (traceEvent cause u s).can = s.can := by
  unfold traceEvent; first | (simp; done) | (simp [takeFree]; done) | (split <;> simp; done)
@[simp] theorem traceEvent_dma_eq (cause u : Nat) (s : State) : (traceEvent cause u s).dma = s.dma := by
  unfold traceEvent; first | (simp; done) | (simp [takeFree]; done) | (split <;> simp; done)
@[simp] theorem traceEvent_pwr_eq (cause u : Nat) (s : State) : (traceEvent cause u s).pwr = s.pwr := by
  unfold traceEvent; first | (simp; done) | (simp [takeFree]; done) | (split <;> simp; done)
@[simp] theorem traceEvent_vlv_eq (cause u : Nat) (s : State) : (traceEvent cause u s).vlv = s.vlv := by
  unfold traceEvent; first | (simp; done) | (simp [takeFree]; done) | (split <;> simp; done)
@[simp] theorem traceEvent_lpe_eq (cause u : Nat) (s : State) : (traceEvent cause u s).lpe = s.lpe := by
  unfold traceEvent; first | (simp; done) | (simp [takeFree]; done) | (split <;> simp; done)

@[simp] theorem mapEvent_mem_eq (cause parcel : Nat) (te tn : Int) (cell : Nat) (s : State) : (mapEvent cause parcel te tn cell s).mem = s.mem := by
  unfold mapEvent; first | (simp; done) | (simp [takeFree]; done) | (split <;> simp; done)
@[simp] theorem mapEvent_can_eq (cause parcel : Nat) (te tn : Int) (cell : Nat) (s : State) : (mapEvent cause parcel te tn cell s).can = s.can := by
  unfold mapEvent; first | (simp; done) | (simp [takeFree]; done) | (split <;> simp; done)
@[simp] theorem mapEvent_dma_eq (cause parcel : Nat) (te tn : Int) (cell : Nat) (s : State) : (mapEvent cause parcel te tn cell s).dma = s.dma := by
  unfold mapEvent; first | (simp; done) | (simp [takeFree]; done) | (split <;> simp; done)
@[simp] theorem mapEvent_pwr_eq (cause parcel : Nat) (te tn : Int) (cell : Nat) (s : State) : (mapEvent cause parcel te tn cell s).pwr = s.pwr := by
  unfold mapEvent; first | (simp; done) | (simp [takeFree]; done) | (split <;> simp; done)
@[simp] theorem mapEvent_vlv_eq (cause parcel : Nat) (te tn : Int) (cell : Nat) (s : State) : (mapEvent cause parcel te tn cell s).vlv = s.vlv := by
  unfold mapEvent; first | (simp; done) | (simp [takeFree]; done) | (split <;> simp; done)
@[simp] theorem mapEvent_lpe_eq (cause parcel : Nat) (te tn : Int) (cell : Nat) (s : State) : (mapEvent cause parcel te tn cell s).lpe = s.lpe := by
  unfold mapEvent; first | (simp; done) | (simp [takeFree]; done) | (split <;> simp; done)

@[simp] theorem pwrEvent_mem_eq (cause index new detail : Nat) (s : State) : (pwrEvent cause index new detail s).mem = s.mem := by
  unfold pwrEvent; first | (simp; done) | (simp [takeFree]; done) | (split <;> simp; done)
@[simp] theorem pwrEvent_can_eq (cause index new detail : Nat) (s : State) : (pwrEvent cause index new detail s).can = s.can := by
  unfold pwrEvent; first | (simp; done) | (simp [takeFree]; done) | (split <;> simp; done)
@[simp] theorem pwrEvent_dma_eq (cause index new detail : Nat) (s : State) : (pwrEvent cause index new detail s).dma = s.dma := by
  unfold pwrEvent; first | (simp; done) | (simp [takeFree]; done) | (split <;> simp; done)
@[simp] theorem pwrEvent_pwr_eq (cause index new detail : Nat) (s : State) : (pwrEvent cause index new detail s).pwr = s.pwr := by
  unfold pwrEvent; first | (simp; done) | (simp [takeFree]; done) | (split <;> simp; done)
@[simp] theorem pwrEvent_vlv_eq (cause index new detail : Nat) (s : State) : (pwrEvent cause index new detail s).vlv = s.vlv := by
  unfold pwrEvent; first | (simp; done) | (simp [takeFree]; done) | (split <;> simp; done)
@[simp] theorem pwrEvent_lpe_eq (cause index new detail : Nat) (s : State) : (pwrEvent cause index new detail s).lpe = s.lpe := by
  unfold pwrEvent; first | (simp; done) | (simp [takeFree]; done) | (split <;> simp; done)

@[simp] theorem senEvent_mem_eq (target cause index st : Nat) (s : State) : (senEvent target cause index st s).mem = s.mem := by
  unfold senEvent; first | (simp; done) | (simp [takeFree]; done) | (split <;> simp; done)
@[simp] theorem senEvent_can_eq (target cause index st : Nat) (s : State) : (senEvent target cause index st s).can = s.can := by
  unfold senEvent; first | (simp; done) | (simp [takeFree]; done) | (split <;> simp; done)
@[simp] theorem senEvent_dma_eq (target cause index st : Nat) (s : State) : (senEvent target cause index st s).dma = s.dma := by
  unfold senEvent; first | (simp; done) | (simp [takeFree]; done) | (split <;> simp; done)
@[simp] theorem senEvent_pwr_eq (target cause index st : Nat) (s : State) : (senEvent target cause index st s).pwr = s.pwr := by
  unfold senEvent; first | (simp; done) | (simp [takeFree]; done) | (split <;> simp; done)
@[simp] theorem senEvent_vlv_eq (target cause index st : Nat) (s : State) : (senEvent target cause index st s).vlv = s.vlv := by
  unfold senEvent; first | (simp; done) | (simp [takeFree]; done) | (split <;> simp; done)
@[simp] theorem senEvent_lpe_eq (target cause index st : Nat) (s : State) : (senEvent target cause index st s).lpe = s.lpe := by
  unfold senEvent; first | (simp; done) | (simp [takeFree]; done) | (split <;> simp; done)

@[simp] theorem forceEvent_mem_eq (params : List Byte) (cause : Nat) (s : State) : (forceEvent params cause s).mem = s.mem := by
  unfold forceEvent; first | (simp; done) | (simp [takeFree]; done) | (split <;> simp; done)
@[simp] theorem forceEvent_can_eq (params : List Byte) (cause : Nat) (s : State) : (forceEvent params cause s).can = s.can := by
  unfold forceEvent; first | (simp; done) | (simp [takeFree]; done) | (split <;> simp; done)
@[simp] theorem forceEvent_dma_eq (params : List Byte) (cause : Nat) (s : State) : (forceEvent params cause s).dma = s.dma := by
  unfold forceEvent; first | (simp; done) | (simp [takeFree]; done) | (split <;> simp; done)
@[simp] theorem forceEvent_pwr_eq (params : List Byte) (cause : Nat) (s : State) : (forceEvent params cause s).pwr = s.pwr := by
  unfold forceEvent; first | (simp; done) | (simp [takeFree]; done) | (split <;> simp; done)
@[simp] theorem forceEvent_vlv_eq (params : List Byte) (cause : Nat) (s : State) : (forceEvent params cause s).vlv = s.vlv := by
  unfold forceEvent; first | (simp; done) | (simp [takeFree]; done) | (split <;> simp; done)
@[simp] theorem forceEvent_lpe_eq (params : List Byte) (cause : Nat) (s : State) : (forceEvent params cause s).lpe = s.lpe := by
  unfold forceEvent; first | (simp; done) | (simp [takeFree]; done) | (split <;> simp; done)

@[simp] theorem sumEvent_mem_eq (cause index what target : Nat) (value : F32) (s : State) : (sumEvent cause index what target value s).mem = s.mem := by
  unfold sumEvent; first | (simp; done) | (simp [takeFree]; done) | (split <;> simp; done)
@[simp] theorem sumEvent_can_eq (cause index what target : Nat) (value : F32) (s : State) : (sumEvent cause index what target value s).can = s.can := by
  unfold sumEvent; first | (simp; done) | (simp [takeFree]; done) | (split <;> simp; done)
@[simp] theorem sumEvent_dma_eq (cause index what target : Nat) (value : F32) (s : State) : (sumEvent cause index what target value s).dma = s.dma := by
  unfold sumEvent; first | (simp; done) | (simp [takeFree]; done) | (split <;> simp; done)
@[simp] theorem sumEvent_pwr_eq (cause index what target : Nat) (value : F32) (s : State) : (sumEvent cause index what target value s).pwr = s.pwr := by
  unfold sumEvent; first | (simp; done) | (simp [takeFree]; done) | (split <;> simp; done)
@[simp] theorem sumEvent_vlv_eq (cause index what target : Nat) (value : F32) (s : State) : (sumEvent cause index what target value s).vlv = s.vlv := by
  unfold sumEvent; first | (simp; done) | (simp [takeFree]; done) | (split <;> simp; done)
@[simp] theorem sumEvent_lpe_eq (cause index what target : Nat) (value : F32) (s : State) : (sumEvent cause index what target value s).lpe = s.lpe := by
  unfold sumEvent; first | (simp; done) | (simp [takeFree]; done) | (split <;> simp; done)

@[simp] theorem timEvent_mem_eq (cause : Nat) (step : Int) (s : State) : (timEvent cause step s).mem = s.mem := by
  unfold timEvent; first | (simp; done) | (simp [takeFree]; done) | (split <;> simp; done)
@[simp] theorem timEvent_can_eq (cause : Nat) (step : Int) (s : State) : (timEvent cause step s).can = s.can := by
  unfold timEvent; first | (simp; done) | (simp [takeFree]; done) | (split <;> simp; done)
@[simp] theorem timEvent_dma_eq (cause : Nat) (step : Int) (s : State) : (timEvent cause step s).dma = s.dma := by
  unfold timEvent; first | (simp; done) | (simp [takeFree]; done) | (split <;> simp; done)
@[simp] theorem timEvent_pwr_eq (cause : Nat) (step : Int) (s : State) : (timEvent cause step s).pwr = s.pwr := by
  unfold timEvent; first | (simp; done) | (simp [takeFree]; done) | (split <;> simp; done)
@[simp] theorem timEvent_vlv_eq (cause : Nat) (step : Int) (s : State) : (timEvent cause step s).vlv = s.vlv := by
  unfold timEvent; first | (simp; done) | (simp [takeFree]; done) | (split <;> simp; done)
@[simp] theorem timEvent_lpe_eq (cause : Nat) (step : Int) (s : State) : (timEvent cause step s).lpe = s.lpe := by
  unfold timEvent; first | (simp; done) | (simp [takeFree]; done) | (split <;> simp; done)

@[simp] theorem valveEvent_mem_eq (cause n : Nat) (s : State) : (valveEvent cause n s).mem = s.mem := by
  unfold valveEvent; first | (simp; done) | (simp [takeFree]; done) | (split <;> simp; done)
@[simp] theorem valveEvent_can_eq (cause n : Nat) (s : State) : (valveEvent cause n s).can = s.can := by
  unfold valveEvent; first | (simp; done) | (simp [takeFree]; done) | (split <;> simp; done)
@[simp] theorem valveEvent_dma_eq (cause n : Nat) (s : State) : (valveEvent cause n s).dma = s.dma := by
  unfold valveEvent; first | (simp; done) | (simp [takeFree]; done) | (split <;> simp; done)
@[simp] theorem valveEvent_pwr_eq (cause n : Nat) (s : State) : (valveEvent cause n s).pwr = s.pwr := by
  unfold valveEvent; first | (simp; done) | (simp [takeFree]; done) | (split <;> simp; done)
@[simp] theorem valveEvent_vlv_eq (cause n : Nat) (s : State) : (valveEvent cause n s).vlv = s.vlv := by
  unfold valveEvent; first | (simp; done) | (simp [takeFree]; done) | (split <;> simp; done)
@[simp] theorem valveEvent_lpe_eq (cause n : Nat) (s : State) : (valveEvent cause n s).lpe = s.lpe := by
  unfold valveEvent; first | (simp; done) | (simp [takeFree]; done) | (split <;> simp; done)

@[simp] theorem groupEvent_mem_eq (g : Nat) (s : State) : (groupEvent g s).mem = s.mem := by
  unfold groupEvent; first | (simp; done) | (simp [takeFree]; done) | (split <;> simp; done)
@[simp] theorem groupEvent_can_eq (g : Nat) (s : State) : (groupEvent g s).can = s.can := by
  unfold groupEvent; first | (simp; done) | (simp [takeFree]; done) | (split <;> simp; done)
@[simp] theorem groupEvent_dma_eq (g : Nat) (s : State) : (groupEvent g s).dma = s.dma := by
  unfold groupEvent; first | (simp; done) | (simp [takeFree]; done) | (split <;> simp; done)
@[simp] theorem groupEvent_pwr_eq (g : Nat) (s : State) : (groupEvent g s).pwr = s.pwr := by
  unfold groupEvent; first | (simp; done) | (simp [takeFree]; done) | (split <;> simp; done)
@[simp] theorem groupEvent_vlv_eq (g : Nat) (s : State) : (groupEvent g s).vlv = s.vlv := by
  unfold groupEvent; first | (simp; done) | (simp [takeFree]; done) | (split <;> simp; done)
@[simp] theorem groupEvent_lpe_eq (g : Nat) (s : State) : (groupEvent g s).lpe = s.lpe := by
  unfold groupEvent; first | (simp; done) | (simp [takeFree]; done) | (split <;> simp; done)

@[simp] theorem memEvent_mem_eq (cause : Nat) (chan sub dev : Option Nat) (agent : Nat) (owner : Option Nat) (addr : Nat) (s : State) : (memEvent cause chan sub dev agent owner addr s).mem = s.mem := by
  unfold memEvent; first | (simp; done) | (simp [takeFree]; done) | (split <;> simp; done)
@[simp] theorem memEvent_can_eq (cause : Nat) (chan sub dev : Option Nat) (agent : Nat) (owner : Option Nat) (addr : Nat) (s : State) : (memEvent cause chan sub dev agent owner addr s).can = s.can := by
  unfold memEvent; first | (simp; done) | (simp [takeFree]; done) | (split <;> simp; done)
@[simp] theorem memEvent_dma_eq (cause : Nat) (chan sub dev : Option Nat) (agent : Nat) (owner : Option Nat) (addr : Nat) (s : State) : (memEvent cause chan sub dev agent owner addr s).dma = s.dma := by
  unfold memEvent; first | (simp; done) | (simp [takeFree]; done) | (split <;> simp; done)
@[simp] theorem memEvent_pwr_eq (cause : Nat) (chan sub dev : Option Nat) (agent : Nat) (owner : Option Nat) (addr : Nat) (s : State) : (memEvent cause chan sub dev agent owner addr s).pwr = s.pwr := by
  unfold memEvent; first | (simp; done) | (simp [takeFree]; done) | (split <;> simp; done)
@[simp] theorem memEvent_vlv_eq (cause : Nat) (chan sub dev : Option Nat) (agent : Nat) (owner : Option Nat) (addr : Nat) (s : State) : (memEvent cause chan sub dev agent owner addr s).vlv = s.vlv := by
  unfold memEvent; first | (simp; done) | (simp [takeFree]; done) | (split <;> simp; done)
@[simp] theorem memEvent_lpe_eq (cause : Nat) (chan sub dev : Option Nat) (agent : Nat) (owner : Option Nat) (addr : Nat) (s : State) : (memEvent cause chan sub dev agent owner addr s).lpe = s.lpe := by
  unfold memEvent; first | (simp; done) | (simp [takeFree]; done) | (split <;> simp; done)

end Sys2Proof.Machine
end

