-- ==== Sys2Proof/Laws/PerInstr.lean ====
section
/-! SUPPORT. The shape of every command, constructor by constructor. -/
namespace Sys2Proof.Laws.PacketShape

/-- A command that carries a packet is well-formed where that packet is, and comes at that packet's time. -/
def Statement (i : Instr) : Prop := ∀ p, i.packet = some p → i.wf = p.wf ∧ i.time = p.time

/-- A command whose packet, well-formedness and time are those of `x`. -/
theorem of_packet {i : Instr} {x : Packet} (h : i.packet = some x) (hw : i.wf = x.wf) (ht : i.time = x.time) : Statement i :=
  fun _ e => Option.some.inj (h.symm.trans e) ▸ ⟨hw, ht⟩

/-- An event carries no packet. -/
theorem of_event {i : Instr} (h : i.packet = none) : Statement i := fun _ e => by rw [h] at e; cases e

theorem sysIdent (x0) : Statement (.sysIdent x0) := of_packet rfl rfl rfl
theorem sysStatus (x0) : Statement (.sysStatus x0) := of_packet rfl rfl rfl
theorem sysSessionOpen (x0) : Statement (.sysSessionOpen x0) := of_packet rfl rfl rfl
theorem sysSessionClose (x0) : Statement (.sysSessionClose x0) := of_packet rfl rfl rfl
theorem sysCreditSet (x0) : Statement (.sysCreditSet x0) := of_packet rfl rfl rfl
theorem replyPacket (x0) (x1) (x2) (x3) : Statement (.replyPacket x0 x1 x2 x3) := of_event rfl
theorem packetDiscard (x0) (x1) : Statement (.packetDiscard x0 x1) := of_event rfl
theorem queueTimeout (x0) (x1) (x2) : Statement (.queueTimeout x0 x1 x2) := of_event rfl
theorem halfOpenExpiry (x0) (x1) : Statement (.halfOpenExpiry x0 x1) := of_event rfl
theorem authFailReport (x0) : Statement (.authFailReport x0) := of_event rfl
theorem sigRead (x0) : Statement (.sigRead x0) := of_packet rfl rfl rfl
theorem sigWrite (x0) : Statement (.sigWrite x0) := of_packet rfl rfl rfl
theorem sigRouteSet (x0) : Statement (.sigRouteSet x0) := of_packet rfl rfl rfl
theorem sigForce (x0) : Statement (.sigForce x0) := of_packet rfl rfl rfl
theorem forcedPublish (x0) : Statement (.forcedPublish x0) := of_event rfl
theorem forceHoldElapsed (x0) : Statement (.forceHoldElapsed x0) := of_event rfl
theorem routeEffective (x0) : Statement (.routeEffective x0) := of_event rfl
theorem routeExport (x0) : Statement (.routeExport x0) := of_event rfl
theorem routeRecordReceived (x0) (x1) : Statement (.routeRecordReceived x0 x1) := of_event rfl
theorem staleAtReached (x0) : Statement (.staleAtReached x0) := of_event rfl
theorem machineConfigLoad (x0) (x1) : Statement (.machineConfigLoad x0 x1) := of_event rfl
theorem funConfig (x0) : Statement (.funConfig x0) := of_packet rfl rfl rfl
theorem funEnable (x0) : Statement (.funEnable x0) := of_packet rfl rfl rfl
theorem funDisable (x0) : Statement (.funDisable x0) := of_packet rfl rfl rfl
theorem funSourceSet (x0) : Statement (.funSourceSet x0) := of_packet rfl rfl rfl
theorem funState (x0) : Statement (.funState x0) := of_packet rfl rfl rfl
theorem funClear (x0) : Statement (.funClear x0) := of_packet rfl rfl rfl
theorem funInterlockSet (x0) : Statement (.funInterlockSet x0) := of_packet rfl rfl rfl
theorem funAutoSet (x0) : Statement (.funAutoSet x0) := of_packet rfl rfl rfl
theorem functionSample (x0) : Statement (.functionSample x0) := of_event rfl
theorem interlockHoldExpiry (x0) : Statement (.interlockHoldExpiry x0) := of_event rfl
theorem enableTimeout (x0) : Statement (.enableTimeout x0) := of_event rfl
theorem recoverHold (x0) : Statement (.recoverHold x0) := of_event rfl
theorem pnrTimeout (x0) : Statement (.pnrTimeout x0) := of_event rfl
theorem switchOffComplete (x0) (x1) : Statement (.switchOffComplete x0 x1) := of_event rfl
theorem overrideEnd (x0) : Statement (.overrideEnd x0) := of_event rfl
theorem culConfig (x0) : Statement (.culConfig x0) := of_packet rfl rfl rfl
theorem culStageSet (x0) : Statement (.culStageSet x0) := of_packet rfl rfl rfl
theorem culSensorSet (x0) : Statement (.culSensorSet x0) := of_packet rfl rfl rfl
theorem culStart (x0) : Statement (.culStart x0) := of_packet rfl rfl rfl
theorem culStop (x0) : Statement (.culStop x0) := of_packet rfl rfl rfl
theorem culStatus (x0) : Statement (.culStatus x0) := of_packet rfl rfl rfl
theorem culLedgerRead (x0) : Statement (.culLedgerRead x0) := of_packet rfl rfl rfl
theorem culCalRun (x0) : Statement (.culCalRun x0) := of_packet rfl rfl rfl
theorem calWindowEnd (x0) : Statement (.calWindowEnd x0) := of_event rfl
theorem couloirTick (x0) : Statement (.couloirTick x0) := of_event rfl
theorem poseWait (x0) : Statement (.poseWait x0) := of_event rfl
theorem velocityHoldExpiry (x0) : Statement (.velocityHoldExpiry x0) := of_event rfl
theorem parcelAged (x0) : Statement (.parcelAged x0) := of_event rfl
theorem refillEnd (x0) : Statement (.refillEnd x0) := of_event rfl
theorem impactDetected (x0) (x1) (x2) (x3) (x4) (x5) : Statement (.impactDetected x0 x1 x2 x3 x4 x5) := of_event rfl
theorem reportInterval (x0) (x1) : Statement (.reportInterval x0 x1) := of_event rfl
theorem flowDecision (x0) (x1) : Statement (.flowDecision x0 x1) := of_event rfl
theorem plateBlock (x0) (x1) (x2) : Statement (.plateBlock x0 x1 x2) := of_event rfl
theorem paddlePass (x0) (x1) : Statement (.paddlePass x0 x1) := of_event rfl
theorem moistureSample (x0) (x1) (x2) (x3) (x4) (x5) (x6) : Statement (.moistureSample x0 x1 x2 x3 x4 x5 x6) := of_event rfl
theorem tareRetake (x0) (x1) : Statement (.tareRetake x0 x1) := of_event rfl
theorem senChannelSet (x0) : Statement (.senChannelSet x0) := of_packet rfl rfl rfl
theorem senClassWrite (x0) : Statement (.senClassWrite x0) := of_packet rfl rfl rfl
theorem senTrain (x0) : Statement (.senTrain x0) := of_packet rfl rfl rfl
theorem senChannelRead (x0) : Statement (.senChannelRead x0) := of_packet rfl rfl rfl
theorem senCropSet (x0) : Statement (.senCropSet x0) := of_packet rfl rfl rfl
theorem senYieldConfig (x0) : Statement (.senYieldConfig x0) := of_packet rfl rfl rfl
theorem senCalLoad (x0) : Statement (.senCalLoad x0) := of_packet rfl rfl rfl
theorem senStatus (x0) : Statement (.senStatus x0) := of_packet rfl rfl rfl
theorem mapFieldOpen (x0) : Statement (.mapFieldOpen x0) := of_packet rfl rfl rfl
theorem mapFieldClose (x0) : Statement (.mapFieldClose x0) := of_packet rfl rfl rfl
theorem mapConfig (x0) : Statement (.mapConfig x0) := of_packet rfl rfl rfl
theorem mapTileRead (x0) : Statement (.mapTileRead x0) := of_packet rfl rfl rfl
theorem mapStatus (x0) : Statement (.mapStatus x0) := of_packet rfl rfl rfl
theorem mapExport (x0) : Statement (.mapExport x0) := of_packet rfl rfl rfl
theorem exportBuilt (x0) : Statement (.exportBuilt x0) := of_event rfl
theorem mapExportRead (x0) : Statement (.mapExportRead x0) := of_packet rfl rfl rfl
theorem tileLoadComplete (x0) (x1) (x2) : Statement (.tileLoadComplete x0 x1 x2) := of_event rfl
theorem tileFlush (x0) : Statement (.tileFlush x0) := of_event rfl
theorem gdeConfig (x0) : Statement (.gdeConfig x0) := of_packet rfl rfl rfl
theorem gdeLineWrite (x0) : Statement (.gdeLineWrite x0) := of_packet rfl rfl rfl
theorem gdeLineSelect (x0) : Statement (.gdeLineSelect x0) := of_packet rfl rfl rfl
theorem gdeEngage (x0) : Statement (.gdeEngage x0) := of_packet rfl rfl rfl
theorem gdeDisengage (x0) : Statement (.gdeDisengage x0) := of_packet rfl rfl rfl
theorem gdeStatus (x0) : Statement (.gdeStatus x0) := of_packet rfl rfl rfl
theorem gdeWasCal (x0) : Statement (.gdeWasCal x0) := of_packet rfl rfl rfl
theorem wasPointRecorded (x0) : Statement (.wasPointRecorded x0) := of_event rfl
theorem lawSample (x0) (x1) : Statement (.lawSample x0 x1) := of_event rfl
theorem coastExpiry (x0) : Statement (.coastExpiry x0) := of_event rfl
theorem releaseRampEnd (x0) : Statement (.releaseRampEnd x0) := of_event rfl
theorem gdeSwitchOffComplete (x0) : Statement (.gdeSwitchOffComplete x0) := of_event rfl
theorem lpeLoopConfig (x0) : Statement (.lpeLoopConfig x0) := of_packet rfl rfl rfl
theorem lpeLoopRun (x0) : Statement (.lpeLoopRun x0) := of_packet rfl rfl rfl
theorem lpeBankWrite (x0) : Statement (.lpeBankWrite x0) := of_packet rfl rfl rfl
theorem lpeBankSwap (x0) : Statement (.lpeBankSwap x0) := of_packet rfl rfl rfl
theorem lpeLoopStatus (x0) : Statement (.lpeLoopStatus x0) := of_packet rfl rfl rfl
theorem lpeTraceSet (x0) : Statement (.lpeTraceSet x0) := of_packet rfl rfl rfl
theorem lpeTraceRead (x0) : Statement (.lpeTraceRead x0) := of_packet rfl rfl rfl
theorem lpeEngineStatus (x0) : Statement (.lpeEngineStatus x0) := of_packet rfl rfl rfl
theorem loopCtrlSwap (x0) (x1) (x2) (x3) : Statement (.loopCtrlSwap x0 x1 x2 x3) := of_event rfl
theorem trcArm (x0) (x1) (x2) : Statement (.trcArm x0 x1 x2) := of_event rfl
theorem trcSwtrig (x0) (x1) (x2) : Statement (.trcSwtrig x0 x1 x2) := of_event rfl
theorem loopSample (x0) (x1) : Statement (.loopSample x0 x1) := of_event rfl
theorem outputRelease (x0) (x1) : Statement (.outputRelease x0 x1) := of_event rfl
theorem repPulse (x0) (x1) : Statement (.repPulse x0 x1) := of_event rfl
theorem engineFault (x0) (x1) : Statement (.engineFault x0 x1) := of_event rfl
theorem takeoverComplete (x0) (x1) : Statement (.takeoverComplete x0 x1) := of_event rfl
theorem spareReferenceCheck (x0) (x1) : Statement (.spareReferenceCheck x0 x1) := of_event rfl
theorem vlvConfig (x0) : Statement (.vlvConfig x0) := of_packet rfl rfl rfl
theorem vlvDrive (x0) : Statement (.vlvDrive x0) := of_packet rfl rfl rfl
theorem vlvStatus (x0) : Statement (.vlvStatus x0) := of_packet rfl rfl rfl
theorem vlvClear (x0) : Statement (.vlvClear x0) := of_packet rfl rfl rfl
theorem vlvGroupStatus (x0) : Statement (.vlvGroupStatus x0) := of_packet rfl rfl rfl
theorem valveInstant (x0) (x1) (x2) : Statement (.valveInstant x0 x1 x2) := of_event rfl
theorem testPulseEnd (x0) (x1) (x2) : Statement (.testPulseEnd x0 x1 x2) := of_event rfl
theorem shortTrip (x0) (x1) (x2) (x3) : Statement (.shortTrip x0 x1 x2 x3) := of_event rfl
theorem retryWaitExpiry (x0) (x1) : Statement (.retryWaitExpiry x0 x1) := of_event rfl
theorem retryReset (x0) (x1) : Statement (.retryReset x0 x1) := of_event rfl
theorem demagComplete (x0) (x1) (x2) : Statement (.demagComplete x0 x1 x2) := of_event rfl
theorem demagTimeout (x0) (x1) : Statement (.demagTimeout x0 x1) := of_event rfl
theorem offTimeEnd (x0) (x1) : Statement (.offTimeEnd x0 x1) := of_event rfl
theorem offStateCheck (x0) (x1) (x2) (x3) (x4) (x5) : Statement (.offStateCheck x0 x1 x2 x3 x4 x5) := of_event rfl
theorem groupStateEval (x0) (x1) (x2) : Statement (.groupStateEval x0 x1 x2) := of_event rfl
theorem coilThermalUpdate (x0) (x1) (x2) : Statement (.coilThermalUpdate x0 x1 x2) := of_event rfl
theorem resistanceMeasurement (x0) (x1) (x2) (x3) (x4) : Statement (.resistanceMeasurement x0 x1 x2 x3 x4) := of_event rfl
theorem sentFrame (x0) (x1) (x2) (x3) : Statement (.sentFrame x0 x1 x2 x3) := of_event rfl
theorem valvePublish (x0) (x1) (x2) : Statement (.valvePublish x0 x1 x2) := of_event rfl
theorem fioDiConfig (x0) : Statement (.fioDiConfig x0) := of_packet rfl rfl rfl
theorem fioAiConfig (x0) : Statement (.fioAiConfig x0) := of_packet rfl rfl rfl
theorem fioDoConfig (x0) : Statement (.fioDoConfig x0) := of_packet rfl rfl rfl
theorem fioDoClear (x0) : Statement (.fioDoClear x0) := of_packet rfl rfl rfl
theorem fioStatus (x0) : Statement (.fioStatus x0) := of_packet rfl rfl rfl
theorem diOutChange (x0) (x1) (x2) : Statement (.diOutChange x0 x1 x2) := of_event rfl
theorem diPeriodicPublish (x0) (x1) : Statement (.diPeriodicPublish x0 x1) := of_event rfl
theorem pulseFrequency (x0) (x1) : Statement (.pulseFrequency x0 x1) := of_event rfl
theorem wireBreakCheck (x0) (x1) (x2) (x3) : Statement (.wireBreakCheck x0 x1 x2 x3) := of_event rfl
theorem aiConversion (x0) (x1) (x2) : Statement (.aiConversion x0 x1 x2) := of_event rfl
theorem aiShuntRetry (x0) (x1) : Statement (.aiShuntRetry x0 x1) := of_event rfl
theorem doInstant (x0) (x1) (x2) : Statement (.doInstant x0 x1 x2) := of_event rfl
theorem doTestPulseEnd (x0) (x1) (x2) : Statement (.doTestPulseEnd x0 x1 x2) := of_event rfl
theorem doTrip (x0) (x1) (x2) (x3) : Statement (.doTrip x0 x1 x2 x3) := of_event rfl
theorem doRetryExpiry (x0) (x1) : Statement (.doRetryExpiry x0 x1) := of_event rfl
theorem doRetryReset (x0) (x1) : Statement (.doRetryReset x0 x1) := of_event rfl
theorem doDemagComplete (x0) (x1) (x2) : Statement (.doDemagComplete x0 x1 x2) := of_event rfl
theorem doOffStateCheck (x0) (x1) (x2) : Statement (.doOffStateCheck x0 x1 x2) := of_event rfl
theorem supplyEval (x0) (x1) (x2) (x3) : Statement (.supplyEval x0 x1 x2 x3) := of_event rfl
theorem sensorSupplyRetry (x0) (x1) : Statement (.sensorSupplyRetry x0 x1) := of_event rfl
theorem gnsConfig (x0) : Statement (.gnsConfig x0) := of_packet rfl rfl rfl
theorem gnsRtcmPut (x0) : Statement (.gnsRtcmPut x0) := of_packet rfl rfl rfl
theorem gnsRawLatch (x0) : Statement (.gnsRawLatch x0) := of_packet rfl rfl rfl
theorem gnsTest (x0) : Statement (.gnsTest x0) := of_packet rfl rfl rfl
theorem gnsRestart (x0) : Statement (.gnsRestart x0) := of_packet rfl rfl rfl
theorem gnsStatus (x0) : Statement (.gnsStatus x0) := of_packet rfl rfl rfl
theorem gnsChannelRead (x0) : Statement (.gnsChannelRead x0) := of_packet rfl rfl rfl
theorem gnssEpoch (x0) (x1) : Statement (.gnssEpoch x0 x1) := of_event rfl
theorem spoofClearTimer (x0) : Statement (.spoofClearTimer x0) := of_event rfl
theorem portStateEval (x0) (x1) (x2) (x3) (x4) : Statement (.portStateEval x0 x1 x2 x3 x4) := of_event rfl
theorem correlatorSelfTest (x0) (x1) (x2) : Statement (.correlatorSelfTest x0 x1 x2) := of_event rfl
theorem dwellComplete (x0) (x1) (x2) : Statement (.dwellComplete x0 x1 x2) := of_event rfl
theorem carrierLockLoss (x0) (x1) (x2) : Statement (.carrierLockLoss x0 x1 x2) := of_event rfl
theorem navUnit (x0) (x1) (x2) : Statement (.navUnit x0 x1 x2) := of_event rfl
theorem rtcmDatagram (x0) (x1) (x2) (x3) : Statement (.rtcmDatagram x0 x1 x2 x3) := of_event rfl
theorem interferenceCheck (x0) (x1) (x2) (x3) (x4) (x5) : Statement (.interferenceCheck x0 x1 x2 x3 x4 x5) := of_event rfl
theorem timConfig (x0) : Statement (.timConfig x0) := of_packet rfl rfl rfl
theorem timStatus (x0) : Statement (.timStatus x0) := of_packet rfl rfl rfl
theorem timConvert (x0) : Statement (.timConvert x0) := of_packet rfl rfl rfl
theorem timEpochSet (x0) : Statement (.timEpochSet x0) := of_packet rfl rfl rfl
theorem timeStateEval (x0) (x1) : Statement (.timeStateEval x0 x1) := of_event rfl
theorem ppsInEdge (x0) (x1) : Statement (.ppsInEdge x0 x1) := of_event rfl
theorem ppsInLost (x0) : Statement (.ppsInLost x0) := of_event rfl
theorem ppsOutEdge (x0) (x1) : Statement (.ppsOutEdge x0 x1) := of_event rfl
theorem mappingStep (x0) : Statement (.mappingStep x0) := of_event rfl
theorem leapSecond (x0) : Statement (.leapSecond x0) := of_event rfl
theorem gptpMessage (x0) (x1) : Statement (.gptpMessage x0 x1) := of_event rfl
theorem fusConfig (x0) : Statement (.fusConfig x0) := of_packet rfl rfl rfl
theorem fusFrameSet (x0) : Statement (.fusFrameSet x0) := of_packet rfl rfl rfl
theorem fusFrameRead (x0) : Statement (.fusFrameRead x0) := of_packet rfl rfl rfl
theorem fusGroupSet (x0) : Statement (.fusGroupSet x0) := of_packet rfl rfl rfl
theorem fusSourceSet (x0) : Statement (.fusSourceSet x0) := of_packet rfl rfl rfl
theorem fusStatus (x0) : Statement (.fusStatus x0) := of_packet rfl rfl rfl
theorem fusTrackRead (x0) : Statement (.fusTrackRead x0) := of_packet rfl rfl rfl
theorem fusionInstant (x0) (x1) : Statement (.fusionInstant x0 x1) := of_event rfl
theorem posePublish (x0) (x1) : Statement (.posePublish x0 x1) := of_event rfl
theorem ga1Prediction (x0) (x1) (x2) (x3) : Statement (.ga1Prediction x0 x1 x2 x3) := of_event rfl
theorem detectionBlock (x0) (x1) (x2) (x3) : Statement (.detectionBlock x0 x1 x2 x3) := of_event rfl
theorem trackTimeout (x0) : Statement (.trackTimeout x0) := of_event rfl
theorem camLinkSet (x0) : Statement (.camLinkSet x0) := of_packet rfl rfl rfl
theorem camPipeSet (x0) : Statement (.camPipeSet x0) := of_packet rfl rfl rfl
theorem camPairSet (x0) : Statement (.camPairSet x0) := of_packet rfl rfl rfl
theorem camFsyncSet (x0) : Statement (.camFsyncSet x0) := of_packet rfl rfl rfl
theorem camSensorWrite (x0) : Statement (.camSensorWrite x0) := of_packet rfl rfl rfl
theorem camVaSet (x0) : Statement (.camVaSet x0) := of_packet rfl rfl rfl
theorem camStatus (x0) : Statement (.camStatus x0) := of_packet rfl rfl rfl
theorem linkStateEval (x0) (x1) (x2) : Statement (.linkStateEval x0 x1 x2) := of_event rfl
theorem csi2Packet (x0) (x1) (x2) : Statement (.csi2Packet x0 x1 x2) := of_event rfl
theorem sensorWriteComplete (x0) (x1) (x2) : Statement (.sensorWriteComplete x0 x1 x2) := of_event rfl
theorem fsyncEdge (x0) (x1) : Statement (.fsyncEdge x0 x1) := of_event rfl
theorem resyncRelease (x0) (x1) : Statement (.resyncRelease x0 x1) := of_event rfl
theorem vaJobComplete (x0) (x1) : Statement (.vaJobComplete x0 x1) := of_event rfl
theorem canConfig (x0) : Statement (.canConfig x0) := of_packet rfl rfl rfl
theorem canBufferSet (x0) : Statement (.canBufferSet x0) := of_packet rfl rfl rfl
theorem canFilterSet (x0) : Statement (.canFilterSet x0) := of_packet rfl rfl rfl
theorem canPower (x0) : Statement (.canPower x0) := of_packet rfl rfl rfl
theorem canRecover (x0) : Statement (.canRecover x0) := of_packet rfl rfl rfl
theorem canTtSet (x0) : Statement (.canTtSet x0) := of_packet rfl rfl rfl
theorem canClaim (x0) : Statement (.canClaim x0) := of_packet rfl rfl rfl
theorem canStatus (x0) : Statement (.canStatus x0) := of_packet rfl rfl rfl
theorem canTxreq (x0) (x1) (x2) (x3) (x4) : Statement (.canTxreq x0 x1 x2 x3 x4) := of_event rfl
theorem canTxabort (x0) (x1) (x2) (x3) (x4) : Statement (.canTxabort x0 x1 x2 x3 x4) := of_event rfl
theorem canFrameReceived (x0) (x1) (x2) : Statement (.canFrameReceived x0 x1 x2) := of_event rfl
theorem arbitrationStart (x0) (x1) : Statement (.arbitrationStart x0 x1) := of_event rfl
theorem txAttemptEnd (x0) (x1) (x2) : Statement (.txAttemptEnd x0 x1 x2) := of_event rfl
theorem deadlineExpiry (x0) (x1) (x2) : Statement (.deadlineExpiry x0 x1 x2) := of_event rfl
theorem recoveryDelayExpiry (x0) (x1) : Statement (.recoveryDelayExpiry x0 x1) := of_event rfl
theorem recoveryComplete (x0) (x1) : Statement (.recoveryComplete x0 x1) := of_event rfl
theorem alonePace (x0) (x1) : Statement (.alonePace x0 x1) := of_event rfl
theorem canSelfTest (x0) (x1) (x2) : Statement (.canSelfTest x0 x1 x2) := of_event rfl
theorem canWake (x0) (x1) (x2) : Statement (.canWake x0 x1 x2) := of_event rfl
theorem ttTrigger (x0) (x1) (x2) : Statement (.ttTrigger x0 x1 x2) := of_event rfl
theorem ttReference (x0) (x1) (x2) : Statement (.ttReference x0 x1 x2) := of_event rfl
theorem addressClaimMessage (x0) (x1) (x2) : Statement (.addressClaimMessage x0 x1 x2) := of_event rfl
theorem fltConfig (x0) : Statement (.fltConfig x0) := of_packet rfl rfl rfl
theorem fltKeySet (x0) : Statement (.fltKeySet x0) := of_packet rfl rfl rfl
theorem fltMemberSet (x0) : Statement (.fltMemberSet x0) := of_packet rfl rfl rfl
theorem fltHazardSet (x0) : Statement (.fltHazardSet x0) := of_packet rfl rfl rfl
theorem fltLine (x0) : Statement (.fltLine x0) := of_packet rfl rfl rfl
theorem fltUnload (x0) : Statement (.fltUnload x0) := of_packet rfl rfl rfl
theorem fltStatus (x0) : Statement (.fltStatus x0) := of_packet rfl rfl rfl
theorem exchangeInstant (x0) : Statement (.exchangeInstant x0) := of_event rfl
theorem fleetDatagram (x0) (x1) (x2) (x3) : Statement (.fleetDatagram x0 x1 x2 x3) := of_event rfl
theorem dtlsHandshake (x0) (x1) : Statement (.dtlsHandshake x0 x1) := of_event rfl
theorem memberTimeout (x0) : Statement (.memberTimeout x0) := of_event rfl
theorem grantTimeout (x0) : Statement (.grantTimeout x0) := of_event rfl
theorem lostHoldExpiry (x0) : Statement (.lostHoldExpiry x0) := of_event rfl
theorem hazardExpiry (x0) : Statement (.hazardExpiry x0) := of_event rfl
theorem colPartitionConfig (x0) : Statement (.colPartitionConfig x0) := of_packet rfl rfl rfl
theorem colInputSet (x0) : Statement (.colInputSet x0) := of_packet rfl rfl rfl
theorem colAdmit (x0) : Statement (.colAdmit x0) := of_packet rfl rfl rfl
theorem colPartitionRun (x0) : Statement (.colPartitionRun x0) := of_packet rfl rfl rfl
theorem colStatus (x0) : Statement (.colStatus x0) := of_packet rfl rfl rfl
theorem colPartitionStatus (x0) : Statement (.colPartitionStatus x0) := of_packet rfl rfl rfl
theorem colRoleReturn (x0) : Statement (.colRoleReturn x0) := of_packet rfl rfl rfl
theorem colInject (x0) : Statement (.colInject x0) := of_packet rfl rfl rfl
theorem mailboxSubmit (x0) (x1) (x2) (x3) : Statement (.mailboxSubmit x0 x1 x2 x3) := of_event rfl
theorem periodStart (x0) (x1) : Statement (.periodStart x0 x1) := of_event rfl
theorem doneWrite (x0) (x1) (x2) (x3) : Statement (.doneWrite x0 x1 x2 x3) := of_event rfl
theorem commitComplete (x0) (x1) : Statement (.commitComplete x0 x1) := of_event rfl
theorem releaseBoundary (x0) (x1) : Statement (.releaseBoundary x0 x1) := of_event rfl
theorem wcetExpiry (x0) (x1) : Statement (.wcetExpiry x0 x1) := of_event rfl
theorem pairFault (x0) (x1) : Statement (.pairFault x0 x1) := of_event rfl
theorem restoreComplete (x0) (x1) : Statement (.restoreComplete x0 x1) := of_event rfl
theorem spareCheck (x0) (x1) (x2) : Statement (.spareCheck x0 x1 x2) := of_event rfl
theorem commitMirrorReceived (x0) (x1) : Statement (.commitMirrorReceived x0 x1) := of_event rfl
theorem heartbeatSend (x0) : Statement (.heartbeatSend x0) := of_event rfl
theorem failureNotice (x0) : Statement (.failureNotice x0) := of_event rfl
theorem managerLost (x0) : Statement (.managerLost x0) := of_event rfl
theorem peerDiscovery (x0) (x1) : Statement (.peerDiscovery x0 x1) := of_event rfl
theorem memStatus (x0) : Statement (.memStatus x0) := of_packet rfl rfl rfl
theorem memScrubConfig (x0) : Statement (.memScrubConfig x0) := of_packet rfl rfl rfl
theorem memRegionSet (x0) : Statement (.memRegionSet x0) := of_packet rfl rfl rfl
theorem memDeviceFail (x0) : Statement (.memDeviceFail x0) := of_packet rfl rfl rfl
theorem memRemapClear (x0) : Statement (.memRemapClear x0) := of_packet rfl rfl rfl
theorem memInject (x0) : Statement (.memInject x0) := of_packet rfl rfl rfl
theorem scrubRead (x0) (x1) (x2) (x3) : Statement (.scrubRead x0 x1 x2 x3) := of_event rfl
theorem scrubDue (x0) : Statement (.scrubDue x0) := of_event rfl
theorem dmaChannelSet (x0) : Statement (.dmaChannelSet x0) := of_packet rfl rfl rfl
theorem dmaStatus (x0) : Statement (.dmaStatus x0) := of_packet rfl rfl rfl
theorem dmaStart (x0) (x1) (x2) : Statement (.dmaStart x0 x1 x2) := of_event rfl
theorem dmaAbort (x0) (x1) (x2) : Statement (.dmaAbort x0 x1 x2) := of_event rfl
theorem chDoorbell (x0) (x1) (x2) : Statement (.chDoorbell x0 x1 x2) := of_event rfl
theorem descriptorComplete (x0) (x1) : Statement (.descriptorComplete x0 x1) := of_event rfl
theorem crnStatus (x0) : Statement (.crnStatus x0) := of_packet rfl rfl rfl
theorem crnCursorOpen (x0) : Statement (.crnCursorOpen x0) := of_packet rfl rfl rfl
theorem crnRead (x0) : Statement (.crnRead x0) := of_packet rfl rfl rfl
theorem crnCursorClose (x0) : Statement (.crnCursorClose x0) := of_packet rfl rfl rfl
theorem crnClear (x0) : Statement (.crnClear x0) := of_packet rfl rfl rfl
theorem crnAppWrite (x0) : Statement (.crnAppWrite x0) := of_packet rfl rfl rfl
theorem cairnEventAccept (x0) : Statement (.cairnEventAccept x0) := of_event rfl
theorem recordWritten (x0) : Statement (.recordWritten x0) := of_event rfl
theorem cursorTimeout (x0) (x1) : Statement (.cursorTimeout x0 x1) := of_event rfl
theorem updBegin (x0) : Statement (.updBegin x0) := of_packet rfl rfl rfl
theorem updPiece (x0) : Statement (.updPiece x0) := of_packet rfl rfl rfl
theorem updStatus (x0) : Statement (.updStatus x0) := of_packet rfl rfl rfl
theorem updMissing (x0) : Statement (.updMissing x0) := of_packet rfl rfl rfl
theorem updInstall (x0) : Statement (.updInstall x0) := of_packet rfl rfl rfl
theorem updCommit (x0) : Statement (.updCommit x0) := of_packet rfl rfl rfl
theorem updAbort (x0) : Statement (.updAbort x0) := of_packet rfl rfl rfl
theorem pieceBufferTimeout (x0) : Statement (.pieceBufferTimeout x0) := of_event rfl
theorem componentInstalled (x0) (x1) : Statement (.componentInstalled x0 x1) := of_event rfl
theorem rollbackRaise (x0) : Statement (.rollbackRaise x0) := of_event rfl
theorem pendingResolve (x0) (x1) : Statement (.pendingResolve x0 x1) := of_event rfl
theorem pwrSet (x0) : Statement (.pwrSet x0) := of_packet rfl rfl rfl
theorem pwrConfig (x0) : Statement (.pwrConfig x0) := of_packet rfl rfl rfl
theorem pwrStatus (x0) : Statement (.pwrStatus x0) := of_packet rfl rfl rfl
theorem powerStepComplete (x0) : Statement (.powerStepComplete x0) := of_event rfl
theorem drainEnd (x0) : Statement (.drainEnd x0) := of_event rfl
theorem drainTimeout (x0) : Statement (.drainTimeout x0) := of_event rfl
theorem wake (x0) (x1) : Statement (.wake x0 x1) := of_event rfl
theorem ignEdge (x0) (x1) : Statement (.ignEdge x0 x1) := of_event rfl
theorem wakeEdge (x0) (x1) : Statement (.wakeEdge x0 x1) := of_event rfl
theorem summitAlarm (x0) : Statement (.summitAlarm x0) := of_event rfl
theorem supplyOnStartUp (x0) (x1) : Statement (.supplyOnStartUp x0 x1) := of_event rfl
theorem ready (x0) (x1) : Statement (.ready x0 x1) := of_event rfl
theorem logicPathEval (x0) (x1) (x2) : Statement (.logicPathEval x0 x1 x2) := of_event rfl
theorem supplyFailure (x0) (x1) (x2) : Statement (.supplyFailure x0 x1 x2) := of_event rfl
theorem bankMeasurement (x0) (x1) (x2) (x3) : Statement (.bankMeasurement x0 x1 x2 x3) := of_event rfl
theorem thermalBudget (x0) (x1) : Statement (.thermalBudget x0 x1) := of_event rfl
theorem limitInsufficient (x0) : Statement (.limitInsufficient x0) := of_event rfl
theorem clockWindow (x0) (x1) : Statement (.clockWindow x0 x1) := of_event rfl
theorem pllLossOfLock (x0) : Statement (.pllLossOfLock x0) := of_event rfl
theorem strapRead (x0) (x1) : Statement (.strapRead x0 x1) := of_event rfl
theorem summitHeartbeat (x0) (x1) : Statement (.summitHeartbeat x0 x1) := of_event rfl
theorem summitOscCheck (x0) (x1) : Statement (.summitOscCheck x0 x1) := of_event rfl
theorem healthPublish (x0) (x1) : Statement (.healthPublish x0 x1) := of_event rfl
theorem shockEvent (x0) (x1) (x2) (x3) (x4) (x5) : Statement (.shockEvent x0 x1 x2 x3 x4 x5) := of_event rfl
theorem humidityAlert (x0) (x1) : Statement (.humidityAlert x0 x1) := of_event rfl
theorem randomSourceFault (x0) : Statement (.randomSourceFault x0) := of_event rfl
theorem sumStatus (x0) : Statement (.sumStatus x0) := of_packet rfl rfl rfl
theorem sumConfig (x0) : Statement (.sumConfig x0) := of_packet rfl rfl rfl
theorem sumKeySet (x0) : Statement (.sumKeySet x0) := of_packet rfl rfl rfl
theorem sumWindowText (x0) : Statement (.sumWindowText x0) := of_packet rfl rfl rfl
theorem regionRecompose (x0) (x1) : Statement (.regionRecompose x0 x1) := of_event rfl
theorem waveformStart (x0) (x1) (x2) : Statement (.waveformStart x0 x1 x2) := of_event rfl
theorem waveformComplete (x0) : Statement (.waveformComplete x0) := of_event rfl
theorem biasRetry (x0) (x1) (x2) : Statement (.biasRetry x0 x1 x2) := of_event rfl
theorem registerWrite (x0) (x1) (x2) (x3) (x4) : Statement (.registerWrite x0 x1 x2 x3 x4) := of_event rfl
theorem memoryAccess (x0) (x1) : Statement (.memoryAccess x0 x1) := of_event rfl
theorem receiveError (x0) (x1) (x2) : Statement (.receiveError x0 x1 x2) := of_event rfl
theorem recessiveBitsDetected (x0) (x1) : Statement (.recessiveBitsDetected x0 x1) := of_event rfl
theorem pocOvercurrent (x0) (x1) : Statement (.pocOvercurrent x0 x1) := of_event rfl
theorem pocRetry (x0) (x1) : Statement (.pocRetry x0 x1) := of_event rfl
theorem epochSetTimeout (x0) : Statement (.epochSetTimeout x0) := of_event rfl
theorem halfCompletion (x0) (x1) : Statement (.halfCompletion x0 x1) := of_event rfl

end Sys2Proof.Laws.PacketShape
end

