-- ==== Sys2Proof/Tests/Slice0.lean ====
section
/-! SUPPORT. Tests: ill-formed commands are refused, every hypothesis of a statement is met by a state written out here, and a few
results that the spec works out are found again. -/
namespace Sys2Proof.Tests
open Sys2Proof Sys2Proof.Machine
set_option Elab.async false

/-! ## Well-formed commands -/

theorem test_illformed_packets :
    ([{ via := .mailbox 128 }, { via := .eth 1 0 0 }, { via := .eth 4 0 0 }, { via := .eth 2 0 65536 }, { via := .can 12 }, { via := .peer 8 },
      { via := .svc, tag := 128 }, { via := .svc, length := 65536 }] : List Packet).all
      (fun p => !p.wf && !(Instr.sysIdent p).wf && !(Instr.sumWindowText p).wf) = true := by decide +kernel

theorem test_illformed_payload (b : List Byte) (h : 65515 < b.length) : ({ payload := b } : Packet).wf = false := by
  simp [Packet.wf]; omega

/-- One command for each bound of an event's operand, at the first value beyond it. -/
theorem test_illformed_events_1 : ([
    .queueTimeout 0 256 default, .queueTimeout 0 default 128, .halfOpenExpiry 0 256,
    .impactDetected 0 16 default default default default, .impactDetected 0 default 500 default default default,
    .plateBlock 0 [] default, .loopCtrlSwap 0 128 default default, .loopCtrlSwap 0 default 128 default,
    .loopCtrlSwap 0 default default 4294967296, .trcArm 0 8 default, .trcArm 0 default 128, .trcSwtrig 0 8 default,
    .trcSwtrig 0 default 128, .loopSample 0 128, .outputRelease 0 128, .repPulse 0 64, .engineFault 0 9, .takeoverComplete 0 8,
    .valveInstant 0 48 default, .testPulseEnd 0 48 default, .shortTrip 0 48 default default, .retryWaitExpiry 0 48,
    .retryReset 0 48, .demagComplete 0 48 default, .demagTimeout 0 48, .offTimeEnd 0 48,
    .offStateCheck 0 48 default default default default, .groupStateEval 0 4 default, .coilThermalUpdate 0 48 default,
    .resistanceMeasurement 0 48 default default default, .sentFrame 0 48 default default, .valvePublish 0 48 default,
    .diOutChange 0 64 default, .diPeriodicPublish 0 64, .pulseFrequency 0 64, .wireBreakCheck 0 64 default default,
    .aiConversion 0 16 default, .aiShuntRetry 0 16, .doInstant 0 32 default, .doTestPulseEnd 0 32 default,
    .doTrip 0 32 default default, .doRetryExpiry 0 32, .doRetryReset 0 32, .doDemagComplete 0 32 default,
    .doOffStateCheck 0 32 default, .supplyEval 0 4 default default, .sensorSupplyRetry 0 4,
    .portStateEval 0 3 default default default, .correlatorSelfTest 0 3 default, .dwellComplete 0 384 default,
    .carrierLockLoss 0 384 default, .navUnit 0 384 default, .rtcmDatagram 0 65536 default default,
    .interferenceCheck 0 3 default default default default, .ppsOutEdge 0 2, .detectionBlock 0 8 default default,
    .linkStateEval 0 4 default] : List Instr).all (fun i => !i.wf) = true := by decide +kernel

theorem test_illformed_events_2 : ([
    .csi2Packet 0 4 default, .sensorWriteComplete 0 4 default, .fsyncEdge 0 8, .resyncRelease 0 4,
    .canTxreq 0 12 default default default, .canTxreq 0 default 128 default default, .canTxreq 0 default default 4 default,
    .canTxreq 0 default default default 4294967296, .canTxabort 0 12 default default default,
    .canTxabort 0 default 128 default default, .canTxabort 0 default default 4 default,
    .canTxabort 0 default default default 4294967296, .canFrameReceived 0 12 default, .arbitrationStart 0 12,
    .txAttemptEnd 0 12 default, .deadlineExpiry 0 12 default, .deadlineExpiry 0 default 128, .recoveryDelayExpiry 0 12,
    .recoveryComplete 0 12, .alonePace 0 12, .canSelfTest 0 12 default, .canWake 0 12 default, .ttTrigger 0 12 default,
    .ttReference 0 12 default, .addressClaimMessage 0 12 default, .dtlsHandshake 0 16, .mailboxSubmit 0 128 default default,
    .periodStart 0 128, .doneWrite 0 128 default default, .doneWrite 0 default 18446744073709551616 default, .commitComplete 0 128,
    .wcetExpiry 0 128, .restoreComplete 0 18, .spareCheck 0 18 default, .scrubRead 0 281474976710656 default default,
    .dmaStart 0 16 default, .dmaStart 0 default 128, .dmaAbort 0 16 default, .dmaAbort 0 default 128, .chDoorbell 0 16 default,
    .chDoorbell 0 default 128, .descriptorComplete 0 16, .cursorTimeout 0 8, .pendingResolve 0 65536, .wake 0 256, .strapRead 0 8,
    .regionRecompose 0 4, .registerWrite 0 128 default default default, .registerWrite 0 default 281474976710656 default default,
    .registerWrite 0 default default 9 default, .registerWrite 0 default default default 18446744073709551616,
    .receiveError 0 12 default, .recessiveBitsDetected 0 12, .pocOvercurrent 0 4, .pocRetry 0 4, .halfCompletion 0 16] : List Instr).all (fun i => !i.wf) = true := by decide +kernel

/-! ## Small states and packets -/

/-- A supervisory partition that runs on pair 0. -/
def part0 : Part := { cfg := some { supervisory := true }, st := .running, admitted := true, pair := some 0 }

/-- A manager in RUN at module time 0, with partition 0 as its host. -/
def base : State := { State.reset with
  id := { index := some 0, role := .manager, machine := 1, managerSeen := true, discovered := true }
  pwr := { st := .run, ready := true, modReady := true, stage := 9, ethUp := true }
  col := { parts := [(0, part0)] } }

/-- A packet of partition 0 with its trailer. -/
def pk (op : Op) (target : Nat) (b : List Byte) : Packet :=
  let p : Packet := { via := .mailbox 0, tag := 1, flags := 4, target := BitVec.ofNat 32 target, length := b.length, payload := b }
  { p with crc := BitVec.ofNat 32 (Crypto.crc32c (commandHeader (opCode op) p 0 ++ b)) }


/-- A payload of `n` bytes from (offset, width, value) triples, 0 elsewhere. -/
def bytes (n : Nat) (fs : List (Nat × Nat × Nat)) : List Byte :=
  (List.range n).map fun i => ((fs.find? fun x => x.1 ≤ i && i < x.1 + x.2.1).map fun x => BitVec.ofNat 8 (x.2.2 >>> (8 * (i - x.1)))).getD 0

/-- `base` with a session on `SVC`, its key of zeros. -/
def sessionState : State := { base with sys := { base.sys with sessions := [{ port := 0x88, sk := zeros 16, halfOpen := false }] } }

/-- A packet that arrives some other way. -/
def pkVia (v : Via) (op : Op) (target : Nat) (b : List Byte) : Packet :=
  let p : Packet := { via := v, tag := 1, flags := 4, target := BitVec.ofNat 32 target, length := b.length, payload := b, rxLength := 20 + b.length }
  { p with crc := BitVec.ofNat 32 (Crypto.crc32c (commandHeader (opCode op) p 0 ++ b)) }

/-- The first packet of the `SVC` session of `sessionState`; its session data and trailer were computed outside the model. -/
def pkS (target : Nat) (b : List Byte) (session crc : BitVec 32) : Packet :=
  { via := .svc, tag := 1, flags := 4, seq := 1, target := BitVec.ofNat 32 target, length := b.length, payload := b, rxLength := 20 + b.length,
    session := session, crc := crc }

/-- A state whose own local holds a usable value. -/
def usable (loc : Nat) (v : BitVec 64) (s : State) : State := { s with sig := { s.sig with own := aset s.sig.own loc { (default : Rec) with value := v, quality := .valid, confidence := 255 } } }

/-- A state whose release may be taken back. -/
def readyAgain : State := usable 94 0 (usable 95 0 (usable 192 1 (usable 449 0 (usable 454 0 (usable 461 0 (usable 457 0
  (modFus (fun x => { x with mode := .aided, origin := some (0, 0, 0), pose := some (0, default, (0, 0, 0)) })
  (modFun (fun f => { f with il := { f.il with bind := [0x100C0, 0, 0, 0, 0x100C0] } })
  (modGde (fun g => { g with st := .releasing, cfg := some default, sel := some { field := 5, line := 0, pass := 0, shift := 0 }, arc := some 1000000000
                             was := [{ st := 0 }, { st := 0 }], cal := [default]
                             lines := [{ field := 5, no := 0, line := { type := 3, verts := [(0, 0), (10000, 0), (10000, 10000), (0, 10000)] } }] })
  (modMap (fun m => { m with fields := [{ id := 5, cell := 0, origin := (0, 0, 0) }], open_ := 5 }) base))))))))))

/-- A state whose update may be committed. -/
def updReady : State := usable 544 0 (modUpd (fun x => { x with st := .staged, staged := 1 }) (modPwr (fun x => { x with st := .idle }) base))

/-- Whether a packet is taken in a state, and a condition holds of its request. -/
def meets (op : Op) (C : Req → State → Bool) (p : Packet) (s : State) : Bool := (taken op p s).any fun a => C a.1 a.2

/-- Whether a packet is admitted in a state and waits for a sample. -/
def waiting (op : Op) (p : Packet) (s : State) : Bool := (admitted op p s).any fun a => waitsSample a.1 a.2

/-- An instant between two samples of every function, of guidance and of the fleet link. -/
def between : State :=
  modFlt (fun f => { f with cfg := { f.cfg with enable := true } })
    (modFun (fun x => { x with fn := x.fn.map fun y => { y with cfg := some default } }) { base with time := 1 })

/-- The first steps of the law sample of this instant are over. -/
def seen (s : State) : State := modGde (fun g => { g with seenAt := some s.time }) s

/-- A module time on every grid of the spec. -/
def T : Nat := 1000000000000000

/-! ## Witnesses: the packets -/

/-- Witnesses for `SysCommandsComplete`. -/
theorem witness_sysCommandsComplete : [
    meets .sysIdent (fun r t => permitted (chkSysIdent r t))
      (pk .sysIdent (unit 1 0) (zeros 0))
      base,
    meets .sysStatus (fun r t => permitted (chkSysStatus r t))
      (pk .sysStatus (unit 1 0) (zeros 0))
      base,
    meets .sysSessionOpen (fun r t => permitted (chkSysSessionOpen r t) && (match r.p.via with | .eth e ip udp => (addrSession e ip udp t).isNone | _ => true))
      (pkVia .svc .sysSessionOpen (unit 1 0) (zeros 32))
      base,
    meets .sysSessionClose (fun r t => permitted (chkSysSessionClose r t) && (t.session r.port).isSome)
      (pkS (unit 1 0) (zeros 0) 0xBDBCDB19 0xBF6F1244)
      (sessionState),
    meets .sysSessionClose (fun r t => permitted (chkSysSessionClose r t) && (t.session r.port).isNone)
      (pk .sysSessionClose (unit 1 0) (zeros 0))
      base,
    meets .sysCreditSet (fun r t => permitted (chkSysCreditSet r t))
      (pk .sysCreditSet (unit 1 0) (bytes 4 [(0, 1, 5), (2, 1, 4)]))
      base].all id = true := by decide +kernel

/-- Witnesses for `SigCommandsComplete`. -/
theorem witness_sigCommandsComplete : [
    meets .sigRead (fun r t => permitted (chkSigRead r t) && ((partOfPort r.port).bind fun n => if (t.part n).inPeriod then aget (t.part n).snapshot (u32 r.p.payload 0) else none).isNone)
      (pk .sigRead (unit 2 0) (bytes 4 [(0, 4, 0x10090)]))
      base,
    meets .sigRead (fun r t => permitted (chkSigRead r t) && ((partOfPort r.port).bind fun n => if (t.part n).inPeriod then aget (t.part n).snapshot (u32 r.p.payload 0) else none).isSome)
      (pk .sigRead (unit 2 0) (bytes 4 [(0, 4, 0x10090)]))
      (base.setPart 0 { part0 with inPeriod := true, snapshot := [(0x10090, default)] }),
    meets .sigWrite (fun r t => permitted (writeChecks r producerOf t) && t.mayPublish && (t.force (hLocal (u32 r.p.payload 0))).isNone)
      (pk .sigWrite (unit 2 0) (bytes 32 [(0, 4, 0x10400)]))
      ({ base with sig := { base.sig with decls := [{ localNo := 1024, ty := 0, producer := 0 }] } }),
    meets .sigWrite (fun r t => permitted (writeChecks r producerOf t) && (t.force (hLocal (u32 r.p.payload 0))).isSome)
      (pk .sigWrite (unit 2 0) (bytes 32 [(0, 4, 0x10400)]))
      ({ base with sig := { base.sig with decls := [{ localNo := 1024, ty := 0, producer := 0 }], forces := [{ (default : Force) with localNo := 1024 }] } }),
    meets .sigRouteSet (fun r t => permitted (chkSigRouteSet r t))
      (pk .sigRouteSet (unit 2 0) (bytes 32 [(0, 4, 0x20400), (5, 1, 1), (8, 4, 0x3e8)]))
      base,
    meets .sigForce (fun r t => permitted (chkSigForce r t) && t.mayPublish && u8 r.p.payload 4 == 0)
      (pk .sigForce (unit 2 0) (bytes 16 [(0, 4, 0x10090), (6, 2, 0x3c)]))
      base,
    meets .sigForce (fun r t => permitted (chkSigForce r t) && u8 r.p.payload 4 == 1)
      (pk .sigForce (unit 2 0) (bytes 16 [(0, 4, 0x10090), (4, 1, 1), (6, 2, 0x3c)]))
      ({ base with sig := { base.sig with forces := [{ (default : Force) with localNo := 144 }] } })].all id = true := by decide +kernel

/-- Witnesses for `FunCommandsComplete`. -/
theorem witness_funCommandsComplete : [
    meets .funConfig (fun r t => permitted (chkFunConfig r t) && fromPeer r)
      (pkVia (.peer 1) .funConfig (unit 3 9) (bytes 244 [(2, 1, 1), (20, 4, 0x3f800000), (24, 4, 0x3f800000), (28, 4, 0x3f800000), (36, 4, 0x3dcccccd), (48, 4, 0x3f800000), (52, 4, 0x3dcccccd), (56, 4, 0x3f800000), (64, 4, 0x3dcccccd), (68, 2, 0x1388), (80, 1, 1), (84, 4, 0x10100)]))
      ({ base with id := { base.id with peers := [{ index := 1, serial := 0 }] } }),
    meets .funConfig (fun r t => permitted (chkFunConfig r t) && !fromPeer r)
      (pk .funConfig (unit 3 9) (bytes 244 [(2, 1, 1), (20, 4, 0x3f800000), (24, 4, 0x3f800000), (28, 4, 0x3f800000), (36, 4, 0x3dcccccd), (48, 4, 0x3f800000), (52, 4, 0x3dcccccd), (56, 4, 0x3f800000), (64, 4, 0x3dcccccd), (68, 2, 0x1388), (80, 1, 1), (84, 4, 0x10100)]))
      base,
    meets .funEnable (fun r t => permitted (chkFunEnable r t) && ((funBefore ((funTarget r).getD 0) t).fn ((funTarget r).getD 0)).st == .off && (funRefusal ((funTarget r).getD 0) (funBefore ((funTarget r).getD 0) t)).isNone)
      (pk .funEnable (unit 3 0) (zeros 0))
      (modFn 0 (fun x => { x with cfg := some { owner := 0 } }) base),
    meets .funEnable (fun r t => permitted (chkFunEnable r t) && ((funBefore ((funTarget r).getD 0) t).fn ((funTarget r).getD 0)).st == .stopping && (ilUnsat ((funTarget r).getD 0) (funBefore ((funTarget r).getD 0) t)).isEmpty)
      (pk .funEnable (unit 3 0) (zeros 0))
      (modFn 0 (fun x => { x with cfg := some { owner := 0 }, st := .stopping }) base),
    meets .funEnable (fun r t => permitted (chkFunEnable r t) && ((funBefore ((funTarget r).getD 0) t).fn ((funTarget r).getD 0)).st == .stopping && !(ilUnsat ((funTarget r).getD 0) (funBefore ((funTarget r).getD 0) t)).isEmpty)
      (pk .funEnable (unit 3 0) (zeros 0))
      (modFn 0 (fun x => { x with cfg := some { owner := 0, ilMask := 1 }, st := .stopping }) base),
    meets .funEnable (fun r t => permitted (chkFunEnable r t) && ((funBefore ((funTarget r).getD 0) t).fn ((funTarget r).getD 0)).st == .finishing)
      (pk .funEnable (unit 3 0) (zeros 0))
      (modFn 0 (fun x => { x with cfg := some { owner := 0 }, st := .finishing }) base),
    meets .funEnable (fun r t => permitted (chkFunEnable r t) && ((funBefore ((funTarget r).getD 0) t).fn ((funTarget r).getD 0)).st == .faulted)
      (pk .funEnable (unit 3 0) (zeros 0))
      (modFn 0 (fun x => { x with cfg := some { owner := 0 }, st := .faulted }) base),
    meets .funEnable (fun r t => permitted (chkFunEnable r t) && ((funBefore ((funTarget r).getD 0) t).fn ((funTarget r).getD 0)).st == .off && (funRefusal ((funTarget r).getD 0) (funBefore ((funTarget r).getD 0) t)).isSome)
      (pk .funEnable (unit 3 0) (zeros 0))
      (modFn 0 (fun x => { x with cfg := some { owner := 0, ilMask := 1 }, st := .off }) base),
    meets .funEnable (fun r t => permitted (chkFunEnable r t) && (((funBefore ((funTarget r).getD 0) t).fn ((funTarget r).getD 0)).st == .enabling || ((funBefore ((funTarget r).getD 0) t).fn ((funTarget r).getD 0)).st == .active || ((funBefore ((funTarget r).getD 0) t).fn ((funTarget r).getD 0)).st == .degraded))
      (pk .funEnable (unit 3 0) (zeros 0))
      (modFn 0 (fun x => { x with cfg := some { owner := 0 }, st := .active }) base),
    meets .funDisable (fun r t => permitted (chkFunDisable r t))
      (pk .funDisable (unit 3 0) (zeros 4))
      base,
    meets .funSourceSet (fun r t => permitted (chkFunSourceSet r t))
      (pk .funSourceSet (unit 3 0) (zeros 4))
      (modFn 0 (fun x => { x with cfg := some { owner := 0 } }) base),
    meets .funState (fun r t => permitted (chkFunState r t))
      (pk .funState (unit 3 0) (zeros 0))
      base,
    meets .funClear (fun r t => permitted (chkFunClear r t) && ((funBefore ((funTarget r).getD 0) t).fn ((funTarget r).getD 0)).st == .faulted && !(fnPoints ((funTarget r).getD 0) (funBefore ((funTarget r).getD 0) t)).any (pointLatched (funBefore ((funTarget r).getD 0) t)))
      (pk .funClear (unit 3 0) (zeros 0))
      (modFn 0 (fun x => { x with st := .faulted }) base),
    meets .funClear (fun r t => permitted (chkFunClear r t) && (((funBefore ((funTarget r).getD 0) t).fn ((funTarget r).getD 0)).st != .faulted || (fnPoints ((funTarget r).getD 0) (funBefore ((funTarget r).getD 0) t)).any (pointLatched (funBefore ((funTarget r).getD 0) t))))
      (pk .funClear (unit 3 0) (zeros 0))
      base,
    meets .funInterlockSet (fun r t => permitted (chkFunInterlockSet r t))
      (pk .funInterlockSet (unit 3 0x100) (zeros 32))
      base,
    meets .funAutoSet (fun r t => permitted (chkFunAutoSet r t))
      (pk .funAutoSet (unit 3 0x100) (bytes 20 [(4, 4, 0x42480000), (8, 4, 0x3f800000), (12, 4, 0x3f800000), (16, 4, 0x40400000)]))
      base,
    waiting .funConfig (pk .funConfig (unit 3 0) (zeros 244)) between,
    waiting .funEnable (pk .funEnable (unit 3 0) (zeros 0)) between,
    waiting .funDisable (pk .funDisable (unit 3 0) (zeros 4)) between,
    waiting .funSourceSet (pk .funSourceSet (unit 3 0) (zeros 4)) between,
    waiting .funClear (pk .funClear (unit 3 0) (zeros 0)) between].all id = true := by decide +kernel

/-- Witnesses for `CulCommandsComplete`. -/
theorem witness_culCommandsComplete : [
    meets .culConfig (fun r t => permitted (chkCulConfig r t) && t.cul.st != .unconfigured)
      (pk .culConfig (unit 4 0) (bytes 48 [(0, 2, 0xa), (2, 1, 1), (3, 1, 0x32), (4, 4, 0x100c0), (8, 4, 0x10000), (20, 4, 0x10090), (28, 4, 0x3f000000), (32, 4, 0x3c23d70a), (36, 4, 0x3f800000), (40, 2, 0x64)]))
      (modCul (fun c => { c with st := .stopped, configured := true, stages := c.stages.map fun g => { g with handle := 0x10000, coeff := 0x3F800000, length := 0x3F800000, vMin := 0x3F800000, vFallback := 0x3F800000 } }) base),
    meets .culConfig (fun r t => permitted (chkCulConfig r t) && t.cul.st == .unconfigured)
      (pk .culConfig (unit 4 0) (bytes 48 [(0, 2, 0xa), (2, 1, 1), (3, 1, 0x32), (4, 4, 0x100c0), (8, 4, 0x10000), (20, 4, 0x10090), (28, 4, 0x3f000000), (32, 4, 0x3c23d70a), (36, 4, 0x3f800000), (40, 2, 0x64)]))
      (modCul (fun c => { c with st := .unconfigured, configured := true, stages := c.stages.map fun g => { g with handle := 0x10000, coeff := 0x3F800000, length := 0x3F800000, vMin := 0x3F800000, vFallback := 0x3F800000 } }) base),
    meets .culStageSet (fun r t => permitted (chkCulStageSet r t))
      (pk .culStageSet (unit 4 0x11) (bytes 68 [(0, 4, 0x10000), (4, 4, 0x3f800000), (8, 4, 0x3f800000), (12, 4, 0x3f800000), (16, 4, 0x3f800000)]))
      (modCul (fun c => { c with st := .stopped, configured := true, stages := c.stages.map fun g => { g with handle := 0x10000, coeff := 0x3F800000, length := 0x3F800000, vMin := 0x3F800000, vFallback := 0x3F800000 } }) base),
    meets .culSensorSet (fun r t => permitted (chkCulSensorSet r t))
      (pk .culSensorSet (unit 4 0x100) (zeros 16))
      base,
    meets .culStart (fun r t => permitted (chkCulStart r t))
      (pk .culStart (unit 4 0) (zeros 0))
      (modCul (fun c => { c with st := .stopped, configured := true, stages := c.stages.map fun g => { g with handle := 0x10000, coeff := 0x3F800000, length := 0x3F800000, vMin := 0x3F800000, vFallback := 0x3F800000 } }) base),
    meets .culStop (fun r t => permitted (chkCulStop r t) && u8 r.p.payload 0 == 1)
      (pk .culStop (unit 4 0) (bytes 4 [(0, 1, 1)]))
      (modCul (fun c => { c with st := .stopped, configured := true, stages := c.stages.map fun g => { g with handle := 0x10000, coeff := 0x3F800000, length := 0x3F800000, vMin := 0x3F800000, vFallback := 0x3F800000 } }) base),
    meets .culStop (fun r t => permitted (chkCulStop r t) && u8 r.p.payload 0 == 0 && t.cul.st == .running && (openParcels (culEnter .draining t)).isEmpty)
      (pk .culStop (unit 4 0) (zeros 4))
      (modCul (fun c => { c with st := .running }) base),
    meets .culStop (fun r t => permitted (chkCulStop r t) && u8 r.p.payload 0 == 0 && t.cul.st == .running && !(openParcels (culEnter .draining t)).isEmpty)
      (pk .culStop (unit 4 0) (zeros 4))
      (modCul (fun c => { c with st := .running, ledger := [{ st := 1 }] }) base),
    meets .culStop (fun r t => permitted (chkCulStop r t) && u8 r.p.payload 0 == 0 && t.cul.st != .running)
      (pk .culStop (unit 4 0) (zeros 4))
      base,
    meets .culStatus (fun r t => permitted (chkCulStatus r t))
      (pk .culStatus (unit 4 0) (zeros 0))
      base,
    meets .culLedgerRead (fun r t => permitted (chkCulLedgerRead r t))
      (pk .culLedgerRead (unit 4 0) (bytes 8 [(4, 1, 1)]))
      (modCul (fun c => { c with ledger := [{}] }) base),
    meets .culCalRun (fun r t => permitted (chkCulCalRun r t))
      (pk .culCalRun (unit 4 0x11) (bytes 4 [(1, 1, 0xa)]))
      (modCul (fun c => { c with st := .running, sensors := [{ kind := 1, stage := 3 }] }) base)].all id = true := by decide +kernel

/-- Witnesses for `SenCommandsComplete`. -/
theorem witness_senCommandsComplete : [
    meets .senChannelSet (fun r t => permitted (chkSenChannelSet r t))
      (pk .senChannelSet (unit 5 0) (bytes 20 [(2, 2, 0x64), (4, 2, 0x1388), (6, 2, 0x400), (8, 2, 0x40), (10, 1, 0x20), (11, 1, 0x14), (12, 2, 0xa), (16, 4, 0x3f800000)]))
      base,
    meets .senClassWrite (fun r t => permitted (chkSenClassWrite r t))
      (pk .senClassWrite (unit 5 0) (zeros 68))
      base,
    meets .senTrain (fun r t => permitted (chkSenTrain r t) && u8 r.p.payload 0 == 0)
      (pk .senTrain (unit 5 0) (bytes 8 [(2, 2, 0x18), (4, 2, 1)]))
      (modSenCh 0 (fun c => { c with cfg := { c.cfg with group := 1 } }) base),
    meets .senTrain (fun r t => permitted (chkSenTrain r t) && u8 r.p.payload 0 == 1)
      (pk .senTrain (unit 5 0) (bytes 8 [(0, 1, 1), (2, 2, 0x18), (4, 2, 1)]))
      (modSenCh 0 (fun c => { c with cfg := { c.cfg with group := 1 } }) base),
    meets .senTrain (fun r t => permitted (chkSenTrain r t) && u8 r.p.payload 0 == 3)
      (pk .senTrain (unit 5 0) (bytes 8 [(0, 1, 3), (2, 2, 0x18), (4, 2, 1)]))
      base,
    meets .senTrain (fun r t => permitted (chkSenTrain r t) && u8 r.p.payload 0 == 2 && windowShort (t.senCh ((senChTarget r).getD 0)).cfgToCome.window (medianRing (t.senCh ((senChTarget r).getD 0)).rings))
      (pk .senTrain (unit 5 0) (bytes 8 [(0, 1, 2), (2, 2, 0x18), (4, 2, 1)]))
      (modSenCh 0 (fun c => { c with cfg := { c.cfg with group := 1 }, training := some 1, hk := [(0, 2000)], hn := [(1, 2000)], rings := [60000] }) base),
    meets .senTrain (fun r t => permitted (chkSenTrain r t) && u8 r.p.payload 0 == 2 && !windowShort (t.senCh ((senChTarget r).getD 0)).cfgToCome.window (medianRing (t.senCh ((senChTarget r).getD 0)).rings))
      (pk .senTrain (unit 5 0) (bytes 8 [(0, 1, 2), (2, 2, 0x18), (4, 2, 1)]))
      (modSenCh 0 (fun c => { c with cfg := { c.cfg with group := 1 }, training := some 1, hk := [(0, 2000)], hn := [(1, 2000)] }) base),
    meets .senChannelRead (fun r t => permitted (chkSenChannelRead r t))
      (pk .senChannelRead (unit 5 0) (zeros 0))
      base,
    meets .senCropSet (fun r t => permitted (chkSenCropSet r t))
      (pk .senCropSet (unit 5 0x100) (bytes 52 [(0, 1, 0x61), (16, 4, 0x41200000), (20, 4, 0x42480000), (24, 4, 0x41200000), (44, 4, 0x40a00000), (48, 4, 0x41a00000)]))
      base,
    meets .senYieldConfig (fun r t => permitted (chkSenYieldConfig r t))
      (pk .senYieldConfig (unit 5 0x200) (bytes 64 [(2, 2, 0x64), (4, 4, 0x3f800000), (32, 4, 0x3f800000), (36, 4, 0x42c80000), (40, 4, 0x3f800000), (44, 4, 0x3dcccccd), (48, 2, 5), (50, 2, 0xa), (52, 4, 0x3f800000), (56, 4, 0x3f800000), (60, 4, 0x10000)]))
      (modSen (fun x => { x with isYield := true }) base),
    meets .senCalLoad (fun r t => permitted (chkSenCalLoad r t) && u8 r.p.payload 0 == 2)
      (pk .senCalLoad (unit 5 0x200) (bytes 8 [(0, 1, 2), (4, 4, 0x447a0000)]))
      (modSen (fun x => { x with isYield := true, loads := [some default] }) base),
    meets .senCalLoad (fun r t => permitted (chkSenCalLoad r t) && u8 r.p.payload 0 == 0)
      (pk .senCalLoad (unit 5 0x200) (zeros 8))
      (modSen (fun x => { x with isYield := true, running := none }) base),
    meets .senCalLoad (fun r t => permitted (chkSenCalLoad r t) && u8 r.p.payload 0 == 1)
      (pk .senCalLoad (unit 5 0x200) (bytes 8 [(0, 1, 1)]))
      (modSen (fun x => { x with isYield := true, running := some 0 }) base),
    meets .senCalLoad (fun r t => permitted (chkSenCalLoad r t) && u8 r.p.payload 0 == 3 && (calApply t).isSome)
      (pk .senCalLoad (unit 5 0x200) (bytes 8 [(0, 1, 3)]))
      ({ (modSen (fun x => { x with isYield := true, loads := [some { start := 0, end_ := some 60000000000, measured := 4000, weighed := some 0x457A0000 }] }) base) with time := 70000000000 }),
    meets .senCalLoad (fun r t => permitted (chkSenCalLoad r t) && u8 r.p.payload 0 == 3 && (calApply t).isNone)
      (pk .senCalLoad (unit 5 0x200) (bytes 8 [(0, 1, 3)]))
      ({ (modSen (fun x => { x with isYield := true, loads := [some { start := 0, end_ := some 60000000000, measured := 2100, weighed := some 0x457A0000 }] }) base) with time := 70000000000 }),
    meets .senCalLoad (fun r t => permitted (chkSenCalLoad r t) && u8 r.p.payload 0 == 4)
      (pk .senCalLoad (unit 5 0x200) (bytes 8 [(0, 1, 4)]))
      (modSen (fun x => { x with isYield := true, running := none }) base),
    meets .senStatus (fun r t => permitted (chkSenStatus r t))
      (pk .senStatus (unit 5 0x200) (zeros 0))
      (modSen (fun x => { x with isYield := true }) base)].all id = true := by decide +kernel

/-- Witnesses for `MapCommandsComplete`. -/
theorem witness_mapCommandsComplete : [
    meets .mapFieldOpen (fun r t => permitted (chkMapFieldOpen r t) && u8 r.p.payload 4 == 0 && decide (t.map.fields.length < 64))
      (pk .mapFieldOpen (unit 6 0) (bytes 32 [(0, 4, 5)]))
      base,
    meets .mapFieldOpen (fun r t => permitted (chkMapFieldOpen r t) && u8 r.p.payload 4 == 0 && decide (64 ≤ t.map.fields.length))
      (pk .mapFieldOpen (unit 6 0) (bytes 32 [(0, 4, 5)]))
      (modMap (fun m => { m with fields := List.replicate 64 { id := 9, cell := 0, origin := (0, 0, 0) } }) base),
    meets .mapFieldOpen (fun r t => permitted (chkMapFieldOpen r t) && u8 r.p.payload 4 == 1 && (t.field (u32 r.p.payload 0)).isSome)
      (pk .mapFieldOpen (unit 6 0) (bytes 32 [(0, 4, 5), (4, 1, 1)]))
      (modMap (fun m => { m with fields := [{ id := 5, cell := 0, origin := (0, 0, 0) }] }) base),
    meets .mapFieldClose (fun r t => permitted (chkMapFieldClose r t) && (applyRemote (writeParcels t)).map.queue.isEmpty)
      (pk .mapFieldClose (unit 6 0) (zeros 0))
      (modMap (fun m => { m with fields := [{ id := 5, cell := 0, origin := (0, 0, 0) }], open_ := 5 }) base),
    meets .mapFieldClose (fun r t => permitted (chkMapFieldClose r t) && !(applyRemote (writeParcels t)).map.queue.isEmpty)
      (pk .mapFieldClose (unit 6 0) (zeros 0))
      (modMap (fun m => { m with queue := [({ sections := 1, poseDue := false, blocks := [{ active := true }] }, (1, 0))] }) (modMap (fun m => { m with fields := [{ id := 5, cell := 0, origin := (0, 0, 0), tiles := [{ te := 0, tn := 0, new := (0, []) }] }], open_ := 5 }) base)),
    meets .mapConfig (fun r t => permitted (chkMapConfig r t))
      (pk .mapConfig (unit 6 0) (bytes 36 [(0, 4, 0x3f800000), (4, 4, 0x3f800000), (8, 4, 0x3f800000), (12, 4, 0x3f800000), (16, 4, 0x3f800000), (20, 4, 0x3f800000), (24, 4, 0x3f800000), (28, 4, 0x3f800000), (32, 2, 0xa)]))
      base,
    meets .mapTileRead (fun r t => permitted (chkMapTileRead r t) && ((t.tile (i16 r.p.payload 4) (i16 r.p.payload 6)).isNone || (u32 r.p.payload 0 != 0 && u32 r.p.payload 0 != t.map.open_)))
      (pk .mapTileRead (unit 6 0) (bytes 12 [(10, 1, 1)]))
      (modMap (fun m => { m with fields := [{ id := 5, cell := 0, origin := (0, 0, 0) }], open_ := 5 }) base),
    meets .mapTileRead (fun r t => permitted (chkMapTileRead r t) && ((u32 r.p.payload 0 == 0 || u32 r.p.payload 0 == t.map.open_) && (t.tile (i16 r.p.payload 4) (i16 r.p.payload 6)).isSome))
      (pk .mapTileRead (unit 6 0) (bytes 12 [(10, 1, 1)]))
      (modMap (fun m => { m with cache := [{ te := 0, tn := 0 }] }) (modMap (fun m => { m with fields := [{ id := 5, cell := 0, origin := (0, 0, 0) }], open_ := 5 }) base)),
    meets .mapStatus (fun r t => permitted (chkMapStatus r t))
      (pk .mapStatus (unit 6 0) (zeros 0))
      base,
    meets .mapExport (fun r t => permitted (chkMapExport r t) && u32 r.p.payload 0 != t.map.open_ && (t.field (u32 r.p.payload 0)).isSome)
      (pk .mapExport (unit 6 0) (bytes 8 [(0, 4, 5)]))
      (modMap (fun m => { m with fields := [{ id := 5, cell := 0, origin := (0, 0, 0) }] }) base),
    meets .mapExport (fun r t => permitted (chkMapExport r t) && u32 r.p.payload 0 == t.map.open_ && ((flushAll t).field (u32 r.p.payload 0)).isSome)
      (pk .mapExport (unit 6 0) (bytes 8 [(0, 4, 5)]))
      (modMap (fun m => { m with fields := [{ id := 5, cell := 0, origin := (0, 0, 0) }], open_ := 5 }) base),
    meets .mapExportRead (fun r t => permitted (chkMapExportRead r t))
      (pk .mapExportRead (unit 6 0) (bytes 12 [(8, 2, 1)]))
      (modMap (fun m => { m with export_ := some [7] }) base)].all id = true := by decide +kernel

/-- Witnesses for `GdeCommandsComplete`. -/
theorem witness_gdeCommandsComplete_1 : [
    meets .gdeConfig (fun r t => permitted (chkGdeConfig r t) && !gdeSteering (gdeBefore t) && (gdeBefore t).gde.st != .finishing && !(((gdeBefore t).findLoop 2 0).isNone && (freeLoop (gdeBefore t)).isNone))
      (pk .gdeConfig (unit 7 0) (bytes 140 [(4, 4, 0x40400000), (8, 4, 0x41f00000), (12, 4, 0x41f00000), (16, 4, 0x3f800000), (20, 4, 0x40000000), (24, 4, 0x41200000), (28, 4, 0x3c23d70a), (32, 4, 0x3c23d70a), (36, 4, 0x3f800000), (40, 4, 0x41f00000), (44, 4, 0x40000000), (48, 4, 0x41200000), (52, 4, 0x3dcccccd), (56, 4, 0x3e4ccccd), (60, 1, 2), (61, 1, 1), (68, 4, 0x3f800000), (72, 2, 0x64), (74, 2, 5), (76, 4, 0x40a00000), (80, 4, 0x42480000), (84, 4, 0x40a00000), (88, 2, 0x64), (90, 2, 0x64), (96, 4, 0x3dcccccd), (108, 4, 0x10000), (112, 4, 0x10000), (128, 4, 0x10100), (132, 4, 0x10101)]))
      (seen base),
    meets .gdeConfig (fun r t => permitted (chkGdeConfig r t) && !gdeSteering (gdeBefore t) && (gdeBefore t).gde.st != .finishing && ((gdeBefore t).findLoop 2 0).isNone && (freeLoop (gdeBefore t)).isNone)
      (pk .gdeConfig (unit 7 0) (bytes 140 [(4, 4, 0x40400000), (8, 4, 0x41f00000), (12, 4, 0x41f00000), (16, 4, 0x3f800000), (20, 4, 0x40000000), (24, 4, 0x41200000), (28, 4, 0x3c23d70a), (32, 4, 0x3c23d70a), (36, 4, 0x3f800000), (40, 4, 0x41f00000), (44, 4, 0x40000000), (48, 4, 0x41200000), (52, 4, 0x3dcccccd), (56, 4, 0x3e4ccccd), (60, 1, 2), (61, 1, 1), (68, 4, 0x3f800000), (72, 2, 0x64), (74, 2, 5), (76, 4, 0x40a00000), (80, 4, 0x42480000), (84, 4, 0x40a00000), (88, 2, 0x64), (90, 2, 0x64), (96, 4, 0x3dcccccd), (108, 4, 0x10000), (112, 4, 0x10000), (128, 4, 0x10100), (132, 4, 0x10101)]))
      (seen ({ base with lpe := { base.lpe with loops := base.lpe.loops.map fun l => { l with st := .idle } } })),
    meets .gdeConfig (fun r t => permitted (chkGdeConfig r t) && (gdeSteering (gdeBefore t) || (gdeBefore t).gde.st == .finishing))
      (pk .gdeConfig (unit 7 0) (bytes 140 [(4, 4, 0x40400000), (8, 4, 0x41f00000), (12, 4, 0x41f00000), (16, 4, 0x3f800000), (20, 4, 0x40000000), (24, 4, 0x41200000), (28, 4, 0x3c23d70a), (32, 4, 0x3c23d70a), (36, 4, 0x3f800000), (40, 4, 0x41f00000), (44, 4, 0x40000000), (48, 4, 0x41200000), (52, 4, 0x3dcccccd), (56, 4, 0x3e4ccccd), (60, 1, 2), (61, 1, 1), (68, 4, 0x3f800000), (72, 2, 0x64), (74, 2, 5), (76, 4, 0x40a00000), (80, 4, 0x42480000), (84, 4, 0x40a00000), (88, 2, 0x64), (90, 2, 0x64), (96, 4, 0x3dcccccd), (108, 4, 0x10000), (112, 4, 0x10000), (128, 4, 0x10100), (132, 4, 0x10101)]))
      (seen (modGde (fun g => { g with st := .engaged }) base)),
    meets .gdeLineWrite (fun r t => permitted (chkGdeLineWrite r t) && u8 r.p.payload 0 == 0)
      (pk .gdeLineWrite (unit 7 0x100) (bytes 32 [(4, 4, 2), (8, 4, 0x40c00000), (16, 1, 0x61)]))
      (seen (modMap (fun m => { m with fields := [{ id := 5, cell := 0, origin := (0, 0, 0) }], open_ := 5 }) base)),
    meets .gdeLineWrite (fun r t => permitted (chkGdeLineWrite r t) && u8 r.p.payload 0 == 1 && (t.gde.drafts.find? fun y => y.field == t.map.open_ && y.no == ((lineTarget r).getD 0)).isSome)
      (pk .gdeLineWrite (unit 7 0x100) (bytes 40 [(0, 1, 1), (2, 2, 1)]))
      (seen (modGde (fun g => { g with drafts := [{ field := 5, no := 0, line := { verts := [(0, 0), (1000, 0)], total := 3 } }] }) (modMap (fun m => { m with fields := [{ id := 5, cell := 0, origin := (0, 0, 0) }], open_ := 5 }) base))),
    meets .gdeLineWrite (fun r t => permitted (chkGdeLineWrite r t) && u8 r.p.payload 0 == 2 && (t.gde.drafts.find? fun y => y.field == t.map.open_ && y.no == ((lineTarget r).getD 0)).isSome)
      (pk .gdeLineWrite (unit 7 0x100) (bytes 32 [(0, 1, 2)]))
      (seen (modGde (fun g => { g with drafts := [{ field := 5, no := 0, line := { verts := [(0, 0), (100000, 0)], total := 2 } }] }) (modMap (fun m => { m with fields := [{ id := 5, cell := 0, origin := (0, 0, 0) }], open_ := 5 }) base))),
    meets .gdeLineWrite (fun r t => permitted (chkGdeLineWrite r t) && u8 r.p.payload 0 == 3)
      (pk .gdeLineWrite (unit 7 0x100) (bytes 32 [(0, 1, 3)]))
      (seen (modMap (fun m => { m with fields := [{ id := 5, cell := 0, origin := (0, 0, 0) }], open_ := 5 }) base)),
    meets .gdeLineSelect (fun r t => permitted (chkGdeLineSelect r t) && u8 r.p.payload 1 == 1 && !gdeSteering (gdeBefore t) && -4096 ≤ i16 r.p.payload 2 && i16 r.p.payload 2 ≤ 4095
          && (gdeLine (u8 r.p.payload 0) (gdeBefore t)).any fun l => (passOf l (i16 r.p.payload 2) (bits32 r.p.payload 4)).isSome)
      (pk .gdeLineSelect (unit 7 0) (bytes 8 [(1, 1, 1)]))
      (seen (modGde (fun g => { g with lines := [{ field := 5, no := 0, line := { type := 2, spacing := 0x40C00000, radius := 0x42480000, verts := [(0, 0)] } }] }) (modMap (fun m => { m with fields := [{ id := 5, cell := 0, origin := (0, 0, 0) }], open_ := 5 }) base))),
    meets .gdeLineSelect (fun r t => permitted (chkGdeLineSelect r t) && (gdeLine (u8 r.p.payload 0) (gdeBefore t)).isNone)
      (pk .gdeLineSelect (unit 7 0) (zeros 8))
      (seen base),
    meets .gdeLineSelect (fun r t => permitted (chkGdeLineSelect r t) && (gdeLine (u8 r.p.payload 0) (gdeBefore t)).isSome && gdeSteering (gdeBefore t) && ((gdeSel (gdeBefore t)).map (·.line)) != some (u8 r.p.payload 0))
      (pk .gdeLineSelect (unit 7 0) (zeros 8))
      (seen (modGde (fun g => { g with st := .engaged, lines := [{ field := 5, no := 0, line := { type := 2, spacing := 0x40C00000, radius := 0x42480000, verts := [(0, 0)] } }] }) (modMap (fun m => { m with fields := [{ id := 5, cell := 0, origin := (0, 0, 0) }], open_ := 5 }) base))),
    meets .gdeLineSelect (fun r t => permitted (chkGdeLineSelect r t) && (gdeLine (u8 r.p.payload 0) (gdeBefore t)).isSome && !gdeSteering (gdeBefore t) && u8 r.p.payload 1 == 0 && ((gdeLine (u8 r.p.payload 0) (gdeBefore t)).bind fun l => nearestPass l (bits32 r.p.payload 4) (gdeBefore t)).isNone)
      (pk .gdeLineSelect (unit 7 0) (zeros 8))
      (seen (modGde (fun g => { g with lines := [{ field := 5, no := 0, line := { type := 2, spacing := 0x40C00000, radius := 0x42480000, verts := [(0, 0)] } }] }) (modMap (fun m => { m with fields := [{ id := 5, cell := 0, origin := (0, 0, 0) }], open_ := 5 }) base))),
    meets .gdeEngage (fun r t => permitted (chkGdeEngage r t) && (gdeBefore t).gde.st == .ready)
      (pk .gdeEngage (unit 7 0) (zeros 0))
      (seen (modGde (fun g => { g with st := .ready, cfg := some default }) base)),
    meets .gdeEngage (fun r t => permitted (chkGdeEngage r t) && ((gdeBefore t).gde.st == .off || (gdeBefore t).gde.st == .standby))
      (pk .gdeEngage (unit 7 0) (zeros 0))
      (seen (modGde (fun g => { g with st := .off, cfg := some default }) base)),
    meets .gdeEngage (fun r t => permitted (chkGdeEngage r t) && ((gdeBefore t).gde.st == .engaged || (gdeBefore t).gde.st == .coasting))
      (pk .gdeEngage (unit 7 0) (zeros 0))
      (seen (modGde (fun g => { g with st := .engaged, cfg := some default }) base)),
    meets .gdeEngage (fun r t => permitted (chkGdeEngage r t) && (gdeBefore t).gde.st == .releasing && gdeBlockers (gdeBefore t) != 0x400)
      (pk .gdeEngage (unit 7 0) (zeros 0))
      (seen (modGde (fun g => { g with st := .releasing, cfg := some default }) base)),
    meets .gdeEngage (fun r t => permitted (chkGdeEngage r t) && (gdeBefore t).gde.st == .finishing)
      (pk .gdeEngage (unit 7 0) (zeros 0))
      (seen (modGde (fun g => { g with st := .finishing, cfg := some default }) base)),
    meets .gdeEngage (fun r t => permitted (chkGdeEngage r t) && (gdeBefore t).gde.st == .faulted)
      (pk .gdeEngage (unit 7 0) (zeros 0))
      (seen (modGde (fun g => { g with st := .faulted, cfg := some default }) base)),
    meets .gdeEngage (fun r t => permitted (chkGdeEngage r t) && (gdeBefore t).gde.st == .releasing && gdeBlockers (gdeBefore t) == 0x400)
      (pk .gdeEngage (unit 7 0) (zeros 0))
      (seen (readyAgain)),
    meets .gdeDisengage (fun r t => permitted (chkGdeDisengage r t))
      (pk .gdeDisengage (unit 7 0) (zeros 4))
      (seen base),
    meets .gdeStatus (fun r t => permitted (chkGdeStatus r t))
      (pk .gdeStatus (unit 7 0) (zeros 0))
      (seen base),
    meets .gdeWasCal (fun r t => permitted (chkGdeWasCal r t) && u8 r.p.payload 0 < 3 && !gdeSteering (gdeBefore t) && (gdeBefore t).gde.st != .finishing
          && !decide (1 / 10 < kmh (absR (gdeSpeed (gdeBefore t)))) && (gdeBefore t).gde.recording.isNone)
      (pk .gdeWasCal (unit 7 0) (zeros 8))
      (seen base),
    meets .gdeWasCal (fun r t => permitted (chkGdeWasCal r t) && u8 r.p.payload 0 == 4 && !gdeSteering (gdeBefore t) && (gdeBefore t).gde.st != .finishing && !decide (1 / 10 < kmh (absR (gdeSpeed (gdeBefore t)))))
      (pk .gdeWasCal (unit 7 0) (bytes 8 [(0, 1, 4)]))
      (seen (modGde (fun g => { g with st := .off, cfg := some default }) base)),
    meets .gdeWasCal (fun r t => permitted (chkGdeWasCal r t) && (gdeSteering (gdeBefore t) || (gdeBefore t).gde.st == .finishing || decide (1 / 10 < kmh (absR (gdeSpeed (gdeBefore t)))) || (u8 r.p.payload 0 < 3 && (gdeBefore t).gde.recording.isSome) || (u8 r.p.payload 0 == 3 && ((gdeBefore t).gde.points.filterMap id).length < 3)))
      (pk .gdeWasCal (unit 7 0) (zeros 8))
      (seen (modGde (fun g => { g with st := .engaged, cfg := some default }) base)),
    meets .gdeWasCal (fun r t => permitted (chkGdeWasCal r t) && u8 r.p.payload 0 == 3 && !gdeSteering (gdeBefore t) && (gdeBefore t).gde.st != .finishing && !decide (1 / 10 < kmh (absR (gdeSpeed (gdeBefore t)))) && decide (3 ≤ ((gdeBefore t).gde.points.filterMap id).length) && monotone (((gdeBefore t).gde.points.filterMap id).map (·.rawA)) && monotone (((gdeBefore t).gde.points.filterMap id).map (·.rawB)) && decide (20 ≤ (((gdeBefore t).gde.points.filterMap id).map fun p => f32d p.angle).foldl maxR (-60) - (((gdeBefore t).gde.points.filterMap id).map fun p => f32d p.angle).foldl minR 60))
      (pk .gdeWasCal (unit 7 0) (bytes 8 [(0, 1, 3)]))
      (seen (modGde (fun g => { g with st := .off, cfg := some default, points := [some { angle := 0xC1F00000, rawA := 1, rawB := 1 }, some { angle := 0, rawA := 2, rawB := 2 }, some { angle := 0x41F00000, rawA := 3, rawB := 3 }] }) base)),
    meets .gdeWasCal (fun r t => permitted (chkGdeWasCal r t) && u8 r.p.payload 0 == 3 && !gdeSteering (gdeBefore t) && (gdeBefore t).gde.st != .finishing && !decide (1 / 10 < kmh (absR (gdeSpeed (gdeBefore t)))) && decide (3 ≤ ((gdeBefore t).gde.points.filterMap id).length) && !(monotone (((gdeBefore t).gde.points.filterMap id).map (·.rawA)) && monotone (((gdeBefore t).gde.points.filterMap id).map (·.rawB)) && decide (20 ≤ (((gdeBefore t).gde.points.filterMap id).map fun p => f32d p.angle).foldl maxR (-60) - (((gdeBefore t).gde.points.filterMap id).map fun p => f32d p.angle).foldl minR 60)))
      (pk .gdeWasCal (unit 7 0) (bytes 8 [(0, 1, 3)]))
      (seen (modGde (fun g => { g with st := .off, cfg := some default, points := [some { angle := 0xC1F00000, rawA := 1, rawB := 1 }, some { angle := 0, rawA := 2, rawB := 2 }, some { angle := 0x41F00000, rawA := 0, rawB := 3 }] }) base)),
    waiting .gdeConfig (pk .gdeConfig (unit 7 0) (zeros 140)) between,
    waiting .gdeLineWrite (pk .gdeLineWrite (unit 7 0) (zeros 32)) between,
    waiting .gdeLineSelect (pk .gdeLineSelect (unit 7 0) (zeros 8)) between,
    waiting .gdeEngage (pk .gdeEngage (unit 7 0) (zeros 0)) between,
    waiting .gdeDisengage (pk .gdeDisengage (unit 7 0) (zeros 4)) between].all id = true := by decide +kernel

/-- Witnesses for `GdeCommandsComplete`. -/
theorem witness_gdeCommandsComplete_2 : [
    waiting .gdeWasCal (pk .gdeWasCal (unit 7 0) (zeros 8)) between].all id = true := by decide +kernel

/-- Witnesses for `LpeCommandsComplete`. -/
theorem witness_lpeCommandsComplete : [
    meets .lpeLoopConfig (fun r t => permitted (chkLpeLoopConfig (fun loc part s => producerOf loc s == some part) r t))
      (pk .lpeLoopConfig (unit 8 0) (bytes 48 [(12, 4, 0x10060)]))
      (modValve 0 (fun v => { v with cfg := { v.cfg with owner := 0 } }) base),
    meets .lpeLoopRun (fun r t => permitted (chkLpeLoopRun loopDest r t) && u8 r.p.payload 0 == 0)
      (pk .lpeLoopRun (unit 8 0) (zeros 4))
      (modLoop 0 (fun l => { l with st := .idle, cfg := { l.cfg with kind := 4 } }) base),
    meets .lpeLoopRun (fun r t => permitted (chkLpeLoopRun loopDest r t) && u8 r.p.payload 0 == 1)
      (pk .lpeLoopRun (unit 8 0) (bytes 4 [(0, 1, 1)]))
      (modLoop 0 (fun l => { l with st := .idle, cfg := { l.cfg with kind := 4 } }) base),
    meets .lpeBankWrite (fun r t => permitted (chkLpeBankWrite r t))
      (pk .lpeBankWrite (unit 8 0) (bytes 12 [(0, 1, 1), (4, 2, 4)]))
      (modLoop 0 (fun l => { l with st := .idle, cfg := { l.cfg with kind := 4 } }) base),
    meets .lpeBankSwap (fun r t => permitted (chkLpeBankSwap r t) && (t.loop (loopTarget r)).st == .idle)
      (pk .lpeBankSwap (unit 8 0) (zeros 4))
      (modLoop 0 (fun l => { l with st := .idle, cfg := { l.cfg with kind := 4 } }) base),
    meets .lpeBankSwap (fun r t => permitted (chkLpeBankSwap r t) && (t.loop (loopTarget r)).st != .idle && (u8 r.p.payload 0 == (t.loop (loopTarget r)).selected && (t.loop (loopTarget r)).pendingSwap.isNone))
      (pk .lpeBankSwap (unit 8 0) (zeros 4))
      (modLoop 0 (fun l => { l with st := .run, cfg := { l.cfg with kind := 4 } }) base),
    meets .lpeBankSwap (fun r t => permitted (chkLpeBankSwap r t) && (t.loop (loopTarget r)).st != .idle && !(u8 r.p.payload 0 == (t.loop (loopTarget r)).selected && (t.loop (loopTarget r)).pendingSwap.isNone))
      (pk .lpeBankSwap (unit 8 0) (bytes 4 [(0, 1, 1)]))
      (modLoop 0 (fun l => { l with st := .run, cfg := { l.cfg with kind := 4 } }) base),
    meets .lpeLoopStatus (fun r t => permitted (chkLpeLoopStatus r t) && (t.loop (loopTarget r)).st != .free)
      (pk .lpeLoopStatus (unit 8 0) (zeros 0))
      (modLoop 0 (fun l => { l with st := .idle, cfg := { l.cfg with kind := 4 } }) base),
    meets .lpeLoopStatus (fun r t => permitted (chkLpeLoopStatus r t) && (t.loop (loopTarget r)).st == .free)
      (pk .lpeLoopStatus (unit 8 0) (zeros 0))
      base,
    meets .lpeTraceSet (fun r t => permitted (chkLpeTraceSet r t) && u8 r.p.payload 0 == 1)
      (pk .lpeTraceSet (unit 8 0x100) (bytes 40 [(0, 1, 1)]))
      base,
    meets .lpeTraceSet (fun r t => permitted (chkLpeTraceSet r t) && u8 r.p.payload 0 == 0)
      (pk .lpeTraceSet (unit 8 0x100) (bytes 40 [(1, 1, 1)]))
      base,
    meets .lpeTraceSet (fun r t => permitted (chkLpeTraceSet r t) && u8 r.p.payload 0 == 2)
      (pk .lpeTraceSet (unit 8 0x100) (bytes 40 [(0, 1, 2)]))
      base,
    meets .lpeTraceRead (fun r t => permitted (chkLpeTraceRead r t))
      (pk .lpeTraceRead (unit 8 0x100) (bytes 4 [(2, 1, 1)]))
      (modTrace 0 (fun x => { x with mode := 1, st := 3 }) base),
    meets .lpeEngineStatus (fun r t => permitted (chkLpeEngineStatus r t))
      (pk .lpeEngineStatus (unit 8 0x200) (zeros 0))
      base].all id = true := by decide +kernel

/-- Witnesses for `VlvCommandsComplete`. -/
theorem witness_vlvCommandsComplete : [
    meets .vlvConfig (fun r t => permitted (chkVlvConfig r t))
      (pk .vlvConfig (unit 9 0) (bytes 96 [(0, 1, 1), (4, 2, 0x4e20), (8, 4, 0x3e8), (12, 4, 0x3f800000), (16, 4, 0x40000000), (20, 4, 0x3f800000), (24, 4, 0x3f800000), (28, 4, 0x3f800000), (36, 4, 0x3dcccccd), (40, 2, 0x64), (42, 2, 0xa), (44, 4, 0x3f800000), (56, 4, 0x3f800000), (60, 1, 0x32), (61, 1, 3), (64, 4, 0x40a00000), (68, 4, 0x41a00000), (72, 4, 0x40a00000), (76, 4, 0x42c80000), (80, 4, 0x43160000), (84, 4, 0x41200000), (92, 4, 0x41a00000)]))
      base,
    meets .vlvDrive (fun r t => permitted (chkVlvDrive r t) && u8 r.p.payload 0 == 0 && (t.valve (valveTarget r)).st != .testing && (t.valve (valveTarget r)).st != .energised)
      (pk .vlvDrive (unit 9 0) (zeros 4))
      base,
    meets .vlvDrive (fun r t => permitted (chkVlvDrive r t) && (u8 r.p.payload 0 == 0 && ((t.valve (valveTarget r)).st == .testing || (t.valve (valveTarget r)).st == .energised)))
      (pk .vlvDrive (unit 9 0) (zeros 4))
      (modValve 0 (fun v => { v with st := .energised, mode := 1 }) base),
    meets .vlvDrive (fun r t => permitted (chkVlvDrive r t) && u8 r.p.payload 0 == 1 && ((endOn (valveTarget r) .superseded (modValve (valveTarget r) (fun v => { v with drive := true }) t)).valve (valveTarget r)).st == .energised)
      (pk .vlvDrive (unit 9 0) (bytes 4 [(0, 1, 1)]))
      (modValve 0 (fun v => { v with st := .energised, mode := 1 }) base),
    meets .vlvDrive (fun r t => permitted (chkVlvDrive r t) && u8 r.p.payload 0 == 1 && ((endOn (valveTarget r) .superseded (modValve (valveTarget r) (fun v => { v with drive := true }) t)).valve (valveTarget r)).st != .energised && ((endOn (valveTarget r) .superseded (modValve (valveTarget r) (fun v => { v with drive := true }) t)).valve (valveTarget r)).mode == 3 && !((endOn (valveTarget r) .superseded (modValve (valveTarget r) (fun v => { v with drive := true }) t)).valve (valveTarget r)).level)
      (pk .vlvDrive (unit 9 0) (bytes 4 [(0, 1, 1)]))
      (modValve 0 (fun v => { v with st := .deEnergised, mode := 3 }) base),
    meets .vlvDrive (fun r t => permitted (chkVlvDrive r t) && (u8 r.p.payload 0 == 1 && !(((endOn (valveTarget r) .superseded (modValve (valveTarget r) (fun v => { v with drive := true }) t)).valve (valveTarget r)).mode == 3 && !((endOn (valveTarget r) .superseded (modValve (valveTarget r) (fun v => { v with drive := true }) t)).valve (valveTarget r)).level) && (((endOn (valveTarget r) .superseded (modValve (valveTarget r) (fun v => { v with drive := true }) t)).valve (valveTarget r)).st == .demag || ((endOn (valveTarget r) .superseded (modValve (valveTarget r) (fun v => { v with drive := true }) t)).valve (valveTarget r)).st == .offTime)))
      (pk .vlvDrive (unit 9 0) (bytes 4 [(0, 1, 1)]))
      (modValve 0 (fun v => { v with st := .offTime, mode := 1 }) base),
    meets .vlvDrive (fun r t => permitted (chkVlvDrive r t) && u8 r.p.payload 0 == 1 && !(((endOn (valveTarget r) .superseded (modValve (valveTarget r) (fun v => { v with drive := true }) t)).valve (valveTarget r)).mode == 3 && !((endOn (valveTarget r) .superseded (modValve (valveTarget r) (fun v => { v with drive := true }) t)).valve (valveTarget r)).level) && ((endOn (valveTarget r) .superseded (modValve (valveTarget r) (fun v => { v with drive := true }) t)).valve (valveTarget r)).st == .deEnergised && (valveBanks (valveTarget r) (modValve (valveTarget r) (fun v => { v with onReq := some r }) (endOn (valveTarget r) .superseded (modValve (valveTarget r) (fun v => { v with drive := true }) t)))).isNone)
      (pk .vlvDrive (unit 9 0) (bytes 4 [(0, 1, 1)]))
      (modValve 0 (fun v => { v with st := .deEnergised, mode := 1 }) base),
    meets .vlvDrive (fun r t => permitted (chkVlvDrive r t) && u8 r.p.payload 0 == 1 && !(((endOn (valveTarget r) .superseded (modValve (valveTarget r) (fun v => { v with drive := true }) t)).valve (valveTarget r)).mode == 3 && !((endOn (valveTarget r) .superseded (modValve (valveTarget r) (fun v => { v with drive := true }) t)).valve (valveTarget r)).level) && ((endOn (valveTarget r) .superseded (modValve (valveTarget r) (fun v => { v with drive := true }) t)).valve (valveTarget r)).st == .deEnergised && (valveBanks (valveTarget r) (modValve (valveTarget r) (fun v => { v with onReq := some r }) (endOn (valveTarget r) .superseded (modValve (valveTarget r) (fun v => { v with drive := true }) t)))).isSome)
      (pk .vlvDrive (unit 9 0) (bytes 4 [(0, 1, 1)]))
      (modLoop 0 (fun l => { l with st := .idle, cfg := { l.cfg with kind := 0, index := 0 }, bankPoison := [0] }) (modValve 0 (fun v => { v with st := .deEnergised, mode := 1 }) base)),
    meets .vlvDrive (fun r t => permitted (chkVlvDrive r t) && u8 r.p.payload 0 == 1 && !(((endOn (valveTarget r) .superseded (modValve (valveTarget r) (fun v => { v with drive := true }) t)).valve (valveTarget r)).mode == 3 && !((endOn (valveTarget r) .superseded (modValve (valveTarget r) (fun v => { v with drive := true }) t)).valve (valveTarget r)).level) && ((endOn (valveTarget r) .superseded (modValve (valveTarget r) (fun v => { v with drive := true }) t)).valve (valveTarget r)).st == .testing)
      (pk .vlvDrive (unit 9 0) (bytes 4 [(0, 1, 1)]))
      (modValve 0 (fun v => { v with st := .testing, mode := 1 }) base),
    meets .vlvStatus (fun r t => permitted (chkVlvStatus r t))
      (pk .vlvStatus (unit 9 0) (zeros 0))
      base,
    meets .vlvClear (fun r t => permitted (chkVlvClear r t))
      (pk .vlvClear (unit 9 0) (zeros 0))
      (modValve 0 (fun v => { v with st := .latched }) base),
    meets .vlvGroupStatus (fun r t => permitted (chkVlvGroupStatus r t))
      (pk .vlvGroupStatus (unit 9 0x100) (zeros 0))
      base].all id = true := by decide +kernel

/-- Witnesses for `FioCommandsComplete`. -/
theorem witness_fioCommandsComplete : [
    meets .fioDiConfig (fun r t => permitted (chkFioDiConfig r t))
      (pk .fioDiConfig (unit 10 0) (bytes 16 [(0, 1, 1), (1, 1, 1), (2, 2, 0xa), (6, 2, 0xa), (8, 4, 0x423c0000), (12, 2, 0x64)]))
      base,
    meets .fioAiConfig (fun r t => permitted (chkFioAiConfig r t))
      (pk .fioAiConfig (unit 10 0x200) (bytes 16 [(4, 4, 0x3f800000), (12, 4, 0x3f800000)]))
      base,
    meets .fioDoConfig (fun r t => permitted (chkFioDoConfig r t) && !t.id.outputsHeld && u8 r.p.payload 0 == 1 && (t.dout (fioTarget r - 0x100)).st != .unconfigured)
      (pk .fioDoConfig (unit 10 0x100) (bytes 4 [(0, 1, 1)]))
      (modDo 0 (fun x => { x with st := .off }) base),
    meets .fioDoConfig (fun r t => permitted (chkFioDoConfig r t) && u8 r.p.payload 0 == 0)
      (pk .fioDoConfig (unit 10 0x100) (zeros 4))
      base,
    meets .fioDoConfig (fun r t => permitted (chkFioDoConfig r t) && !t.id.outputsHeld && u8 r.p.payload 0 == 1 && (t.dout (fioTarget r - 0x100)).st == .unconfigured)
      (pk .fioDoConfig (unit 10 0x100) (bytes 4 [(0, 1, 1)]))
      base,
    meets .fioDoConfig (fun r t => permitted (chkFioDoConfig r t) && t.id.outputsHeld && u8 r.p.payload 0 == 1)
      (pk .fioDoConfig (unit 10 0x100) (bytes 4 [(0, 1, 1)]))
      ({ base with id := { base.id with outputsHeld := true } }),
    meets .fioDoClear (fun r t => permitted (chkFioDoClear r t))
      (pk .fioDoClear (unit 10 0x100) (zeros 0))
      (modDo 0 (fun x => { x with st := .latched }) base),
    meets .fioStatus (fun r t => permitted (chkFioStatus r t) && 0x200 ≤ fioTarget r)
      (pk .fioStatus (unit 10 0x200) (zeros 0))
      base,
    meets .fioStatus (fun r t => permitted (chkFioStatus r t) && fioTarget r < 64)
      (pk .fioStatus (unit 10 0) (zeros 0))
      base,
    meets .fioStatus (fun r t => permitted (chkFioStatus r t) && 64 ≤ fioTarget r && fioTarget r < 0x200)
      (pk .fioStatus (unit 10 0x100) (zeros 0))
      base].all id = true := by decide +kernel

/-- Witnesses for `GnsTimCommandsComplete`. -/
theorem witness_gnsTimCommandsComplete : [
    meets .gnsConfig (fun r t => permitted (chkGnsConfig gdeSteering r t))
      (pk .gnsConfig (unit 11 0) (bytes 56 [(0, 1, 3), (1, 1, 3), (2, 1, 3), (12, 4, 0x41200000), (16, 4, 0x41f00000), (20, 4, 0x3f800000), (24, 4, 0x40a00000), (28, 2, 5), (30, 2, 0xa), (32, 4, 0x3f800000), (36, 4, 0x3f800000), (40, 2, 0xa), (44, 4, 0x358637bd), (48, 2, 0xa)]))
      base,
    meets .gnsRtcmPut (fun r t => permitted (chkGnsRtcmPut r t))
      (pk .gnsRtcmPut (unit 11 0) (zeros 4))
      base,
    meets .gnsRawLatch (fun r t => permitted (chkGnsRawLatch r t))
      (pk .gnsRawLatch (unit 11 0) (zeros 0))
      base,
    meets .gnsTest (fun r t => permitted (chkGnsTest r t))
      (pk .gnsTest (unit 11 0) (zeros 4))
      base,
    meets .gnsRestart (fun r t => permitted (chkGnsRestart gdeSteering r t))
      (pk .gnsRestart (unit 11 0) (zeros 4))
      base,
    meets .gnsStatus (fun r t => permitted (chkGnsStatus r t))
      (pk .gnsStatus (unit 11 0) (zeros 0))
      base,
    meets .gnsChannelRead (fun r t => permitted (chkGnsChannelRead r t) && u8 r.p.payload 3 == 0)
      (pk .gnsChannelRead (unit 11 0) (bytes 8 [(2, 1, 1)]))
      base,
    meets .gnsChannelRead (fun r t => permitted (chkGnsChannelRead r t) && u8 r.p.payload 3 == 1)
      (pk .gnsChannelRead (unit 11 0) (bytes 8 [(2, 1, 1), (3, 1, 1)]))
      ({ base with gns := { base.gns with ring := [{ (default : RawLatch) with no := 0 }] } }),
    meets .timConfig (fun r t => permitted (chkTimConfig r t))
      (pk .timConfig (unit 12 0) (bytes 32 [(1, 1, 1), (16, 4, 0x3f800000), (20, 4, 0x42c80000)]))
      base,
    meets .timStatus (fun r t => permitted (chkTimStatus r t) && t.tim.holdSince.isNone)
      (pk .timStatus (unit 12 0) (zeros 0))
      base,
    meets .timStatus (fun r t => permitted (chkTimStatus r t) && t.tim.holdSince.isSome)
      (pk .timStatus (unit 12 0) (zeros 0))
      (modTim (fun x => { x with holdSince := some 0 }) base),
    meets .timConvert (fun r t => permitted (chkTimConvert r t) && u8 r.p.payload 0 == 0)
      (pk .timConvert (unit 12 0) (zeros 16))
      (modTim (fun x => { x with st := .locked }) base),
    meets .timConvert (fun r t => permitted (chkTimConvert r t) && u8 r.p.payload 0 == 1 && (t.tim.maps.any fun y => decide ((y.1 : Int) ≤ i64 r.p.payload 8 - y.2)))
      (pk .timConvert (unit 12 0) (bytes 16 [(0, 1, 1)]))
      (modTim (fun x => { x with st := .locked, maps := [(0, 0)] }) base),
    meets .timConvert (fun r t => permitted (chkTimConvert r t) && u8 r.p.payload 0 == 1 && !(t.tim.maps.any fun y => decide ((y.1 : Int) ≤ i64 r.p.payload 8 - y.2)))
      (pk .timConvert (unit 12 0) (bytes 16 [(0, 1, 1)]))
      (modTim (fun x => { x with st := .locked }) base),
    meets .timEpochSet (fun r t => permitted (chkTimEpochSet r t))
      (pk .timEpochSet (unit 12 0) (bytes 16 [(8, 4, 0x42c80000)]))
      (modTim (fun x => { x with cfg := { x.cfg with ref := 3 } }) base)].all id = true := by decide +kernel

/-- Witnesses for `FusCamCommandsComplete`. -/
theorem witness_fusCamCommandsComplete : [
    meets .fusConfig (fun r t => permitted (chkFusConfig fusBusy r t))
      (pk .fusConfig (unit 13 0) (bytes 64 [(2, 1, 1), (3, 1, 2), (4, 2, 0x64), (6, 2, 0xa), (8, 2, 0x64), (10, 2, 0x64), (12, 4, 0x3f800000), (16, 4, 0x3f800000), (20, 2, 0xa), (22, 1, 2), (23, 1, 2), (24, 4, 0x3f000000), (28, 4, 0x3f800000), (32, 4, 0x3f800000), (36, 4, 0x40a00000), (40, 4, 0x41200000), (44, 4, 0x41100000), (48, 2, 0x1f4)]))
      base,
    meets .fusFrameSet (fun r t => permitted (chkFusFrameSet fusBusy r t))
      (pk .fusFrameSet (unit 13 0x102) (bytes 64 [(16, 4, 0x3f800000), (1, 1, 1)]))
      (modFus (fun x => { x with cfg := { x.cfg with enable := some true } }) base),
    meets .fusFrameRead (fun r t => permitted (chkFusFrameRead r t) && u8 r.p.payload 0 == 0)
      (pk .fusFrameRead (unit 13 0x100) (zeros 4))
      base,
    meets .fusFrameRead (fun r t => permitted (chkFusFrameRead r t) && u8 r.p.payload 0 == 1 && t.fus.pose.isSome)
      (pk .fusFrameRead (unit 13 0x100) (bytes 4 [(0, 1, 1)]))
      (modFus (fun x => { x with cfg := { x.cfg with enable := some true }, mode := .aided, origin := some (0, 0, 0), pose := some (0, default, (0, 0, 0)) }) base),
    meets .fusGroupSet (fun r t => permitted (chkFusGroupSet gdeSteering r t))
      (pk .fusGroupSet (unit 13 0x201) (bytes 48 [(2, 2, 0x64), (4, 2, 0xa)]))
      (modFus (fun x => { x with cfg := { x.cfg with enable := some true } }) base),
    meets .fusSourceSet (fun r t => permitted (chkFusSourceSet r t))
      (pk .fusSourceSet (unit 13 0x300) (zeros 8))
      base,
    meets .fusStatus (fun r t => permitted (chkFusStatus r t))
      (pk .fusStatus (unit 13 0) (zeros 0))
      base,
    meets .fusTrackRead (fun r t => permitted (chkFusTrackRead r t) && !t.fus.table.isEmpty)
      (pk .fusTrackRead (unit 13 0x400) (bytes 4 [(1, 1, 1)]))
      (modFus (fun x => { x with table := [0] }) (modFus (fun x => { x with cfg := { x.cfg with enable := some true } }) base)),
    meets .fusTrackRead (fun r t => permitted (chkFusTrackRead r t) && t.fus.table.isEmpty)
      (pk .fusTrackRead (unit 13 0x400) (bytes 4 [(1, 1, 1)]))
      (modFus (fun x => { x with cfg := { x.cfg with enable := some true } }) base),
    meets .camLinkSet (fun r t => permitted (chkCamLinkSet r t) && (!(u8 r.p.payload 0 != 0 && u8 r.p.payload 0 != (t.link ((camUnit r 0 4).getD 4)).gear && ((t.link ((camUnit r 0 4).getD 4)).st == .up || (t.link ((camUnit r 0 4).getD 4)).st == .down))))
      (pk .camLinkSet (unit 14 0) (bytes 20 [(5, 1, 0xff), (13, 1, 0xff)]))
      base,
    meets .camLinkSet (fun r t => permitted (chkCamLinkSet r t) && (u8 r.p.payload 0 != 0 && u8 r.p.payload 0 != (t.link ((camUnit r 0 4).getD 4)).gear && ((t.link ((camUnit r 0 4).getD 4)).st == .up || (t.link ((camUnit r 0 4).getD 4)).st == .down)))
      (pk .camLinkSet (unit 14 0) (bytes 20 [(0, 1, 2), (5, 1, 0xff), (13, 1, 0xff)]))
      ({ base with cam := { base.cam with links := updAt base.cam.links 0 fun y => { y with gear := 1, st := .up } } }),
    meets .camPipeSet (fun r t => permitted (chkCamPipeSet r t))
      (pk .camPipeSet (unit 14 0x10) (bytes 164 [(4, 2, 0x40), (6, 2, 0x40), (8, 1, 0xff), (9, 1, 1), (10, 1, 3), (12, 4, 0x41f00000), (44, 4, 0x3f800000)]))
      base,
    meets .camPairSet (fun r t => permitted (chkCamPairSet r t) && u8 r.p.payload 0 != 0xFF && u8 r.p.payload 1 != 0xFF)
      (pk .camPairSet (unit 14 0x20) (bytes 8 [(1, 1, 1), (2, 2, 0x64)]))
      (modCam (fun c => { c with pipes := c.pipes.map fun x => { x with cfg := { x.cfg with fsync := 0 } } }) base),
    meets .camPairSet (fun r t => permitted (chkCamPairSet r t) && (u8 r.p.payload 0 == 0xFF || u8 r.p.payload 1 == 0xFF))
      (pk .camPairSet (unit 14 0x20) (bytes 8 [(0, 1, 0xff), (2, 2, 0x64)]))
      base,
    meets .camFsyncSet (fun r t => permitted (chkCamFsyncSet r t) && u32 r.p.payload 0 != 0)
      (pk .camFsyncSet (unit 14 0x30) (bytes 8 [(0, 4, 0x2710), (4, 2, 0xa)]))
      base,
    meets .camFsyncSet (fun r t => permitted (chkCamFsyncSet r t) && u32 r.p.payload 0 == 0)
      (pk .camFsyncSet (unit 14 0x30) (bytes 8 [(4, 2, 0xa)]))
      base,
    meets .camSensorWrite (fun r t => permitted (chkCamSensorWrite r t))
      (pk .camSensorWrite (unit 14 0x10) (bytes 28 [(0, 2, 1)]))
      (modCam (fun c => { c with pipes := updAt c.pipes 0 fun x => { x with st := .running } }) base),
    meets .camVaSet (fun r t => permitted (chkCamVaSet r t))
      (pk .camVaSet (unit 14 0x108) (bytes 40 [(2, 1, 1)]))
      base,
    meets .camStatus (fun r t => (camUnit r 0 4).isSome)
      (pk .camStatus (unit 14 0) (zeros 0))
      base,
    meets .camStatus (fun r t => (camUnit r 0 4).isNone && (camUnit r 0x10 8).isSome)
      (pk .camStatus (unit 14 0x10) (zeros 0))
      base].all id = true := by decide +kernel

/-- Witnesses for `CanCommandsComplete`. -/
theorem witness_canCommandsComplete : [
    meets .canConfig (fun r t => permitted (chkCanConfig r t))
      (pk .canConfig (unit 15 0) (bytes 40 [(4, 1, 0xff), (6, 1, 8), (8, 2, 1), (10, 2, 0x64), (12, 1, 0x3b), (13, 1, 0xa), (14, 1, 1), (15, 1, 1), (16, 1, 1), (18, 1, 1), (19, 1, 1), (20, 1, 1)]))
      base,
    meets .canBufferSet (fun r t => permitted (chkCanBufferSet r t))
      (pk .canBufferSet (unit 15 0) (zeros 12))
      base,
    meets .canFilterSet (fun r t => permitted (chkCanFilterSet r t))
      (pk .canFilterSet (unit 15 0x100) (zeros 12))
      (modCan 0 (fun x => { x with bufs := updAt x.bufs 0 fun y => { y with dir := 1 } }) base),
    meets .canPower (fun r t => permitted (chkCanPower r t) && u8 r.p.payload 0 == 1)
      (pk .canPower (unit 15 0) (bytes 20 [(0, 1, 1)]))
      (modCan 0 (fun x => { x with st := .errorActive }) base),
    meets .canPower (fun r t => permitted (chkCanPower r t) && u8 r.p.payload 0 == 0)
      (pk .canPower (unit 15 0) (zeros 20))
      (modCan 0 (fun x => { x with st := .errorActive }) base),
    meets .canRecover (fun r t => permitted (chkCanRecover r t))
      (pk .canRecover (unit 15 0) (zeros 0))
      (modCan 0 (fun x => { x with st := .busOff }) base),
    meets .canTtSet (fun r t => permitted (chkCanTtSet r t))
      (pk .canTtSet (unit 15 0) (bytes 16 [(2, 2, 0x64), (4, 2, 0x64), (6, 2, 1), (8, 1, 1)]))
      base,
    meets .canClaim (fun r t => permitted (chkCanClaim r t) && u64 r.p.payload 0 != 0)
      (pk .canClaim (unit 15 0) (bytes 12 [(0, 8, 1), (9, 1, 1), (10, 1, 2)]))
      (modCan 0 (fun x => { x with st := .errorActive }) base),
    meets .canClaim (fun r t => permitted (chkCanClaim r t) && u64 r.p.payload 0 == 0)
      (pk .canClaim (unit 15 0) (bytes 12 [(9, 1, 1), (10, 1, 2)]))
      (modCan 0 (fun x => { x with st := .errorActive }) base),
    meets .canStatus (fun r t => permitted (chkCanStatus r t))
      (pk .canStatus (unit 15 0) (zeros 0))
      base].all id = true := by decide +kernel

/-- Witnesses for `FltCommandsComplete`. -/
theorem witness_fltCommandsComplete : [
    meets .fltConfig (fun r t => permitted (chkFltConfig r t))
      (pk .fltConfig (unit 16 0) (bytes 44 [(4, 4, 1), (8, 2, 0x1388), (10, 2, 0xa), (12, 2, 0x1f4), (14, 2, 0xa), (18, 2, 0xa), (24, 4, 0x42c80000)]))
      base,
    meets .fltKeySet (fun r t => permitted (chkFltKeySet r t))
      (pk .fltKeySet (unit 16 0) (zeros 32))
      base,
    meets .fltMemberSet (fun r t => permitted (chkFltMemberSet r t))
      (pk .fltMemberSet (unit 16 0x10) (zeros 20))
      base,
    meets .fltHazardSet (fun r t => permitted (chkFltHazardSet r t) && u8 r.p.payload 2 != 0 && decide ((fltBefore t).flt.hazards.length < 64))
      (pk .fltHazardSet (unit 16 0x100) (bytes 36 [(2, 1, 1), (4, 4, 0x3f800000)]))
      base,
    meets .fltHazardSet (fun r t => permitted (chkFltHazardSet r t) && u8 r.p.payload 2 == 0)
      (pk .fltHazardSet (unit 16 0x100) (bytes 36 [(4, 4, 0x3f800000)]))
      base,
    meets .fltHazardSet (fun r t => permitted (chkFltHazardSet r t) && u8 r.p.payload 2 != 0)
      (pk .fltHazardSet (unit 16 0x100) (bytes 36 [(2, 1, 1), (4, 4, 0x3f800000)]))
      base,
    meets .fltLine (fun r t => permitted (chkFltLine r t) && u8 r.p.payload 0 == 0
          && fltOn (lineChunks 512 (((gdeLine (u8 r.p.payload 1) (fltBefore t)).map (·.verts)).getD []) (fltBefore t)).2
          && !(fieldPeers (lineChunks 512 (((gdeLine (u8 r.p.payload 1) (fltBefore t)).map (·.verts)).getD []) (fltBefore t)).2).isEmpty)
      (pk .fltLine (unit 16 0) (zeros 6))
      (modGde (fun g => { g with lines := [{ field := 5, no := 0, line := { type := 2, spacing := 0x40C00000, radius := 0x42480000, verts := [(0, 0)] } }] }) (modFlt (fun x => { x with cfg := { x.cfg with enable := true }, members := [{ kind := 1, session := true, status := zeros 48 ++ [5] ++ zeros 15 }] }) (modMap (fun m => { m with fields := [{ id := 5, cell := 0, origin := (0, 0, 0) }], open_ := 5 }) base))),
    meets .fltLine (fun r t => permitted (chkFltLine r t) && (u8 r.p.payload 0 == 0 && (!fltOn (lineChunks 512 (((gdeLine (u8 r.p.payload 1) (fltBefore t)).map (·.verts)).getD []) (fltBefore t)).2 || (fieldPeers (lineChunks 512 (((gdeLine (u8 r.p.payload 1) (fltBefore t)).map (·.verts)).getD []) (fltBefore t)).2).isEmpty)))
      (pk .fltLine (unit 16 0) (zeros 6))
      (modGde (fun g => { g with lines := [{ field := 5, no := 0, line := { type := 2, spacing := 0x40C00000, radius := 0x42480000, verts := [(0, 0)] } }] }) (modMap (fun m => { m with fields := [{ id := 5, cell := 0, origin := (0, 0, 0) }], open_ := 5 }) base)),
    meets .fltLine (fun r t => permitted (chkFltLine r t) && u8 r.p.payload 0 == 1 && ((fltBefore t).flt.inbox[u8 r.p.payload 1]?).isSome && (fltBefore t).openField.isSome)
      (pk .fltLine (unit 16 0) (bytes 6 [(0, 1, 1)]))
      (modFlt (fun x => { x with inbox := [{ (default : InboxLine) with verts := [(0, 0)], complete := some 0 }] }) (modMap (fun m => { m with fields := [{ id := 5, cell := 0, origin := (0, 0, 0) }], open_ := 5 }) base)),
    meets .fltUnload (fun r t => permitted (chkFltUnload r t) && u8 r.p.payload 0 == 0 && (fltBefore t).flt.unl == .idle)
      (pk .fltUnload (unit 16 0) (zeros 4))
      (modFlt (fun x => { x with members := [{ kind := 2 }] }) base),
    meets .fltUnload (fun r t => permitted (chkFltUnload r t) && u8 r.p.payload 0 == 0 && (fltBefore t).flt.unl != .idle)
      (pk .fltUnload (unit 16 0) (zeros 4))
      (modFlt (fun x => { x with unl := .unloading, members := [{ kind := 2 }] }) base),
    meets .fltUnload (fun r t => permitted (chkFltUnload r t) && u8 r.p.payload 0 == 1)
      (pk .fltUnload (unit 16 0) (bytes 4 [(0, 1, 1)]))
      base,
    meets .fltStatus (fun r t => permitted (chkFltStatus r t) && fltTarget r == 0)
      (pk .fltStatus (unit 16 0) (zeros 0))
      base,
    meets .fltStatus (fun r t => permitted (chkFltStatus r t) && fltTarget r != 0)
      (pk .fltStatus (unit 16 0x10) (zeros 0))
      base,
    waiting .fltConfig (pk .fltConfig (unit 16 0) (zeros 44)) between,
    waiting .fltKeySet (pk .fltKeySet (unit 16 0) (zeros 32)) between,
    waiting .fltMemberSet (pk .fltMemberSet (unit 16 0x200) (zeros 20)) between,
    waiting .fltHazardSet (pk .fltHazardSet (unit 16 0x100) (zeros 36)) between,
    waiting .fltLine (pk .fltLine (unit 16 0) (zeros 6)) between,
    waiting .fltUnload (pk .fltUnload (unit 16 0) (zeros 4)) between].all id = true := by decide +kernel

/-- Witnesses for `ColCommandsComplete`. -/
theorem witness_colCommandsComplete : [
    meets .colPartitionConfig (fun r t => permitted (chkColPartitionConfig r t))
      (pk .colPartitionConfig (unit 17 1) (bytes 32 [(4, 4, 0x64), (8, 4, 0x40), (12, 4, 0x40), (16, 4, 4)]))
      base,
    meets .colInputSet (fun r t => permitted (chkColInputSet r t) && u16 r.p.payload 0 == 0 && u16 r.p.payload 2 == u16 r.p.payload 4)
      (pk .colInputSet (unit 17 1) (bytes 12 [(2, 2, 1), (4, 2, 1), (8, 4, 0x10090)]))
      (base.setPart 1 { st := .stopped }),
    meets .colInputSet (fun r t => permitted (chkColInputSet r t) && u16 r.p.payload 2 + u16 r.p.payload 0 ≤ (t.part ((unitIndex r.p.target 0x11).getD 0xFFFF)).inputs.length && u16 r.p.payload 4 == (t.part ((unitIndex r.p.target 0x11).getD 0xFFFF)).inputs.length)
      (pk .colInputSet (unit 17 1) (bytes 12 [(0, 2, 1), (2, 2, 1), (4, 2, 2), (8, 4, 0x10090)]))
      (base.setPart 1 { st := .stopped, inputs := [0x10090, 0x10090] }),
    meets .colAdmit (fun r t => permitted (chkColAdmit r t) && (placeAll t (offerOrder t) [] []).2.isEmpty && areaFits t (offered t) && mirrorFits t (offered t))
      (pk .colAdmit (unit 17 0x100) (zeros 0))
      base,
    meets .colAdmit (fun r t => permitted (chkColAdmit r t) && (!(placeAll t (offerOrder t) [] []).2.isEmpty || (!areaFits t (offered t) && !(offered t).isEmpty)))
      (pk .colAdmit (unit 17 0x100) (zeros 0))
      (base.setPart 1 { st := .stopped, cfg := some { pair := 17, period := 99 } }),
    meets .colPartitionRun (fun r t => permitted (chkColPartitionRun r t) && u8 r.p.payload 0 == 1 && (t.part ((unitIndex r.p.target 0x11).getD 0xFFFF)).st == .stopped
          && (t.part ((unitIndex r.p.target 0x11).getD 0xFFFF)).admitted && t.mayRun && t.pwr.selftest / 32 % 2 == 0)
      (pk .colPartitionRun (unit 17 1) (bytes 4 [(0, 1, 1)]))
      (base.setPart 1 { st := .stopped, admitted := true, pair := some 1 }),
    meets .colPartitionRun (fun r t => permitted (chkColPartitionRun r t) && (u8 r.p.payload 0 == 1 && ((t.part ((unitIndex r.p.target 0x11).getD 0xFFFF)).st == .running || (t.part ((unitIndex r.p.target 0x11).getD 0xFFFF)).st == .restoring)))
      (pk .colPartitionRun (unit 17 1) (bytes 4 [(0, 1, 1)]))
      (base.setPart 1 { st := .running }),
    meets .colPartitionRun (fun r t => permitted (chkColPartitionRun r t) && u8 r.p.payload 0 == 1 && (t.part ((unitIndex r.p.target 0x11).getD 0xFFFF)).st == .stopped && !((t.part ((unitIndex r.p.target 0x11).getD 0xFFFF)).admitted && t.mayRun && t.pwr.selftest / 32 % 2 == 0))
      (pk .colPartitionRun (unit 17 1) (bytes 4 [(0, 1, 1)]))
      (base.setPart 1 { st := .stopped }),
    meets .colPartitionRun (fun r t => permitted (chkColPartitionRun r t) && (u8 r.p.payload 0 == 0 && ((t.part ((unitIndex r.p.target 0x11).getD 0xFFFF)).st == .running || (t.part ((unitIndex r.p.target 0x11).getD 0xFFFF)).st == .restoring)))
      (pk .colPartitionRun (unit 17 1) (zeros 4))
      (base.setPart 1 { st := .running }),
    meets .colPartitionRun (fun r t => permitted (chkColPartitionRun r t) && (u8 r.p.payload 0 == 0 && ((t.part ((unitIndex r.p.target 0x11).getD 0xFFFF)).st == .shed || (t.part ((unitIndex r.p.target 0x11).getD 0xFFFF)).st == .faulted)))
      (pk .colPartitionRun (unit 17 1) (zeros 4))
      (base.setPart 1 { st := .faulted }),
    meets .colPartitionRun (fun r t => permitted (chkColPartitionRun r t) && u8 r.p.payload 0 == 0 && (t.part ((unitIndex r.p.target 0x11).getD 0xFFFF)).st == .stopped)
      (pk .colPartitionRun (unit 17 1) (zeros 4))
      (base.setPart 1 { st := .stopped }),
    meets .colStatus (fun r t => permitted (chkColStatus r t))
      (pk .colStatus (unit 17 0x100) (zeros 0))
      base,
    meets .colPartitionStatus (fun r t => permitted (chkColPartitionStatus r t))
      (pk .colPartitionStatus (unit 17 0) (zeros 0))
      base,
    meets .colRoleReturn (fun r t => permitted (chkColRoleReturn r t))
      (pk .colRoleReturn (unit 17 0x100) (zeros 0))
      (usable 544 0 { base with id := { base.id with role := .actingManager }, col := { base.col with displacedPresent := true } }),
    meets .colInject (fun r t => permitted (chkColInject r t))
      (pk .colInject (unit 17 0x200) (zeros 0))
      base].all id = true := by decide +kernel

/-- Witnesses for `MemDmaCrnCommandsComplete`. -/
theorem witness_memDmaCrnCommandsComplete : [
    meets .memStatus (fun r t => permitted (chkMemStatus r t))
      (pk .memStatus (unit 18 0) (zeros 0))
      base,
    meets .memScrubConfig (fun r t => permitted (chkMemScrubConfig r t))
      (pk .memScrubConfig (unit 18 0) (bytes 12 [(0, 2, 1), (2, 2, 2), (4, 2, 1), (6, 2, 1), (8, 2, 0xa)]))
      base,
    meets .memRegionSet (fun r t => permitted (chkMemRegionSet r t) && u64 r.p.payload 8 != 0)
      (pk .memRegionSet (unit 18 0x100) (bytes 24 [(0, 8, 0x40), (8, 8, 0x40)]))
      base,
    meets .memRegionSet (fun r t => permitted (chkMemRegionSet r t) && u64 r.p.payload 8 == 0)
      (pk .memRegionSet (unit 18 0x100) (zeros 24))
      base,
    meets .memDeviceFail (fun r t => permitted (chkMemDeviceFail r t) && u8 r.p.payload 0 == 0)
      (pk .memDeviceFail (unit 18 0) (zeros 4))
      base,
    meets .memDeviceFail (fun r t => permitted (chkMemDeviceFail r t) && u8 r.p.payload 0 == 1)
      (pk .memDeviceFail (unit 18 0) (bytes 4 [(0, 1, 1)]))
      (modPwr (fun x => { x with st := .idle }) { base with mem := { base.mem with failed := [some 0] } }),
    meets .memRemapClear (fun r t => permitted (chkMemRemapClear r t) && u8 r.p.payload 0 != 0xFF)
      (pk .memRemapClear (unit 18 0) (zeros 4))
      (modPwr (fun x => { x with st := .idle }) base),
    meets .memRemapClear (fun r t => permitted (chkMemRemapClear r t) && u8 r.p.payload 0 == 0xFF)
      (pk .memRemapClear (unit 18 0) (bytes 4 [(0, 1, 0xff)]))
      (modPwr (fun x => { x with st := .idle }) base),
    meets .memInject (fun r t => permitted (chkMemInject r t) && u8 r.p.payload 8 != 3)
      (pk .memInject (unit 18 0) (bytes 16 [(0, 8, 0x40)]))
      (modPwr (fun x => { x with st := .idle }) base),
    meets .memInject (fun r t => permitted (chkMemInject r t) && u8 r.p.payload 8 == 3)
      (pk .memInject (unit 18 0) (bytes 16 [(0, 8, 0x40), (8, 1, 3)]))
      (modPwr (fun x => { x with st := .idle }) base),
    meets .dmaChannelSet (fun r t => permitted (chkDmaChannelSet r t))
      (pk .dmaChannelSet (unit 19 0) (zeros 4))
      base,
    meets .dmaStatus (fun r t => permitted (chkDmaStatus r t))
      (pk .dmaStatus (unit 19 0) (zeros 0))
      base,
    meets .crnStatus (fun r t => permitted (chkCrnStatus r t))
      (pk .crnStatus (unit 20 0) (zeros 0))
      base,
    meets .crnCursorOpen (fun r t => permitted (chkCrnCursorOpen r t) && u8 r.p.payload 0 == 2)
      (pk .crnCursorOpen (unit 20 0x10) (bytes 16 [(0, 1, 2)]))
      ({ base with crn := { base.crn with mounted := true } }),
    meets .crnCursorOpen (fun r t => permitted (chkCrnCursorOpen r t) && u8 r.p.payload 0 == 0)
      (pk .crnCursorOpen (unit 20 0x10) (zeros 16))
      ({ base with crn := { base.crn with mounted := true } }),
    meets .crnCursorOpen (fun r t => permitted (chkCrnCursorOpen r t) && u8 r.p.payload 0 == 1)
      (pk .crnCursorOpen (unit 20 0x10) (bytes 16 [(0, 1, 1)]))
      ({ base with crn := { base.crn with mounted := true } }),
    meets .crnCursorOpen (fun r t => permitted (chkCrnCursorOpen r t) && u8 r.p.payload 0 == 3)
      (pk .crnCursorOpen (unit 20 0x10) (bytes 16 [(0, 1, 3)]))
      ({ base with crn := { base.crn with mounted := true } }),
    meets .crnRead (fun r t => permitted (chkCrnRead r t))
      (pk .crnRead (unit 20 0x100) (bytes 4 [(0, 1, 1)]))
      ({ base with crn := { base.crn with mounted := true, cursors := [some { port := 0, part := 0, next := 0 }] } }),
    meets .crnCursorClose (fun r t => permitted (chkCrnCursorClose r t))
      (pk .crnCursorClose (unit 20 0x100) (zeros 0))
      ({ base with crn := { base.crn with mounted := true, cursors := [some { port := 0, part := 0, next := 0 }] } }),
    meets .crnClear (fun r t => permitted (chkCrnClear r t) && (emptyPart ((unitIndex r.p.target 0x14).getD 0xFFFF - 0x10) t).crn.mounted)
      (pk .crnClear (unit 20 0x11) (zeros 4))
      ({ base with crn := { base.crn with mounted := true } }),
    meets .crnClear (fun r t => permitted (chkCrnClear r t) && !(emptyPart ((unitIndex r.p.target 0x14).getD 0xFFFF - 0x10) t).crn.mounted && (((unitIndex r.p.target 0x14).getD 0xFFFF - 0x10) :: (emptyPart ((unitIndex r.p.target 0x14).getD 0xFFFF - 0x10) t).crn.clearedUnmounted.filter (· != ((unitIndex r.p.target 0x14).getD 0xFFFF - 0x10))).length < 2)
      (pk .crnClear (unit 20 0x11) (zeros 4))
      base,
    meets .crnClear (fun r t => permitted (chkCrnClear r t) && !(emptyPart ((unitIndex r.p.target 0x14).getD 0xFFFF - 0x10) t).crn.mounted && decide (2 ≤ (((unitIndex r.p.target 0x14).getD 0xFFFF - 0x10) :: (emptyPart ((unitIndex r.p.target 0x14).getD 0xFFFF - 0x10) t).crn.clearedUnmounted.filter (· != ((unitIndex r.p.target 0x14).getD 0xFFFF - 0x10))).length))
      (pk .crnClear (unit 20 0x11) (zeros 4))
      ({ base with crn := { base.crn with clearedUnmounted := [0] } }),
    meets .crnAppWrite (fun r t => permitted (chkCrnAppWrite r t) && (acceptAllRaised t.crn.raised.length t).crn.queue.length < 256)
      (pk .crnAppWrite (unit 20 0) (bytes 4 [(0, 1, 0xc0)]))
      ({ base with crn := { base.crn with mounted := true } }),
    meets .crnAppWrite (fun r t => permitted (chkCrnAppWrite r t) && 256 ≤ (acceptAllRaised t.crn.raised.length t).crn.queue.length)
      (pk .crnAppWrite (unit 20 0) (bytes 4 [(0, 1, 0xc0)]))
      ({ base with crn := { base.crn with mounted := true, queue := List.replicate 256 default } })].all id = true := by decide +kernel

/-- Witnesses for `UpdPwrCommandsComplete`. -/
theorem witness_updPwrCommandsComplete : [
    meets .updBegin (fun r t => permitted (chkUpdBegin r t) && t.upd.image != u64 r.p.payload 0)
      (pk .updBegin (unit 21 0) (bytes 16 [(0, 8, 7), (8, 4, 2), (12, 1, 0xff)]))
      base,
    meets .updBegin (fun r t => permitted (chkUpdBegin r t) && t.upd.image == u64 r.p.payload 0)
      (pk .updBegin (unit 21 0) (bytes 16 [(0, 8, 7), (8, 4, 2), (12, 1, 0xff)]))
      (modUpd (fun x => { x with image := 7 }) base),
    meets .updPiece (fun r t => permitted (chkUpdPiece r t) && (pieceFragment (u32 r.p.payload 8) (u16 r.p.payload 12) (r.p.payload.drop 16) t).isSome)
      (pk .updPiece (unit 21 0) (bytes 17 [(0, 8, 7)]))
      (modUpd (fun x => { x with st := .receiving, image := 7, pieces := 2 }) base),
    meets .updPiece (fun r t => permitted (chkUpdPiece r t) && (pieceFragment (u32 r.p.payload 8) (u16 r.p.payload 12) (r.p.payload.drop 16) t).isNone)
      (pk .updPiece (unit 21 0) (bytes 17 [(0, 8, 7), (8, 4, 1)]))
      (modUpd (fun x => { x with st := .receiving, image := 7, pieces := 2, bufs := List.replicate 8 { (default : PieceBuf) with index := 9 } }) base),
    meets .updStatus (fun r t => permitted (chkUpdStatus r t))
      (pk .updStatus (unit 21 0) (zeros 0))
      base,
    meets .updMissing (fun r t => permitted (chkUpdMissing r t))
      (pk .updMissing (unit 21 0) (zeros 4))
      (modUpd (fun x => { x with st := .receiving, image := 7, pieces := 2 }) base),
    meets .updInstall (fun r t => permitted (chkUpdInstall r t) && t.upd.manifest.any fun m => !(installQueue m t).isEmpty)
      (pk .updInstall (unit 21 0) (zeros 0))
      (modUpd (fun x => { x with st := .received, image := 7, manifest := some { setId := 1, setVersion := 1, hwMin := 0, hwMax := 9, image := 7, pieces := 2, comps := [{ (default : UpdComp) with modules := 1 }] } }) base),
    meets .updInstall (fun r t => permitted (chkUpdInstall r t) && t.upd.manifest.any fun m => (installQueue m t).isEmpty)
      (pk .updInstall (unit 21 0) (zeros 0))
      (modUpd (fun x => { x with st := .received, image := 7, manifest := some { setId := 1, setVersion := 1, hwMin := 0, hwMax := 9, image := 7, pieces := 2, comps := [{ (default : UpdComp) with modules := 0 }] } }) base),
    meets .updCommit (fun r t => permitted (chkUpdCommit r t) && u8 r.p.payload 0 == 0 && updManager (interimReply r .queued t))
      (pk .updCommit (unit 21 0) (zeros 4))
      (updReady),
    meets .updCommit (fun r t => permitted (chkUpdCommit r t) && u8 r.p.payload 0 == 1)
      (pk .updCommit (unit 21 0) (bytes 4 [(0, 1, 1)]))
      (modUpd (fun x => { x with st := .committing }) base),
    meets .updCommit (fun r t => permitted (chkUpdCommit r t) && u8 r.p.payload 0 == 0 && !updManager (interimReply r .queued t))
      (pkVia (.peer 0) .updCommit (unit 21 0) (zeros 4))
      ({ (modUpd (fun x => { x with st := .staged }) base) with id := { base.id with role := .worker, peers := [{ index := 0, serial := 0 }] } }),
    meets .updAbort (fun r t => permitted (chkUpdAbort r t) && t.upd.st != .installing)
      (pk .updAbort (unit 21 0) (zeros 0))
      base,
    meets .updAbort (fun r t => permitted (chkUpdAbort r t) && t.upd.st == .installing)
      (pk .updAbort (unit 21 0) (zeros 0))
      (modUpd (fun x => { x with st := .installing }) base),
    meets .pwrSet (fun r t => permitted (chkPwrSet r t) && t.pwr.move.isNone && (PwrSt.ofCode (u8 r.p.payload 0)).getD .standby != t.pwr.st)
      (pk .pwrSet (unit 22 0) (zeros 8))
      base,
    meets .pwrSet (fun r t => permitted (chkPwrSet r t) && t.pwr.move.isNone && (PwrSt.ofCode (u8 r.p.payload 0)).getD .standby == t.pwr.st)
      (pk .pwrSet (unit 22 0) (bytes 8 [(0, 1, 4)]))
      base,
    meets .pwrSet (fun r t => permitted (chkPwrSet r t) && t.pwr.move.isSome)
      (pk .pwrSet (unit 22 0) (bytes 8 [(0, 1, 3)]))
      (modPwr (fun x => { x with move := some { target := .idle } }) base),
    meets .pwrConfig (fun r t => permitted (chkPwrConfig r t))
      (pk .pwrConfig (unit 22 0) (bytes 88 [(0, 1, 1), (4, 2, 0x3e8)]))
      base,
    meets .pwrStatus (fun r t => permitted (chkPwrStatus r t))
      (pk .pwrStatus (unit 22 0) (zeros 0))
      base].all id = true := by decide +kernel

/-- Witnesses for `SumCommandsComplete`. -/
theorem witness_sumCommandsComplete : [
    meets .sumStatus (fun r t => permitted (chkSumStatus r t) && t.id.summitLost)
      (pk .sumStatus (unit 23 0) (zeros 0))
      ({ base with id := { base.id with summitLost := true } }),
    meets .sumStatus (fun r t => permitted (chkSumStatus r t) && !t.id.summitLost)
      (pk .sumStatus (unit 23 0) (zeros 0))
      base,
    meets .sumConfig (fun r t => permitted (chkSumConfig r t))
      (pk .sumConfig (unit 23 0) (bytes 20 [(0, 4, 0x41200000), (4, 4, 0x42480000), (8, 2, 5), (10, 2, 0xa), (12, 2, 5)]))
      base,
    meets .sumKeySet (fun r t => permitted (chkSumKeySet r t) && u8 r.p.payload 0 == 1)
      (pkS (unit 23 0) (bytes 104 [(0, 1, 1)]) 0x1647C3CA 0xC5537202)
      (modPwr (fun x => { x with st := .standby }) sessionState),
    meets .sumKeySet (fun r t => permitted (chkSumKeySet r t) && u8 r.p.payload 0 == 0)
      (pkS (unit 23 0) (bytes 104 [(1, 1, 1)]) 0x159F2F6B 0x95F349E4)
      (modPwr (fun x => { x with st := .standby }) sessionState),
    meets .sumKeySet (fun r t => permitted (chkSumKeySet r t) && u8 r.p.payload 0 == 2)
      (pkS (unit 23 0) (bytes 104 [(0, 1, 2), (1, 1, 1), (2, 1, 1)]) 0x0C6BAB0C 0x33BC10F3)
      (modPwr (fun x => { x with st := .standby }) sessionState),
    meets .sumWindowText (fun r t => permitted (chkSumWindowText r t))
      (pk .sumWindowText (unit 23 0x103) (zeros 44))
      base].all id = true := by decide +kernel

/-- Line 0 of the open field: circles about its origin, 50 m and a spacing of 6 m. -/
def ring : GdeLine := { type := 2, spacing := 0x40C00000, radius := 0x42480000, verts := [(0, 0)] }

/-- A vehicle 56 m east of the origin of `ring`. -/
def onRing : State :=
  modFus (fun f => { f with mode := .aided, origin := some (0, 0, 0), pose := some (0, default, (56, 0, 0)) })
    (modGde (fun g => { g with lines := [{ field := 5, no := 0, line := ring }] })
      (modMap (fun m => { m with fields := [{ id := 5, cell := 0, origin := (0, 0, 0) }], open_ := 5 }) base))

/-- `GDE_LINE_SELECT` of line 0, nearest pass. -/
def ringPacket : Packet := pk .gdeLineSelect (unit 7 0) (zeros 8)

/-- A witness for the last clause of `GdeCommandsComplete`: the nearest pass is within the numbers of passes. -/
theorem witness_nearestPass :
    meets .gdeLineSelect
      (fun r t => permitted (chkGdeLineSelect r t) && !gdeSteering (gdeBefore t)
        && u8 r.p.payload 1 == 0 && ((gdeLine (u8 r.p.payload 0) (gdeBefore t)).any fun l =>
           (nearestPass l (bits32 r.p.payload 4) (gdeBefore t)).any fun k => decide (-4096 ≤ k) && decide (k ≤ 4095) && (passOf l k (bits32 r.p.payload 4)).isSome))
      ringPacket onRing = true := by
  decide +kernel

/-! ## Witnesses: the events -/

/-- Witnesses for `SysEventsOccur`; a clause without a condition is met by `base`. -/
theorem witness_sysEventsOccur : [
    -- REPLY_PACKET
    (let s := tick T (base); s.mainOn && !(!reachable_ s)),
    -- PACKET_DISCARD
    (let s := tick T (base); let d : Discard := default; s.mainOn && d == .untrusted),
    -- PACKET_DISCARD
    (let s := tick T (base); let d : Discard := .noSession 0; let eth : Nat := 0; s.mainOn && d == .noSession eth),
    -- PACKET_DISCARD
    (let s := tick T (base); let d : Discard := .frame .svc 0 [0]; let via : Via := .svc; let dst : Nat := 0; let b : List Byte := [0]; s.mainOn && d == .frame via dst b && (unframed via b).isNone),
    -- PACKET_DISCARD
    (let s := tick T (base); let d : Discard := .frame .svc 0 [1]; let via : Via := .svc; let dst : Nat := 0; let b : List Byte := [1]; let x : List Byte := []; s.mainOn && d == .frame via dst b && unframed via b == some x),
    -- QUEUE_TIMEOUT
    (let s := tick T ({ base with sys := { base.sys with flights := [default] } }); let port : Nat := 0; let tag : Nat := 0; let f : Flight := default; s.mainOn && s.flight port tag == some f && !f.started && f.admitted + queueLimit (f.req.p.flags.toNat % 4) ≤ s.time),
    -- HALF_OPEN_EXPIRY
    (let s := tick T ({ base with sys := { base.sys with sessions := [{ port := 0 }] } }); let port : Nat := 0; s.mainOn && ((s.session port).any fun x => x.halfOpen && x.openedAt + 2 * sec ≤ s.time)),
    -- ROUTE_RECORD_RECEIVED
    (let s := tick T ({ base with sig := { base.sig with routes := [{ (default : Route) with isImport := true, handle := 0 }], imported := [(0, default)] } }); let r : RouteRecord := { (default : RouteRecord) with handle := 0 }; s.mainOn && (s.importRoute r.handle).isSome && (aget s.sig.imported r.handle).isSome),
    -- MACHINE_CONFIG_LOAD
    (let s := tick T (base); s.mainOn && (!(s.id.role == .none || s.id.dupIndex))),
    -- MAILBOX_SUBMIT
    (let s := tick T (base); let n : Nat := 0; s.mainOn && (!(127 < n || !reachable_ s)))].all id = true := by decide +kernel

/-- Witnesses for `CropEventsOccur`; a clause without a condition is met by `base`. -/
theorem witness_cropEventsOccur : [
    -- CAL_WINDOW_END
    (let s := tick T (modCul (fun c => { c with cal := some { req := default, stage := 0, sensor := 0, start := 0, endAt := 0 } }) base); s.mainOn && s.cul.cal.any fun k => decide (k.endAt ≤ s.time)),
    -- COULOIR_TICK
    (let s := tick T (base); s.mainOn && s.acting && onGrid (s.cul.cfg.tick * ms) s && !s.cul.st.busy),
    -- COULOIR_TICK
    (let s := tick T (modCul (fun c => { c with st := .running }) base); s.mainOn && s.acting && onGrid (s.cul.cfg.tick * ms) s && s.cul.st.busy),
    -- VELOCITY_HOLD_EXPIRY
    (let s := tick T (modCul (fun c => { c with st := .running }) base); s.mainOn && !(!s.cul.st.busy)),
    -- PARCEL_AGED
    (let s := tick T (modCul (fun c => { c with st := .running }) base); s.mainOn && !(!s.cul.st.busy)),
    -- REFILL_END
    (let s := tick T (modCul (fun c => { c with refill := some (1, 0) }) base); s.mainOn && s.cul.refill.any fun x => x.1 != 0 && decide (x.1 ≤ s.time)),
    -- IMPACT_DETECTED
    (let s := tick T (modSenCh 0 (fun c => { c with cfg := { c.cfg with group := 1 } }) base); let ch : Nat := 0; s.mainOn && (!(16 ≤ ch || (s.senCh ch).cfg.group == 0))),
    -- REPORT_INTERVAL
    (let s := tick T (base); s.mainOn && (!(s.time - gridTime s % (s.sen.interval * ms) ≤ s.sen.boundary || capturePends (s.time - gridTime s % (s.sen.interval * ms)) s))),
    -- FLOW_DECISION
    (let s := tick T (modSen (fun x => { x with isYield := true }) base); s.mainOn && (!(!s.sen.isYield || !onGrid (100 * ms) s || s.time < 100 * ms))),
    -- PLATE_BLOCK
    (let s := tick T (modSen (fun x => { x with isYield := true, cfg := { x.cfg with sources := 15, moistPeriod := 100 } }) base); s.mainOn && !(!srcOn 0 s)),
    -- PADDLE_PASS
    (let s := tick T (modSen (fun x => { x with isYield := true, cfg := { x.cfg with sources := 15, moistPeriod := 100 } }) base); s.mainOn && !(!srcOn 1 s)),
    -- MOISTURE_SAMPLE
    (let s := tick T (modSen (fun x => { x with isYield := true, cfg := { x.cfg with sources := 15, moistPeriod := 100 } }) base); s.mainOn && !(!srcOn 3 s)),
    -- TARE_RETAKE
    (let s := tick T (modSen (fun x => { x with isYield := true, cfg := { x.cfg with sources := 15, moistPeriod := 100 }, tareSince := some 0, tareReads := [0] }) base); let block : List Rat := default; s.mainOn && srcOn 0 s && !s.sen.tareDone && (tareReadings block s).length != 0 && (tareFrom s).any fun t => decide (t + 2 * sec ≤ s.time)),
    -- EXPORT_BUILT
    (let s := tick T (modMap (fun m => { m with exporting := some (default, { id := 5, cell := 0, origin := (0, 0, 0) }, 1) }) base); let r : Req := default; let f : Field := { id := 5, cell := 0, origin := (0, 0, 0) }; s.mainOn && s.map.exporting == some (r, f, 1)),
    -- EXPORT_BUILT
    (let s := tick T (modMap (fun m => { m with exporting := some (default, { id := 5, cell := 0, origin := (0, 0, 0) }, 0) }) base); let r : Req := default; let f : Field := { id := 5, cell := 0, origin := (0, 0, 0) }; let k : Nat := 0; s.mainOn && s.map.exporting == some (r, f, k) && k != 1),
    -- TILE_LOAD_COMPLETE
    (let s := tick T (modMap (fun m => { m with loading := [(0, 0)] }) base); let te : Int := 0; let tn : Int := 0; s.mainOn && !(!s.map.loading.contains (te, tn)))].all id = true := by decide +kernel

/-- Witnesses for `GdeEventsOccur`; a clause without a condition is met by `base`. -/
theorem witness_gdeEventsOccur : [
    -- WAS_POINT_RECORDED
    (let s := tick T (modGde (fun g => { g with cfg := some default, recording := some { req := default, op := 0, angle := 0, start := 0 } }) base); s.mainOn && (s.gde.recording.any fun x => decide (x.start + sec ≤ s.time))),
    -- LAW_SAMPLE
    (let s := tick T (base); s.mainOn && !(!gdeNow s)),
    -- COAST_EXPIRY
    (let s := tick T (modGde (fun g => { g with cfg := some default, st := .coasting, coastSince := some 0 }) base); s.mainOn && (s.gde.st == .coasting && (rampCauses s).contains 5)),
    -- RELEASE_RAMP_END
    (let s := tick T (modGde (fun g => { g with cfg := some default, st := .releasing, ramp := some (0, 0) }) base); s.mainOn && (s.gde.st == .releasing && s.gde.ramp.any (fun x => decide (x.1 + s.gcfg.ramp * ms ≤ s.time)))),
    -- GDE_SWITCH_OFF_COMPLETE
    (let s := tick T (modGde (fun g => { g with cfg := some default, pnrAt := some 0 }) base); s.mainOn && !(!gdeOffDone s))].all id = true := by decide +kernel

/-- Witnesses for `LpeEventsOccur`; a clause without a condition is met by `base`. -/
theorem witness_lpeEventsOccur : [
    -- LOOP_CTRL_SWAP
    (let s := tick T (modLoop 0 (fun l => { l with st := .run, cfg := { l.cfg with owner := 0 } }) (base.setPart 0 { part0 with inPeriod := true })); let n : Nat := 0; let part : Nat := 0; let v : Nat := 1; s.mainOn && ((s.loop n).st != .free && (s.loop n).cfg.owner == part && (v == 1 || v == 2) && (s.part part).inPeriod)),
    -- LOOP_CTRL_SWAP
    (let s := tick T (base); let n : Nat := 0; let part : Nat := 0; let v : Nat := 0; s.mainOn && ((s.loop n).st == .free || (s.loop n).cfg.owner != part || 2 < v)),
    -- TRC_ARM
    (let s := tick T (base); let u : Nat := 0; let part : Nat := 0; s.mainOn && (!(s.supervisory != some part || 7 < u))),
    -- TRC_ARM
    (let s := tick T (base); let u : Nat := 9; let part : Nat := 0; s.mainOn && ((s.supervisory != some part || 7 < u))),
    -- TRC_SWTRIG
    (let s := tick T (base); let u : Nat := 0; let part : Nat := 0; s.mainOn && (!(s.supervisory != some part || 7 < u))),
    -- TRC_SWTRIG
    (let s := tick T (base); let u : Nat := 9; let part : Nat := 0; s.mainOn && ((s.supervisory != some part || 7 < u))),
    -- LOOP_SAMPLE
    (let s := tick T (base); let loop : Nat := 0; s.mainOn && decide (loop < 128)),
    -- OUTPUT_RELEASE
    (let s := tick T (modLoop 0 (fun l => { l with pendingOut := some (0, 0) }) base); s.mainOn && !s.id.clockFail),
    -- REP_PULSE
    (let s := tick T (base); let di : Nat := 0; s.mainOn && decide (di < 16)),
    -- ENGINE_FAULT
    (let s := tick T (base); let phys : Nat := 0; s.mainOn && (!(9 ≤ phys || s.lpe.excluded.getD phys true))),
    -- TAKEOVER_COMPLETE
    (let s := tick T ({ base with lpe := { base.lpe with loading := [(0, 0)] } }); let logi : Nat := 0; s.mainOn && (s.lpe.loading.any fun e => e.1 == logi) && !s.id.clockFail),
    -- SPARE_REFERENCE_CHECK
    (let s := tick T ({ base with lpe := { base.lpe with spare := some 0 } }); let good : Bool := false; let p : Nat := 0; s.mainOn && s.lpe.spare == some p && !good),
    -- SPARE_REFERENCE_CHECK
    (let s := tick T ({ base with lpe := { base.lpe with spare := some 0 } }); let good : Bool := true; s.mainOn && s.lpe.spare.isSome && good)].all id = true := by decide +kernel

/-- Witnesses for `VlvEventsOccur`; a clause without a condition is met by `base`. -/
theorem witness_vlvEventsOccur : [
    -- VALVE_INSTANT
    (let s := tick T (base); let n : Nat := 0; s.mainOn && (!(!onGrid (20 * us) s || 48 ≤ n))),
    -- TEST_PULSE_END
    (let s := tick T (modValve 0 (fun v => { v with st := .testing }) base); let n : Nat := 0; let seen : List (Nat × Rat × Rat) := default; s.mainOn && (s.valve n).st == .testing && (s.valve n).since + 50 * us ≤ s.time && seen.isEmpty),
    -- TEST_PULSE_END
    (let s := tick T (modValve 0 (fun v => { v with st := .testing }) base); let n : Nat := 0; s.mainOn && (s.valve n).st == .testing && (s.valve n).since + 50 * us ≤ s.time),
    -- SHORT_TRIP
    (let s := tick T (modValve 0 (fun v => { v with st := .energised }) base); let n : Nat := 0; let high : Bool := true; let low : Bool := default; s.mainOn && (((s.valve n).st == .testing || (s.valve n).st == .energised) && (high || low))),
    -- RETRY_WAIT_EXPIRY
    (let s := tick T (modValve 0 (fun v => { v with st := .retryWait, drive := true, mode := 1 }) base); let n : Nat := 0; s.mainOn && (s.valve n).st == .retryWait && (s.valve n).tripAt + 10 * ms ≤ s.time && (s.valve n).want),
    -- RETRY_RESET
    (let s := tick T (modValve 0 (fun v => { v with st := .energised, retries := 1 }) base); let n : Nat := 0; s.mainOn && (s.valve n).st == .energised && (s.valve n).retries != 0 && max (s.valve n).since (s.valve n).tripAt + 100 * ms ≤ s.time),
    -- DEMAG_COMPLETE
    (let s := tick T (modValve 0 (fun v => { v with st := .demag }) base); let n : Nat := 0; let current : Rat := 0; s.mainOn && (s.valve n).st == .demag && decide (current < 2 / 100)),
    -- DEMAG_TIMEOUT
    (let s := tick T (modValve 0 (fun v => { v with st := .demag }) base); let n : Nat := 0; s.mainOn && (s.valve n).st == .demag && (s.valve n).since + (s.valve n).cfg.demagMax * ms ≤ s.time),
    -- OFF_TIME_END
    (let s := tick T (modValve 0 (fun v => { v with st := .offTime, demagEnd := some 0 }) base); let n : Nat := 0; s.mainOn && (s.valve n).st == .offTime && heldFor (s.valve n).demagEnd s.time ((s.valve n).cfg.offTime * us)),
    -- OFF_STATE_CHECK
    (let s := tick T (modValve 0 (fun v => { v with st := .deEnergised, biasAt := some 0 }) base); let n : Nat := 0; let hi : List Rat := [1]; s.mainOn && (((s.valve n).st == .deEnergised || (s.valve n).st == .offTime || (s.valve n).st == .latched || (s.valve n).st == .retryWait)
        && heldFor (s.valve n).biasAt s.time (2 * ms) && !hi.isEmpty)),
    -- GROUP_STATE_EVAL
    (let s := tick T (base); let g : Nat := 0; s.mainOn && (!(!onGrid (10 * us) s || 4 ≤ g))),
    -- COIL_THERMAL_UPDATE
    (let s := tick T (modValve 0 (fun v => { v with mode := 1 }) base); let n : Nat := 0; s.mainOn && (s.valve n).mode != 0 && onGrid ms s),
    -- RESISTANCE_MEASUREMENT
    (let s := tick T (modValve 0 (fun v => { v with st := .energised, steady := some (0, 1, 1, 1) }) base); let n : Nat := 0; let duty : Rat := 0; let samples : List Rat := default; let t0 : Nat := 0; let k : Nat := 1; let d : Rat := 1; let a : Rat := 1; s.mainOn && steadyNow n duty samples s == some (t0, d, a, k) && k != 0 && decide (windowNs (s.valve n).cfg ≤ ((s.time - t0 : Nat) : Rat))),
    -- SENT_FRAME
    (let s := tick T (modValve 0 (fun v => { v with cfg := { v.cfg with posInput := 2 } }) base); let n : Nat := 0; s.mainOn && (s.valve n).cfg.posInput == 2),
    -- VALVE_PUBLISH
    (let s := tick T (base); let n : Nat := 0; s.mainOn && (!(!onGrid ms s || 48 ≤ n)))].all id = true := by decide +kernel

/-- Witnesses for `FioEventsOccur`; a clause without a condition is met by `base`. -/
theorem witness_fioEventsOccur : [
    -- DI_OUT_CHANGE
    (let s := tick T (modDi 0 (fun d => { d with cfg := { d.cfg with mode := 1 } }) base); let n : Nat := 0; s.mainOn && decide (n < 64) && ((diApply n s).di n).cfg.mode != 0 && onGrid ((diApply n s).di n).cfg.step (diApply n s)),
    -- DI_PERIODIC_PUBLISH
    (let s := tick T (base); let n : Nat := 0; s.mainOn && (!(!onGrid (10 * ms) s || 64 ≤ n))),
    -- PULSE_FREQUENCY
    (let s := tick T (modDi 0 (fun d => { d with cfg := { d.cfg with mode := 2 } }) base); let n : Nat := 0; s.mainOn && onGrid ms (diApply n s) && ((diApply n s).di n).cfg.mode == 2),
    -- WIRE_BREAK_CHECK
    (let s := tick T (base); let n : Nat := 0; s.mainOn && decide (n < 64) && onGrid ms (diApply n s)),
    -- AI_CONVERSION
    (let s := tick T (base); let n : Nat := 0; s.mainOn && onGrid ms s && n < 16),
    -- AI_SHUNT_RETRY
    (let s := tick T (modAi 0 (fun x => { x with shuntOff := some 0 }) base); let n : Nat := 0; s.mainOn && (heldFor (s.ai n).shuntOff s.time sec)),
    -- DO_INSTANT
    (let s := tick T (modDo 0 (fun d => { d with st := .off }) base); let n : Nat := 0; s.mainOn && (!(!onGrid (10 * us) s || 32 ≤ n || (s.dout n).st == .unconfigured))),
    -- DO_TEST_PULSE_END
    (let s := tick T (modDo 0 (fun d => { d with st := .testing }) base); let n : Nat := 0; let seen : List (Nat × Rat × Rat) := default; s.mainOn && (s.dout n).st == .testing && (s.dout n).since + 50 * us ≤ s.time && seen.isEmpty),
    -- DO_TEST_PULSE_END
    (let s := tick T (modDo 0 (fun d => { d with st := .testing }) base); let n : Nat := 0; s.mainOn && (s.dout n).st == .testing && (s.dout n).since + 50 * us ≤ s.time),
    -- DO_TRIP
    (let s := tick T (modDo 0 (fun d => { d with st := .on, limitSince := some 0 }) base); let n : Nat := 0; let amps : Rat := 0; let limiting : Bool := true; s.mainOn && (((s.dout n).st == .testing || (s.dout n).st == .on) && ((limiting && heldFor (s.dout n).limitSince s.time (100 * us)) || (s.dout n).overload s.time amps))),
    -- DO_RETRY_EXPIRY
    (let s := tick T (usable 256 1 (modDo 0 (fun d => { d with st := .retryWait }) base)); let n : Nat := 0; s.mainOn && (s.dout n).st == .retryWait && (s.dout n).tripAt + 10 * ms ≤ s.time && doWant n s && !(s.dout n).forcedSafe),
    -- DO_RETRY_RESET
    (let s := tick T (modDo 0 (fun d => { d with st := .on, retries := 1 }) base); let n : Nat := 0; s.mainOn && (s.dout n).st == .on && (s.dout n).retries != 0 && max (s.dout n).since (s.dout n).tripAt + 100 * ms ≤ s.time),
    -- DO_DEMAG_COMPLETE
    (let s := tick T (modDo 0 (fun d => { d with st := .demag }) base); let n : Nat := 0; let current : Rat := 0; s.mainOn && (s.dout n).st == .demag && decide (current < 5 / 1000)),
    -- DO_OFF_STATE_CHECK
    (let s := tick T (modDo 0 (fun d => { d with st := .off, demagEnd := some 0 }) base); let n : Nat := 0; s.mainOn && (((s.dout n).st == .off || (s.dout n).st == .latched) && heldFor (s.dout n).demagEnd s.time ms)),
    -- SUPPLY_EVAL
    (let s := tick T (base); let k : Nat := 0; s.mainOn && (!(!onGrid (10 * us) s || 4 ≤ k))),
    -- SENSOR_SUPPLY_RETRY
    (let s := tick T ({ base with fio := { base.fio with supplies := [{ offAt := some 0 }] } }); let k : Nat := 0; s.mainOn && heldFor (s.supply k).offAt s.time sec)].all id = true := by decide +kernel

/-- Witnesses for `GnsTimEventsOccur`; a clause without a condition is met by `base`. -/
theorem witness_gnsTimEventsOccur : [
    -- SPOOF_CLEAR_TIMER
    (let s := tick T ({ base with gns := { base.gns with spoof := 1, quietSince := some 0 } }); s.mainOn && s.gns.spoof != 0 && heldFor s.gns.quietSince s.time (60 * sec)),
    -- PORT_STATE_EVAL
    (let s := tick T (base); let a : Nat := 0; s.mainOn && onGrid ms s && a < 3 && (s.gport a).st != .excluded),
    -- CORRELATOR_SELF_TEST
    (let s := tick T ({ base with gns := { base.gns with cfg := { base.gns.cfg with bias := [0, 0, 0] } } }); let a : Nat := 0; let good : Bool := default; s.mainOn && (!(3 ≤ a || good || s.gns.cfg.bias.getD a 3 == 3))),
    -- DWELL_COMPLETE
    (let s := tick T ({ base with gns := { base.gns with ch := [{ st := 1 }] } }); let c : Nat := 0; s.mainOn && !((s.gch c).st != 1)),
    -- CARRIER_LOCK_LOSS
    (let s := tick T ({ base with gns := { base.gns with ch := [{ st := 4 }] } }); let c : Nat := 0; let pli : Rat := 0; s.mainOn && (((s.gch c).st == 4 || (s.gch c).st == 5 || (s.gch c).st == 6) && decide (pli < 7 / 10))),
    -- NAV_UNIT
    (let s := tick T (base); let u : NavUnit := default; s.mainOn && decide (u.parity < 2) && 127 < s.gns.cfg.navPart),
    -- NAV_UNIT
    (let s := tick T ({ base with gns := { base.gns with cfg := { base.gns.cfg with navPart := 0 } } }); s.mainOn && s.gns.cfg.navPart ≤ 127),
    -- RTCM_DATAGRAM
    (let s := tick T ({ base with gns := { base.gns with cfg := { base.gns.cfg with rtcmUdp := 5000, bias := [0, 0, 0] } } }); let udp : Nat := 5000; s.mainOn && (!(s.gns.cfg.rtcmUdp == 0 || udp != s.gns.cfg.rtcmUdp || !s.gns.cfg.any))),
    -- INTERFERENCE_CHECK
    (let s := tick T (base); let a : Nat := 0; let band : Nat := 0; s.mainOn && (!(3 ≤ a || 4 ≤ band))),
    -- TIME_STATE_EVAL
    (let s := tick T (base); s.mainOn && !(!onGrid ms s)),
    -- PPS_IN_EDGE
    (let s := tick T (base); let falling : Bool := default; s.mainOn && !(falling != bitOf s.tim.cfg.ppsPol 2)),
    -- PPS_IN_LOST
    (let s := tick T (modTim (fun x => { x with ppsIn := some 0 }) base); s.mainOn && s.tim.ppsIn.any (fun p => decide (p + 1500 * ms ≤ s.time)) && !s.tim.ppsLost),
    -- PPS_OUT_EDGE
    (let s := tick T (base); let k : Nat := 0; s.mainOn && !(2 ≤ k)),
    -- MAPPING_STEP
    (let s := tick T (modTim (fun x => { x with step := some (0, 0) }) base); let at_ : Nat := 0; let d : Int := 0; s.mainOn && s.tim.step == some (at_, d) && at_ ≤ s.time),
    -- LEAP_SECOND
    (let s := tick T (modTim (fun x => { x with leapNext := some (0, 0), mapped := true }) base); let g : Int := 0; let l : Int := 0; s.mainOn && s.tim.leapNext == some (g, l) && s.tim.mapped && decide (g * 1000000000 ≤ (s.time : Int) + s.tim.o)),
    -- GPTP_MESSAGE
    (let s := tick T (base); let m : GptpMsg := .announce 1; let gm : Nat := 1; s.mainOn && m == .announce gm && gm != s.tim.gm),
    -- GPTP_MESSAGE
    (let s := tick T (modTim (fun x => { x with cfg := { x.cfg with gptpPorts := 1 } }) base); let m : GptpMsg := .send 0; let eth : Nat := 0; s.mainOn && m == .send eth && bitOf s.tim.cfg.gptpPorts eth),
    -- GPTP_MESSAGE
    (let s := tick T ({ base with id := { base.id with role := .worker } }); let m : GptpMsg := .sync 0 none 0 true; let off : Int := 0; let leap : Int := 0; let lock : Bool := true; s.mainOn && m == .sync off none leap lock && s.follows)].all id = true := by decide +kernel

/-- Witnesses for `FusCamEventsOccur`; a clause without a condition is met by `base`. -/
theorem witness_fusCamEventsOccur : [
    -- POSE_PUBLISH
    (let s := tick T (base); s.mainOn && (!(!onGrid (10 * ms) s || !fusOn s))),
    -- GA1_PREDICTION
    (let s := tick T (base); s.mainOn && !(!fusOn s)),
    -- DETECTION_BLOCK
    (let s := tick T (modFus (fun x => { x with cfg := { x.cfg with enable := some true }, sources := [{ kind := 1 }], origin := some (0, 0, 0) }) base); let source : Nat := 0; s.mainOn && fusOn s && source < 8 && (s.fus.sources.getD source {}).kind != 0),
    -- LINK_STATE_EVAL
    (let s := tick T (base); let l : Nat := 0; s.mainOn && (!(4 ≤ l || !onGrid ms s))),
    -- CSI2_PACKET
    (let s := tick T (modCam (fun x => { x with links := [{ st := .up }] }) base); let l : Nat := 0; let k : CsiPacket := { (default : CsiPacket) with eccBad := true }; s.mainOn && decide (l < 4) && (s.link l).st == .up && k.eccBad),
    -- CSI2_PACKET
    (let s := tick T (modCam (fun x => { x with links := [{ st := .up, routes := [{ vc := 0, pipe := 0 }] }], pipes := updAt x.pipes 0 fun y => { y with st := .running } }) base); let l : Nat := 0; let k : CsiPacket := default; let r : CamRoute := { vc := 0, pipe := 0 }; s.mainOn && decide (l < 4) && (s.link l).st == .up && !k.eccBad
        && (s.link l).routes.find? (fun r => r.vc == k.vc && r.pipe < 8) == some r && (s.pipe r.pipe).st != .off
        && k.dt == 0),
    -- SENSOR_WRITE_COMPLETE
    (let s := tick T (modCam (fun x => { x with writes := [{ req := default, link := 0, id := 1 }] }) base); let l : Nat := 0; s.mainOn && s.cam.writes.any fun w => w.link == l && w.completed.isNone),
    -- FSYNC_EDGE
    (let s := tick T (modCam (fun x => { x with fsync := [{ period := 10000 }] }) base); let k : Nat := 0; s.mainOn && (s.cam.fsync.getD k {}).next.isNone && (s.cam.fsync.getD k {}).period != 0
        && onGrid ((s.cam.fsync.getD k {}).period * us) s && (s.cam.fsync.getD k {}).heldUntil ≤ s.time),
    -- RESYNC_RELEASE
    (let s := tick T (modCam (fun x => { x with pairs := [{ a := 0, b := 1, st := 2 }] }) base); let k : Nat := 0; s.mainOn && (s.pair k).st == 2 && (s.pair k).releaseAt + 10 * pairPeriod k s ≤ s.time),
    -- RESYNC_RELEASE
    (let s := tick T (modCam (fun x => { x with pairs := [{ a := 0, b := 1, st := 2, releaseAt := 1000000000000000 }], fsync := [{ period := 10000 }], pipes := updAt x.pipes 0 fun y => { y with cfg := { y.cfg with fsync := 0 } } }) base); let k : Nat := 0; s.mainOn && (s.pair k).st == 2 && s.time < (s.pair k).releaseAt + 10 * pairPeriod k s && (s.pair k).releaseAt ≤ s.time && !(s.pair k).matching),
    -- VA_JOB_COMPLETE
    (let s := tick T (modCam (fun x => { x with running := some (0, 0, 0, 0, 0) }) base); s.mainOn && s.cam.running.any fun j => j.1 != 8),
    -- VA_JOB_COMPLETE
    (let s := tick T (modCam (fun x => { x with running := some (8, 0, 0, 0, 0) }) base); s.mainOn && s.cam.running.any fun j => j.1 == 8),
    -- POC_OVERCURRENT
    (let s := tick T (modCam (fun x => { x with links := [{ poc := true }] }) base); let l : Nat := 0; s.mainOn && (s.link l).poc && (s.link l).pocTrip.isNone)].all id = true := by decide +kernel

/-- Witnesses for `CanEventsOccur`; a clause without a condition is met by `base`. -/
theorem witness_canEventsOccur : [
    -- CAN_TXREQ
    (let s := tick T (base); let c : Nat := 0; let word : Nat := 0; s.mainOn && (!(12 ≤ c || 4 ≤ word))),
    -- CAN_TXABORT
    (let s := tick T (base); let c : Nat := 0; let word : Nat := 0; s.mainOn && (!(12 ≤ c || 4 ≤ word))),
    -- CAN_FRAME_RECEIVED
    (let s := tick T (modCan 0 (fun x => { x with st := .errorActive }) base); let ch : Nat := 0; s.mainOn && decide (ch < 12) && (s.canCh ch).st.on),
    -- ARBITRATION_START
    (let s := tick T (modCan 0 (fun x => { x with st := .errorActive }) base); let c : Nat := 0; s.mainOn && (!(12 ≤ c || !(s.canCh c).st.on || (s.canCh c).cfg.mode != 0 || (s.canCh c).bufs.any (fun b => b.tx == .active)))),
    -- TX_ATTEMPT_END
    (let s := tick T (modCan 0 (fun x => { x with bufs := [{ tx := .active }] }) base); let c : Nat := 0; s.mainOn && (s.canCh c).bufs.any fun b => b.tx == .active),
    -- DEADLINE_EXPIRY
    (let s := tick T (modCan 0 (fun x => { x with bufs := [{ tx := .pending, cells := [(24, 1)] }] }) base); let c : Nat := 0; let b : Nat := 0; s.mainOn && (((s.canBuf c b).tx == .pending || (s.canBuf c b).tx == .stranded) && (s.canBuf c b).deadline != 0 && (s.canBuf c b).deadline ≤ s.time && onGrid (10 * us) s)),
    -- RECOVERY_DELAY_EXPIRY
    (let s := tick T (modCan 0 (fun x => { x with st := .busOff }) base); let c : Nat := 0; s.mainOn && (s.canCh c).st == .busOff && (s.canCh c).cfg.recovery == 0 && (s.canCh c).busOffAt + (s.canCh c).cfg.recoveryDelay * ms ≤ s.time),
    -- RECOVERY_COMPLETE
    (let s := tick T (modCan 0 (fun x => { x with st := .recovering }) base); let c : Nat := 0; s.mainOn && ((s.canCh c).st == .recovering)),
    -- CAN_SELF_TEST
    (let s := tick T (base); let c : Nat := 0; let good : Bool := default; s.mainOn && (!(good || 12 ≤ c))),
    -- CAN_WAKE
    (let s := tick T (modCan 0 (fun x => { x with st := .sleep }) base); let c : Nat := 0; let w : WakeSeen := .dominant 1000; (s.canCh c).st == .sleep && (wakeBy c (s.canCh c) w).1),
    -- CAN_WAKE
    (let s := tick T (base); let c : Nat := 0; let w : WakeSeen := default; !((s.canCh c).st == .sleep && (wakeBy c (s.canCh c) w).1)),
    -- TT_TRIGGER
    (let s := tick T (modCan 0 (fun x => { x with st := .errorActive, ttRun := true, tt := some { refId := 0, ntu := 100, cycle := 100, watch := 1, cycles := 1, triggers := [{ kind := 0, buffer := 0, mark := 0, rep := 1, offset := 0 }] } }) (modTim (fun x => { x with cfg := { x.cfg with ttcanCh := 1 } }) base)); let c : Nat := 0; let trigger : Nat := 0; s.mainOn && ((s.canCh c).tt.bind fun t => t.triggers[trigger]?).isSome && ttOn c s && (s.canCh c).ttRun && (s.canCh c).st.on),
    -- TT_REFERENCE
    (let s := tick T (modCan 0 (fun x => { x with st := .errorActive, ttRun := true, tt := some { refId := 0, ntu := 100, cycle := 100, watch := 1, cycles := 1, triggers := [{ kind := 0, buffer := 0, mark := 0, rep := 1, offset := 0 }] } }) (modTim (fun x => { x with cfg := { x.cfg with ttcanCh := 1 } }) base)); let c : Nat := 0; let r : TtRef := .received 0 0; let n : Nat := 0; let prio : Nat := 0; s.mainOn && r == .received n prio && (s.canCh c).tt.isSome && ttOn c s && (s.canCh c).st.on),
    -- TT_REFERENCE
    (let s := tick T (modCan 0 (fun x => { x with st := .errorActive, ttRun := true, tt := some { refId := 0, ntu := 100, cycle := 100, watch := 1, cycles := 1, triggers := [{ kind := 0, buffer := 0, mark := 0, rep := 1, offset := 0 }] } }) (modTim (fun x => { x with cfg := { x.cfg with ttcanCh := 1 } }) base)); let c : Nat := 0; s.mainOn && (s.canCh c).tt.isSome && ttOn c s && (s.canCh c).st.on),
    -- ADDRESS_CLAIM_MESSAGE
    (let s := tick T (modCan 0 (fun x => { x with st := .errorActive, claim := some (1, 0, 0, 0) }) base); let c : Nat := 0; let m : ClaimMsg := .request; s.mainOn && m == .request && (s.canCh c).claim.isSome && (s.canCh c).st.on),
    -- ADDRESS_CLAIM_MESSAGE
    (let s := tick T (modCan 0 (fun x => { x with st := .errorActive, claim := some (1, 0, 0, 0) }) base); let c : Nat := 0; s.mainOn && (s.canCh c).claim.isSome && (s.canCh c).st.on),
    -- RECEIVE_ERROR
    (let s := tick T (modCan 0 (fun x => { x with st := .errorActive }) base); let c : Nat := 0; s.mainOn && (!(12 ≤ c || !(s.canCh c).st.on))),
    -- RECESSIVE_BITS_DETECTED
    (let s := tick T (modCan 0 (fun x => { x with joining := true }) base); let c : Nat := 0; s.mainOn && ((s.canCh c).joining))].all id = true := by decide +kernel

/-- Witnesses for `FltEventsOccur`; a clause without a condition is met by `base`. -/
theorem witness_fltEventsOccur : [
    -- EXCHANGE_INSTANT
    (let s := tick T (modFlt (fun x => { x with cfg := { x.cfg with enable := true }, key := none }) base); s.mainOn && !(!fltNow s)),
    -- FLEET_DATAGRAM
    (let s := tick T (modFlt (fun x => { x with cfg := { x.cfg with enable := true }, key := none }) base); s.mainOn && !(!fltOn s)),
    -- DTLS_HANDSHAKE
    (let s := tick T (modFlt (fun x => { x with cfg := { x.cfg with enable := true }, key := some [], members := [{ kind := 1 }] }) base); let m : Nat := 0; s.mainOn && (!(!fltOn s || s.sum.randomFault || s.id.summitLost || 16 ≤ m || (s.member m).kind == 0 || s.flt.key.isNone))),
    -- MEMBER_TIMEOUT
    (let s := tick T (modFlt (fun x => { x with cfg := { x.cfg with enable := true }, key := none }) base); s.mainOn && (fltOn s)),
    -- GRANT_TIMEOUT
    (let s := tick T (modFlt (fun x => { x with cfg := { x.cfg with enable := true }, key := none }) base); s.mainOn && fltOn s && fltNow s),
    -- LOST_HOLD_EXPIRY
    (let s := tick T (modFlt (fun x => { x with cfg := { x.cfg with enable := true }, key := none }) base); s.mainOn && fltOn s && fltNow s),
    -- HAZARD_EXPIRY
    (let s := tick T (modTim (fun x => { x with st := .locked }) base); s.mainOn && !(timeFree s))].all id = true := by decide +kernel

/-- Witnesses for `ColEventsOccur`; a clause without a condition is met by `base`. -/
theorem witness_colEventsOccur : [
    -- PERIOD_START
    (let s := tick T (base.setPart 0 { part0 with st := .stopped, run := some { start := true } }); let n : Nat := 0; s.mainOn && startsNow n s),
    -- DONE_WRITE
    (let s := tick T (base.setPart 0 { part0 with inPeriod := true }); let n : Nat := 0; let value : Nat := 0; s.mainOn && (s.part n).st == .running && (s.part n).inPeriod && value == (s.part n).periodNo),
    -- COMMIT_COMPLETE
    (let s := tick T (base.setPart 0 { part0 with committing := true }); let n : Nat := 0; s.mainOn && (s.part n).committing),
    -- WCET_EXPIRY
    (let s := tick T (base.setPart 0 { part0 with inPeriod := true }); let n : Nat := 0; s.mainOn && ((s.part n).inPeriod)),
    -- RESTORE_COMPLETE
    (let s := tick T ({ base with col := { base.col with restoring := [(0, default)] } }); let pair : Nat := 0; s.mainOn && s.col.restoring.any fun e => e.1 == pair),
    -- SPARE_CHECK
    (let s := tick T ({ base with col := { base.col with pairs := [.spare] } }); let pair : Nat := 0; let good : Bool := false; s.mainOn && (!(good || s.col.pairs.getD pair .excluded != .spare))),
    -- COMMIT_MIRROR_RECEIVED
    (let s := tick T ({ base with id := { base.id with role := .deputy } }); s.mainOn && (!(!(s.id.role == .deputy || s.id.role == .displaced)))),
    -- HEARTBEAT_SEND
    (let s := tick T (base); s.mainOn && (s.acting && !(s.id.clockFail || s.pwr.saving || s.pwr.st == .off || s.pwr.st == .sleep))),
    -- HEARTBEAT_SEND
    (let s := tick T ({ base with id := { base.id with role := .worker } }); s.mainOn && !s.acting),
    -- MANAGER_LOST
    (let s := tick T ({ base with col := { base.col with lastHeartbeat := some 0 } }); s.mainOn && (s.col.lastHeartbeat.any fun t => decide (t + 500 * us ≤ s.time))),
    -- PEER_DISCOVERY
    (let s := tick T (base); s.mainOn && s.id.index.isSome)].all id = true := by decide +kernel

/-- Witnesses for `MemDmaCrnEventsOccur`; a clause without a condition is met by `base`. -/
theorem witness_memDmaCrnEventsOccur : [
    -- SCRUB_READ
    (let s := tick T (base); let line : Nat := 0; s.mainOn && (areaOf (lineOf line) == .sram || areaOf (lineOf line) == .mram || (areaOf (lineOf line) == .dram && !s.pwr.scrubPaused))),
    -- SCRUB_DUE
    (let s := tick T (base); s.mainOn && !s.mem.scrubLate && passOverdue s),
    -- DMA_START
    (let s := tick T (base); let c : Nat := 0; let n : Nat := 0; s.mainOn && (!ownsCh c n s || (s.dch c).st == .running || (s.dch c).st == .idleAtTail)),
    -- DMA_START
    (let s := tick T (modCh 0 (fun x => { x with owner := 0, enabled := true }) base); let c : Nat := 0; let n : Nat := 0; s.mainOn && (ownsCh c n s && !((s.dch c).st == .running || (s.dch c).st == .idleAtTail) && (s.dch c).enabled)),
    -- DMA_ABORT
    (let s := tick T (base); let c : Nat := 0; let n : Nat := 0; s.mainOn && !ownsCh c n s),
    -- DMA_ABORT
    (let s := tick T (modCh 0 (fun x => { x with owner := 0, st := .running }) base); let c : Nat := 0; let n : Nat := 0; s.mainOn && (ownsCh c n s && ((s.dch c).st == .running || (s.dch c).st == .idleAtTail))),
    -- CH_DOORBELL
    (let s := tick T (base); let c : Nat := 0; let n : Nat := 0; s.mainOn && !ownsCh c n s),
    -- CH_DOORBELL
    (let s := tick T (modCh 0 (fun x => { x with owner := 0, st := .running }) base); let c : Nat := 0; let n : Nat := 0; s.mainOn && ownsCh c n s && (s.dch c).st == .running),
    -- CH_DOORBELL
    (let s := tick T (modCh 0 (fun x => { x with owner := 0, st := .idleAtTail }) base); let c : Nat := 0; let n : Nat := 0; s.mainOn && ownsCh c n s && (s.dch c).st == .idleAtTail),
    -- DESCRIPTOR_COMPLETE
    (let s := tick T (modCh 0 (fun x => { x with owner := 0, st := .running, desc := some {} }) base); let ch : Nat := 0; s.mainOn && (s.dch ch).desc.isSome && (s.dch ch).st == .running),
    -- CAIRN_EVENT_ACCEPT
    (let s := tick T ({ base with crn := { base.crn with raised := [default] } }); !s.crn.raised.isEmpty),
    -- RECORD_WRITTEN
    (let s := tick T ({ base with crn := { base.crn with mounted := true } }); !(!s.crn.mounted || !s.summitOn)),
    -- CURSOR_TIMEOUT
    (let s := tick T ({ base with crn := { base.crn with cursors := [some { port := 0, part := 0, next := 0 }] } }); let k : Nat := 0; (s.crn.cursors.getD k none).any fun c => decide (c.lastRead + 600 * sec ≤ s.time)),
    -- HALF_COMPLETION
    (let s := tick T (modCh 0 (fun x => { x with owner := 0, st := .running, desc := some {} }) base); let ch : Nat := 0; s.mainOn && (s.dch ch).desc.isSome && (s.dch ch).st == .running && !(s.dch ch).halfDone)].all id = true := by decide +kernel

/-- Witnesses for `UpdPwrEventsOccur`; a clause without a condition is met by `base`. -/
theorem witness_updPwrEventsOccur : [
    -- COMPONENT_INSTALLED
    (let s := tick T (modUpd (fun x => { x with st := .installing, queue := [(0, 0)], manifest := some { setId := 1, setVersion := 1, hwMin := 0, hwMax := 9, image := 7, pieces := 2, comps := [default] } }) base); s.mainOn && !s.id.summitLost && s.upd.st == .installing && !s.upd.queue.isEmpty && s.upd.manifest.isSome),
    -- ROLLBACK_RAISE
    (let s := tick T (modUpd (fun x => { x with st := .committing, image := 7, active := { x.active with image := 7 }, manifest := some { setId := 1, setVersion := 1, hwMin := 0, hwMax := 9, image := 7, pieces := 2, comps := [default] } }) base); s.mainOn && (s.upd.st == .committing && s.upd.manifest.isSome && !s.id.summitLost && s.pwr.ready && s.pwr.selftest == 0 && s.upd.active.image == s.upd.image
        && (!updManager s || s.id.peers.all fun p => p.image == s.upd.active.image))),
    -- PENDING_RESOLVE
    (let s := tick T (modUpd (fun x => { x with pending := 7 }) ({ base with id := { base.id with role := .worker } })); s.mainOn && (!(updManager s || s.id.summitLost))),
    -- POWER_STEP_COMPLETE
    (let s := tick T (modPwr (fun x => { x with st := .standby, move := some { target := .sleep } }) base); s.pwr.move.isSome && s.pwr.st == .standby),
    -- POWER_STEP_COMPLETE
    (let s := tick T (modPwr (fun x => { x with st := .idle, move := some { target := .standby } }) { base with col := {} }); s.pwr.st == .idle && s.pwr.move.any (fun m => decide (m.target.code < 3)) && (runningParts s).isEmpty),
    -- DRAIN_END
    (let s := tick T (modPwr (fun x => { x with st := .run, move := some { target := .idle, drainUntil := some 0 } }) base); s.mainOn && (draining s && drained s)),
    -- DRAIN_TIMEOUT
    (let s := tick T (modPwr (fun x => { x with st := .run, move := some { target := .idle, drainUntil := some 0 } }) base); s.mainOn && (draining s && s.pwr.move.any (fun m => m.drainUntil.any fun t => decide (t ≤ s.time)))),
    -- IGN_EDGE
    (let s := tick T (base); let rising : Bool := true; rising && s.pwr.st != .off),
    -- IGN_EDGE
    (let s := tick T (base); let rising : Bool := false; !rising && s.pwr.st != .off),
    -- WAKE_EDGE
    (let s := tick T (base); let rising : Bool := true; rising && s.pwr.st != .off),
    -- WAKE_EDGE
    (let s := tick T (base); let rising : Bool := false; !rising && s.pwr.st != .off),
    -- SUMMIT_ALARM
    (let s := tick T (modPwr (fun x => { x with st := .sleep, alarmAt := some 0 }) base); (s.pwr.st == .sleep && s.pwr.alarmAt.any fun t => decide (t ≤ s.time))),
    -- SUPPLY_FAILURE
    (let s := tick T (modPwr (fun x => { x with paths := [] }) base); !(s.pwr.st == .off || !supplyFailed s)),
    -- BANK_MEASUREMENT
    (let s := tick T (base); !(s.pwr.st == .off || s.id.summitLost)),
    -- THERMAL_BUDGET
    (let s := tick T (base); !(!s.summitOn)),
    -- LIMIT_INSUFFICIENT
    (let s := tick T (modPwr (fun x => { x with overSince := some 0 }) base); s.mainOn && heldFor s.pwr.overSince s.time (10 * sec) && !s.pwr.limitSent)].all id = true := by decide +kernel

/-- Witnesses for `SumEventsOccur`; a clause without a condition is met by `base`. -/
theorem witness_sumEventsOccur : [
    -- CLOCK_WINDOW
    (let s := tick T (base); !(s.id.summitLost || !s.mainOn)),
    -- PLL_LOSS_OF_LOCK
    (let s := tick T (base); !(s.id.summitLost || !s.mainOn)),
    -- STRAP_READ
    (let s := tick T ({ base with id := { base.id with index := some 0 } }); let v : Nat := 1; let i : Nat := 0; s.id.index == some i && !s.id.summitLost && v % 8 != i && s.id.straps != some (v % 8)),
    -- SUMMIT_HEARTBEAT
    (let s := tick T (base); let arrived : Bool := true; s.mainOn && arrived),
    -- SUMMIT_HEARTBEAT
    (let s := tick T (base); let arrived : Bool := false; s.mainOn && !arrived && s.sum.heartbeat + 10 * ms ≤ s.time),
    -- SUMMIT_OSC_CHECK
    (let s := tick T (modTim (fun x => { x with st := .locked }) base); let count : Nat := 0; s.mainOn && !s.id.summitLost && s.tim.st == .locked && (count + 10000 < 50000000 || 50010000 < count)),
    -- SUMMIT_OSC_CHECK
    (let s := tick T (base); let count : Nat := 0; s.mainOn && !s.id.summitLost && !(s.tim.st == .locked && (count + 10000 < 50000000 || 50010000 < count))),
    -- HEALTH_PUBLISH
    (let s := tick T (base); !(!s.summitOn)),
    -- SHOCK_EVENT
    (let s := tick T (base); let peak : Rat := 1000000; let us : Nat := 500; !(!s.summitOn || us < 500 || decide (peak ≤ f32d s.sum.cfg.shockThr))),
    -- HUMIDITY_ALERT
    (let s := tick T (base); s.summitOn),
    -- RANDOM_SOURCE_FAULT
    (let s := tick T (base); !(!s.summitOn || s.sum.randomFault)),
    -- REGION_RECOMPOSE
    (let s := tick T (base); let r : Nat := 0; !(s.id.summitLost || 3 < r || !regionOn r s)),
    -- WAVEFORM_START
    (let s := tick T (base); !(s.sum.retryAt.isSome)),
    -- WAVEFORM_COMPLETE
    (let s := tick T (modSum (fun m => { m with busy := some (0, true), regions := [{ started := some 0 }] }) base); let r : Nat := 0; let clean : Bool := true; s.summitOn && s.sum.busy == some (r, clean) && (s.region r).started.any (fun t => decide (t + waveTime r clean ≤ s.time))),
    -- BIAS_RETRY
    (let s := tick T (modSum (fun m => { m with retryAt := some 0 }) base); (s.sum.retryAt.any fun t => decide (t ≤ s.time)))].all id = true := by decide +kernel

/-! ## Witnesses: the other statements -/

theorem witness_stepRunsTheFront : State.reset.pending = [] := rfl

/-- Witnesses for `SupplyOnStartsAnew`: a start-up that is due, and one that is not. -/
theorem witness_supplyOnStartsAnew :
    startDue (tick (10 * ms) (modPwr (fun p => { p with st := .off, sawSupplyLost := true, highSince := some 0 }) base)) = true ∧ startDue (tick 1 base) = false := by
  decide +kernel

/-- Witnesses for `EveryCommandCompletes`: a supply-on start-up and an event that is none. -/
theorem witness_everyCommandCompletes :
    (∃ t b, (Instr.supplyOnStartUp 0 default) = .supplyOnStartUp t b) ∧ ∀ t b, Instr.diOutChange 0 0 [59] ≠ .supplyOnStartUp t b :=
  ⟨⟨0, default, rfl⟩, fun _ _ h => Instr.noConfusion h⟩

/-- A witness for `ChronologyKept`: two reports wait in their order. -/
theorem witness_chronologyKept :
    let s : State := { base with pending := [.authFailReport 5, .forcedPublish 7] }
    chronological s ∧ ∃ u, step s = .next u :=
  ⟨⟨by decide, by decide +kernel⟩, _, rfl⟩

/-- Witnesses for `RefusedCommandsHaveNoEffect`: each command with a target that no command has. -/
theorem witness_refusedCommandsHaveNoEffect : ([
    (.sysIdent, chkSysIdent, 0), (.sysStatus, chkSysStatus, 0), (.sysSessionOpen, chkSysSessionOpen, 32),
    (.sysSessionClose, chkSysSessionClose, 0), (.sysCreditSet, chkSysCreditSet, 4), (.sigRead, chkSigRead, 4),
    (.sigWrite, (fun r t => writeChecks r producerOf t), 32), (.sigRouteSet, chkSigRouteSet, 32), (.sigForce, chkSigForce, 16),
    (.funConfig, chkFunConfig, 244), (.funEnable, chkFunEnable, 0), (.funDisable, chkFunDisable, 4),
    (.funSourceSet, chkFunSourceSet, 4), (.funState, chkFunState, 0), (.funClear, chkFunClear, 0),
    (.funInterlockSet, chkFunInterlockSet, 32), (.funAutoSet, chkFunAutoSet, 20), (.culConfig, chkCulConfig, 48),
    (.culStageSet, chkCulStageSet, 68), (.culSensorSet, chkCulSensorSet, 16), (.culStart, chkCulStart, 0),
    (.culStop, chkCulStop, 4), (.culStatus, chkCulStatus, 0), (.culLedgerRead, chkCulLedgerRead, 8), (.culCalRun, chkCulCalRun, 4),
    (.senChannelSet, chkSenChannelSet, 20), (.senClassWrite, chkSenClassWrite, 68), (.senTrain, chkSenTrain, 8),
    (.senChannelRead, chkSenChannelRead, 0), (.senCropSet, chkSenCropSet, 52), (.senYieldConfig, chkSenYieldConfig, 64),
    (.senCalLoad, chkSenCalLoad, 8), (.senStatus, chkSenStatus, 0), (.mapFieldOpen, chkMapFieldOpen, 32),
    (.mapFieldClose, chkMapFieldClose, 0), (.mapConfig, chkMapConfig, 36), (.mapTileRead, chkMapTileRead, 12),
    (.mapStatus, chkMapStatus, 0), (.mapExport, chkMapExport, 8), (.mapExportRead, chkMapExportRead, 12),
    (.gdeConfig, chkGdeConfig, 140), (.gdeLineWrite, chkGdeLineWrite, 32), (.gdeLineSelect, chkGdeLineSelect, 8),
    (.gdeEngage, chkGdeEngage, 0), (.gdeDisengage, chkGdeDisengage, 4), (.gdeStatus, chkGdeStatus, 0),
    (.gdeWasCal, chkGdeWasCal, 8),
    (.lpeLoopConfig, (fun r t => chkLpeLoopConfig (fun loc part s => producerOf loc s == some part) r t), 48),
    (.lpeLoopRun, (fun r t => chkLpeLoopRun loopDest r t), 4), (.lpeBankWrite, chkLpeBankWrite, 8),
    (.lpeBankSwap, chkLpeBankSwap, 4), (.lpeLoopStatus, chkLpeLoopStatus, 0), (.lpeTraceSet, chkLpeTraceSet, 40),
    (.lpeTraceRead, chkLpeTraceRead, 4), (.lpeEngineStatus, chkLpeEngineStatus, 0), (.vlvConfig, chkVlvConfig, 96),
    (.vlvDrive, chkVlvDrive, 4), (.vlvStatus, chkVlvStatus, 0), (.vlvClear, chkVlvClear, 0),
    (.vlvGroupStatus, chkVlvGroupStatus, 0), (.fioDiConfig, chkFioDiConfig, 16), (.fioAiConfig, chkFioAiConfig, 16),
    (.fioDoConfig, chkFioDoConfig, 4), (.fioDoClear, chkFioDoClear, 0), (.fioStatus, chkFioStatus, 0),
    (.gnsConfig, (fun r t => chkGnsConfig gdeSteering r t), 56), (.gnsRtcmPut, chkGnsRtcmPut, 4),
    (.gnsRawLatch, chkGnsRawLatch, 0), (.gnsTest, chkGnsTest, 4), (.gnsRestart, (fun r t => chkGnsRestart gdeSteering r t), 4),
    (.gnsStatus, chkGnsStatus, 0), (.gnsChannelRead, chkGnsChannelRead, 8), (.timConfig, chkTimConfig, 32),
    (.timStatus, chkTimStatus, 0), (.timConvert, chkTimConvert, 16), (.timEpochSet, chkTimEpochSet, 16),
    (.fusConfig, (fun r t => chkFusConfig fusBusy r t), 64), (.fusFrameSet, (fun r t => chkFusFrameSet fusBusy r t), 64),
    (.fusFrameRead, chkFusFrameRead, 4), (.fusGroupSet, (fun r t => chkFusGroupSet gdeSteering r t), 48),
    (.fusSourceSet, chkFusSourceSet, 8), (.fusStatus, chkFusStatus, 0), (.fusTrackRead, chkFusTrackRead, 4),
    (.camLinkSet, chkCamLinkSet, 20), (.camPipeSet, chkCamPipeSet, 164), (.camPairSet, chkCamPairSet, 8),
    (.camFsyncSet, chkCamFsyncSet, 8), (.camSensorWrite, chkCamSensorWrite, 28), (.camVaSet, chkCamVaSet, 40),
    (.canConfig, chkCanConfig, 40), (.canBufferSet, chkCanBufferSet, 12), (.canFilterSet, chkCanFilterSet, 12),
    (.canPower, chkCanPower, 20), (.canRecover, chkCanRecover, 0), (.canTtSet, chkCanTtSet, 16), (.canClaim, chkCanClaim, 12),
    (.canStatus, chkCanStatus, 0), (.fltConfig, chkFltConfig, 44), (.fltKeySet, chkFltKeySet, 32),
    (.fltMemberSet, chkFltMemberSet, 20), (.fltHazardSet, chkFltHazardSet, 36), (.fltLine, chkFltLine, 6),
    (.fltUnload, chkFltUnload, 4), (.fltStatus, chkFltStatus, 0), (.colPartitionConfig, chkColPartitionConfig, 32),
    (.colInputSet, chkColInputSet, 8), (.colAdmit, chkColAdmit, 0), (.colPartitionRun, chkColPartitionRun, 4),
    (.colStatus, chkColStatus, 0), (.colPartitionStatus, chkColPartitionStatus, 0), (.colRoleReturn, chkColRoleReturn, 0),
    (.colInject, chkColInject, 0), (.memStatus, chkMemStatus, 0), (.memScrubConfig, chkMemScrubConfig, 12),
    (.memRegionSet, chkMemRegionSet, 24), (.memDeviceFail, chkMemDeviceFail, 4), (.memRemapClear, chkMemRemapClear, 4),
    (.memInject, chkMemInject, 16), (.dmaChannelSet, chkDmaChannelSet, 4), (.dmaStatus, chkDmaStatus, 0),
    (.crnStatus, chkCrnStatus, 0), (.crnCursorOpen, chkCrnCursorOpen, 16), (.crnRead, chkCrnRead, 4),
    (.crnCursorClose, chkCrnCursorClose, 0), (.crnClear, chkCrnClear, 4), (.crnAppWrite, chkCrnAppWrite, 4),
    (.updBegin, chkUpdBegin, 16), (.updPiece, chkUpdPiece, 17), (.updStatus, chkUpdStatus, 0), (.updMissing, chkUpdMissing, 4),
    (.updInstall, chkUpdInstall, 0), (.updCommit, chkUpdCommit, 4), (.updAbort, chkUpdAbort, 0), (.pwrSet, chkPwrSet, 8),
    (.pwrConfig, chkPwrConfig, 88), (.pwrStatus, chkPwrStatus, 0), (.sumStatus, chkSumStatus, 0), (.sumConfig, chkSumConfig, 20),
    (.sumKeySet, chkSumKeySet, 104), (.sumWindowText, chkSumWindowText, 44)] : List (Op × (Req → State → List (Bool × Status)) × Nat)).all
    (fun x => meets x.1 (fun r t => (x.2.1 r t).any (·.1)) (pk x.1 0x12345678 (zeros x.2.2)) base) = true := by decide +kernel

/-- Witnesses for `OnlyTheActingManagerRunsThem`: each command on a worker. -/
theorem witness_onlyTheActingManagerRunsThem : ([
    (.culConfig, 48), (.culStageSet, 68), (.culSensorSet, 16), (.culStart, 0), (.culStop, 4), (.culLedgerRead, 8), (.culCalRun, 4),
    (.mapFieldOpen, 32), (.mapFieldClose, 0), (.mapConfig, 36), (.mapTileRead, 12), (.mapExport, 8), (.mapExportRead, 12),
    (.gdeConfig, 140), (.gdeLineWrite, 32), (.gdeLineSelect, 8), (.gdeEngage, 0), (.gdeDisengage, 4), (.gdeWasCal, 8),
    (.fltConfig, 44), (.fltKeySet, 32), (.fltMemberSet, 20), (.fltHazardSet, 36), (.fltLine, 6), (.fltUnload, 4)] : List (Op × Nat)).all
    (fun x => meets x.1 (fun _ t => !t.acting) (pk x.1 0 (zeros x.2)) { base with id := { base.id with role := .worker } }) = true := by
  decide +kernel

/-- Witnesses for `NoPacketWithoutPower` and `EveryPacketIsOneCommand`. -/
theorem witness_noPacketWithoutPower :
    (Instr.sysIdent {}).packet = some {} ∧ reachable_ (tick 0 (modPwr (fun p => { p with st := .off }) base)) = false := by decide +kernel

/-- Witnesses for `BrokenPacketsDoNotRun`: a header that names 4,073 bytes; a frame one byte short; a wrong trailer. -/
theorem witness_brokenPacketsDoNotRun :
    (reachable_ (tick 0 base) && !replays ({ via := .mailbox 0 } : Packet) base && !replays ({ via := .svc } : Packet) base
      && decide (base.sys.arrived = []) && !moreNow (tick 0 base)
      && decide (arrival 0x0101 (normal { via := .mailbox 0, length := 4073 } (tick 0 base)) (tick 0 base) = .on 0 false)
      && decide (arrival 0x0101 (normal { via := .svc, rxLength := 19 } (tick 0 base)) (tick 0 base) = .on 0x88 true)
      && !crcOk 0x0101 (normal { via := .mailbox 0 } (tick 0 base))) = true := by decide +kernel

/-- Witnesses for `FinalReplyFreesTagAndCredit` and `QueueLimitsEndWaitingCommands`: two commands in flight on a port, neither started. -/
theorem witness_finalReplyFreesTagAndCredit :
    let f : Flight := { (default : Flight) with req := { (default : Req) with p := { tag := 1 } } }
    let s : State := { base with sys := { base.sys with flights := [default, f] } }
    f ∈ s.sys.flights ∧ ¬(f.req.port = (default : Flight).req.port ∧ f.req.p.tag = (default : Flight).req.p.tag)
      ∧ s.flight 0 1 = some f ∧ f.started = false ∧ f.admitted + queueLimit (f.req.p.flags.toNat % 4) ≤ max s.time T := by decide +kernel

/-- A reply of partition 0 under a tag, with its trailer. -/
def answer (tag : Nat) : Packet :=
  let p : Packet := { via := .mailbox 0, tag := tag }
  { p with crc := BitVec.ofNat 32 (Crypto.crc32c (replyHeader 0x0380 0 p 0)) }

/-- Witnesses for `UnawaitedRepliesAreCounted`: of two replies on one port, one has a tag that is awaited there. -/
theorem witness_unawaitedRepliesAreCounted :
    let s : State := { base with sys := { base.sys with awaiting := [(0, 7, 1)] } }
    s.mainOn = true ∧ reachable_ (tick 0 s) = true ∧ arrival 0 (normal (answer 7) (tick 0 s)) (tick 0 s) = .on 0 false
      ∧ answered (normal (answer 7) (tick 0 s)) 0x0380 0 0 (tick 0 s) = some (0, 7, 1)
      ∧ arrival 0 (normal (answer 8) (tick 0 s)) (tick 0 s) = .on 0 false
      ∧ (∀ a ∈ s.sys.awaiting, ¬(a.1 = 0 ∧ a.2.1 = (answer 8).tag))
      ∧ answered (normal (answer 8) (tick 0 s)) 0x0380 0 0 (tick 0 s) = none := by decide +kernel

/-- Witnesses for `SessionCountersAreRebuilt`, at both ends of the window and for a packet that is accepted. -/
theorem witness_sessionCountersAreRebuilt :
    acceptedCounter 0x0104 (pkS (unit 1 0) [] 0xBDBCDB19 0xBF6F1244) { port := 0x88, sk := zeros 16, halfOpen := false } = some 1
      ∧ rebuildCounter 70000 (70000 % 65536) = 70000 ∧ rebuildCounter 70000 ((70000 - 63) % 65536) = 70000 - 63
      ∧ rebuildCounter 70000 ((70000 - 64) % 65536) = 70000 - 64 + 65536 := by decide +kernel

/-- A witness for `NoPortExceedsItsLimit`: a packet that passes steps 1 to 7, and so becomes the dispatcher's last winner
(`ArbitrationPicksTheNextOfTheTop`). -/
theorem witness_noPortExceedsItsLimit :
    (match gate .sysIdent (pk .sysIdent (unit 1 0) []) base with | .go _ _ => true | .stop _ => false) = true := by decide +kernel

/-- An address on ETH2 that holds a session with a command in flight. -/
def heldAddress : State :=
  { base with
    sys := { base.sys with sessions := [{ port := 0x80, ip := 9, udp := 5000 }], flights := [{ (default : Flight) with req := { (default : Req) with port := 0x80, p := { tag := 5 } } }] } }

/-- A second open from it. -/
def openAgain : Packet :=
  let p : Packet := { via := .eth 2 9 5000, dstPort := 47301, tag := 1, flags := 4, target := BitVec.ofNat 32 (unit 1 0), length := 32, payload := zeros 32, rxLength := 52 }
  { p with crc := BitVec.ofNat 32 (Crypto.crc32c (commandHeader 0x0103 p 0 ++ zeros 32)) }

/-- A witness for the last clause of `NoPortExceedsItsLimit`. -/
theorem witness_openClosesItsSession :
    (match gate .sysSessionOpen openAgain heldAddress with
      | .go r _ => r.ctr.isNone && decide (r.op = .sysSessionOpen ∧ r.p.via = .eth 2 9 5000) && (addrSession 2 9 5000 heldAddress).isSome
        && ((chkSysSessionOpen r heldAddress).find? (·.1)).isNone
      | .stop _ => false) = true := by decide +kernel

/-- Witnesses for `ArbitrationPicksTheNextOfTheTop`: packets of two ports have arrived in one instant. -/
theorem witness_arbitrationPicksTheNextOfTheTop :
    let s : State := { base with sys := { base.sys with arrived := [(.sysIdent, { via := .mailbox 0 }), (.sysIdent, { via := .svc, rxLength := 20 })] } }
    s.sys.arrived ≠ [] ∧ (∀ y ∈ s.sys.arrived, (contender s y).isSome = true) ∧ ((s.sys.arrived.filterMap (contender s)).map (·.1)).Nodup := by
  decide +kernel

/-- Witnesses for `PublicationsTouchOneRecord`: a manager publishes; a worker that no machine number has reached does not. -/
theorem witness_publicationsTouchOneRecord :
    base.mayPublish = true ∧ ({ base with id := { base.id with role := .worker, machine := 0xFF } } : State).mayPublish = false := by decide +kernel

/-- Witnesses for `DerivedQualityIsTheWorst`, and two locals for `PublicationsTouchOneRecord`. -/
theorem witness_derivedQualityIsTheWorst :
    [Quality.valid, .stale] ≠ [] ∧ Quality.noValue.zeroConf = true ∧ (145 : Nat) ≠ 144 ∧ (7 : Nat) ∈ [9, 7] := by decide

/-- Witnesses for `ClockWindowsDeclareFailure`: a good window, a bad one and the third bad one in a row. -/
theorem witness_clockWindowsDeclareFailure :
    (base.mainOn && !base.id.summitLost && decide (600000 ≤ 599700 + 300 ∧ 599699 + 300 < 600000 ∧ 600300 < 600301)
      && decide (2 ≤ ({ base with id := { base.id with badWindows := 2 } } : State).id.badWindows)) = true := by decide +kernel

/-- A witness for `WholeLineStoreThenLoad`: a line of DRAM in no region. -/
theorem witness_wholeLineStoreThenLoad :
    let a : MemAccess := { (default : MemAccess) with addr := 0x100000000, size := 64, store := some (List.replicate 64 5) }
    (base.mainOn && memoryWf base && areaOf a.addr == .dram && a.addr % 64 == 0 && (base.regionOf a.addr).isNone
      && !base.lineExcluded a.addr && (base.remapOf a.addr).isNone) = true := by decide +kernel

/-- Witnesses for `OtherStoresToMemoryAreRefused` and `UnmappedAndCairnAccessesAreRefused`, at the ends of the areas. -/
theorem witness_otherStoresToMemoryAreRefused :
    (areaOf 8 == .dram && areaOf (sramBase + 2) == .sram && areaOf (mramBase + 4) == .mram && areaOf 0xFFFFFFFFFFFF == .unmapped
      && decide (mramBase ≤ cairnEnd - 1 ∧ (default : MemAccess).agent ≠ 0x70)) = true := by decide +kernel

/-- A witness for `MemoryStaysCanonical`. -/
theorem witness_memoryStaysCanonical : memoryWf State.reset = true := by decide +kernel

/-- Witnesses for `OverrunsDiscardThePeriod`: a period that runs, after two overruns in a row. -/
theorem witness_overrunsDiscardThePeriod :
    let s := base.setPart 0 { part0 with inPeriod := true, consecutive := 2 }
    s.mainOn = true ∧ (s.part 0).inPeriod = true ∧ 2 ≤ (s.part 0).consecutive := by decide +kernel

/-- A witness for `SupplyFailureEndsInOff`. -/
theorem witness_supplyFailureEndsInOff :
    let s := modPwr (fun p => { p with paths := [{ st := .lost }, { st := .lost }] }) base
    s.pwr.st ≠ .off ∧ supplyFailed s = true := by decide +kernel

/-! ## Results that the spec works out -/

/-- Ridgeline handle 305 of machine 3, module 2 (chapter 00). -/
theorem test_handle : ({ base with id := { base.id with machine := 3, index := some 2 } } : State).handle 305 = 0x00034131 := by decide +kernel

/-- The check value of CRC-32C with the parameters of R59. -/
theorem test_crc32c : Crypto.crc32c ("123456789".toList.map fun c => BitVec.ofNat 8 c.toNat) = 0xE3069283 := by decide +kernel

/-- The example of R314: 30 minutes of holdover after an hour LOCKED, entered at 40 ns, end at 958.8 ns. -/
theorem test_holdover : holdoverU { yr := 1 / 4, u0 := 40, holdSince := some 0 } (1800 * sec) = 95874988 / 100000 := by decide +kernel

/-- The patterns of R451: normal mode, then erasure of device 3. -/
theorem test_decode :
    decodePat none [(7, 4)] = .corrected 7 ∧ decodePat none [(0, 1), (1, 1)] = .uncorrectable
      ∧ decodePat (some 3) [(3, 4), (5, 1), (8, 1)] = .correctedMany
      ∧ decodePat (some 3) [(3, 4), (0, 1), (5, 1), (8, 1)] = .uncorrectable := by decide +kernel

/-- The first cycles of the example of R56: 0x22 wins at 2, then 0x05 at 3. -/
theorem test_arbitration :
    let s : State := { base with sig := { base.sig with lastWinner := [((0, 2), 0x20)] } }
    let a := arbitrate 0 [(0x03, 2), (0x22, 2), (0x42, 2)] s
    let b := arbitrate 0 [(0x03, 2), (0x42, 2), (0x05, 3)] a.2
    let c := arbitrate 0 [(0x03, 2), (0x42, 2)] b.2
    let d := arbitrate 0 [(0x03, 2)] c.2
    a.1 = some 0x22 ∧ b.1 = some 0x05 ∧ c.1 = some 0x42 ∧ d.1 = some 0x03 := by decide +kernel

/-- The test of R419 worked by hand for the partitions of chapter 18's example: costs 422.48, 1242.96 and 2083.92 µs give the
first two alone 422.48 and 1665.44 µs, and the third 4594.32 µs, more than 45 % of 10 ms (reason 2). -/
theorem test_admission :
    let a : Nat × PartCfg := (3, { period := 1, wcet := 400, dirtyMax := 4096 })
    let b : Nat × PartCfg := (5, { period := 3, wcet := 1200, dirtyMax := 8192 })
    (match admitTest [a, b] with | .ok l => l == [(3, 42248 / 100), (5, 166544 / 100)] | .error _ => false) = true
      ∧ (match admitTest [a, b, (7, { period := 3, wcet := 2000, dirtyMax := 16384 })] with
        | .ok _ => false | .error e => e == 2) = true := by decide +kernel

end Sys2Proof.Tests
end

/-! The statements of the scope: every row answers a next state, and a command that its own conditions refuse has no effect. -/
namespace Sys2Proof.Machine

/-! ## Every row answers a next state -/

/-- Every row but the supply-on start-up confines its effect: packet commands, events of the main domain and events of every power
state are all built on `within`. -/
theorem exec_within {i : Instr} (s : State) (hi : ∀ t b, i ≠ .supplyOnStartUp t b) :
    ∃ f, exec i s = .next (within i.time f s) := by
  cases i
  case supplyOnStartUp t b => exact absurd rfl (hi t b)
  all_goals exact ⟨_, rfl⟩

/-- A supply-on start-up, due or not, keeps the queue. -/
theorem exec_supplyOnStartUp_pending (t : Nat) (b : BootMeas) (s : State) :
    ∃ u, exec (.supplyOnStartUp t b) s = .next u ∧ u.pending = s.pending := ⟨_, rfl, rfl⟩

/-- Settles O3: `within` keeps the queue and moves module time on (log entry 2); a start-up, from which module time counts anew, is the
one row that is not built on it. -/
theorem everyCommandCompletes : Obligations.EveryCommandCompletes := by
  intro i s
  by_cases hi : ∀ t b, i ≠ .supplyOnStartUp t b
  · obtain ⟨f, hf⟩ := exec_within s hi
    exact ⟨within i.time f s, hf, rfl, fun _ => rfl⟩
  · push Not at hi
    obtain ⟨t, b, rfl⟩ := hi
    obtain ⟨u, hu, hq⟩ := exec_supplyOnStartUp_pending t b s
    exact ⟨u, hu, hq, fun h => absurd rfl (h t b)⟩

/-! ## A refused command has no effect -/

/-- A command whose rules end with the first of its conditions that holds, and then leave the state alone, is refused without effect. -/
theorem refuses_of_effOf {op : Op} {i : Packet → Instr} {chk : Req → State → List (Bool × Status)}
    (hi : ∀ p s, exec (i p) s = command op p s)
    (h : ∀ r s c, r.op = op → (chk r s).find? (·.1) = some c → effOf r s = (.fin c.2 [], s)) : Refuses op i chk := by
  intro p s r t c ht hc
  obtain ⟨hop, hx⟩ := command_taken ht
  rw [hi, hx, h r t c hop hc]

/-- A command whose rules are its conditions, checked in their order before anything else (R73 step 8), is refused without effect. -/
theorem refuses_of_check {op : Op} {i : Packet → Instr} {chk : Req → State → List (Bool × Status)}
    (hi : ∀ p s, exec (i p) s = command op p s)
    (h : ∀ p port ctr raw s, ∃ x, effOf ⟨op, p, port, ctr, raw⟩ s = check s (chk ⟨op, p, port, ctr, raw⟩ s) fun _ => x) :
    Refuses op i chk := by
  refine refuses_of_effOf hi fun r s c hop hc => ?_
  subst hop
  obtain ⟨x, hx⟩ := h r.p r.port r.ctr r.raw s
  rw [hx, check_refused hc]

/-- An effect that leaves the state alone poisons no line anew. -/
theorem newMarks_self (lines : List Nat) (s : State) : newMarks lines s s = s := by
  have hmarked : (s.mem.poison.filter fun l => !s.poisoned l) = [] := by simp [State.poisoned]
  have hbad : (lines.filter fun l => s.unreadable l && !s.unreadable l && !s.poisoned l) = [] := by simp
  simp only [newMarks, hmarked, hbad, List.append_nil, List.foldl_nil]

/-- `MEM_INJECT` marks what is kept in the lines it poisons; refused, it poisons none. -/
theorem memInject_refuses : Refuses .memInject .memInject chkMemInject := by
  refine refuses_of_effOf (fun _ _ => rfl) fun r s c hop hc => ?_
  have hx : effMemInject r s = (.fin c.2 [], s) := by simp only [effMemInject, check_refused hc]
  simp only [effOf, hop, hx, newMarks_self]

/-! The next four take a frame, group or source number from the target, as its distance from 0x100 or more. `rfl` would count that
distance, so their rules are unfolded by name. -/

theorem fusFrameSet_refuses : Refuses .fusFrameSet .fusFrameSet (fun r t => chkFusFrameSet fusBusy r t) :=
  refuses_of_effOf (fun _ _ => rfl) fun r s c hop hc => by simp only [effOf, hop, effFusFrameSet, check_refused hc]

theorem fusFrameRead_refuses : Refuses .fusFrameRead .fusFrameRead chkFusFrameRead :=
  refuses_of_effOf (fun _ _ => rfl) fun r s c hop hc => by simp only [effOf, hop, effFusFrameRead, check_refused hc]

theorem fusGroupSet_refuses : Refuses .fusGroupSet .fusGroupSet (fun r t => chkFusGroupSet gdeSteering r t) :=
  refuses_of_effOf (fun _ _ => rfl) fun r s c hop hc => by simp only [effOf, hop, effFusGroupSet, check_refused hc]

theorem fusSourceSet_refuses : Refuses .fusSourceSet .fusSourceSet chkFusSourceSet :=
  refuses_of_effOf (fun _ _ => rfl) fun r s c hop hc => by simp only [effOf, hop, effFusSourceSet, check_refused hc]

/-- Settles O6: every command's rules check its conditions before anything else, so `refuses_of_check` applies; `MEM_INJECT`, whose marks
come after them, and the four above have lemmas of their own. -/
theorem refusedCommandsHaveNoEffect : Obligations.RefusedCommandsHaveNoEffect := by
  unfold Obligations.RefusedCommandsHaveNoEffect
  simp only [memInject_refuses, fusFrameSet_refuses, fusFrameRead_refuses, fusGroupSet_refuses, fusSourceSet_refuses, true_and]
  repeat' apply And.intro
  all_goals exact refuses_of_check (fun _ _ => rfl) fun _ _ _ _ _ => ⟨_, rfl⟩

end Sys2Proof.Machine

/-! The module in the machine (chapters 01 and 02): the queue's chronology, publications, the main clock. -/
namespace Sys2Proof.Machine

/-! ## Chronology -/

/-- Whatever a command's row does, the queue behind it stays as it was. -/
theorem exec_keeps_pending {i : Instr} {s u : State} (h : exec i s = .next u) : u.pending = s.pending := by
  obtain ⟨v, hv, hq, -⟩ := everyCommandCompletes i s
  obtain rfl := Host.Outcome.next.inj (hv.symm.trans h)
  exact hq

/-- But for a supply-on start-up, a command moves module time to the later of itself and the command's time. -/
theorem exec_time_eq {i : Instr} {s u : State} (h : exec i s = .next u) (hi : ∀ t b, i ≠ .supplyOnStartUp t b) :
    u.time = max s.time i.time := by
  obtain ⟨v, hv, -, ht⟩ := everyCommandCompletes i s
  obtain rfl := Host.Outcome.next.inj (hv.symm.trans h)
  exact ht hi

/-- No command moves module time past the later of itself and the command's time: a start-up that is due moves it back to 0 (R28). -/
theorem exec_time_le {i : Instr} {s u : State} (h : exec i s = .next u) : u.time ≤ max s.time i.time := by
  by_cases hi : ∀ t b, i ≠ .supplyOnStartUp t b
  · exact (exec_time_eq h hi).le
  · push Not at hi
    obtain ⟨t, b, rfl⟩ := hi
    obtain rfl := Host.Outcome.next.inj h
    change (if startDue (tick t s) then 0 else max s.time t) ≤ max s.time t
    split
    · exact Nat.zero_le _
    · exact le_refl _

/-- In a chronological queue the front is not before module time, and no command behind it is before the front. -/
theorem chronological_front {s : State} {c : Instr} {q : List Instr} (hs : chronological s) (hq : s.pending = c :: q) :
    s.time ≤ c.time ∧ ∀ d ∈ q, c.time ≤ d.time := by
  obtain ⟨hord, hall⟩ := hs
  rw [hq] at hord hall
  exact ⟨(hall c List.mem_cons_self).1, (List.pairwise_cons.mp hord).1⟩

/-- The rest of a chronological queue is chronological as long as module time has not passed the front. -/
theorem chronological_rest {s u : State} {c : Instr} {q : List Instr} (hs : chronological s) (hq : s.pending = c :: q)
    (hu : u.pending = q) (ht : u.time ≤ c.time) : chronological u := by
  obtain ⟨-, hlater⟩ := chronological_front hs hq
  obtain ⟨hord, hall⟩ := hs
  rw [hq] at hord hall
  unfold chronological
  rw [hu]
  exact ⟨(List.pairwise_cons.mp hord).2, fun d hd => ⟨ht.trans (hlater d hd), (hall d (List.mem_cons_of_mem c hd)).2⟩⟩

/-- A step with a command at the front of the queue runs it with the queue's rest. -/
theorem step_front {s : State} {c : Instr} {q : List Instr} (hq : s.pending = c :: q) : step s = exec c { s with pending := q } := by
  simp only [step, hq]

/-- A step on an empty queue idles (log entry 3). -/
theorem step_idle {s : State} (hq : s.pending = []) : step s = .next s := by
  simp only [step, hq]

/-- Settles O4: the front is never before module time, so running it moves time to the front's own time, or back to 0 at a start-up; every
command behind it is at least as late (log entry 2). -/
theorem chronologyKept : Obligations.ChronologyKept := by
  intro s u hs hstep
  cases hp : s.pending with
  | nil =>
    obtain rfl := Host.Outcome.next.inj ((step_idle hp).symm.trans hstep)
    exact ⟨hs, fun c q hc => nomatch hc⟩
  | cons c q =>
    rw [step_front hp] at hstep
    have hnow : max s.time c.time = c.time := max_eq_right (chronological_front hs hp).1
    refine ⟨chronological_rest hs hp (exec_keeps_pending hstep) ((exec_time_le hstep).trans_eq hnow), fun d r hd hne => ?_⟩
    obtain ⟨rfl, rfl⟩ := List.cons.inj hd
    exact (exec_time_eq hstep hne).trans hnow

/-! ## Publications -/

/-- The record that a publication of `r` stores for an own local (R36, R39). -/
def publishedRec (n : Nat) (r : Rec) (s : State) : Rec :=
  { r with seq := ((s.ownRec n).seq + 1) % 65536, received := s.time, linePoison := false
           confidence := if r.quality.zeroConf then 0 else r.confidence }

/-- A record that goes out at once leaves the store as it is. -/
@[simp] theorem exportOnChange_ownRec (h : Nat) (old new : Rec) (s : State) (m : Nat) :
    (exportOnChange h old new s).ownRec m = s.ownRec m := by
  unfold exportOnChange
  split <;> rfl

/-- A stored record is the one that is read. -/
@[simp] theorem setOwn_ownRec_same (n : Nat) (r : Rec) (s : State) : (s.setOwn n r).ownRec n = r := by
  simp only [State.ownRec, setOwn_sig, aget_aset_same, Option.getD_some]

/-- Storing a record for one own local leaves every other as it was. -/
theorem setOwn_ownRec_other {n m : Nat} (r : Rec) (s : State) (h : m ≠ n) : (s.setOwn n r).ownRec m = s.ownRec m := by
  simp only [State.ownRec, setOwn_sig, aget_aset_other _ _ h]
  rfl

/-- A module that may not publish stores nothing (R17). -/
theorem storeOwn_silent (n : Nat) (r : Rec) {s : State} (h : s.mayPublish = false) : storeOwn n r s = s := by
  simp only [storeOwn, h, Bool.not_false, if_true]

/-- After a publication the own locals read as after a store of the published record: what is watched and what goes out at once are no
part of the store. -/
theorem storeOwn_ownRec (n : Nat) (r : Rec) {s : State} (h : s.mayPublish = true) (m : Nat) :
    (storeOwn n r s).ownRec m = (s.setOwn n (publishedRec n r s)).ownRec m := by
  simp only [storeOwn, h, Bool.not_true, Bool.false_eq_true, if_false, exportOnChange_ownRec]
  exact (apply_ite (State.ownRec · m) _ _ _).trans (ite_self _)

/-- Settles O18: a publication is a store of the published record, which `setOwn` confines to its own local. -/
theorem publicationsTouchOneRecord : Obligations.PublicationsTouchOneRecord := by
  refine ⟨fun n r s h => storeOwn_silent n r h, fun n r s h => ?_⟩
  have hown : (storeOwn n r s).ownRec n = publishedRec n r s := by rw [storeOwn_ownRec n r h, setOwn_ownRec_same]
  rw [hown]
  refine ⟨rfl, rfl, rfl, rfl, fun hz => ?_, fun m hm => ?_⟩
  · exact if_pos hz
  · rw [storeOwn_ownRec n r h, setOwn_ownRec_other _ _ hm]

/-! ## The main clock -/

/-- A window off by more than 300 counts is one more in a row, and the third fails the clock (R26). -/
theorem doClockWindow_bad {n : Nat} {s : State} (hm : s.mainOn = true) (hl : s.id.summitLost = false)
    (h : n + 300 < 600000 ∨ 600300 < n) : doClockWindow n s =
      (let u := modId (fun d => { d with badWindows := s.id.badWindows + 1 }) (modSum (fun m => { m with lclk := n }) s)
       if 2 ≤ s.id.badWindows then clockFailure u else u) := by
  have h3 : (3 ≤ s.id.badWindows + 1) = (2 ≤ s.id.badWindows) := propext (by omega)
  simp [doClockWindow, hm, hl, h, h3]

/-- A window within 300 counts clears the count of bad ones (R26). -/
theorem doClockWindow_good {n : Nat} {s : State} (hm : s.mainOn = true) (hl : s.id.summitLost = false)
    (hlow : 600000 ≤ n + 300) (hhigh : n ≤ 600300) : doClockWindow n s =
      modId (fun d => { d with badWindows := 0 }) (modSum (fun m => { m with lclk := n }) s) := by
  simp [doClockWindow, hm, hl, Nat.not_lt.mpr hlow, Nat.not_lt.mpr hhigh]

/-- A loss of lock fails the clock at once (R26). -/
theorem doPllLoss_fails {s : State} (hm : s.mainOn = true) (hl : s.id.summitLost = false) : doPllLoss s = clockFailure s := by
  simp [doPllLoss, hm, hl]

/-- An event of every power state happens with the effect that its own operation has at its time. -/
theorem occurs_of_anyEvent {i : Instr} {f : State → State} {s u : State} (hi : exec i s = anyEvent i.time f s)
    (hf : f (tick i.time s) = u) : Occurs i s u := by
  rw [Occurs, hi, anyEvent_on, hf]

/-- Settles O19: each event runs its operation on the state at its time, whose domain and Summit are those of the state before. -/
theorem clockWindowsDeclareFailure : Obligations.ClockWindowsDeclareFailure := by
  refine ⟨fun t n s hm hl h => ?_, fun t n s hm hl hlow hhigh => ?_, fun t s hm hl => ?_⟩
  · exact occurs_of_anyEvent rfl (doClockWindow_bad (s := tick t s) hm hl h)
  · exact occurs_of_anyEvent rfl (doClockWindow_good (s := tick t s) hm hl hlow hhigh)
  · exact occurs_of_anyEvent rfl (doPllLoss_fails (s := tick t s) hm hl)

end Sys2Proof.Machine

/-! The signal space (chapter 02): what a derived signal carries, and who wins an arbitrated resource. -/
namespace Sys2Proof.Machine

/-! ## Derived quality and confidence (R41) -/

/-- Of two qualities, the one that comes first in R41's order. -/
def worse (a q : Quality) : Quality := if q.rank < a.rank then q else a

/-- No quality comes after VALID. -/
theorem rank_le_valid (q : Quality) : q.rank ≤ Quality.valid.rank := by cases q <;> decide

/-- No other quality stands where VALID does. -/
theorem eq_valid_of_rank_ge {q : Quality} (h : Quality.valid.rank ≤ q.rank) : q = .valid := by
  cases q
  case valid => rfl
  all_goals exact absurd h (by decide)

theorem worse_mem (a q : Quality) : worse a q = a ∨ worse a q = q := by
  unfold worse
  split
  · exact .inr rfl
  · exact .inl rfl

theorem worse_rank (a q : Quality) : (worse a q).rank = min a.rank q.rank := by
  unfold worse
  split <;> omega

/-- The worst quality of a list, from one to start with, is one of them and comes at or before each of them. -/
theorem foldl_worse (qs : List Quality) (a : Quality) :
    qs.foldl worse a ∈ a :: qs ∧ ∀ q ∈ a :: qs, (qs.foldl worse a).rank ≤ q.rank := by
  induction qs generalizing a with
  | nil => simp
  | cons q qs ih =>
    obtain ⟨hmem, hle⟩ := ih (worse a q)
    have hfirst : (qs.foldl worse (worse a q)).rank ≤ min a.rank q.rank := worse_rank a q ▸ hle _ List.mem_cons_self
    rw [List.foldl_cons]
    constructor
    · rcases List.mem_cons.mp hmem with h | h
      · rw [h]
        rcases worse_mem a q with hw | hw <;> simp [hw]
      · simp [h]
    · simp only [List.mem_cons, forall_eq_or_imp]
      exact ⟨hfirst.trans (min_le_left _ _), hfirst.trans (min_le_right _ _), fun x hx => hle x (List.mem_cons_of_mem _ hx)⟩

/-- The derived quality starts from VALID, the last of the order; where it stays there, every input is VALID. -/
theorem deriveQuality_worst {qs : List Quality} (hne : qs ≠ []) :
    deriveQuality qs ∈ qs ∧ ∀ q ∈ qs, (deriveQuality qs).rank ≤ q.rank := by
  obtain ⟨hmem, hle⟩ : deriveQuality qs ∈ Quality.valid :: qs ∧ ∀ q ∈ Quality.valid :: qs, (deriveQuality qs).rank ≤ q.rank :=
    foldl_worse qs .valid
  have hall : ∀ q ∈ qs, (deriveQuality qs).rank ≤ q.rank := fun q hq => hle q (List.mem_cons_of_mem _ hq)
  refine ⟨(List.mem_cons.mp hmem).elim (fun hv => ?_) id, hall⟩
  obtain ⟨q, hq⟩ := List.exists_mem_of_ne_nil qs hne
  rw [hv, ← eq_valid_of_rank_ge (hv ▸ hall q hq)]
  exact hq

/-- The derived confidence is the least of 255 and the inputs' confidences. -/
theorem deriveConf_le {cs : List Nat} {c : Nat} (hc : c ∈ cs) : deriveConf cs ≤ c := by
  have hmin : (255 :: cs).min? = some (deriveConf cs) := List.min?_cons'
  exact (List.min?_eq_some_iff.mp hmin).2 c (List.mem_cons_of_mem _ hc)

/-- Settles O17: each fold keeps the least it has met, of R41's order and of the confidences. -/
theorem derivedQualityIsTheWorst : Obligations.DerivedQualityIsTheWorst :=
  ⟨fun _ hne => deriveQuality_worst hne, rfl, fun _ _ hc => deriveConf_le hc⟩

/-! ## The requester next after the last winner (R56) -/

/-- Inserting by a decided relation is the library's ordered insertion. -/
theorem insertBy_eq_orderedInsert (x : Nat) (l : List Nat) :
    insertBy (fun a b => decide (a ≤ b)) x l = l.orderedInsert (· ≤ ·) x := by
  induction l with
  | nil => rfl
  | cons y l ih => simp only [insertBy, List.orderedInsert_cons, decide_eq_true_eq, ih]

/-- Sorting by a decided relation is the library's insertion sort. -/
theorem sortBy_eq_insertionSort (l : List Nat) : sortBy (fun a b => decide (a ≤ b)) l = l.insertionSort (· ≤ ·) := by
  induction l with
  | nil => rfl
  | cons x l ih => rw [List.insertionSort_cons, ← ih, ← insertBy_eq_orderedInsert, sortBy, List.foldr_cons, ← sortBy]

/-- The ID next after `last` in an ascending list, or the lowest where none comes after it. -/
def ringNext (last : Nat) (ids : List Nat) : Nat := (ids.find? fun i => last < i).getD (ids.headD 0)

/-- Among ascending IDs the one next after `last` is one of them. Where it lies above `last`, it is the lowest such; where it does not, the ring
has wrapped: none lies above, and it is the lowest of all. -/
theorem ringNext_spec {ids : List Nat} (hs : ids.Pairwise (· ≤ ·)) (hne : ids ≠ []) (last : Nat) :
    ringNext last ids ∈ ids ∧ ∀ i ∈ ids, (last < ringNext last ids → last < i → ringNext last ids ≤ i)
      ∧ (ringNext last ids ≤ last → i ≤ last ∧ ringNext last ids ≤ i) := by
  cases hf : ids.find? fun i => last < i with
  | some w =>
    have hw : ringNext last ids = w := by simp [ringNext, hf]
    obtain ⟨hlt, before, after, rfl, hbefore⟩ := List.find?_eq_some_iff_append.mp hf
    rw [hw]
    have hafter := (List.pairwise_cons.mp (List.pairwise_append.mp hs).2.1).1
    have hlast : last < w := by simpa using hlt
    refine ⟨by simp, fun i hi => ⟨fun _ hli => ?_, fun hle => absurd hlast hle.not_gt⟩⟩
    rcases List.mem_append.mp hi with h | h
    · have := hbefore i h
      simp [hli] at this
    · rcases List.mem_cons.mp h with rfl | h
      · exact le_rfl
      · exact hafter i h
  | none =>
    obtain ⟨w, rest, rfl⟩ := List.exists_cons_of_ne_nil hne
    have hw : ringNext last (w :: rest) = w := by simp [ringNext, hf]
    have hall : ∀ i ∈ w :: rest, i ≤ last := by simpa using List.find?_eq_none.mp hf
    rw [hw]
    refine ⟨List.mem_cons_self, fun i hi => ⟨fun hlt => absurd (hall w List.mem_cons_self) hlt.not_ge, fun _ => ⟨hall i hi, ?_⟩⟩⟩
    rcases List.mem_cons.mp hi with rfl | h
    · exact le_rfl
    · exact (List.pairwise_cons.mp hs).1 i h

/-! ## Arbitration (R56) -/

/-- The highest pending priority. -/
def topPriority (reqs : List (Nat × Nat)) : Nat := reqs.foldl (fun m r => max m r.2) 0

/-- The highest priority is that of a requester, and no requester's is higher. -/
theorem topPriority_spec {reqs : List (Nat × Nat)} (hne : reqs ≠ []) :
    (∃ r ∈ reqs, r.2 = topPriority reqs) ∧ ∀ r ∈ reqs, r.2 ≤ topPriority reqs := by
  have hmax : (0 :: reqs.map (·.2)).max? = some (topPriority reqs) := by
    rw [List.max?_cons', List.foldl_map]
    rfl
  obtain ⟨hmem, hle⟩ := List.max?_eq_some_iff.mp hmax
  have hall : ∀ r ∈ reqs, r.2 ≤ topPriority reqs := fun r hr => hle r.2 (List.mem_cons_of_mem _ (List.mem_map_of_mem hr))
  refine ⟨?_, hall⟩
  rcases List.mem_cons.mp hmem with h0 | h
  · obtain ⟨r, hr⟩ := List.exists_mem_of_ne_nil reqs hne
    exact ⟨r, hr, by have := hall r hr; omega⟩
  · exact List.mem_map.mp h

/-- The IDs that compete: those of the highest priority, ascending. -/
def competing (reqs : List (Nat × Nat)) : List Nat :=
  sortBy (fun a b => decide (a ≤ b)) ((reqs.filter fun r => r.2 == topPriority reqs).map (·.1))

theorem mem_competing {reqs : List (Nat × Nat)} {i : Nat} : i ∈ competing reqs ↔ (i, topPriority reqs) ∈ reqs := by
  simp [competing, sortBy_eq_insertionSort]

theorem competing_sorted (reqs : List (Nat × Nat)) : (competing reqs).Pairwise (· ≤ ·) := by
  rw [competing, sortBy_eq_insertionSort]
  exact List.pairwise_insertionSort _ _

theorem competing_ne_nil {reqs : List (Nat × Nat)} (hne : reqs ≠ []) : competing reqs ≠ [] := by
  obtain ⟨⟨⟨i, q⟩, hr, rfl⟩, -⟩ := topPriority_spec hne
  exact List.ne_nil_of_mem (mem_competing.mpr hr)

/-- The last winner of a resource and priority; 0xFF before the first (R56). -/
def lastWinnerOf (res prio : Nat) (s : State) : Nat := ((s.sig.lastWinner.find? fun e => e.1 == (res, prio)).map (·.2)).getD 0xFF

/-- The requester that wins. -/
def winner (res : Nat) (reqs : List (Nat × Nat)) (s : State) : Nat :=
  ringNext (lastWinnerOf res (topPriority reqs) s) (competing reqs)

/-- Arbitration names the winner and grants it the resource. -/
theorem arbitrate_eq (res : Nat) {reqs : List (Nat × Nat)} (s : State) (hne : reqs ≠ []) :
    arbitrate res reqs s = (some (winner res reqs s), grant res (topPriority reqs) (winner res reqs s) s) := by
  cases reqs with
  | nil => exact absurd rfl hne
  | cons r reqs => rfl

/-- The winner competes at the highest priority, next after the last winner there. -/
theorem winner_spec (res : Nat) {reqs : List (Nat × Nat)} (s : State) (hne : reqs ≠ []) :
    (winner res reqs s, topPriority reqs) ∈ reqs
    ∧ ∀ r ∈ reqs, r.2 = topPriority reqs →
        (lastWinnerOf res (topPriority reqs) s < winner res reqs s → lastWinnerOf res (topPriority reqs) s < r.1 → winner res reqs s ≤ r.1)
        ∧ (winner res reqs s ≤ lastWinnerOf res (topPriority reqs) s →
            r.1 ≤ lastWinnerOf res (topPriority reqs) s ∧ winner res reqs s ≤ r.1) := by
  obtain ⟨hmem, hnext⟩ := ringNext_spec (competing_sorted reqs) (competing_ne_nil hne) (lastWinnerOf res (topPriority reqs) s)
  refine ⟨mem_competing.mp hmem, fun r hr hp => hnext r.1 (mem_competing.mpr ?_)⟩
  rw [← hp]
  exact hr

/-- Who is granted a resource is its last winner at that priority. -/
theorem grant_lastWinner (res prio win : Nat) (s : State) :
    ((grant res prio win s).sig.lastWinner.find? fun e => e.1 == (res, prio)) = some ((res, prio), win) := by
  simp [grant]

/-! ## Packets of one instant (R77) -/

/-- The packets that have arrived on a port, each with its port and priority. -/
def contenders (s : State) : List ((Nat × Nat) × (Op × Packet)) :=
  s.sys.arrived.filterMap fun x => (contender s x).map fun c => (c, x)

theorem mem_contenders {s : State} {c : Nat × Nat} {x : Op × Packet} :
    (c, x) ∈ contenders s ↔ x ∈ s.sys.arrived ∧ contender s x = some c := by
  simp only [contenders, List.mem_filterMap, Option.map_eq_some_iff, Prod.mk.injEq]
  constructor
  · rintro ⟨y, hy, d, hd, rfl, rfl⟩
    exact ⟨hy, hd⟩
  · rintro ⟨hx, hc⟩
    exact ⟨x, hx, c, hc, rfl, rfl⟩

theorem contenders_map_fst (s : State) : (contenders s).map (·.1) = s.sys.arrived.filterMap (contender s) := by
  rw [contenders, List.map_filterMap]
  congr 1
  funext x
  cases contender s x <;> rfl

/-- A packet joins those of one instant as long as it is the first of its port. -/
def joinFirst (a : List ((Nat × Nat) × (Op × Packet))) (e : (Nat × Nat) × (Op × Packet)) : List ((Nat × Nat) × (Op × Packet)) :=
  if a.any fun y => y.1.1 == e.1.1 then a else a ++ [e]

/-- Packets of different ports all compete. -/
theorem foldl_joinFirst (l a : List ((Nat × Nat) × (Op × Packet))) (h : ((a ++ l).map (·.1.1)).Nodup) : l.foldl joinFirst a = a ++ l := by
  induction l generalizing a with
  | nil => simp
  | cons e l ih =>
    have hnew : ¬(a.any fun y => y.1.1 == e.1.1) = true := by
      rw [List.map_append, List.map_cons] at h
      obtain ⟨-, -, hdisj⟩ := List.nodup_append.mp h
      rw [List.any_eq_true]
      rintro ⟨y, hy, hye⟩
      exact hdisj _ (List.mem_map_of_mem hy) _ List.mem_cons_self (eq_of_beq hye)
    have hjoin : joinFirst a e = a ++ [e] := if_neg hnew
    rw [List.foldl_cons, hjoin, ih _ (by rwa [List.append_assoc]), List.append_assoc, List.singleton_append]

/-- Where every packet has arrived on a port of its own, the dispatcher takes the packet of the port that wins. -/
theorem nextArrived_eq {s : State} (hport : ∀ y ∈ s.sys.arrived, (contender s y).isSome = true)
    (hnd : ((contenders s).map (·.1.1)).Nodup) :
    nextArrived s = ((contenders s).find? fun e => some e.1.1 == (arbitrate dispatcher ((contenders s).map (·.1)) s).1).map (·.2) := by
  have hnone : (s.sys.arrived.find? fun x => (contender s x).isNone) = none :=
    List.find?_eq_none.mpr fun y hy => by simpa [Option.isSome_iff_ne_none] using hport y hy
  have hfirst : (contenders s).foldl joinFirst [] = contenders s := foldl_joinFirst _ _ hnd
  unfold nextArrived
  simp only [hnone]
  exact congrArg (fun l => (l.find? fun e => some e.1.1 == (arbitrate dispatcher (l.map (·.1)) s).1).map (·.2)) hfirst

/-- Where no two elements share a key, the first with an element's key is that element. -/
theorem find?_key_of_nodup {α : Type} {key : α → Nat} {l : List α} {x : α} (hnd : (l.map key).Nodup) (hx : x ∈ l) :
    (l.find? fun e => some (key e) == some (key x)) = some x := by
  cases hf : l.find? fun e => some (key e) == some (key x) with
  | none => exact absurd (List.find?_eq_none.mp hf x hx) (by simp)
  | some e =>
    have hkey : key e = key x := by simpa using List.find?_some hf
    rw [List.inj_on_of_nodup_map hnd (List.mem_of_find?_eq_some hf) hx hkey]

/-- Where every packet has arrived on a port of its own, the dispatcher takes one whose port wins, and none has a higher priority. -/
theorem nextArrived_wins {s : State} (hne : s.sys.arrived ≠ []) (hport : ∀ y ∈ s.sys.arrived, (contender s y).isSome = true)
    (hnd : ((s.sys.arrived.filterMap (contender s)).map (·.1)).Nodup) :
    ∃ y c, nextArrived s = some y ∧ y ∈ s.sys.arrived ∧ contender s y = some c
      ∧ (arbitrate dispatcher (s.sys.arrived.filterMap (contender s)) s).1 = some c.1
      ∧ ∀ z d, z ∈ s.sys.arrived → contender s z = some d → d.2 ≤ c.2 := by
  rw [← contenders_map_fst] at hnd ⊢
  rw [List.map_map] at hnd
  have hreq : (contenders s).map (·.1) ≠ [] := by
    obtain ⟨y, hy⟩ := List.exists_mem_of_ne_nil _ hne
    obtain ⟨c, hc⟩ := Option.isSome_iff_exists.mp (hport y hy)
    exact List.ne_nil_of_mem (List.mem_map_of_mem (mem_contenders.mpr ⟨hy, hc⟩))
  obtain ⟨⟨c, y⟩, hcy, hc⟩ := List.mem_map.mp (winner_spec dispatcher s hreq).1
  obtain ⟨hy, hcon⟩ := mem_contenders.mp hcy
  have harb : (arbitrate dispatcher ((contenders s).map (·.1)) s).1 = some c.1 := by
    rw [arbitrate_eq dispatcher s hreq, show c = _ from hc]
  have hnext : nextArrived s = some y := by
    rw [nextArrived_eq hport hnd, harb, find?_key_of_nodup (key := fun e => e.1.1) hnd hcy]
    rfl
  refine ⟨y, c, hnext, hy, hcon, harb, fun z d hz hd => ?_⟩
  rw [show c = _ from hc]
  exact (topPriority_spec hreq).2 d (List.mem_map_of_mem (mem_contenders.mpr ⟨hz, hd⟩))

/-! ## Admission at the dispatcher (R77) -/

/-- A refused member is not admitted. -/
theorem refuseMember_ne_go (r r' : Req) (st : Status) (s t : State) : refuseMember r st s ≠ .go r' t := nofun

/-- A packet that passes steps 4 to 7 holds its credit. -/
theorem gateRest_holdCredit {r r' : Req} {s t : State} (h : gateRest r s = .go r' t) : ∃ shared u, t = holdCredit r' shared u := by
  unfold gateRest at h
  extract_lets at h
  split at h
  · exact (refuseMember_ne_go _ _ _ _ _ h).elim
  split at h
  · exact (refuseMember_ne_go _ _ _ _ _ h).elim
  split at h
  · exact (refuseMember_ne_go _ _ _ _ _ h).elim
  next shared _ =>
    split at h
    · exact (refuseMember_ne_go _ _ _ _ _ h).elim
    split at h
    · exact (refuseMember_ne_go _ _ _ _ _ h).elim
    · cases h
      exact ⟨shared, _, rfl⟩

/-- A packet that passes step 3 on a session goes on to steps 4 to 7. -/
theorem gateAuth_go {r r' : Req} {c : Nat} {s t : State} (h : gateAuth r c s = .go r' t) : ∃ r₀ s₀, gateRest r₀ s₀ = .go r' t := by
  have hfail : gateAuth.fail r s ≠ .go r' t := by
    unfold gateAuth.fail
    simp only [refuse]
    split <;> nofun
  unfold gateAuth at h
  split at h
  · split at h
    · split at h
      · exact ⟨_, _, h⟩
      · exact absurd h hfail
    · exact absurd h hfail
  · exact absurd h hfail

/-- An admitted packet has passed steps 4 to 7. -/
theorem gate_go {op : Op} {p : Packet} {r : Req} {s t : State} (h : gate op p s = .go r t) : ∃ r₀ s₀, gateRest r₀ s₀ = .go r t := by
  unfold gate gateCode at h
  extract_lets at h
  split at h
  · cases h
  · cases h
  · split at h
    · cases h
    split at h
    · cases h
    split at h
    · cases h
    split at h
    · exact gateAuth_go h
    · exact ⟨_, _, h⟩

/-- Settles O16: the winner is the next of the competing IDs, which are sorted; packets of different ports all compete for the dispatcher, and
the credit that an admitted packet holds is granted there (log entry 250). -/
theorem arbitrationPicksTheNextOfTheTop : Obligations.ArbitrationPicksTheNextOfTheTop := by
  refine ⟨fun res reqs s hne => ?_, fun s hne hport hnd => nextArrived_wins hne hport hnd, fun op p s r t h => ?_⟩
  · obtain ⟨hmem, hnext⟩ := winner_spec res s hne
    rw [arbitrate_eq res s hne]
    refine ⟨_, _, rfl, hmem, (topPriority_spec hne).2, ?_, grant_lastWinner _ _ _ _⟩
    rintro _ rfl
    exact hnext
  · obtain ⟨r₀, s₀, hrest⟩ := gate_go h
    obtain ⟨shared, u, rfl⟩ := gateRest_holdCredit hrest
    exact grant_lastWinner _ _ _ _

end Sys2Proof.Machine

/-! The command protocol (chapter 03): opcodes, packets refused as they arrive, admission, the ends of commands, replies and sessions. -/
namespace Sys2Proof.Machine

/-! ## Opcodes (R62, R85) -/

/-- The command that an opcode is read as is the command that has it. -/
theorem opOf_opCode (op : Op) : opOf (opCode op) = some op := by cases op <;> rfl

theorem opCode_injective : Function.Injective opCode := fun a b h =>
  Option.some.inj (by rw [← opOf_opCode a, h, opOf_opCode])

/-- Settles O9: each packet row is `command` of its own opcode by definition; `opOf` takes every opcode back to its command. -/
theorem everyPacketIsOneCommand : Obligations.EveryPacketIsOneCommand := by
  refine ⟨fun i p hp => ?_, fun a b h => opCode_injective h⟩
  cases i <;> cases hp
  all_goals exact ⟨_, fun _ => rfl⟩

/-! ## Packets refused as they arrive (R73 steps 1 and 2, R74) -/

/-- No journal answers a packet of a partition that does not re-execute a period (R422). -/
theorem replay_idle (op : Op) {p : Packet} {n : Nat} {s : State} (hv : p.via = .mailbox n) (h : replays p s = false) :
    replay op p n s = (none, s) := by
  have hidle : ((s.part n).replaying && (s.part n).inPeriod) = false := by simpa only [replays, hv] using h
  simp only [replay, hidle, Bool.not_false, if_true]

/-- A packet that reaches the module, meets no other of its instant and is answered by no journal is checked at once. -/
theorem runCmd_alone (op : Op) {p : Packet} {s : State} (hreach : reachable_ (tick p.time s) = true) (hrep : replays p s = false)
    (harr : s.sys.arrived = []) (hmore : moreNow (tick p.time s) = false) : runCmd op p s = takePacket op p (tick p.time s) := by
  have halone : arrive op p (tick p.time s) = takePacket op p (tick p.time s) := arrive_alone harr hmore
  unfold runCmd
  simp only [hreach, Bool.not_true, Bool.false_eq_true, if_false]
  split
  next n hv => rw [replay_idle op hv (s := tick p.time s) hrep]; exact halone
  next => exact halone

/-- The row of a packet that meets no other and that a check stops. -/
theorem command_stop {op : Op} {p : Packet} {s u : State} (hreach : reachable_ (tick p.time s) = true) (hrep : replays p s = false)
    (harr : s.sys.arrived = []) (hmore : moreNow (tick p.time s) = false) (hgate : gate op p (tick p.time s) = .stop u) :
    command op p s = .next { u with time := max s.time p.time, pending := s.pending } := by
  have hrun : runCmd op p (tick p.time s) = u := by
    rw [runCmd_alone op (s := tick p.time s) (by rwa [tick_tick]) hrep harr (by rwa [tick_tick]), tick_tick, takePacket, hgate]
  simp only [command, within, hrun]

section
variable {op : Op} {p : Packet} {s : State} {port : Nat} {auth : Bool}
  (hon : arrival (opCode op) (normal p s) s = .on port auth) (hhead : (∃ n, p.via = .mailbox n) ∨ 16 ≤ p.rxLength)
  (hsvc : ¬(port = 0x88 ∧ 4092 < p.rxLength))
include hon hhead hsvc

/-- The checks of a packet with a readable header: the length, the trailer (R73 steps 1 and 2), and then session data or the rest. The
received length of a mailbox packet is its header's (R74). -/
theorem gate_readable : ∃ mailbox : Bool, (mailbox = true ↔ ∃ n, p.via = .mailbox n) ∧ gate op p s =
    (let r : Req := { op := op, p := normal p s, port := port }
    if decide (4072 < p.length) || (!mailbox && p.rxLength != 20 + p.length) then refuse r .badLength s
    else if !crcOk (opCode op) (normal p s) then refuse r .badCrc s
    else if auth then gateAuth r (opCode op) s
    else gateRest r s) := by
  unfold gate gateCode
  simp only [Option.getD_none, hon]
  have hmb : (match p.via with | .mailbox _ => true | _ => false) = true ↔ ∃ n, p.via = .mailbox n := by cases p.via <;> simp
  refine ⟨_, hmb, if_neg ?_⟩
  rw [← hmb] at hhead
  simp only [Bool.or_eq_true, Bool.and_eq_true, decide_eq_true_eq, beq_iff_eq]
  rintro (⟨hother, hshort⟩ | hover)
  · exact (hhead.resolve_left (Bool.eq_false_iff.mp ((Bool.not_eq_true' _).mp hother))).not_gt hshort
  · exact hsvc hover

/-- A readable packet of a wrong length is refused (R73 step 1). -/
theorem gate_badLength (hlen : 4072 < p.length ∨ ((∀ n, p.via ≠ .mailbox n) ∧ p.rxLength ≠ 20 + p.length)) :
    gate op p s = refuse { op := op, p := normal p s, port := port } .badLength s := by
  obtain ⟨mailbox, hmb, hgate⟩ := gate_readable hon hhead hsvc
  rw [← not_exists, ← hmb] at hlen
  exact hgate.trans (if_pos (by simpa using hlen))

/-- A readable packet of the right length whose trailer does not match is refused (R73 step 2). -/
theorem gate_badCrc (hmax : p.length ≤ 4072) (hlen : (∃ n, p.via = .mailbox n) ∨ p.rxLength = 20 + p.length)
    (hcrc : crcOk (opCode op) (normal p s) = false) :
    gate op p s = refuse { op := op, p := normal p s, port := port } .badCrc s := by
  obtain ⟨mailbox, hmb, hgate⟩ := gate_readable hon hhead hsvc
  rw [← hmb] at hlen
  have hwhole : ¬(decide (4072 < p.length) || (!mailbox && p.rxLength != 20 + p.length)) = true := by
    simpa [hmax, or_iff_not_imp_left] using hlen
  exact hgate.trans ((if_neg hwhole).trans (if_pos (by rw [hcrc]; rfl)))

end

/-- Settles O10: steps 1 and 2 refuse the packet with its reply and nothing else, and it meets no other packet. -/
theorem brokenPacketsDoNotRun : Obligations.BrokenPacketsDoNotRun := by
  intro op p s port auth hreach hrep harr hmore hon hhead hsvc
  exact ⟨fun hlen => command_stop hreach hrep harr hmore (gate_badLength hon hhead hsvc hlen),
    fun hmax hlen hcrc => command_stop hreach hrep harr hmore (gate_badCrc hon hhead hsvc hmax hlen hcrc)⟩

/-! ## The end of a flight (R79, R83) -/

@[simp] theorem sendReply_flights (r : Req) (st : Status) (payload : List Byte) (now : Bool) (s : State) :
    (sendReply r st payload now s).sys.flights = s.sys.flights := by
  obtain ⟨m, b, c, h⟩ := sendReply_frame r st payload now s
  rw [h]

@[simp] theorem closeSpent_flights (port : Nat) (s : State) : (closeSpent port s).sys.flights = s.sys.flights := by
  obtain ⟨x, c, h⟩ := closeSpent_frame port s
  rw [h]

/-- A flight once the command of a port and tag has ended: one that waits for it in a chain goes on or breaks off (R83). -/
def unchained (port tag : Nat) (bad : Bool) (f : Flight) : Flight :=
  if f.req.port == port && f.chain == .waiting && f.waitsFor == tag then { f with chain := if bad then .broken else .go } else f

theorem unchained_eq (port tag : Nat) (bad : Bool) (f : Flight) : ∃ m, unchained port tag bad f = { f with chain := m } := by
  unfold unchained
  split
  · exact ⟨_, rfl⟩
  · exact ⟨f.chain, rfl⟩

@[simp] theorem unchained_req (port tag : Nat) (bad : Bool) (f : Flight) : (unchained port tag bad f).req = f.req := by
  obtain ⟨m, h⟩ := unchained_eq port tag bad f
  rw [h]

/-- A final reply takes the flights of its port and tag away, and leaves the others but for their places in its chain. -/
theorem finish_flights (r : Req) (st : Status) (payload : List Byte) (s : State) : (finish r st payload s).sys.flights =
    (s.sys.flights.filter fun f => !(f.req.port == r.port && f.req.p.tag == r.p.tag)).map (unchained r.port r.p.tag (!st.success)) := by
  simp only [finish, closeSpent_flights, endFlight, chainEnded, sendReply_flights]
  rfl

theorem flight_eq_none {port tag : Nat} {s : State} : s.flight port tag = none ↔ ∀ f ∈ s.sys.flights, ¬(f.req.port = port ∧ f.req.p.tag = tag) := by
  simp only [State.flight, List.find?_eq_none, Bool.and_eq_true, beq_iff_eq]

/-- An interim reply keeps every flight with its request. -/
theorem interimReply_requests (r : Req) (st : Status) (s : State) :
    (interimReply r st s).sys.flights.map (·.req) = s.sys.flights.map (·.req) := by
  simp only [interimReply, sendReply_flights, List.map_map]
  refine List.map_congr_left fun f _ => ?_
  simp only [Function.comp_apply]
  split <;> rfl

/-- Whether a port's tag is in flight depends on the requests in flight alone. -/
theorem flight_isSome_eq (port tag : Nat) (s : State) :
    (s.flight port tag).isSome = (s.sys.flights.map (·.req)).any fun q => q.port == port && q.p.tag == tag := by
  rw [State.flight, List.isSome_find?, List.any_map]
  rfl

/-- Settles O11: a final reply filters its own flight out and changes the others in their chain mark alone; an interim reply keeps every
request in flight. -/
theorem finalReplyFreesTagAndCredit : Obligations.FinalReplyFreesTagAndCredit := by
  refine ⟨fun r st pl s => ?_, fun r st pl s f hf hother => ?_, fun r st s => ?_⟩
  · rw [flight_eq_none, finish_flights]
    intro g hg
    obtain ⟨f, hf, rfl⟩ := List.mem_map.mp hg
    simpa [-not_and, not_and_or] using (List.mem_filter.mp hf).2
  · obtain ⟨m, hm⟩ := unchained_eq r.port r.p.tag (!st.success) f
    refine ⟨m, ?_⟩
    rw [finish_flights, ← hm]
    exact List.mem_map_of_mem (List.mem_filter.mpr ⟨hf, by simpa [-not_and, not_and_or] using hother⟩)
  · rw [flight_isSome_eq, flight_isSome_eq, interimReply_requests]

/-! ## Admission (R69, R73 steps 5 and 6, R76) -/

/-- A credit is free only where the port is below its limit (R76). -/
theorem takeCredit_below {port : Nat} {s : State} {shared : Bool} (h : takeCredit port s = some shared) :
    (s.sys.flights.filter fun f => f.req.port == port).length < (s.credit port).limit := by
  by_contra hfull
  simp [takeCredit, Nat.not_lt.mp hfull] at h

/-- A packet that passes steps 4 to 7 takes a free credit, and a tag that is not in flight; an open that its own checks let pass has
closed the session of its address before (R69). -/
theorem gateRest_go {r r' : Req} {s t : State} (h : gateRest r s = .go r' t) : ∃ shared u, t = holdCredit r shared u
    ∧ takeCredit r.port u = some shared ∧ u.flight r.port r.p.tag = none
    ∧ ∀ e ip udp y, r.op = .sysSessionOpen → r.ctr = none → r.p.via = .eth e ip udp → addrSession e ip udp s = some y →
      (chkSysSessionOpen r s).find? (·.1) = none → ∃ v, u = replaceSession y.port r v := by
  unfold gateRest at h
  extract_lets opens _ s₁ old after at h
  split at h
  · exact (refuseMember_ne_go _ _ _ _ _ h).elim
  split at h
  · exact (refuseMember_ne_go _ _ _ _ _ h).elim
  next htag =>
    split at h
    · exact (refuseMember_ne_go _ _ _ _ _ h).elim
    next shared hcredit =>
      split at h
      · exact (refuseMember_ne_go _ _ _ _ _ h).elim
      split at h
      · exact (refuseMember_ne_go _ _ _ _ _ h).elim
      · cases h
        refine ⟨shared, after, rfl, hcredit, ?_, fun e ip udp y hop hctr hvia hy hchk => ?_⟩
        · simpa [flight_eq_none] using htag
        · have hopens : opens = true := by simp only [opens, hop, hctr, beq_self_eq_true, Option.isNone_none, Bool.and_true]
          have hpre : s₁ = { s with sys := { s.sys with chains := adel s.sys.chains r.port } } := if_pos hopens
          have hold : old = some y := by
            simp only [old, hvia, hopens, if_true, hpre]
            exact hy
          have hpass : ¬((chkSysSessionOpen r s₁).find? (·.1)).isSome = true := by
            rw [hpre]
            exact ne_of_eq_of_ne (congrArg Option.isSome hchk) (by decide)
          refine ⟨s₁, ?_⟩
          simp only [after, hold]
          exact if_neg hpass

/-- A failed authentication admits nothing (R72). -/
theorem gateAuth_fail_ne_go (r r' : Req) (s t : State) : gateAuth.fail r s ≠ .go r' t := by
  unfold gateAuth.fail
  simp only [refuse]
  split <;> nofun

/-- A packet that passes step 3 on a session goes on to steps 4 to 7 with its counter. -/
theorem gateAuth_go_counter {r r' : Req} {c : Nat} {s t : State} (h : gateAuth r c s = .go r' t) :
    ∃ k v, gateRest { r with ctr := some k } v = .go r' t := by
  unfold gateAuth at h
  split at h
  · split at h
    · split at h
      · exact ⟨_, _, h⟩
      · exact (gateAuth_fail_ne_go _ _ _ _ h).elim
    · exact (gateAuth_fail_ne_go _ _ _ _ h).elim
  · exact (gateAuth_fail_ne_go _ _ _ _ h).elim

/-- An admitted packet has passed steps 4 to 7, one without a counter in the state in which it arrived. -/
theorem gate_go_rest {op : Op} {p : Packet} {r : Req} {s t : State} (h : gate op p s = .go r t) :
    ∃ v, gateRest r v = .go r t ∧ (r.ctr = none → v = s) := by
  unfold gate gateCode at h
  extract_lets at h
  split at h
  · cases h
  · cases h
  · split at h
    · cases h
    split at h
    · cases h
    split at h
    · cases h
    split at h
    · obtain ⟨k, v, hrest⟩ := gateAuth_go_counter h
      obtain rfl := gateRest_op hrest
      exact ⟨v, hrest, nofun⟩
    · obtain rfl := gateRest_op h
      exact ⟨s, h, fun _ => rfl⟩

/-- The flight that an admitted command begins comes after those there were. -/
@[simp] theorem holdCredit_flights (r : Req) (shared : Bool) (s : State) : (holdCredit r shared s).sys.flights =
    s.sys.flights ++ [{ req := r, admitted := s.time, sharedCredit := shared }] := rfl

@[simp] theorem holdCredit_credit (r : Req) (shared : Bool) (s : State) (port : Nat) : (holdCredit r shared s).credit port = s.credit port := rfl

@[simp] theorem holdCredit_session (r : Req) (shared : Bool) (s : State) (port : Nat) : (holdCredit r shared s).session port = s.session port := rfl

/-- A session that an open closes is no longer there. -/
theorem replaceSession_session (port : Nat) (r : Req) (s : State) : (replaceSession port r s).session port = none := by
  simp only [State.session, List.find?_eq_none]
  intro x hx
  simpa using (List.mem_filter.mp hx).2

/-- Of the closed session's commands none but the open stays in flight. -/
theorem replaceSession_flights {port : Nat} {r : Req} {s : State} {f : Flight} (hf : f ∈ (replaceSession port r s).sys.flights)
    (hport : f.req.port = port) : f.req = r := by
  simpa [hport] using (List.mem_filter.mp hf).2

/-- Settles O15: the credit and the tag are free in the state to which the admission adds its flight; where an open has closed a session,
that state has neither the session nor its commands. -/
theorem noPortExceedsItsLimit : Obligations.NoPortExceedsItsLimit := by
  intro op p s r t h
  obtain ⟨v, hrest, hsame⟩ := gate_go_rest h
  obtain ⟨shared, u, rfl, hcredit, htag, hclosed⟩ := gateRest_go hrest
  refine ⟨?_, ?_, fun e ip udp y hop hctr hvia hy hchk => ?_⟩
  · simpa using takeCredit_below hcredit
  · have hnone : (u.sys.flights.filter fun f => f.req.port == r.port && f.req.p.tag == r.p.tag) = [] :=
      List.filter_eq_nil_iff.mpr fun f hf => by simpa using flight_eq_none.mp htag f hf
    simp [hnone]
  · obtain rfl := hsame hctr
    obtain ⟨w, rfl⟩ := hclosed e ip udp y hop hctr hvia hy hchk
    refine ⟨replaceSession_session y.port r w, fun f hf hport => ?_⟩
    rcases List.mem_append.mp hf with hold | hnew
    · exact replaceSession_flights hold hport
    · rw [List.mem_singleton.mp hnew]

/-! ## Replies that arrive (R75) -/

/-- An event of the main domain happens with the effect that its own operation has at its time, while that domain is powered. -/
theorem occurs_of_mainEvent {i : Instr} {f : State → State} {s u : State} (hi : exec i s = mainEvent i.time f s) (hm : s.mainOn = true)
    (hf : f (tick i.time s) = u) : Occurs i s u := by
  rw [Occurs, hi, mainEvent_on hm, hf]

/-- A reply answers a packet that its port awaits under its tag. -/
theorem answered_awaited {p : Packet} {opcode status port : Nat} {s : State} {a : Nat × Nat × Nat}
    (h : answered p opcode status port s = some a) : a ∈ s.sys.awaiting ∧ a.1 = port ∧ a.2.1 = p.tag := by
  simp only [answered] at h
  split at h
  · cases h
  · have hmatch := List.find?_some h
    simp only [Bool.and_eq_true, beq_iff_eq] at hmatch
    exact ⟨List.mem_of_find?_eq_some h, hmatch.1⟩

section
variable {p : Packet} {opcode status port : Nat} {auth : Bool} {s : State}
  (hreach : reachable_ s = true) (hon : arrival 0 (normal p s) s = .on port auth)
include hreach hon

/-- A reply that answers an awaited packet ends the wait. -/
theorem doReplyPacket_answers {a : Nat × Nat × Nat} (h : answered (normal p s) opcode status port s = some a) :
    doReplyPacket p opcode status s = { s with sys := { s.sys with awaiting := s.sys.awaiting.erase a } } := by
  simp only [doReplyPacket, hreach, Bool.not_true, Bool.false_eq_true, if_false, hon, h]

/-- A reply that answers nothing is counted. -/
theorem doReplyPacket_unawaited (h : answered (normal p s) opcode status port s = none) :
    doReplyPacket p opcode status s = { s with sys := { s.sys with discarded := (s.sys.discarded + 1) % 2 ^ 32 } } := by
  simp only [doReplyPacket, hreach, Bool.not_true, Bool.false_eq_true, if_false, hon, h, countDiscarded]

end

/-- Settles O12: the awaited packet that a reply answers is searched by port and tag; without one, nothing is found. -/
theorem unawaitedRepliesAreCounted : Obligations.UnawaitedRepliesAreCounted := by
  intro t p opcode status s port auth hm hreach hon
  refine ⟨fun a ha => ⟨?_, (answered_awaited ha :)⟩, fun hnone => ?_, fun hnot => ?_⟩
  · exact occurs_of_mainEvent rfl hm (doReplyPacket_answers hreach hon ha)
  · exact occurs_of_mainEvent rfl hm (doReplyPacket_unawaited hreach hon hnone)
  · by_contra hsome
    obtain ⟨a, ha⟩ := Option.ne_none_iff_exists'.mp hsome
    obtain ⟨hmem, hkey⟩ := answered_awaited ha
    exact hnot a hmem hkey

/-! ## Queue limits (R78) -/

/-- A command that has not started within its limit ends. -/
theorem doQueueTimeout_due {port tag : Nat} {f : Flight} {s : State} (hf : s.flight port tag = some f) (hwait : f.started = false)
    (hdue : f.admitted + queueLimit (f.req.p.flags.toNat % 4) ≤ s.time) : doQueueTimeout port tag s = finish f.req .timeout [] s := by
  simp only [doQueueTimeout, hf, hwait, hdue, Bool.not_false, decide_true, Bool.and_true, if_true]

/-- Settles O13: the event finds the command in flight, not started and past its limit. -/
theorem queueLimitsEndWaitingCommands : Obligations.QueueLimitsEndWaitingCommands :=
  ⟨fun _ _ _ _ _ hm hf hwait hdue => occurs_of_mainEvent rfl hm (doQueueTimeout_due hf hwait hdue), rfl, rfl, rfl, rfl⟩

/-! ## Session counters (R71) -/

/-- The rebuilt counter lies above the highest accepted less 64, has the received low bits, and none below it does both. -/
theorem rebuildCounter_spec (h : Nat) {q : Nat} (hq : q < 65536) : h < rebuildCounter h q + 64 ∧ rebuildCounter h q % 65536 = q
    ∧ ∀ d, h < d + 64 → d % 65536 = q → rebuildCounter h q ≤ d := by
  simp only [rebuildCounter]
  exact ⟨by omega, by omega, fun d hd hdq => by omega⟩

/-- A counter that a packet is accepted with is the one its `seq` stands for; it is new, and the session data is its own. -/
theorem acceptedCounter_spec {opcode : Nat} {p : Packet} {x : Session} {c : Nat} (h : acceptedCounter opcode p x = some c) :
    c = rebuildCounter x.highest p.seq.toNat ∧ (x.highest < c ∨ (c < x.highest ∧ c ∉ x.seen)) ∧ x.last = false
      ∧ p.session = sessionData x.sk 0 c (commandHeader opcode p 0) p.payload := by
  unfold acceptedCounter at h
  extract_lets c' fresh at h
  split at h
  · cases h
  next hok =>
    split at h
    next hdata =>
      obtain rfl : c' = c := Option.some.inj h
      simp only [Bool.or_eq_true, decide_eq_true_eq, not_or, Bool.not_eq_true', Bool.not_eq_true, Bool.not_eq_false] at hok
      obtain ⟨⟨hlast, -⟩, hfresh⟩ := hok
      refine ⟨rfl, ?_, hlast, (eq_of_beq hdata).symm⟩
      simp only [fresh, Bool.or_eq_true, Bool.and_eq_true, decide_eq_true_eq, Bool.not_eq_true', List.contains_eq_mem, decide_eq_false_iff_not] at hfresh
      exact hfresh.imp_right fun ⟨⟨hlow, _⟩, hnew⟩ => ⟨hlow, hnew⟩
    · cases h

/-- Settles O14: an accepted counter is above the highest accepted, or below it and not yet seen. -/
theorem sessionCountersAreRebuilt : Obligations.SessionCountersAreRebuilt := by
  refine ⟨fun h q hq => rebuildCounter_spec h hq, fun op p x c hc => ?_⟩
  obtain ⟨hcounter, hfresh, hlast, hdata⟩ := acceptedCounter_spec hc
  refine ⟨hcounter, ?_, fun hseen => ?_, hlast, hdata⟩
  · omega
  · obtain ⟨hmem, hlow⟩ := List.mem_filter.mp hseen
    rcases hfresh with hhigh | ⟨-, hnew⟩
    · exact absurd (of_decide_eq_true hlow) (Nat.lt_asymm hhigh)
    · exact hnew hmem

end Sys2Proof.Machine

/-! The commands that only the acting manager runs (R107, R159, R178, R391).

`State.configures` also holds while a machine configuration is being applied (`holding`), so that a module that may take over holds the
configuration of these groups (R136, R180, R392). `applyHeld`, which sets that mark, clears it before it returns, but
`Obligations.OnlyTheActingManagerRunsThem` speaks of every state, a worker's with the mark set among them. There it fails; where the
module does not configure, every one of these commands is refused. -/
namespace Sys2Proof.Machine

/-! ## Where the module does not configure -/

theorem acting_of_not_configures {s : State} (h : s.configures = false) : s.acting = false := by
  rw [State.configures, Bool.or_eq_false_iff] at h
  exact h.1

/-- A command all of whose conditions end it with a refusal is refused, without effect, where `C` brings one of them about. -/
theorem barred_of_refuses {op : Op} {i : Packet → Instr} {chk : Req → State → List (Bool × Status)} {C : Req → State → Bool}
    (href : Refuses op i chk) (hall : ∀ r s, ∀ c ∈ chk r s, c.2.success = false) (hC : ∀ r s, C r s = true → ∃ c ∈ chk r s, c.1 = true) :
    Barred op i C := by
  intro p s r t ht hc
  obtain ⟨c, hfirst⟩ := Option.isSome_iff_exists.mp (List.find?_isSome.mpr (hC r t hc))
  exact ⟨c.2, hall r t c (List.mem_of_find?_eq_some hfirst), href p s r t c ht hfirst⟩

/-- A command with `WRONG_STATE` at place `k` of its conditions, on a condition `b` that holds where the module does not configure, is
refused there. The three facts about the command's own definition are found by unfolding it. -/
theorem barred_of_wrongState {op : Op} {i : Packet → Instr} {b : State → Bool} (chk : Req → State → List (Bool × Status)) (k : Nat)
    (hb : ∀ s, s.configures = false → b s = true)
    (hk : ∀ r s, (chk r s)[k]? = some (b s, .wrongState) := by exact fun _ _ => rfl)
    (hall : ∀ r s, ((chk r s).all fun c => !c.2.success) = true := by exact fun _ _ => rfl)
    (href : Refuses op i chk := by exact refuses_of_check (fun _ _ => rfl) fun _ _ _ _ _ => ⟨_, rfl⟩) :
    Barred op i fun _ s => !s.configures := by
  refine barred_of_refuses href (fun r s c hc => ?_) fun r s hs => ?_
  · simpa using List.all_eq_true.mp (hall r s) c hc
  · exact ⟨_, List.mem_of_getElem? (hk r s), hb s (by simpa using hs)⟩

/-- The CUL, MAP, GDE and FLT commands but the status reads: those that configure, the others of the host and the owners, and those of any
port. -/
def managerCommands : List (Op × (Packet → Instr)) :=
  [ (.culConfig, .culConfig), (.culStageSet, .culStageSet), (.culSensorSet, .culSensorSet), (.mapConfig, .mapConfig),
    (.gdeConfig, .gdeConfig), (.fltConfig, .fltConfig), (.fltKeySet, .fltKeySet), (.fltMemberSet, .fltMemberSet),
    (.culStart, .culStart), (.culStop, .culStop), (.culCalRun, .culCalRun), (.mapFieldOpen, .mapFieldOpen),
    (.mapFieldClose, .mapFieldClose), (.mapExport, .mapExport), (.gdeLineWrite, .gdeLineWrite), (.gdeLineSelect, .gdeLineSelect),
    (.gdeEngage, .gdeEngage), (.gdeWasCal, .gdeWasCal), (.fltHazardSet, .fltHazardSet), (.fltLine, .fltLine), (.fltUnload, .fltUnload),
    (.culLedgerRead, .culLedgerRead), (.mapTileRead, .mapTileRead), (.mapExportRead, .mapExportRead), (.gdeDisengage, .gdeDisengage) ]

/-- What holds in place of O7: on a module that is not the acting manager and to which no machine configuration is being applied, each of
these commands is refused and has no effect. -/
theorem managerCommands_barred : ∀ x ∈ managerCommands, Barred x.1 x.2 fun _ s => !s.configures := by
  have config : ∀ s : State, s.configures = false → (!s.configures) = true := fun s h => by rw [h]; rfl
  have acts : ∀ s : State, s.configures = false → (!s.acting) = true := fun s h => by rw [acting_of_not_configures h]; rfl
  have starts : ∀ s : State, s.configures = false → (!s.acting || s.cul.st != .stopped || s.pwr.st != .run) = true := fun s h => by
    rw [acting_of_not_configures h]; rfl
  simp only [managerCommands, List.forall_mem_cons]
  exact ⟨barred_of_wrongState chkCulConfig 2 config, barred_of_wrongState chkCulStageSet 2 config,
    barred_of_wrongState chkCulSensorSet 2 config, barred_of_wrongState chkMapConfig 2 config,
    barred_of_wrongState chkGdeConfig 2 config, barred_of_wrongState chkFltConfig 2 config,
    barred_of_wrongState chkFltKeySet 2 config, barred_of_wrongState chkFltMemberSet 2 config,
    barred_of_wrongState chkCulStart 2 starts, barred_of_wrongState chkCulStop 2 acts,
    barred_of_wrongState chkCulCalRun 2 acts, barred_of_wrongState chkMapFieldOpen 2 acts,
    barred_of_wrongState chkMapFieldClose 2 acts, barred_of_wrongState chkMapExport 2 acts,
    barred_of_wrongState chkGdeLineWrite 2 acts, barred_of_wrongState chkGdeLineSelect 2 acts,
    barred_of_wrongState chkGdeEngage 2 acts, barred_of_wrongState chkGdeWasCal 2 acts,
    barred_of_wrongState chkFltHazardSet 2 acts, barred_of_wrongState chkFltLine 2 acts,
    barred_of_wrongState chkFltUnload 2 acts, barred_of_wrongState chkCulLedgerRead 1 acts,
    barred_of_wrongState chkMapTileRead 1 acts, barred_of_wrongState chkMapExportRead 1 acts,
    barred_of_wrongState chkGdeDisengage 1 acts, nofun⟩

/-! ## Where a worker is being configured -/

/-- With no flight but a command's own and no restart due, what the command's end leaves has the fleet link of its result. -/
theorem after_flt {p : Packet} {r : Req} {st : Status} {payload : List Byte} {s t : State} (hop : r.op ≠ .pwrSet)
    (hrestart : t.upd.restartDue = false) (hown : ∀ f ∈ t.sys.flights, f.req.port = r.port ∧ f.req.p.tag = r.p.tag) :
    (after p r (.fin st payload, t) s).flt = t.flt := by
  obtain ⟨a, b, c, d, hfin⟩ := finish_frame r st payload t
  have hnone : (finish r st payload t).sys.flights = [] := by
    rw [finish_flights, List.map_eq_nil_iff, List.filter_eq_nil_iff]
    exact fun f hf => by simp [hown f hf]
  have hend : afterCommand r.op (settle r (.fin st payload, t)) = finish r st payload t := by
    rw [hfin] at hnone ⊢
    simp only [afterCommand, settle, beq_false_of_ne hop, Bool.false_eq_true, if_false, hfin, restartIfDue, hrestart]
  have hwaiting : startWaiting 129 (finish r st payload t) = finish r st payload t := by
    simp only [startWaiting, hnone, List.find?_nil]
  simp only [after, hend, hwaiting]
  rw [hfin]

/-- What `FLT_KEY_SET` leaves: its key, stored, and no session (R393). -/
def withKey (r : Req) (t : State) : State := closeDtls (modFlt (fun f => { f with key := some (r.p.payload.take 32) }) t)

/-- On a module that is not the acting manager the fleet link is off, so that a permitted `FLT_KEY_SET` does nothing but store its key
(R396). -/
theorem effOf_fltKeySet {r : Req} {t : State} (hop : r.op = .fltKeySet) (hact : t.acting = false) (hok : permitted (chkFltKeySet r t) = true) :
    effOf r t = (.fin .done [], withKey r t) := by
  have hbefore : fltBefore t = t := by simp only [fltBefore, fltOn, gdeOn, hact, Bool.and_false, Bool.false_and, Bool.false_eq_true, if_false]
  simp only [effOf, hop, effFltKeySet, check_permitted hok, done, hbefore, withKey]

/-- A worker in RUN with a host partition, to which a machine configuration is being applied. -/
def configuredWorker : State :=
  { State.reset with
    id := { index := some 1, role := .worker, machine := 1, managerSeen := true, discovered := true, holding := true }
    pwr := { st := .run, ready := true, modReady := true, stage := 9, ethUp := true }
    col := { parts := [(0, { cfg := some { supervisory := true }, st := .running, admitted := true, pair := some 0 })] } }

/-- `FLT_KEY_SET` of its host, with a massif key of zeros. -/
def keyPacket : Packet :=
  let p : Packet := { via := .mailbox 0, tag := 1, flags := 4, target := BitVec.ofNat 32 (unit 0x10 0), length := 32, payload := zeros 32 }
  { p with crc := BitVec.ofNat 32 (Crypto.crc32c (commandHeader (opCode .fltKeySet) p 0 ++ p.payload)) }

/-- A permitted request of a module that is not the acting manager and has no massif key, with no restart due and no other command in
flight. -/
def storesFirstKey (r : Req) (t : State) : Bool :=
  !t.acting && permitted (chkFltKeySet r t) && t.flt.key.isNone && !t.upd.restartDue
    && t.sys.flights.all fun f => f.req.port == r.port && f.req.p.tag == r.p.tag

theorem storesFirstKey_iff {r : Req} {t : State} : storesFirstKey r t = true ↔ t.acting = false ∧ permitted (chkFltKeySet r t) = true
    ∧ t.flt.key = none ∧ t.upd.restartDue = false ∧ ∀ f ∈ t.sys.flights, f.req.port = r.port ∧ f.req.p.tag = r.p.tag := by
  simp only [storesFirstKey, Bool.and_eq_true, Bool.not_eq_true', List.all_eq_true, beq_iff_eq, Option.isNone_iff_eq_none, and_assoc]

/-- Where it is so permitted, `FLT_KEY_SET` stores its key; refused without effect, it would leave none. -/
theorem not_refused_of_storesFirstKey {p : Packet} {r : Req} {s t : State} (ht : taken .fltKeySet p s = some (r, t))
    (h : storesFirstKey r t = true) (c : Status) : exec (.fltKeySet p) s ≠ .next (after p r (.fin c [], t) s) := by
  obtain ⟨hact, hok, hkey, hrestart, hown⟩ := storesFirstKey_iff.mp h
  obtain ⟨hop, hx⟩ := command_taken ht
  have hne : r.op ≠ .pwrSet := by rw [hop]; nofun
  intro hbar
  have hsame : after p r (.fin .done [], withKey r t) s = after p r (.fin c [], t) s := by
    rw [← effOf_fltKeySet hop hact hok]
    exact Host.Outcome.next.inj (hx.symm.trans hbar)
  have hstored : (withKey r t).flt = t.flt := calc
    (withKey r t).flt = (after p r (.fin .done [], withKey r t) s).flt := (after_flt (t := withKey r t) hne hrestart hown).symm
    _ = (after p r (.fin c [], t) s).flt := by rw [hsame]
    _ = t.flt := after_flt hne hrestart hown
  cases (congrArg FltState.key hstored).trans hkey

/-- The mark lets the worker's own conditions pass: its host's packet is taken and permitted. -/
theorem keyPacket_storesFirstKey : ∃ r t, taken .fltKeySet keyPacket configuredWorker = some (r, t) ∧ storesFirstKey r t = true := by
  have hmeets : ((taken .fltKeySet keyPacket configuredWorker).any fun x => storesFirstKey x.1 x.2) = true := by decide +kernel
  obtain ⟨⟨r, t⟩, ht, h⟩ := (Option.any_eq_true _ _).mp hmeets
  exact ⟨r, t, ht, h⟩

/-- Refutes O7: on a worker to which a machine configuration is being applied, `FLT_KEY_SET` of the host stores its key. -/
theorem not_onlyTheActingManagerRunsThem : ¬ Obligations.OnlyTheActingManagerRunsThem := by
  unfold Obligations.OnlyTheActingManagerRunsThem
  rintro ⟨-, -, -, -, -, -, -, -, -, -, -, -, -, -, -, -, -, -, -, -, hkeySet, -⟩
  obtain ⟨r, t, ht, hstores⟩ := keyPacket_storesFirstKey
  obtain ⟨hact, -⟩ := storesFirstKey_iff.mp hstores
  obtain ⟨c, -, hbar⟩ := hkeySet keyPacket configuredWorker r t ht (by simp [hact])
  exact not_refused_of_storesFirstKey ht hstores c hbar

end Sys2Proof.Machine

/-! The fail-operational core (chapter 18): what an overrun makes of its partition, and what it leaves alone. -/
namespace Sys2Proof.Machine

/-! ## What leaves chapter 18's state alone

An overrun reports, reads and writes lines of memory and ends flights; none of that reaches the pairs or the partitions. -/

@[simp] theorem memEvent_col (cause : Nat) (chan sub dev : Option Nat) (agent : Nat) (owner : Option Nat) (addr : Nat) (s : State) :
    (memEvent cause chan sub dev agent owner addr s).col = s.col := by
  obtain ⟨_, _, _, h⟩ := memEvent_frame cause chan sub dev agent owner addr s
  rw [h]

@[simp] theorem colEvent_col (cause : Nat) (pair part spare : Option Nat) (target : Nat) (s : State) :
    (colEvent cause pair part spare target s).col = s.col := by
  obtain ⟨_, _, _, h⟩ := event_frame 0x1180 target
    (le 1 cause ++ le 1 (orFF pair) ++ le 1 (orFF part) ++ le 1 (orFF spare) ++ zeros 4 ++ le 8 s.time) s.supervisory.toList 0x70 s
  rw [colEvent, h]

@[simp] theorem remapLine_col (line : Nat) (data : List Byte) (mark : Bool) (agent : Nat) (s : State) :
    (remapLine line data mark agent s).col = s.col := by
  unfold remapLine
  split
  · exact memEvent_col ..
  · exact memEvent_col ..

@[simp] theorem markExcluded_col (ch agent : Nat) (s : State) : (markExcluded ch agent s).col = s.col := by
  unfold markExcluded
  split
  · rfl
  · exact memEvent_col ..

@[simp] theorem countDevice_col (line dev agent : Nat) (s : State) : (countDevice line dev agent s).col = s.col := by
  unfold countDevice
  extract_lets
  split
  · rfl
  split
  · exact memEvent_col ..
  · split
    · rfl
    · exact markExcluded_col ..

@[simp] theorem countUe_col (line agent : Nat) (s : State) : (countUe line agent s).col = s.col := by
  unfold countUe
  extract_lets
  split
  · exact markExcluded_col ..
  · rfl

@[simp] theorem storeLine_col (line : Nat) (data : List Byte) (mark : Bool) (s : State) : (storeLine line data mark s).col = s.col := by
  unfold storeLine
  split
  · rfl
  split
  · rfl
  · rfl

/-- A choice between two states that leave chapter 18's state alone leaves it alone. -/
theorem ite_col {c : Prop} [Decidable c] {s a b : State} (ha : a.col = s.col) (hb : b.col = s.col) : (if c then a else b).col = s.col := by
  split
  · exact ha
  · exact hb

/-- A read of a DRAM line counts, writes back, remaps and may exclude its channel, all in chapter 19's state. -/
@[simp] theorem readDram_col (line agent : Nat) (pat : ErrPat) (s : State) : (readDram line agent pat s).2.col = s.col := by
  unfold readDram
  split
  · rfl
  split
  · rfl
  split
  · rfl
  extract_lets stored injected all data _ found _ judged _ again written
  cases decodePat (s.mem.failed.getD (subOf line) none) all with
  | clean => exact ite_col rfl rfl
  | corrected dev =>
    have hcounted : (if injected then written else countDevice line dev agent written).col = s.col := ite_col rfl (countDevice_col ..)
    exact ite_col ((remapLine_col ..).trans hcounted) hcounted
  | correctedMany => exact ite_col (remapLine_col ..) rfl
  | uncorrectable =>
    have hjudged : judged.col = s.col := ite_col rfl (countUe_col ..)
    exact ite_col ((remapLine_col ..).trans hjudged) hjudged

@[simp] theorem readChip_col (line bits : Nat) (s : State) : (readChip line bits s).2.col = s.col := by
  unfold readChip
  extract_lets data correct
  split
  · rfl
  split
  · rfl
  split
  · rfl
  have hfree : (if bits == correct + 1 then (true, s) else takeFreeBool s).2.col = s.col := by
    split
    · rfl
    · rfl
  split
  next caught u hu =>
    rw [hu] at hfree
    split
    · exact (storeLine_col ..).trans hfree
    · exact hfree

@[simp] theorem copyLine_col (src dst : Nat) (s : State) : (copyLine src dst s).col = s.col := by
  simp only [copyLine, storeLine_col, readLine]
  split
  · exact readDram_col ..
  · exact readChip_col ..

@[simp] theorem restoreLine_col (n off : Nat) (s : State) : (restoreLine n off s).col = s.col := by
  unfold restoreLine
  extract_lets
  split
  · rw [copyLine_col]
    exact foldl_frame (fun u => u.col = s.col) (fun u b h => (copyLine_col ..).trans h) _ s rfl
  · rfl

@[simp] theorem dropHeld_col (n : Nat) (s : State) : (dropHeld n s).col = s.col := by
  refine foldl_frame (fun u => u.col = s.col) ?_ _ s rfl
  exact fun u f h => h

/-! ## A period that is discarded -/

/-- A partition once its current period is discarded (R422, R423). -/
def Part.discarded (p : Part) : Part :=
  { p with inPeriod := false, committing := false, committed := false, dirty := [], swaps := [], replaying := false }

/-- A partition is read from chapter 18's state alone. -/
theorem part_eq_of_col {s u : State} (h : u.col = s.col) (n : Nat) : u.part n = s.part n := by
  rw [State.part, h, State.part]

@[simp] theorem setPart_part_same (n : Nat) (p : Part) (s : State) : (s.setPart n p).part n = p := by
  simp only [State.part, setPart_col, aget_aset_same, Option.getD_some]

/-- Nothing but the partition's own entry changes in chapter 18's state. -/
theorem discardPeriod_col (n : Nat) (s : State) : (discardPeriod n s).col = (s.setPart n (s.part n).discarded).col := by
  have hrestored : ∀ (l : List Nat) (b : Nat), (l.foldl (fun u line => restoreLine n (line - b) u) s).col = s.col := fun l b =>
    foldl_frame (fun u => u.col = s.col) (fun u line h => (restoreLine_col ..).trans h) l s rfl
  simp only [discardPeriod, dropHeld_col, State.modPart, setPart_col, hrestored, part_eq_of_col (hrestored _ _), Part.discarded]

/-- Where its period is already over, a partition that becomes FAULTED changes in that alone. -/
theorem faultPart_col {n : Nat} {s : State} (h : (s.part n).inPeriod = false) :
    (faultPart n s).col = (s.setPart n { s.part n with st := .faulted }).col := by
  simp only [faultPart, h, Bool.false_eq_true, if_false, colEvent_col, State.modPart]

/-! ## An overrun (R423) -/

/-- A partition once an overrun of its period is counted. -/
def Part.overran (p : Part) : Part :=
  { p.discarded with overruns := p.overruns + 1, consecutive := p.consecutive + 1, fOverrun := true }

/-- The module once an overrun is counted and reported, before the third in a row faults the partition. -/
def countOverrun (n : Nat) (s : State) : State :=
  colEvent 3 none (some n) none (partUnit n) ((discardPeriod n s).modPart n fun p =>
    { p with overruns := p.overruns + 1, consecutive := p.consecutive + 1, fOverrun := true })

theorem countOverrun_pairs (n : Nat) (s : State) : (countOverrun n s).col.pairs = s.col.pairs := by
  simp only [countOverrun, colEvent_col, State.modPart, setPart_col, discardPeriod_col]

theorem countOverrun_part (n : Nat) (s : State) : (countOverrun n s).part n = (s.part n).overran := by
  have hdiscarded : (discardPeriod n s).part n = (s.part n).discarded := by
    rw [part_eq_of_col (discardPeriod_col n s), setPart_part_same]
  rw [countOverrun, part_eq_of_col (colEvent_col ..), State.modPart, setPart_part_same, hdiscarded]
  rfl

/-- The period is over before the partition is faulted, so that it is not discarded twice. -/
theorem countOverrun_ended (n : Nat) (s : State) : ((countOverrun n s).part n).inPeriod = false := by
  rw [countOverrun_part]
  rfl

/-- Whether an overrun faults its partition: the working image cannot be restored, or two overruns in a row came before. -/
def overrunFaults (n : Nat) (s : State) : Bool := unrestorable n (s.part n).dirtyOffs s || decide (2 ≤ (s.part n).consecutive)

/-- An overrun is counted, and then faults the partition or not. -/
theorem overrun_eq (n : Nat) (s : State) :
    overrun n s = if overrunFaults n s then faultPart n (countOverrun n s) else countOverrun n s := by
  have hthird : decide (3 ≤ ((countOverrun n s).part n).consecutive) = decide (2 ≤ (s.part n).consecutive) := by
    rw [countOverrun_part]
    exact decide_eq_decide.mpr Nat.succ_le_succ_iff
  rw [overrunFaults, ← hthird]
  rfl

/-- Whether or not an overrun faults its partition, it changes no pair. -/
theorem overrun_pairs (n : Nat) (s : State) : (overrun n s).col.pairs = s.col.pairs := by
  rw [overrun_eq]
  split
  · rw [faultPart_col (countOverrun_ended n s), setPart_col, countOverrun_pairs]
  · exact countOverrun_pairs n s

/-- What an overrun makes of its partition. -/
theorem overrun_part (n : Nat) (s : State) :
    (overrun n s).part n = if overrunFaults n s then { (s.part n).overran with st := .faulted } else (s.part n).overran := by
  rw [overrun_eq]
  split
  · rw [part_eq_of_col (faultPart_col (countOverrun_ended n s)), setPart_part_same, countOverrun_part]
  · exact countOverrun_part n s

/-- Where a partition is in its period, `WCET_EXPIRY` is an overrun (R421). -/
theorem doWcetExpiry_inPeriod {n : Nat} {s : State} (h : (s.part n).inPeriod = true) : doWcetExpiry n s = overrun n s := if_pos h

/-- Settles O24: the partition's entry after an overrun is `Part.overran`, FAULTED where two overruns in a row came before; the pairs lie
outside that entry. -/
theorem overrunsDiscardThePeriod : Obligations.OverrunsDiscardThePeriod := by
  intro t n s hm hin
  have hpart := overrun_part n (tick t s)
  refine ⟨occurs_of_mainEvent rfl hm (doWcetExpiry_inPeriod (s := tick t s) hin), ?_, overrun_pairs n (tick t s), ?_, fun htwo => ?_⟩
  · rw [hpart, apply_ite Part.inPeriod]
    exact ite_self _
  · rw [hpart, apply_ite Part.overruns]
    exact ite_self _
  · have hfaults : overrunFaults n (tick t s) = true := Bool.or_eq_true_iff.mpr (.inr (decide_eq_true htwo))
    rw [hpart, if_pos hfaults]

end Sys2Proof.Machine

/-! Memory and ECC (chapter 19): a whole line stored to DRAM, the stores that no memory takes, and the canonical form that accesses and
scrub reads keep. -/
namespace Sys2Proof.Machine

/-! ## Stores of a size and an alignment that a memory takes or not (R441) -/

/-- Every agent reaches DRAM (R469 bars Cairn's area of MRAM alone). -/
theorem reachable_dram {a : Nat} (agent : Nat) (h : areaOf a = .dram) : reachable agent a = true := by
  simp only [reachable, h]

theorem writeShapeOk_dram {a : Nat} (n : Nat) (h : areaOf a = .dram) : writeShapeOk a n = true ↔ n = 64 ∧ a % 64 = 0 := by
  simp only [writeShapeOk, h, Bool.and_eq_true, beq_iff_eq]

theorem writeShapeOk_sram {a : Nat} (n : Nat) (h : areaOf a = .sram) : writeShapeOk a n = true ↔ (n = 4 ∨ n = 8 ∨ n = 64) ∧ a % n = 0 := by
  simp only [writeShapeOk, h, Bool.and_eq_true, Bool.or_eq_true, beq_iff_eq, or_assoc]

theorem writeShapeOk_mram {a : Nat} (n : Nat) (h : areaOf a = .mram) : writeShapeOk a n = true ↔ (n = 8 ∨ n = 64) ∧ a % n = 0 := by
  simp only [writeShapeOk, h, Bool.and_eq_true, Bool.or_eq_true, beq_iff_eq]

/-- Outside the register blocks an access is one to memory. -/
theorem doAccess_memory {a : MemAccess} {s : State} (hm : s.mainOn = true) (harea : ∀ g, areaOf a.addr ≠ .regs g) :
    doAccess a s = accessMem a s := by
  simp only [doAccess, hm, Bool.not_true, Bool.false_eq_true, if_false]

/-- A store that its agent may make and its memory takes is performed. -/
theorem accessMem_store {a : MemAccess} {d : List Byte} (s : State) (hst : a.store = some d) (hlen : d.length = a.size)
    (hreach : reachable a.agent a.addr = true) (hshape : writeShapeOk a.addr a.size = true) : accessMem a s = storeMem a d s := by
  simp only [accessMem, hst, hreach, hshape, hlen, beq_self_eq_true, Bool.and_self, if_true]

/-- A store of a size or an alignment that its memory does not take is refused. -/
theorem accessMem_badShape {a : MemAccess} {d : List Byte} (s : State) (hst : a.store = some d) (hshape : writeShapeOk a.addr a.size ≠ true) :
    accessMem a s = refuseAccess a s := by
  simp only [accessMem, hst, hshape, Bool.and_false, Bool.false_and, Bool.false_eq_true, if_false]

/-- What a refused access makes of memory: a fault is counted, and the requester is told (R436). -/
theorem refuseAccess_mem (a : MemAccess) (s : State) :
    (refuseAccess a s).mem = { s.mem with faults := s.mem.faults + 1, last := { data := zeros a.size, fault := true } } := by
  obtain ⟨_, _, _, h⟩ := refuseAccess_frame a s
  rw [h]

/-- Settles O21: each of the three forms is a shape that its memory does not take, so the access is refused, which changes the count of
faults and the requester's result alone. -/
theorem otherStoresToMemoryAreRefused : Obligations.OtherStoresToMemoryAreRefused := by
  intro a d s hm hst _ hbad
  have hmemory : ∀ g, areaOf a.addr ≠ .regs g := by
    rcases hbad with ⟨harea, -⟩ | ⟨harea, -⟩ | ⟨harea, -⟩ <;> simp [harea]
  have hshape : writeShapeOk a.addr a.size ≠ true := by
    rcases hbad with ⟨harea, hno⟩ | ⟨harea, hno⟩ | ⟨harea, hno⟩
    · rwa [ne_eq, writeShapeOk_dram _ harea]
    · rwa [ne_eq, writeShapeOk_sram _ harea]
    · rwa [ne_eq, writeShapeOk_mram _ harea]
  have hrefused : doAccess a s = refuseAccess a s := (doAccess_memory hm hmemory).trans (accessMem_badShape s hst hshape)
  rw [hrefused, refuseAccess_mem]
  exact ⟨rfl, rfl, rfl, rfl⟩

/-! ## A whole line stored to its cells (R441, R443) -/

/-- An aligned address is its line's. -/
theorem lineOf_aligned {a : Nat} (h : a % 64 = 0) : lineOf a = a := Nat.div_mul_cancel (Nat.dvd_of_mod_eq_zero h)

/-- A whole line outside every partition's region is stored with its mark. -/
theorem storeMem_line {a : MemAccess} (d : List Byte) {s : State} (hsize : a.size = 64) (halign : a.addr % 64 = 0)
    (hregion : s.regionOf a.addr = none) : storeMem a d s = setLast {} (storeLine a.addr d a.mark s) := by
  cases hp : a.partition <;> simp [storeMem, lineOf_aligned halign, hregion, hsize, hp]

section
variable {line : Nat} {data : List Byte} {mark : Bool} {s : State} (hin : s.lineExcluded line = false) (hcells : (s.remapOf line).isNone = true)
include hin hcells

/-- A line of a channel in use without a remap entry is stored in its own cells, as zeros where it is marked (log entry 212). -/
theorem storeLine_bytes : (storeLine line data mark s).mem.bytes = memWriteList s.mem.bytes line (if mark then zeros 64 else data) := by
  simp only [storeLine, hin, Bool.false_eq_true, if_false, Option.isNone_iff_eq_none.mp hcells]

/-- Its mark is then the stored one. -/
theorem storeLine_poisoned : (storeLine line data mark s).poisoned line = mark := by
  cases mark <;> simp [storeLine, State.poisoned, hin, Option.isNone_iff_eq_none.mp hcells]

end

/-- Settles O20: the access is one `storeLine` to the line's own cells, so the laws of `memWriteList` say what each byte then reads. -/
theorem wholeLineStoreThenLoad : Obligations.WholeLineStoreThenLoad := by
  intro a d s hm hwf harea halign hsize hst hlen hregion hin hcells
  have hdone : doAccess a s = setLast {} (storeLine a.addr d a.mark s) := by
    rw [doAccess_memory hm (by simp [harea]), accessMem_store s hst (hlen.trans hsize.symm) (reachable_dram _ harea)
      ((writeShapeOk_dram _ harea).mpr ⟨hsize, halign⟩), storeMem_line d hsize halign hregion]
  have hbytes : (doAccess a s).mem.bytes = memWriteList s.mem.bytes a.addr (if a.mark then zeros 64 else d) := by
    rw [hdone, setLast_mem, storeLine_bytes hin hcells]
  have h64 : (if a.mark then zeros 64 else d).length = 64 := by
    split
    · exact List.length_replicate
    · exact hlen
  refine ⟨?_, ?_, ?_, fun b hb => ?_⟩
  · have hread := memReadList_memWriteList hwf a.addr (if a.mark then zeros 64 else d)
    rwa [h64, ← hbytes] at hread
  · rw [hdone]
    exact storeLine_poisoned hin hcells
  · rw [memoryWf, hbytes]
    exact memWriteList_wf _ _ hwf
  · rw [hbytes, memRead_memWriteList_other hwf]
    rwa [h64]

/-! ## The canonical form (log entry 7)

Reports, windows and counts leave the bytes of memory alone; what writes bytes writes whole lines or parts of them, which
`storeLine_wf` and `storePart_wf` cover. -/

/-- The canonical form is one of the bytes alone. -/
theorem memoryWf_congr {s u : State} (h : u.mem.bytes = s.mem.bytes) : memoryWf u = memoryWf s := by
  rw [memoryWf, h, memoryWf]

theorem memoryWf_of_mem {s u : State} (h : u.mem = s.mem) : memoryWf u = memoryWf s := memoryWf_congr (congrArg MemState.bytes h)

/-- A choice between two states with the same bytes as before has them too. -/
theorem ite_bytes {c : Prop} [Decidable c] {s a b : State} (ha : a.mem.bytes = s.mem.bytes) (hb : b.mem.bytes = s.mem.bytes) :
    (if c then a else b).mem.bytes = s.mem.bytes := by
  split
  · exact ha
  · exact hb

@[simp] theorem modPart_mem (n : Nat) (f : Part → Part) (s : State) : (s.modPart n f).mem = s.mem := rfl

@[simp] theorem openWindow_mem (parts : List Nat) (s : State) : (openWindow parts s).mem = s.mem := by
  unfold openWindow
  extract_lets second _ opened
  split
  · refine foldl_frame (fun u => u.mem = s.mem) ?_ parts opened rfl
    exact fun u n h => h
  · rfl

@[simp] theorem dropHeld_mem (n : Nat) (s : State) : (dropHeld n s).mem = s.mem := by
  refine foldl_frame (fun u => u.mem = s.mem) ?_ _ s rfl
  exact fun u f h => h

@[simp] theorem consumePoison_bytes (agent a : Nat) (s : State) : (consumePoison agent a s).mem.bytes = s.mem.bytes := by
  unfold consumePoison
  extract_lets
  split
  · rw [memEvent_mem_eq]
  · rfl

@[simp] theorem remapLine_bytes (line : Nat) (data : List Byte) (mark : Bool) (agent : Nat) (s : State) :
    (remapLine line data mark agent s).mem.bytes = s.mem.bytes := by
  unfold remapLine
  split
  · rw [memEvent_mem_eq]
  · rw [memEvent_mem_eq]

@[simp] theorem markExcluded_bytes (ch agent : Nat) (s : State) : (markExcluded ch agent s).mem.bytes = s.mem.bytes := by
  unfold markExcluded
  split
  · rfl
  · rw [memEvent_mem_eq]

@[simp] theorem countDevice_bytes (line dev agent : Nat) (s : State) : (countDevice line dev agent s).mem.bytes = s.mem.bytes := by
  unfold countDevice
  extract_lets
  split
  · rfl
  split
  · rw [memEvent_mem_eq]
  · exact ite_bytes rfl (markExcluded_bytes ..)

@[simp] theorem countUe_bytes (line agent : Nat) (s : State) : (countUe line agent s).mem.bytes = s.mem.bytes :=
  ite_bytes (markExcluded_bytes ..) rfl

/-- A read of a DRAM line counts, corrects, remaps and may exclude its channel; the errors it corrects are kept apart from the bytes. -/
@[simp] theorem readDram_bytes (line agent : Nat) (pat : ErrPat) (s : State) : (readDram line agent pat s).2.mem.bytes = s.mem.bytes := by
  unfold readDram
  split
  · rfl
  split
  · rfl
  split
  · rfl
  extract_lets stored injected all data _ found _ judged _ again written
  cases decodePat (s.mem.failed.getD (subOf line) none) all with
  | clean => exact ite_bytes rfl rfl
  | corrected dev =>
    have hcounted : (if injected then written else countDevice line dev agent written).mem.bytes = s.mem.bytes :=
      ite_bytes rfl (countDevice_bytes ..)
    exact ite_bytes ((remapLine_bytes ..).trans hcounted) hcounted
  | correctedMany => exact ite_bytes (remapLine_bytes ..) rfl
  | uncorrectable =>
    have hjudged : judged.mem.bytes = s.mem.bytes := ite_bytes rfl (countUe_bytes ..)
    exact ite_bytes ((remapLine_bytes ..).trans hjudged) hjudged

@[simp] theorem countScrub_bytes (line : Nat) (s : State) : (countScrub line s).mem.bytes = s.mem.bytes := by
  have hpass (u : State) : (endPass u).mem.bytes = u.mem.bytes := by
    unfold endPass
    extract_lets m
    cases u.mem.nextParams <;> rfl
  unfold countScrub
  split
  · exact ite_bytes (hpass _) rfl
  · exact ite_bytes rfl rfl
  · exact ite_bytes rfl rfl
  · rfl

theorem dirtyLine_mem {n line : Nat} {s u : State} (h : dirtyLine n line s = some u) : u.mem = s.mem := by
  unfold dirtyLine at h
  extract_lets p at h
  split at h
  · cases h
    rfl
  split at h
  · cases h
  · cases h
    rfl

/-- A choice between two canonical memories is canonical. -/
theorem ite_wf {c : Prop} [Decidable c] {a b : State} (ha : memoryWf a = true) (hb : memoryWf b = true) :
    memoryWf (if c then a else b) = true := by
  split
  · exact ha
  · exact hb

/-! What reads, restores and discards lines of memory keeps the form. -/

section
variable {s : State} (h : memoryWf s = true)
include h

/-- A read of a line that cannot be corrected rewrites it as a marked one. -/
theorem readChip_wf (line bits : Nat) : memoryWf (readChip line bits s).2 = true := by
  unfold readChip
  extract_lets data correct
  split
  · exact h
  split
  · exact h
  split
  · exact h
  have hfree : memoryWf (if bits == correct + 1 then (true, s) else takeFreeBool s).2 = true := by
    split
    · exact h
    · exact h
  split
  next caught u hu =>
    rw [hu] at hfree
    split
    · exact storeLine_wf _ _ _ hfree
    · exact hfree

theorem readLine_wf (line agent : Nat) (pat : ErrPat) (bits : Nat) : memoryWf (readLine line agent pat bits s).2 = true := by
  unfold readLine
  split
  · rwa [memoryWf_congr (readDram_bytes ..)]
  · exact readChip_wf h line bits

theorem copyLine_wf (src dst : Nat) : memoryWf (copyLine src dst s) = true :=
  storeLine_wf _ _ _ (readLine_wf h src 0xFE [] 0)

theorem restoreLine_wf (n off : Nat) : memoryWf (restoreLine n off s) = true := by
  unfold restoreLine
  extract_lets p
  split
  · exact copyLine_wf (foldl_frame (fun u => memoryWf u = true) (fun _ b hu => copyLine_wf hu _ b) _ s h) _ _
  · exact h

/-- Lines restored one after another. -/
theorem restoreLines_wf {α : Type} (n : Nat) (off : α → Nat) (l : List α) :
    memoryWf (l.foldl (fun u x => restoreLine n (off x) u) s) = true :=
  foldl_frame (fun u => memoryWf u = true) (fun _ x hu => restoreLine_wf hu n (off x)) l s h

theorem discardPeriod_wf (n : Nat) : memoryWf (discardPeriod n s) = true := by
  have hrestored := restoreLines_wf h n (fun line => line - (s.part n).stateBase) (s.part n).dirty
  rwa [discardPeriod, memoryWf_of_mem (dropHeld_mem ..), memoryWf_of_mem (modPart_mem ..)]

theorem faultPart_wf (n : Nat) : memoryWf (faultPart n s) = true := by
  rw [faultPart, memoryWf_of_mem (colEvent_mem_eq ..), memoryWf_of_mem (modPart_mem ..)]
  exact ite_wf (discardPeriod_wf h n) h

theorem overrun_wf (n : Nat) : memoryWf (overrun n s) = true := by
  have hcounted : memoryWf (countOverrun n s) = true := by
    rw [countOverrun, memoryWf_of_mem (colEvent_mem_eq ..), memoryWf_of_mem (modPart_mem ..)]
    exact discardPeriod_wf h n
  rw [overrun_eq]
  exact ite_wf (faultPart_wf hcounted n) hcounted

theorem repairRegion_wf (n off copy line agent : Nat) : memoryWf (repairRegion n off copy line agent s) = true := by
  have hopened : memoryWf (openWindow [n] s) = true := by rwa [memoryWf_of_mem (openWindow_mem ..)]
  unfold repairRegion
  extract_lets p opened
  split
  · exact faultPart_wf hopened n
  next a _ =>
    rw [memoryWf_of_mem (memEvent_mem_eq ..)]
    have hcopied := copyLine_wf hopened a line
    exact ite_wf hcopied (ite_wf hcopied (discardPeriod_wf hopened n))

/-- A partition whose image lay in a lost channel goes on from the other one (R424). -/
theorem channelLost_wf (ch : Nat) : memoryWf (channelLost ch s) = true := by
  unfold channelLost
  extract_lets ns run _ opened
  have hopened : memoryWf opened = true := by rwa [memoryWf_of_mem (openWindow_mem ..)]
  rw [memoryWf_of_mem (colEvent_mem_eq ..)]
  refine foldl_frame (fun u => memoryWf u = true) (fun u n hu => ?_) ns opened hopened
  extract_lets again stopped
  have hstopped : memoryWf stopped = true := ite_wf (discardPeriod_wf hu n) hu
  split
  next a v hv =>
    cases hv
    extract_lets p placed copied
    have hplaced : memoryWf placed = true := hstopped
    have hcopied : memoryWf copied = true := restoreLines_wf hplaced n (fun i => 64 * i) _
    exact ite_wf (faultPart_wf hplaced n) (ite_wf hcopied hcopied)

theorem handleChannels_wf (before after : List Bool) : memoryWf (handleChannels before after s) = true :=
  foldl_frame (fun u => memoryWf u = true) (fun _ ch hu => channelLost_wf hu ch) _ s h

/-! Accesses and scrub reads. -/

theorem agentRead_wf (line agent : Nat) (pat : ErrPat) (bits : Nat) : memoryWf (agentRead line agent pat bits s).2 = true := by
  have hread := readLine_wf h line agent pat bits
  unfold agentRead
  extract_lets before
  split
  next l u hu =>
    rw [hu] at hread
    extract_lets handled reported
    have hhandled : memoryWf handled = true := handleChannels_wf hread ..
    have hreported : memoryWf reported = true :=
      ite_wf ((memoryWf_of_mem (memEvent_mem_eq ..)).trans hhandled) hhandled
    split
    · split
      · exact readLine_wf (repairRegion_wf hreported ..) ..
      · exact hreported
    · exact hreported

theorem loadMem_wf (a : MemAccess) : memoryWf (loadMem a s) = true := by
  have hread := agentRead_wf h (lineOf a.addr) a.agent a.pat a.bits
  unfold loadMem
  extract_lets line
  split
  next l u hu =>
    rw [hu] at hread
    exact ite_wf ((memoryWf_congr (consumePoison_bytes ..)).trans hread) hread

/-- A store that dirties a line too many is an overrun; any other writes its line or its part of it (R409, R449). -/
theorem storeMem_wf (a : MemAccess) (d : List Byte) : memoryWf (storeMem a d s) = true := by
  unfold storeMem
  extract_lets line mine allowed worst count
  clear_value mine
  have hallowed : ∀ u, allowed = some u → memoryWf u = true := by
    intro u hu
    cases mine with
    | none => exact Option.some.inj hu ▸ h
    | some n => rwa [memoryWf_of_mem (dirtyLine_mem hu)]
  clear_value allowed
  split
  next _ n => exact overrun_wf h n
  · exact h
  next _ u =>
    have hu := hallowed u rfl
    extract_lets stored
    have hstored : memoryWf stored = true := storePart_wf _ _ hu
    have hcount (v : State) : (count v).mem.bytes = v.mem.bytes := ite_bytes rfl (ite_bytes rfl rfl)
    have hcounted : memoryWf (count stored) = true := (memoryWf_congr (hcount stored)).trans hstored
    exact ite_wf (storeLine_wf _ _ _ hu) (ite_wf (storeLine_wf _ _ _ hcounted) hcounted)

theorem accessMem_wf (a : MemAccess) : memoryWf (accessMem a s) = true := by
  have hrefused : memoryWf (refuseAccess a s) = true := by
    rwa [memoryWf, refuseAccess_mem]
  unfold accessMem
  split
  · exact ite_wf (loadMem_wf h a) hrefused
  next d _ => exact ite_wf (storeMem_wf h a d) hrefused

/-- The scrubber reads one line, of the three memories alike, and repairs it or marks it where it cannot be read (R445, R447). -/
theorem doScrubRead_wf (line0 : Nat) (pat : ErrPat) (bits : Nat) : memoryWf (doScrubRead line0 pat bits s) = true := by
  have hread := readLine_wf h (lineOf line0) 0xFE pat bits
  unfold doScrubRead
  extract_lets line before
  split
  case h_4 => exact h
  all_goals
    split
    · exact h
    split
    next l u hu =>
      rw [hu] at hread
      extract_lets handled marked repaired
      have hhandled : memoryWf handled = true := handleChannels_wf hread ..
      rw [memoryWf_congr (countScrub_bytes ..)]
      unfold repaired
      split
      · exact hhandled
      split
      · exact repairRegion_wf hhandled ..
      · rw [memoryWf_of_mem (memEvent_mem_eq ..)]
        exact storeLine_wf _ _ _ hhandled

end

/-- Settles O23: every access and scrub read is made of line reads, line and part stores, and the discarding and restoring of images, each
of which keeps the form; what they report and count leaves the bytes alone. -/
theorem memoryStaysCanonical : Obligations.MemoryStaysCanonical :=
  ⟨fun a _ h => accessMem_wf h a, fun line pat bits _ h => doScrubRead_wf h line pat bits⟩

end Sys2Proof.Machine

/-! Cairn (chapter 21): an access to an address that is not mapped, or of another agent to the Cairn area, is not performed. -/
namespace Sys2Proof.Machine

/-! ## Addresses out of an agent's reach (R435, R469) -/

/-- The Cairn area lies in MRAM (R468). -/
theorem areaOf_cairn {a : Nat} (hlow : mramBase ≤ a) (hhigh : a < cairnEnd) : areaOf a = .mram := by
  have hdram : ¬ a < 0x000800000000 := Nat.not_lt.mpr (Nat.le_trans (by decide) hlow)
  have hmram : a < mramBase + 0x04000000 := Nat.lt_trans hhigh (by decide)
  rw [areaOf, if_neg hdram, if_pos]
  exact Bool.and_eq_true_iff.mpr ⟨decide_eq_true hlow, decide_eq_true hmram⟩

theorem reachable_unmapped {a : Nat} (agent : Nat) (h : areaOf a = .unmapped) : reachable agent a = false := by
  simp only [reachable, h]

/-- Of the agents Summit alone reaches the Cairn area. -/
theorem reachable_cairn {a agent : Nat} (hlow : mramBase ≤ a) (hhigh : a < cairnEnd) (hagent : agent ≠ 0x70) :
    reachable agent a = false := by
  simp only [reachable, areaOf_cairn hlow hhigh, Bool.or_eq_false_iff, beq_eq_false_iff_ne, decide_eq_false_iff_not]
  exact ⟨hagent, Nat.not_le.mpr hhigh⟩

/-- What lies out of an agent's reach is no register block: those answer for themselves (R12). -/
theorem areaOf_ne_regs_of_unreachable {agent a : Nat} (h : reachable agent a = false) (g : Nat) : areaOf a ≠ .regs g := by
  intro harea
  simp only [reachable, harea, Bool.true_eq_false] at h

/-! ## Accesses out of reach (R436) -/

/-- A load or a store to an address out of its agent's reach is refused. -/
theorem accessMem_unreachable {a : MemAccess} (s : State) (h : reachable a.agent a.addr = false) : accessMem a s = refuseAccess a s := by
  cases hst : a.store <;> simp only [accessMem, hst, h, Bool.false_and, Bool.false_eq_true, if_false]

theorem doAccess_unreachable {a : MemAccess} {s : State} (hm : s.mainOn = true) (h : reachable a.agent a.addr = false) :
    doAccess a s = refuseAccess a s :=
  (doAccess_memory hm (areaOf_ne_regs_of_unreachable h)).trans (accessMem_unreachable s h)

/-! ## A refusal poisons no line -/

/-- An effect after which the same lines are poisoned and the same lines unreadable marks nothing that the module keeps. -/
theorem newMarks_of_same (lines : List Nat) {s t : State} (hpoison : t.mem.poison = s.mem.poison)
    (hunreadable : ∀ l, t.unreadable l = s.unreadable l) : newMarks lines s t = t := by
  have hmarked : (t.mem.poison.filter fun l => !s.poisoned l) = [] := by simp [State.poisoned, hpoison]
  have hbad : (lines.filter fun l => t.unreadable l && !s.unreadable l && !t.poisoned l) = [] := by simp [hunreadable]
  simp only [newMarks, hmarked, hbad, List.append_nil, List.foldl_nil]

theorem refuseAccess_poison (a : MemAccess) (s : State) : (refuseAccess a s).mem.poison = s.mem.poison := by
  rw [refuseAccess_mem]

theorem refuseAccess_unreadable (a : MemAccess) (s : State) (line : Nat) : (refuseAccess a s).unreadable line = s.unreadable line := by
  simp only [State.unreadable, State.lineExcluded, State.remapOf, State.poisoned, refuseAccess_mem]

/-- Nothing follows for what the module keeps in memory from an access that is refused. -/
theorem withMarks_refused (lines : List Nat) {f : State → State} {a : MemAccess} {s : State} (h : f s = refuseAccess a s) :
    withMarks lines f s = refuseAccess a s := by
  rw [withMarks, h, newMarks_of_same lines (refuseAccess_poison a s) (refuseAccess_unreadable a s)]

/-- Settles O22: both forms are accesses out of their agent's reach, so the access is refused, which poisons no line and changes the count
of faults and the requester's result alone. -/
theorem unmappedAndCairnAccessesAreRefused : Obligations.UnmappedAndCairnAccessesAreRefused := by
  intro t a s hm hbad
  have hreach : reachable a.agent a.addr = false := by
    rcases hbad with hunmapped | ⟨hlow, hhigh, hagent⟩
    · exact reachable_unmapped a.agent hunmapped
    · exact reachable_cairn hlow hhigh hagent
  have hrefused : doAccess a (tick t s) = refuseAccess a (tick t s) := doAccess_unreachable (s := tick t s) hm hreach
  refine ⟨occurs_of_mainEvent rfl hm (withMarks_refused _ hrefused), ?_⟩
  rw [refuseAccess_mem]
  exact ⟨rfl, rfl, rfl⟩

end Sys2Proof.Machine

/-! Power states and holdup (chapter 23): the module at reset, supply-on start-up, supply failure, and packets that find no power. -/
namespace Sys2Proof.Machine

/-! ## Packets without power (R498, R505) -/

/-- A packet that does not reach the module does nothing, whatever its opcode and its port. -/
theorem runCmd_unreachable (op : Op) {p : Packet} {s : State} (h : reachable_ (tick p.time s) = false) : runCmd op p s = tick p.time s := by
  simp only [runCmd, h, Bool.not_false, if_true]

/-- The row of such a packet lets time pass alone. -/
theorem command_unreachable (op : Op) {p : Packet} {s : State} (h : reachable_ (tick p.time s) = false) :
    command op p s = .next (tick p.time s) := by
  have hrun : runCmd op p (tick p.time s) = tick p.time s := by
    rw [runCmd_unreachable op (by rwa [tick_tick]), tick_tick]
  simp only [command, within, hrun]
  rfl

/-- Settles O8: every packet row is the command of an opcode, and a command takes its packet only where packets reach the module. -/
theorem noPacketWithoutPower : Obligations.NoPacketWithoutPower := by
  intro i p s hp hout
  obtain ⟨op, hrow⟩ := everyPacketIsOneCommand.1 i p hp
  rw [hrow, command_unreachable op hout]

/-! ## Supply-on start-up (R501) -/

theorem modPwr_unchanged (s : State) : modPwr (fun p => p) s = s := rfl

/-- A start-up that is due begins from stage 1 with the measured `IGN`, and stops there where Summit's self-test fails (R512). -/
theorem doSupplyOn_due (b : BootMeas) {s : State} (h : startDue s = true) :
    doSupplyOn b s = modPwr (fun p => { p with stage := if b.summitOk then p.stage else 15 })
      (modPwr (fun p => { p with ign := b.ign }) (beginStart b.straps s)) := by
  cases hok : b.summitOk <;> simp only [doSupplyOn, h, hok, Bool.not_true, Bool.false_eq_true, if_false, if_true]
  case true => exact (modPwr_unchanged _).symm

theorem doSupplyOn_notDue (b : BootMeas) {s : State} (h : startDue s = false) : doSupplyOn b s = s := by
  simp only [doSupplyOn, h, Bool.not_false, if_true]

/-- The row of a start-up moves module time to 0 where it is due (R28), and otherwise on as any other row does. -/
theorem exec_supplyOnStartUp (t : Nat) (b : BootMeas) (s : State) : exec (.supplyOnStartUp t b) s =
    .next { doSupplyOn b (tick t s) with time := if startDue (tick t s) then 0 else max s.time t, pending := s.pending } := rfl

/-- Settles O2: both rows by their equations; the queue outlives the start-up (log entry 2). -/
theorem supplyOnStartsAnew : Obligations.SupplyOnStartsAnew := by
  refine ⟨fun t b s hdue => ?_, fun s => ⟨rfl, rfl⟩, fun t b s hnot => ?_⟩
  · simp only [exec_supplyOnStartUp, hdue, doSupplyOn_due b hdue, if_true]
  · simp only [exec_supplyOnStartUp, hnot, doSupplyOn_notDue b hnot, Bool.false_eq_true, if_false]
    rfl

/-! ## The module at reset -/

/-- With no command in the queue there is no order to keep. -/
theorem chronological_of_pending_nil {s : State} (h : s.pending = []) : chronological s := by
  simp [chronological, h]

/-- Settles O5: the functions and the valve channels are finitely many and alike; an empty queue is chronological, and memory is canonical
by `reset_memoryWf`. Reset is the instant before a first start-up (log entry 12). -/
theorem resetStateAndItsInvariants : Obligations.ResetStateAndItsInvariants := by
  have hfn : ∀ f, f < 32 → (State.reset.fn f).st = .off := by decide
  have hvalve : ∀ n, n < 48 → (State.reset.valve n).st = .unconfigured := by decide
  exact ⟨rfl, rfl, rfl, rfl, rfl, rfl, hfn, hvalve, rfl, chronological_of_pending_nil rfl, reset_memoryWf, rfl⟩

/-! ## Supply failure (R507 to R509) -/

/-- Agents stop in OFF: commands in flight end without a reply, and so do sessions (R505). -/
theorem enterOff_quiet (s : State) : (enterOff s).pwr.st = .off ∧ (enterOff s).sys.flights = [] ∧ (enterOff s).sys.sessions = [] :=
  ⟨rfl, rfl, rfl⟩

/-- A supply failure outside OFF ends in the stop of the agents, whether or not Summit is there for SAVE (R518). -/
theorem doSupplyFailure_entersOff (ended records : Nat) {s : State} (hst : s.pwr.st ≠ .off) (hfail : supplyFailed s = true) :
    ∃ u, doSupplyFailure ended records s = enterOff u := by
  have hacts : ¬(s.pwr.st == .off || !supplyFailed s) = true := by simp [hst, hfail]
  unfold doSupplyFailure
  rw [if_neg hacts]
  extract_lets _ saving stopped
  split
  · exact ⟨_, rfl⟩
  · exact ⟨_, rfl⟩

/-- Settles O26: every way through SAVE ends in `enterOff`. -/
theorem supplyFailureEndsInOff : Obligations.SupplyFailureEndsInOff := by
  intro ended records s hst hfail
  obtain ⟨u, hu⟩ := doSupplyFailure_entersOff ended records hst hfail
  rw [hu]
  exact enterOff_quiet u

end Sys2Proof.Machine

/-! # Steps, channels and measurements

A step runs the front of the queue (O1); the timers of one valve channel spare the others (O25), and measurements leave memory, CAN and DMA
as they were (O27). Both frames are a relation between two states, proved by composing the rules of the shared operations. -/

namespace Sys2Proof.Machine

/-- Settles O1: both clauses are the equations of `step`; idling on an empty queue is the model's choice (log entry 3). -/
theorem stepRunsTheFront : Obligations.StepRunsTheFront :=
  ⟨fun _ _ _ => rfl, fun _ h => step_idle h⟩

/-! ## One valve channel's timers and measurements (R247 to R259) -/

/-- `u` has every valve channel but `n`, the contents and marks of memory, the CAN channels and the power state of `s`. -/
structure SparesOthers (n : Nat) (s u : State) : Prop where
  valve : ∀ k, k ≠ n → u.valve k = s.valve k
  bytes : u.mem.bytes = s.mem.bytes
  poison : u.mem.poison = s.mem.poison
  can : u.can = s.can
  pwr : u.pwr = s.pwr

namespace SparesOthers

variable {n : Nat} {s t u : State}

theorem refl (n : Nat) (s : State) : SparesOthers n s s := ⟨fun _ _ => rfl, rfl, rfl, rfl, rfl⟩

theorem trans (h : SparesOthers n s t) (h' : SparesOthers n t u) : SparesOthers n s u :=
  ⟨fun k hk => (h'.valve k hk).trans (h.valve k hk), h'.bytes.trans h.bytes, h'.poison.trans h.poison, h'.can.trans h.can, h'.pwr.trans h.pwr⟩

theorem ite {c : Prop} [Decidable c] (h : SparesOthers n s t) (h' : SparesOthers n s u) : SparesOthers n s (if c then t else u) := by
  split
  · exact h
  · exact h'

theorem modValve (f : Valve → Valve) : SparesOthers n s (modValve n f s) :=
  ⟨fun _ hk => getD_updAt_other _ _ _ hk, rfl, rfl, rfl, rfl⟩

theorem of_eq (hv : u.vlv = s.vlv) (hm : u.mem = s.mem) (hc : u.can = s.can) (hp : u.pwr = s.pwr) : SparesOthers n s u :=
  ⟨fun k _ => congrArg (fun v => v.ch.getD k {}) hv, by rw [hm], by rw [hm], hc, hp⟩

theorem pubHw (loc ty : Nat) (v : BitVec 64) (q : Quality) (a b : Nat) : SparesOthers n s (pubHw loc ty v q a b s) := by
  apply of_eq <;> simp

theorem valveEvent (cause m : Nat) : SparesOthers n s (valveEvent cause m s) := by
  apply of_eq <;> simp

/-- A changed status word is marked, published and told by events (R254, R261, R264). -/
theorem vlvSync : SparesOthers n s (vlvSync n s) := by
  unfold Machine.vlvSync
  extract_lets v w old latest changed noted published told latched derated
  have hnoted : SparesOthers n s noted := (modValve _).trans (t := latest) ⟨fun _ _ => rfl, rfl, rfl, rfl, rfl⟩
  have hpub : SparesOthers n s published := hnoted.trans (pubHw ..)
  have htold : SparesOthers n s told := .ite (hpub.trans (valveEvent ..)) hpub
  have hlatched : SparesOthers n s latched := .ite (htold.trans (valveEvent ..)) htold
  have hderated : SparesOthers n s derated := .ite (hlatched.trans (valveEvent ..)) hlatched
  exact .ite (refl n s) (.ite (hderated.trans (valveEvent ..)) hderated)

theorem modValve_vlvSync (f : Valve → Valve) : SparesOthers n s (Machine.vlvSync n (Machine.modValve n f s)) :=
  (modValve f).trans vlvSync

end SparesOthers

section
variable (n : Nat) (s : State)

theorem doRetryReset_spares : SparesOthers n s (doRetryReset n s) :=
  .ite (.refl n s) (.modValve_vlvSync _)

theorem doDemagComplete_spares (i : Rat) : SparesOthers n s (doDemagComplete n i s) := by
  refine .ite (.refl n s) ?_
  cases (s.valve n).st
  case demag => exact .modValve_vlvSync _
  case offTime | retryWait | latched => exact .ite (.modValve _) (.refl n s)
  all_goals exact .refl n s

theorem doOffStateCheck_spares (hMax hMin : Rat) (hi lo : List Rat) : SparesOthers n s (doOffStateCheck n hMax hMin hi lo s) :=
  .ite (.refl n s) (.modValve_vlvSync _)

theorem doCoilThermal_spares (l : List Rat) : SparesOthers n s (doCoilThermal n l s) :=
  .ite (.refl n s) (.modValve_vlvSync _)

theorem doResistance_spares (duty : Rat) (l : List Rat) (v : Rat) : SparesOthers n s (doResistance n duty l v s) := by
  unfold doResistance
  split
  · exact .refl n s
  · exact .ite (.refl n s) (.modValve _)

theorem doSentFrame_spares (cal : Nat) (nibs : List Nat) : SparesOthers n s (doSentFrame n cal nibs s) :=
  .ite (.refl n s) (.ite ((SparesOthers.modValve _).trans (.modValve _)) (.modValve _))

end

/-- Settles O25: each of the events changes its own channel with `modValve` and then tells the status word that has changed. -/
theorem otherValvesStayAsTheyAre : Obligations.OtherValvesStayAsTheyAre := by
  intro n k s hk u hu
  have hspares : SparesOthers n s u := by
    obtain rfl | ⟨i, rfl⟩ | ⟨hMax, hMin, hi, lo, rfl⟩ | ⟨l, rfl⟩ | ⟨duty, l, v, rfl⟩ | ⟨cal, nibs, rfl⟩ := hu
    · exact doRetryReset_spares n s
    · exact doDemagComplete_spares n s i
    · exact doOffStateCheck_spares n s hMax hMin hi lo
    · exact doCoilThermal_spares n s l
    · exact doResistance_spares n s duty l v
    · exact doSentFrame_spares n s cal nibs
  exact ⟨hspares.valve k hk, hspares.bytes, hspares.poison, hspares.can, hspares.pwr⟩

/-! ## What measurements and timers leave alone -/

/-- `u` has the memory, the CAN channels and the DMA channels of `s`. -/
structure Keeps (s u : State) : Prop where
  mem : u.mem = s.mem
  can : u.can = s.can
  dma : u.dma = s.dma

theorem leaves_of_keeps {s u : State} (h : Keeps s u) : leaves u s := ⟨by rw [h.mem], by rw [h.mem], h.can, h.dma⟩

namespace Keeps

variable {s t u : State}

theorem refl (s : State) : Keeps s s := ⟨rfl, rfl, rfl⟩

theorem trans (h : Keeps s t) (h' : Keeps t u) : Keeps s u :=
  ⟨h'.mem.trans h.mem, h'.can.trans h.can, h'.dma.trans h.dma⟩

theorem ite {c : Prop} [Decidable c] (h : Keeps s t) (h' : Keeps s u) : Keeps s (if c then t else u) := by
  split
  · exact h
  · exact h'

theorem foldl {α : Type} {f : State → α → State} (hf : ∀ u a, Keeps u (f u a)) (l : List α) (h : Keeps s t) : Keeps s (l.foldl f t) :=
  foldl_frame (Keeps s) (fun u a hu => hu.trans (hf u a)) l t h

/-- A value that comes with a state in which a fresh free value is taken. -/
theorem pair {α : Type} {x : α × State} {f : α → State → State} (hx : Keeps s x.2) (hf : ∀ a u, Keeps s u → Keeps s (f a u)) :
    Keeps s (match (generalizing := false) x with | (a, u) => f a u) := hf x.1 x.2 hx

theorem of_pair {α : Type} {x : α × State} {a : α} (h : Keeps s t) (hx : Keeps t x.2) (hu : x = (a, u)) : Keeps s u := by
  subst hu
  exact h.trans hx

/-! One rule per operation that the chapters share: after it, what was kept is kept. -/

variable (h : Keeps s t)
include h

theorem event (op tgt : Nat) (b : List Byte) (parts : List Nat) (source : Nat) : Keeps s (event op tgt b parts source t) :=
  h.trans ⟨by simp, by simp, by simp⟩

theorem cairn (code source : Nat) (b : List Byte) : Keeps s (cairn code source b t) :=
  h.trans ⟨by simp, by simp, by simp⟩

theorem publish (loc : Nat) (r : Rec) (fresh : Nat) : Keeps s (publish loc r fresh t) :=
  h.trans ⟨by simp, by simp, by simp⟩

theorem originate (port op : Nat) (tgt : BitVec 32) (b : List Byte) : Keeps s (originate port op tgt b t) :=
  h.trans ⟨by simp, by simp, by simp⟩

theorem finish (r : Req) (st : Status) (b : List Byte) : Keeps s (finish r st b t) :=
  h.trans ⟨by simp, by simp, by simp⟩

theorem modPart (n : Nat) (f : Part → Part) : Keeps s (t.modPart n f) := h.trans ⟨rfl, rfl, rfl⟩

theorem openWindow (parts : List Nat) : Keeps s (openWindow parts t) :=
  .ite (.foldl (fun u _ => (refl u).modPart ..) _ (h.trans ⟨rfl, rfl, rfl⟩)) (h.trans ⟨rfl, rfl, rfl⟩)

theorem pubHw (loc ty : Nat) (v : BitVec 64) (q : Quality) (stamp fresh : Nat) : Keeps s (pubHw loc ty v q stamp fresh t) := h.publish ..

theorem regionFault : Keeps s (regionFault t) := h.openWindow _

theorem setFio (f : FioState) : Keeps s { t with fio := f } := h.trans ⟨rfl, rfl, rfl⟩
theorem setGns (f : GnsState) : Keeps s { t with gns := f } := h.trans ⟨rfl, rfl, rfl⟩
theorem setSig (f : SigState) : Keeps s { t with sig := f } := h.trans ⟨rfl, rfl, rfl⟩
theorem modDi (n : Nat) (f : Di → Di) : Keeps s (modDi n f t) := h.trans ⟨rfl, rfl, rfl⟩
theorem modAi (n : Nat) (f : Ai → Ai) : Keeps s (modAi n f t) := h.trans ⟨rfl, rfl, rfl⟩
theorem modValve (n : Nat) (f : Valve → Valve) : Keeps s (modValve n f t) := h.trans ⟨rfl, rfl, rfl⟩
theorem modPort (n : Nat) (f : GnsPort → GnsPort) : Keeps s (modPort n f t) := h.trans ⟨rfl, rfl, rfl⟩
theorem modTim (f : TimState → TimState) : Keeps s (modTim f t) := h.trans ⟨rfl, rfl, rfl⟩
theorem modSen (f : SenState → SenState) : Keeps s (modSen f t) := h.trans ⟨rfl, rfl, rfl⟩
theorem modFus (f : FusState → FusState) : Keeps s (modFus f t) := h.trans ⟨rfl, rfl, rfl⟩
theorem modCam (f : CamState → CamState) : Keeps s (modCam f t) := h.trans ⟨rfl, rfl, rfl⟩
theorem modPwr (f : PwrState → PwrState) : Keeps s (modPwr f t) := h.trans ⟨rfl, rfl, rfl⟩
theorem modSum (f : SumState → SumState) : Keeps s (modSum f t) := h.trans ⟨rfl, rfl, rfl⟩

end Keeps


/-! ### Field inputs and supplies (chapter 11) -/

section
variable (n : Nat) (s : State)

theorem publishDi_keeps : Keeps s (publishDi n s) :=
  .ite (.refl s) (.ite ((Keeps.refl s).pubHw ..) ((Keeps.refl s).pubHw ..))

theorem diOut_keeps (t : Nat) (out : Bool) : Keeps s (diOut n t out s) :=
  .ite ((Keeps.refl s).modDi ..) (.ite (.ite (((Keeps.refl s).modDi ..).modDi ..) ((Keeps.refl s).modDi ..))
    ((((Keeps.refl s).modDi ..).modDi ..).trans (publishDi_keeps ..)))

theorem diApply_keeps : Keeps s (diApply n s) := by
  unfold diApply
  split
  · exact .ite (.ite ((((Keeps.refl s).modDi ..).trans (diOut_keeps ..)).publish ..) (((Keeps.refl s).modDi ..).trans (diOut_keeps ..))) (Keeps.refl s)
  · exact .refl s

theorem diSync_keeps : Keeps s (diSync n s) :=
  .ite (.refl s) ((((Keeps.refl s).modDi ..).event ..).trans (publishDi_keeps ..))

theorem doPulseFrequency_keeps : Keeps s (doPulseFrequency n s) :=
  have h := diApply_keeps n s
  .ite h (.ite ((h.modDi ..).pubHw ..) ((h.modDi ..).pubHw ..))

theorem doWireBreak_keeps (v temp : Rat) : Keeps s (doWireBreak n v temp s) := by
  have h := diApply_keeps n s
  unfold doWireBreak
  extract_lets u d sup
  have hfree : Keeps s (if sup == 0 then takeFreeRat u else (v / sup, u)).2 := by
    split
    · exact h.trans ⟨rfl, rfl, rfl⟩
    · exact h
  exact .ite h (.pair hfree fun _ _ ht => (ht.modDi ..).trans (diSync_keeps ..))

theorem aiApply_keeps : Keeps s (aiApply n s) := by
  unfold aiApply
  split
  · exact .ite ((Keeps.refl s).modAi ..) (Keeps.refl s)
  · exact .refl s

theorem aiStep_keeps (m : AiMeas) : Keeps s (aiStep n m s) := ((Keeps.refl s).modAi ..).pubHw ..

theorem doAiConversion_keeps (m : AiMeas) : Keeps s (doAiConversion n m s) :=
  have h := aiApply_keeps n s
  have hstep := Keeps.ite (h.pubHw ..) (h.trans (aiStep_keeps ..))
  .ite (.refl s) (.ite hstep (hstep.event ..))

theorem doSupplyEval_keeps (v : Rat) (l : Bool) : Keeps s (doSupplyEval n v l s) :=
  .ite (.refl s) (.ite ((Keeps.refl s).setFio _) (.ite (((Keeps.refl s).setFio _).event ..)
    (.foldl (fun u _ => .ite (publishDi_keeps _ u) (Keeps.refl u)) _ (((Keeps.refl s).setFio _).event ..))))

end

/-! ### Valves, positioning and time (chapters 10, 12 and 13) -/

section
variable (n : Nat) (s : State)

theorem doValvePublish_keeps (l : List Rat) : Keeps s (doValvePublish n l s) :=
  have h := ((Keeps.refl s).modValve n _).pubHw n 3 _ _ _ 5000
  have hpos := Keeps.ite (h.pubHw ..) (.ite (h.pubHw ..) (h.pubHw ..))
  .ite (.refl s) (.ite ((hpos.modValve ..).pubHw ..) hpos)

theorem dropChannels_keeps (st : Nat) : Keeps s (dropChannels n st s) := (Keeps.refl s).setGns _

theorem excludePort_keeps : Keeps s (excludePort n s) :=
  .ite (.refl s) (((((Keeps.refl s).modPort ..).trans (dropChannels_keeps ..)).setGns _).regionFault.event ..)

theorem doPortEval_keeps (v : Rat) (l : Bool) (r : Rat) : Keeps s (doPortEval n v l r s) :=
  have h := (Keeps.refl s).modPort n _
  have hdrop := Keeps.ite (h.trans (dropChannels_keeps ..)) h
  .ite (.refl s) (.ite (excludePort_keeps n s) (.ite hdrop (hdrop.event ..)))

theorem doNavUnit_keeps (x : NavUnit) : Keeps s (doNavUnit n x s) :=
  have h := Keeps.ite ((Keeps.refl s).setGns _) (Keeps.refl s)
  .ite h (h.originate ..)

theorem doInterference_keeps (b : Nat) (v t : Rat) (l : Bool) : Keeps s (doInterference n b v t l s) :=
  .ite (.refl s) (.ite ((Keeps.refl s).modPort ..) (((Keeps.refl s).modPort ..).event ..))

theorem takeFreeRat_keeps : Keeps s (takeFreeRat s).2 := ⟨rfl, rfl, rfl⟩

theorem timEnter_keeps (st : TimSt) : Keeps s (timEnter st s) := ((Keeps.refl s).modTim _).event ..

theorem setMapping_keeps (o : Int) : Keeps s (setMapping o s) := (Keeps.refl s).modTim _

theorem stepMapping_keeps (d : Int) : Keeps s (stepMapping d s) := ((setMapping_keeps s _).modTim _).event ..

theorem takeRefUnc_keeps : Keeps s (takeRefUnc s) := by
  have hfree : Keeps s (takeUnc s).2 := takeFreeRat_keeps s
  unfold takeRefUnc
  split
  · exact .ite ((Keeps.refl s).modTim _) (hfree.modTim _)
  · exact hfree.modTim _

theorem firstMapping_keeps : Keeps s (firstMapping s) := by
  unfold firstMapping
  split
  · exact setMapping_keeps ..
  · exact (setMapping_keeps ..).modTim _
  · exact .refl s

theorem activate_keeps : Keeps s (activate s) := by
  have h := takeRefUnc_keeps s
  unfold activate
  extract_lets t
  split
  · exact .ite ((Keeps.ite h (h.trans (firstMapping_keeps _))).modTim _ |>.trans (timEnter_keeps ..))
      (Keeps.ite h (h.trans (firstMapping_keeps _)))
  · exact .ite (((h.modTim _).trans (timEnter_keeps ..)).modTim _) ((h.modTim _).trans (timEnter_keeps ..))
  · exact .ite (((h.modTim _).trans (timEnter_keeps ..)).modTim _) ((h.modTim _).trans (timEnter_keeps ..))
  · exact h

theorem enterHoldover_keeps : Keeps s (enterHoldover s) := by
  unfold enterHoldover
  extract_lets long
  have hfree : Keeps s (if long then ((1 / 4 : Rat), s) else let (q, s) := takeUnc s; (maxR (1 / 4) q, s)).2 := by
    split
    · exact .refl s
    · exact takeFreeRat_keeps s
  exact .pair hfree fun _ _ h => (h.modTim _).trans (timEnter_keeps ..)

theorem timPublish_keeps : Keeps s (timPublish s) :=
  ((((((((((Keeps.refl s).pubHw ..).pubHw ..).pubHw ..).pubHw ..).pubHw ..).pubHw ..).pubHw ..).pubHw ..).pubHw ..).pubHw ..

theorem measureEps_keeps (e : Rat) : Keeps s (measureEps e s) :=
  have h := (takeFreeRat_keeps s).modTim _
  .ite (h.event ..) h

theorem doTimeEval_keeps (v : Rat) : Keeps s (doTimeEval v s) := by
  unfold doTimeEval
  extract_lets configured measured was now chosen repriced followed held tm settled moved
  have hchosen : Keeps s chosen := (((Keeps.refl s).modTim _).modTim _).modTim _
  have hfollowed : Keeps s followed :=
    .ite (hchosen.trans (activate_keeps _)) (.ite ((hchosen.trans (takeRefUnc_keeps _)).modTim _) hchosen)
  have hheld : Keeps s held := .ite (hfollowed.trans (enterHoldover_keeps _)) hfollowed
  have hsettled : Keeps s settled := hheld.modTim _
  have hmoved : Keeps s moved := by
    unfold moved
    split
    · exact .ite (hsettled.trans (timEnter_keeps ..)) hsettled
    · exact .ite (hsettled.trans (timEnter_keeps ..)) hsettled
    · exact .ite (hsettled.trans (timEnter_keeps ..)) hsettled
    · exact hsettled
  exact .ite (.refl s) (hmoved.trans (timPublish_keeps _))

theorem doPpsIn_keeps (l : Bool) : Keeps s (doPpsIn l s) :=
  have h := (((Keeps.refl s).modTim _).pubHw 425 0 _ _ _ 0).pubHw 426 3 _ _ _ 0
  have hfound := Keeps.ite (h.event ..) h
  have hended := Keeps.foldl (fun u r => (Keeps.refl u).finish r .done _) _ hfound
  .ite (.refl s) (.ite (hended.trans (measureEps_keeps ..)) hended)

theorem doPpsOut_keeps : Keeps s (doPpsOut n s) :=
  .ite (.refl s) (.ite (.refl s) ((Keeps.refl s).modTim _))

theorem doMappingStep_keeps : Keeps s (doMappingStep s) := by
  unfold doMappingStep
  split
  · exact .ite (.refl s) (((Keeps.refl s).modTim _).trans (stepMapping_keeps ..))
  · exact .refl s

theorem doGptp_keeps (y : GptpMsg) : Keeps s (doGptp y s) := by
  cases y with
  | announce gm => exact .ite (.refl s) (((Keeps.refl s).modTim _).event ..)
  | send eth => exact .ite ((Keeps.refl s).modTim _) (Keeps.refl s)
  | sync off mapping leap lock =>
    unfold doGptp
    refine .ite (.refl s) ?_
    extract_lets ids synced was
    have hsynced : Keeps s synced := ⟨rfl, rfl, rfl⟩
    split
    · extract_lets noted mapped
      have hnoted : Keeps s noted := hsynced.modTim _
      have hmapped : Keeps s mapped := by
        refine .ite (hnoted.trans (setMapping_keeps ..)) ?_
        clear_value was
        cases was with
        | none => exact hnoted
        | some w => exact .ite hnoted (hnoted.trans (stepMapping_keeps ..))
      exact .ite (hmapped.trans (measureEps_keeps ..)) hmapped
    · exact hsynced

end

/-! ### Loss and grain sensing (chapter 06) -/

section
variable (s : State)

theorem modLoad_keeps (f : CalLoad → CalLoad) : Keeps s (modLoad f s) := by
  unfold modLoad
  split
  · exact (Keeps.refl s).modSen _
  · exact .refl s

theorem modSrc_keeps (i : Nat) (f : FlowSrc → FlowSrc) : Keeps s (modSrc i f s) := (Keeps.refl s).modSen _

theorem tilt_keeps (loc : Nat) : Keeps s (tilt loc s).2 := takeFreeRat_keeps s

theorem doPlateBlock_keeps (p : List Rat) (e : BridgeMeas) : Keeps s (doPlateBlock p e s) := by
  have hwatched : Keeps s (plateWatch e s) := ((Keeps.refl s).modSen _).trans (modSrc_keeps ..)
  unfold doPlateBlock
  extract_lets watched mean tared out m c
  have htared : Keeps s tared := .ite (hwatched.modSen _) hwatched
  refine .ite (.refl s) ?_
  split
  next pitch s₁ h₁ =>
  split
  next roll s₂ h₂ =>
  split
  next free s₃ h₃ =>
  replace h₁ := htared.of_pair (tilt_keeps ..) h₁
  replace h₂ := h₁.of_pair (tilt_keeps ..) h₂
  replace h₃ := h₂.of_pair (takeFreeRat_keeps _) h₃
  split <;> exact ((Keeps.ite ((h₃.modSen _).trans (modSrc_keeps ..)) (h₃.modSen _)).trans (modLoad_keeps ..)).trans (modSrc_keeps ..)

theorem doPaddlePass_keeps (v : Rat) : Keeps s (doPaddlePass v s) := by
  unfold doPaddlePass
  extract_lets c
  refine .ite (.refl s) ?_
  split
  next free u hu =>
  replace hu := (Keeps.refl s).of_pair (takeFreeRat_keeps s) hu
  split; exact ((hu.modSen _).trans (modLoad_keeps ..)).trans (modSrc_keeps ..)

theorem doMoisture_keeps (v t r q : Rat) (o : List (Nat × Rat)) (l : Bool) : Keeps s (doMoisture v t r q o l s) := by
  unfold doMoisture
  extract_lets filled was noted told p
  have hfilled : Keeps s filled := (Keeps.refl s).modSen _
  have htold : Keeps s told := .ite (hfilled.modSen _) ((hfilled.modSen _).event ..)
  exact .ite (.refl s) (.ite hfilled (.ite (htold.pubHw ..) (.ite htold
    (.pair (htold.trans (takeFreeRat_keeps _)) fun _ _ hu => hu.pubHw ..))))

theorem doTareRetake_keeps (p : List Rat) : Keeps s (doTareRetake p s) :=
  .ite (.refl s) (.ite (((Keeps.refl s).modSen _).modSen _) ((((Keeps.refl s).modSen _).modSen _).event ..))

theorem doImpact_keeps (n b : Nat) (k : List Int) : Keeps s (doImpact n b k s) :=
  .ite (.refl s) ((Keeps.refl s).modSen _)

end

/-! ### Fusion and camera links (chapters 14 and 15) -/

section
variable (s : State)

theorem setTrack_keeps (i : Nat) (k : Track) : Keeps s (setTrack i k s) := (Keeps.refl s).modFus _

theorem dropDetection_keeps : Keeps s (dropDetection s) :=
  .ite ((Keeps.refl s).modFus _) ((((Keeps.refl s).modFus _).modFus _).event ..)

theorem oneDetection_keeps (src : Nat) (kind2 : Bool) (d : Detection) (e n : Rat) (t : Nat) (used : List Nat) :
    Keeps s (oneDetection src kind2 d e n t used s).2 := by
  unfold oneDetection
  extract_lets l near gated pick
  clear_value pick
  rcases pick with _ | ⟨k, i⟩
  · show Keeps s (openTrack src kind2 d e n t used s).2
    unfold openTrack
    split <;> dsimp only
    · exact ((Keeps.refl s).modFus _).modFus _
    · exact dropDetection_keeps s
  · dsimp only
    split
    · exact .refl s
    · exact setTrack_keeps ..

theorem confirmTracks_keeps (src : Nat) (used : List Nat) : Keeps s (confirmTracks src used s) := ⟨rfl, rfl, rfl⟩

theorem processBlock_keeps (b : DetBlock) : Keeps s (processBlock b s) := by
  unfold processBlock
  extract_lets stamp source kind2
  split
  · exact .refl s
  · refine .ite (.refl s) (.pair ?_ fun _ _ h => (h.modFus _).trans (confirmTracks_keeps ..))
    exact foldl_frame (fun x : List Nat × State => Keeps s x.2) (fun x _ hx => hx.trans (oneDetection_keeps ..)) _ _ (Keeps.refl s)

theorem processBlocks_keeps : Keeps s (processBlocks s) :=
  .foldl (fun u b => processBlock_keeps u b) _ ((Keeps.refl s).modFus _)

theorem clearLocals_keeps (first count : Nat) : Keeps s (clearLocals first count s) := (Keeps.refl s).setSig _

theorem publishPose_keeps (e : PoseEst) : Keeps s (publishPose e s) := by
  unfold publishPose
  extract_lets aided o hasO
  have haided : Keeps s aided := .ite ((Keeps.refl s).modFus _) (.refl s)
  split
  extract_lets p placed s₁ s₂ s₃ s₄ s₅ s₆ s₇ s₈ s₉ s₁₀ published
  have hplaced : Keeps s placed :=
    .ite (((haided.publish ..).publish ..).publish ..) (haided.trans (clearLocals_keeps ..))
  have hpublished : Keeps s published :=
    ((((((((((hplaced.publish ..).publish ..).publish ..).publish ..).publish ..).publish ..).publish ..).publish ..).publish ..).publish ..).publish ..
  exact (Keeps.foldl (fun u k => .ite (clearLocals_keeps ..) ((Keeps.refl u).publish ..)) _ hpublished).modFus _

theorem setCart_keeps (st track : Nat) : Keeps s (setCart st track s) :=
  .ite ((Keeps.refl s).modFus _) (((Keeps.refl s).modFus _).event ..)

theorem cartStep_keeps : Keeps s (cartStep s) := by
  unfold cartStep
  split
  · exact (Keeps.ite (setCart_keeps ..) (Keeps.refl s)).publish ..
  · extract_lets sp t cand best
    clear_value best
    split
    cases best with
    | none => exact ((setCart_keeps ..).publish ..).trans (clearLocals_keeps ..)
    | some x => exact (((((setCart_keeps ..).publish ..).publish ..).publish ..).publish ..)

theorem doPosePublish_keeps (z : PoseEst) : Keeps s (doPosePublish z s) := by
  unfold doPosePublish
  extract_lets hw processed moded flagged unlate counted recs ringed tabled carted shown
  have hposed : Keeps s (if posePublished s then publishPose z s else s) := .ite (publishPose_keeps ..) (Keeps.refl s)
  have hcounted : Keeps s counted := ((((hposed.trans (processBlocks_keeps _)).publish ..).publish ..).modFus _).publish ..
  have htabled : Keeps s tabled := ((hcounted.setSig _).publish ..).modFus _
  have hshown : Keeps s shown := (htabled.trans (cartStep_keeps _)).publish ..
  refine .ite (.refl s) ?_
  split
  exact .ite (hshown.publish ..) hshown

theorem pipeEnter_keeps (p : Nat) (st : PipeSt) : Keeps s (pipeEnter p st s) :=
  .ite (.refl s) (((Keeps.refl s).modCam _).event ..)

theorem pipeFollow_keeps (p : Nat) : Keeps s (pipeFollow p s) := by
  refine .ite (pipeEnter_keeps ..) ?_
  split
  · exact pipeEnter_keeps ..
  · split
    · exact pipeEnter_keeps ..
    · exact .ite (pipeEnter_keeps ..) (Keeps.refl s)
    · exact pipeEnter_keeps ..

theorem linkEnter_keeps (l : Nat) (st : LinkSt) : Keeps s (linkEnter l st s) :=
  .ite (.refl s) (.foldl (fun u p => pipeFollow_keeps u p) _ (((Keeps.refl s).modCam _).event ..))

theorem doLinkEval_keeps (n : Nat) (w : LinkMeas) : Keeps s (doLinkEval n w s) := by
  unfold doLinkEval
  extract_lets x t noted dead
  have hnoted : Keeps s noted := (Keeps.refl s).modCam _
  refine .ite (.refl s) (.ite (.refl s) (.ite ((Keeps.refl s).regionFault.trans (linkEnter_keeps ..)) (.ite (linkEnter_keeps ..) ?_)))
  split
  · exact (hnoted.modCam _).trans (linkEnter_keeps ..)
  · exact .ite (hnoted.trans (linkEnter_keeps ..)) (.ite ((hnoted.modCam _).trans (linkEnter_keeps ..)) hnoted)
  · exact .ite hnoted (hnoted.trans (linkEnter_keeps ..))
  · exact .ite (.ite (hnoted.trans (linkEnter_keeps ..)) (hnoted.modCam _)) hnoted
  · exact hnoted

end

/-! ### Power and Summit (chapters 23 and 24) -/

section
variable (s : State)

theorem doPathEval_keeps (a b : PathMeas) : Keeps s (doPathEval a b s) := by
  unfold doPathEval
  extract_lets old new gone crn closed high measured
  have hclosed : Keeps s closed := .ite ⟨rfl, rfl, rfl⟩ (Keeps.refl s)
  exact .foldl (fun u i => .ite (Keeps.refl u) ((Keeps.ite (Keeps.refl u).regionFault (Keeps.refl u)).event ..)) _ (hclosed.modPwr _)

theorem doBank_keeps (v t : Rat) (l : Bool) : Keeps s (doBank v t l s) :=
  .ite (.refl s) (.ite ((Keeps.refl s).modPwr _) (((Keeps.refl s).modPwr _).event ..))

theorem sensorRead_keeps (i : Nat) (r : Option Rat) : Keeps s (sensorRead i r s) :=
  .ite ((Keeps.refl s).modSum _) (((Keeps.refl s).modSum _).event ..)

theorem tempHoldStep_keeps : Keeps s (tempHoldStep s) :=
  .ite (.refl s) (((Keeps.refl s).modSum _).event ..)

theorem humStep_keeps (rh : Rat) : Keeps s (humStep rh s) :=
  .ite ((Keeps.refl s).modSum _) (((Keeps.refl s).modSum _).event ..)

theorem baseVotes_keeps : Keeps s (baseVotes s) := by
  have htimed : Keeps s (baseTimers s) := .foldl (fun u _ => (Keeps.refl u).modSum _) _ (Keeps.refl s)
  unfold baseVotes
  extract_lets timed voted
  have hvoted : Keeps s voted := by
    unfold voted
    split
    · exact (htimed.modSum _).event ..
    · exact htimed
  exact .foldl (fun u _ => .ite (((Keeps.refl u).modSum _).event ..) (Keeps.refl u)) _ hvoted

theorem baseStep_keeps : Keeps s (baseStep s) := by
  unfold baseStep
  extract_lets voted
  have hvoted : Keeps s voted := baseVotes_keeps s
  split
  exact .ite (hvoted.modSum _) ((hvoted.modSum _).event ..)

theorem healthPublish_keeps (m : HealthMeas) : Keeps s (healthPublish m s) := by
  unfold healthPublish
  extract_lets temps base rh paths bank groups supplies s₁ s₂ s₃ s₄
  have hrh : Keeps s rh := ((Keeps.foldl (fun u i => (Keeps.refl u).pubHw ..) _ (Keeps.refl s)).publish ..).pubHw ..
  have hbank : Keeps s bank := (((Keeps.foldl (fun u i => (Keeps.refl u).pubHw ..) _ hrh).pubHw ..).pubHw ..).pubHw ..
  have hgroups : Keeps s groups := .foldl (fun u g => ((Keeps.refl u).pubHw ..).pubHw ..) _ hbank
  have hsupplies : Keeps s supplies := .foldl (fun u k => (Keeps.refl u).pubHw ..) _ hgroups
  exact ((((hsupplies.pubHw ..).pubHw ..).pubHw ..).pubHw ..).pubHw ..

theorem doHealth_keeps (h : HealthMeas) : Keeps s (doHealth h s) := by
  have hread : Keeps s ((List.range 24).foldl (fun s i => sensorRead i (h.temps.getD i none) s) s) :=
    .foldl (fun u i => sensorRead_keeps ..) _ (Keeps.refl s)
  have hheld := (((hread.modPwr fun p => { p with bankV := h.bankV }).trans (baseStep_keeps _)).trans (humStep_keeps _ h.rh)).trans
    (tempHoldStep_keeps _)
  exact .ite (.refl s) (.ite (hheld.trans (healthPublish_keeps ..)) hheld)

theorem doShock_keeps (v t r q : Rat) (b : Nat) : Keeps s (doShock v t r q b s) :=
  .ite (.refl s) ((((Keeps.refl s).cairn ..).modSum _).event ..)

end

/-- Settles O27: each operation is composed of the shared ones, which change neither memory nor the CAN and DMA channels. -/
theorem measurementsLeaveMemoryCanAndDma : Obligations.MeasurementsLeaveMemoryCanAndDma :=
  ⟨fun _ _ _ => leaves_of_keeps (doAiConversion_keeps ..), fun _ _ => leaves_of_keeps (doPulseFrequency_keeps ..),
    fun _ _ _ _ => leaves_of_keeps (doWireBreak_keeps ..), fun _ _ _ _ => leaves_of_keeps (doSupplyEval_keeps ..),
    fun _ _ _ => leaves_of_keeps (doValvePublish_keeps ..), fun _ _ _ _ _ => leaves_of_keeps (doPortEval_keeps ..),
    fun _ _ _ => leaves_of_keeps (doNavUnit_keeps ..), fun _ _ _ _ _ _ => leaves_of_keeps (doInterference_keeps ..),
    fun _ _ => leaves_of_keeps (doTimeEval_keeps ..), fun _ _ => leaves_of_keeps (doPpsIn_keeps ..),
    fun _ _ => leaves_of_keeps (doPpsOut_keeps ..), fun _ => leaves_of_keeps (doMappingStep_keeps ..),
    fun _ _ => leaves_of_keeps (doGptp_keeps ..), fun _ _ _ => leaves_of_keeps (doPlateBlock_keeps ..),
    fun _ _ => leaves_of_keeps (doPaddlePass_keeps ..), fun _ _ _ _ _ _ _ => leaves_of_keeps (doMoisture_keeps ..),
    fun _ _ => leaves_of_keeps (doTareRetake_keeps ..), fun _ _ _ _ => leaves_of_keeps (doImpact_keeps ..),
    fun _ _ => leaves_of_keeps (doPosePublish_keeps ..), fun _ _ _ => leaves_of_keeps (doLinkEval_keeps ..),
    fun _ _ _ => leaves_of_keeps (doPathEval_keeps ..), fun _ _ _ _ => leaves_of_keeps (doBank_keeps ..),
    fun _ _ => leaves_of_keeps (doHealth_keeps ..), fun _ _ _ _ _ _ => leaves_of_keeps (doShock_keeps ..)⟩

end Sys2Proof.Machine

/-! # Every event, where it is due

The clauses of O46 to O60 name one row and one condition on the state at its time. Where the operation is written out in the clause the row
is it (`occursOn_every`); where the condition is the row's guard, the guard's branch is the effect; the other conditions have a lemma each,
which says what the row's operation is under them. -/

namespace Sys2Proof.Machine

/-- A row whose guard does not hold goes past it. -/
theorem ite_of_not {α : Type} {c : Bool} {x y : α} (h : (!c) = true) : (if c = true then x else y) = y :=
  if_neg (by simpa using h)

/-- A row that is the operation written out, in every state. -/
theorem occursOn_every {i : Instr} {t : Nat} {C : State → Bool} {E : State → State} (hi : ∀ s, exec i s = mainEvent t E s) (ht : i.time = t) :
    OccursOn i C E := occursOn_of (fun s _ => hi s) ht fun _ _ => rfl

/-- A row of any power state that is the operation written out, in every state. -/
theorem occursWhen_every {i : Instr} {t : Nat} {C : State → Bool} {E : State → State} (hi : ∀ s, exec i s = anyEvent t E s) (ht : i.time = t) :
    OccursWhen i C E := occursWhen_of (fun s _ => hi s) ht fun _ _ => rfl

/-- Where one of two states holds and one of two causes is there, the guard that neither does is passed. -/
theorem not_neither {a b x y : Bool} (h : ((a || b) && (x || y)) = true) : ¬((!a && !b) || (!x && !y)) = true := by
  revert a b x y
  decide

section
variable {s : State}

/-! ### The command protocol (chapter 03) -/

theorem doDiscard_frame_discarded {via : Via} {dst : Nat} {b : List Byte} (h : unframed via b = none) :
    doDiscard (.frame via dst b) s = dispatch (countDiscarded s) := by
  simp only [doDiscard, h]

theorem doDiscard_frame_taken {via : Via} {dst : Nat} {b x : List Byte} (h : unframed via b = some x) :
    doDiscard (.frame via dst b) s = dispatch (takeBytes via dst x s) := by
  simp only [doDiscard, h]

/-- Settles O46: a condition selects the row's branch; what a packet's decoding found selects the way of its discard. -/
theorem sysEventsOccur : Obligations.SysEventsOccur := by
  refine ⟨fun _ _ _ _ => occursOn_of (fun _ _ => rfl) rfl fun _ h => ite_of_not h,
    fun _ d => occursOn_of (fun _ _ => rfl) rfl fun s h => ?untrusted,
    fun _ d eth => occursOn_of (fun _ _ => rfl) rfl fun s h => ?noSession,
    fun _ d via dst b => occursOn_of (fun _ _ => rfl) rfl fun s h => ?discarded,
    fun _ d via dst b x => occursOn_of (fun _ _ => rfl) rfl fun s h => ?taken,
    fun _ port tag f => occursOn_of (fun _ _ => rfl) rfl fun s h => ?queued,
    fun _ _ => occursOn_of (fun _ _ => rfl) rfl fun _ h => if_pos h,
    fun _ => occursOn_every (fun _ => rfl) rfl,
    fun _ => occursOn_every (fun _ => rfl) rfl,
    fun _ => occursOn_every (fun _ => rfl) rfl,
    fun _ => occursOn_every (fun _ => rfl) rfl,
    fun _ => occursOn_every (fun _ => rfl) rfl,
    fun _ _ => occursOn_every (fun _ => rfl) rfl,
    fun _ => occursOn_every (fun _ => rfl) rfl,
    fun _ _ => occursOn_of (fun _ _ => rfl) rfl fun _ h => ite_of_not h,
    fun _ _ _ _ => occursOn_every (fun _ => rfl) rfl,
    fun _ _ _ _ _ => occursOn_every (fun _ => rfl) rfl⟩
  case untrusted =>
    obtain rfl := eq_of_beq h
    rfl
  case noSession =>
    obtain rfl := eq_of_beq h
    rfl
  case discarded =>
    obtain ⟨rfl, hb⟩ : d = .frame via dst b ∧ unframed via b = none := by simpa using h
    exact doDiscard_frame_discarded hb
  case taken =>
    obtain ⟨rfl, hb⟩ : d = .frame via dst b ∧ unframed via b = some x := by simpa using h
    exact doDiscard_frame_taken hb
  case queued =>
    obtain ⟨⟨hf, hwait⟩, hdue⟩ : (s.flight port tag = some f ∧ f.started = false)
        ∧ f.admitted + queueLimit (f.req.p.flags.toNat % 4) ≤ s.time := by
      simpa using h
    exact doQueueTimeout_due hf hwait hdue

/-! ### Machine functions (chapter 04) -/

/-- Settles O47: each row is the operation written out, in every state. -/
theorem funEventsOccur : Obligations.FunEventsOccur :=
  ⟨fun _ => occursOn_every (fun _ => rfl) rfl, fun _ => occursOn_every (fun _ => rfl) rfl,
    fun _ => occursOn_every (fun _ => rfl) rfl, fun _ => occursOn_every (fun _ => rfl) rfl,
    fun _ => occursOn_every (fun _ => rfl) rfl, fun _ _ => occursOn_every (fun _ => rfl) rfl,
    fun _ => occursOn_every (fun _ => rfl) rfl⟩

/-! ### Couloir, sensing and the yield map (chapters 05 to 07) -/

theorem doRefillEnd_due (h : (s.cul.refill.any fun x => x.1 != 0 && decide (x.1 ≤ s.time)) = true) :
    doRefillEnd s = modCul (fun c => { c with refill := none }) s := by
  obtain ⟨x, hx, hdue⟩ := (Option.any_eq_true ..).mp h
  simp only [doRefillEnd, hx, hdue, if_true]

/-- Format 1 writes the field's own file. -/
theorem doExportBuilt_fieldFile {r : Req} {f : Field} (h : s.map.exporting = some (r, f, 1)) :
    doExportBuilt s = finish r .done (le 8 (fieldFile (s.id.machine % 16) f).length ++ le 4 (Crypto.crc32c (fieldFile (s.id.machine % 16) f)))
      (modMap (fun m => { m with exporting := none, export_ := some (fieldFile (s.id.machine % 16) f) }) s) := by
  simp only [doExportBuilt, h, BEq.rfl, if_true]

/-- Another format writes the task data. -/
theorem doExportBuilt_taskData {r : Req} {f : Field} {k : Nat} (h : s.map.exporting = some (r, f, k)) (hk : k ≠ 1) :
    doExportBuilt s = finish r .done (le 8 (taskData f s).length ++ le 4 (Crypto.crc32c (taskData f s)))
      (modMap (fun m => { m with exporting := none, export_ := some (taskData f s) }) s) := by
  simp only [doExportBuilt, h, beq_iff_eq, hk, if_false]

/-- Settles O48: where a clause says what is exported, the format selects it; elsewhere the row's guard is the condition. -/
theorem cropEventsOccur : Obligations.CropEventsOccur := by
  refine ⟨fun _ => occursOn_every (fun _ => rfl) rfl,
    fun _ => occursOn_every (fun _ => rfl) rfl,
    fun _ => occursOn_every (fun _ => rfl) rfl,
    fun _ => occursOn_every (fun _ => rfl) rfl,
    fun _ => occursOn_of (fun _ _ => rfl) rfl fun _ h => ite_of_not h,
    fun _ => occursOn_of (fun _ _ => rfl) rfl fun _ h => ite_of_not h,
    fun _ => occursOn_of (fun _ _ => rfl) rfl fun _ h => doRefillEnd_due h,
    fun _ _ _ _ _ _ => occursOn_every (fun _ => rfl) rfl,
    fun _ _ => occursOn_every (fun _ => rfl) rfl,
    fun _ _ => occursOn_every (fun _ => rfl) rfl,
    fun _ _ _ => occursOn_every (fun _ => rfl) rfl,
    fun _ _ => occursOn_of (fun _ _ => rfl) rfl fun _ h => ite_of_not h,
    fun _ _ _ _ _ _ _ => occursOn_every (fun _ => rfl) rfl,
    fun _ _ => occursOn_every (fun _ => rfl) rfl,
    fun _ _ _ => occursOn_of (fun _ _ => rfl) rfl fun _ h => doExportBuilt_fieldFile (eq_of_beq h),
    fun _ r f k => occursOn_of (fun _ _ => rfl) rfl fun s h => ?taskData,
    fun _ _ _ => occursOn_of (fun _ _ => rfl) rfl fun _ h => ite_of_not h,
    fun _ => occursOn_every (fun _ => rfl) rfl⟩
  case taskData =>
    obtain ⟨hx, hk⟩ : s.map.exporting = some (r, f, k) ∧ k ≠ 1 := by simpa using h
    exact doExportBuilt_taskData hx hk

/-! ### Guidance (chapter 08) -/

/-- Settles O49: each row's guard is the condition of its clause. -/
theorem gdeEventsOccur : Obligations.GdeEventsOccur :=
  ⟨fun _ => occursOn_of (fun _ _ => rfl) rfl fun _ h => if_pos h, fun _ _ => occursOn_of (fun _ _ => rfl) rfl fun _ h => ite_of_not h,
    fun _ => occursOn_of (fun _ _ => rfl) rfl fun _ h => if_pos h, fun _ => occursOn_of (fun _ _ => rfl) rfl fun _ h => if_pos h,
    fun _ => occursOn_of (fun _ _ => rfl) rfl fun _ h => ite_of_not h⟩

/-! ### Loop engines (chapter 09) -/

theorem doLoopCtrlSwap_refused {n part v : Nat} (h : ((s.loop n).st == .free || (s.loop n).cfg.owner != part || decide (2 < v)) = true) :
    doLoopCtrlSwap n part v s = lpeAccessFault s := by
  refine if_pos ?_
  simp only [Bool.or_eq_true, decide_eq_true_eq, beq_iff_eq] at h ⊢
  obtain hloop | hv := h
  · exact .inl (.inl hloop)
  · have hv' : v = 3 ∨ 3 < v := by omega
    exact hv'.elim (fun h => .inl (.inr h)) .inr

theorem doLoopCtrlSwap_waits {n part v : Nat} (hst : (s.loop n).st ≠ .free) (hown : (s.loop n).cfg.owner = part) (hv : v = 1 ∨ v = 2)
    (hper : (s.part part).inPeriod = true) :
    doLoopCtrlSwap n part v s = s.setPart part { s.part part with swaps := (s.part part).swaps ++
      [(n, v - 1, (s.sys.flights.filter fun f => f.req.port == part && f.colPeriod == some (s.part part).periodNo).length)] } := by
  have hfree : ((s.loop n).st == .free) = false := by simpa using hst
  obtain rfl | rfl := hv <;> simp [doLoopCtrlSwap, hfree, hown, hper]

theorem doSpareReference_bad {p : Nat} (h : s.lpe.spare = some p) : doSpareReference false s = loseSpare p s := by
  simp only [doSpareReference, h, Bool.false_eq_true, if_false]

theorem doSpareReference_good : doSpareReference true s = s := by
  unfold doSpareReference
  split <;> rfl

/-- Settles O50: a swap waits for its commit or is refused by its loop and value; the spare's reference is good or not. -/
theorem lpeEventsOccur : Obligations.LpeEventsOccur := by
  refine ⟨fun _ n part v => occursOn_of (fun _ _ => rfl) rfl fun s h => ?swap,
    fun _ _ _ _ => occursOn_of (fun _ _ => rfl) rfl fun _ h => doLoopCtrlSwap_refused h,
    fun _ _ _ => occursOn_of (fun _ _ => rfl) rfl fun _ h => ite_of_not h,
    fun _ _ _ => occursOn_of (fun _ _ => rfl) rfl fun _ h => if_pos h,
    fun _ _ _ => occursOn_of (fun _ _ => rfl) rfl fun _ h => ite_of_not h,
    fun _ _ _ => occursOn_of (fun _ _ => rfl) rfl fun _ h => if_pos h,
    fun _ _ => occursOn_every (fun _ => rfl) rfl,
    fun _ _ => occursOn_of (fun _ _ => rfl) rfl fun _ h => ite_of_not h,
    fun _ _ => occursOn_every (fun _ => rfl) rfl,
    fun _ _ => occursOn_every (fun _ => rfl) rfl,
    fun _ _ => occursOn_every (fun _ => rfl) rfl,
    fun _ good p => occursOn_of (fun _ _ => rfl) rfl fun s h => ?bad,
    fun _ good => occursOn_of (fun _ _ => rfl) rfl fun s h => ?good⟩
  case swap =>
    simp only [Bool.and_eq_true, Bool.or_eq_true, beq_iff_eq, bne_iff_ne] at h
    obtain ⟨⟨⟨hst, hown⟩, hv⟩, hper⟩ := h
    exact doLoopCtrlSwap_waits hst hown hv hper
  case bad =>
    obtain ⟨hp, rfl⟩ : s.lpe.spare = some p ∧ good = false := by simpa using h
    exact doSpareReference_bad hp
  case good =>
    obtain ⟨-, rfl⟩ : s.lpe.spare.isSome = true ∧ good = true := by simpa using h
    exact doSpareReference_good

/-! ### Valve drivers (chapter 10) -/

theorem doTestPulseEnd_alone {n : Nat} (hst : (s.valve n).st = .testing) (hdue : (s.valve n).since + 50 * us ≤ s.time) :
    doTestPulseEnd n [] s = vlvSync n (enterEnergised n s) := by
  have hguard : ¬((s.valve n).st != .testing || decide (s.time < (s.valve n).since + 50 * us)) = true := by simp [hst, hdue]
  exact (if_neg hguard).trans rfl

theorem doShortTrip_trips {n : Nat} {high low : Bool} (h : (((s.valve n).st == .testing || (s.valve n).st == .energised) && (high || low)) = true) :
    doShortTrip n high low s
      = vlvSync n (tripValve n (if high && low then 10 else if high then 8 else 9) (b2n (low && !high)) s) :=
  if_neg (not_neither h)

theorem doRetryWait_due {n : Nat} (h : ((s.valve n).st == .retryWait && decide ((s.valve n).tripAt + 10 * ms ≤ s.time) && (s.valve n).want) = true) :
    doRetryWait n s = vlvSync n (enterEnergised n (modValve n (fun v => { v with retries := v.retries + 1 }) s)) :=
  if_neg (by simpa using h)

theorem doRetryReset_due {n : Nat} (h : ((s.valve n).st == .energised && (s.valve n).retries != 0
      && decide (max (s.valve n).since (s.valve n).tripAt + 100 * ms ≤ s.time)) = true) :
    doRetryReset n s = vlvSync n (modValve n (fun v => { ((v.setCode 8 false).setCode 9 false).setCode 10 false with retries := 0 }) s) :=
  if_neg (by simpa using h)

theorem doDemagComplete_demag {n : Nat} {i : Rat} (hst : (s.valve n).st = .demag) (hi : i < 2 / 100) :
    doDemagComplete n i s
      = vlvSync n (modValve n (fun v => { v with st := .offTime, since := s.time, demagEnd := some s.time, biasAt := some s.time }) s) := by
  simp only [doDemagComplete, hst, not_le.mpr hi, if_false]

theorem doDemagTimeout_due {n : Nat} (h : ((s.valve n).st == .demag && decide ((s.valve n).since + (s.valve n).cfg.demagMax * ms ≤ s.time)) = true) :
    doDemagTimeout n s = vlvSync n (enterLatched n (modValve n (fun v => { v.setCode 8 true with terminal := 1 }) s)) :=
  if_neg (by simpa using h)

/-- Settles O51: each condition is the negation of the row's guard. -/
theorem vlvEventsOccur : Obligations.VlvEventsOccur := by
  refine ⟨fun _ _ _ => occursOn_of (fun _ _ => rfl) rfl fun _ h => ite_of_not h,
    fun _ n seen => occursOn_of (fun _ _ => rfl) rfl fun s h => ?alone,
    fun _ _ _ => occursOn_every (fun _ => rfl) rfl,
    fun _ _ _ _ => occursOn_of (fun _ _ => rfl) rfl fun _ h => doShortTrip_trips h,
    fun _ _ => occursOn_of (fun _ _ => rfl) rfl fun _ h => doRetryWait_due h,
    fun _ _ => occursOn_of (fun _ _ => rfl) rfl fun _ h => doRetryReset_due h,
    fun _ n i => occursOn_of (fun _ _ => rfl) rfl fun s h => ?demag,
    fun _ _ => occursOn_of (fun _ _ => rfl) rfl fun _ h => doDemagTimeout_due h,
    fun _ _ => occursOn_every (fun _ => rfl) rfl,
    fun _ _ _ _ _ _ => occursOn_every (fun _ => rfl) rfl,
    fun _ _ _ => occursOn_every (fun _ => rfl) rfl,
    fun _ _ _ => occursOn_every (fun _ => rfl) rfl,
    fun _ _ _ _ _ _ _ _ _ => occursOn_every (fun _ => rfl) rfl,
    fun _ _ _ _ => occursOn_every (fun _ => rfl) rfl,
    fun _ _ _ => occursOn_every (fun _ => rfl) rfl⟩
  case alone =>
    obtain ⟨⟨hst, hdue⟩, rfl⟩ : ((s.valve n).st = .testing ∧ (s.valve n).since + 50 * us ≤ s.time) ∧ seen = [] := by simpa using h
    exact doTestPulseEnd_alone hst hdue
  case demag =>
    obtain ⟨hst, hi⟩ : (s.valve n).st = .demag ∧ i < 2 / 100 := by simpa using h
    exact doDemagComplete_demag hst hi

/-! ### Field inputs, outputs and supplies (chapter 11) -/

theorem doDoTestPulseEnd_alone {n : Nat} (hst : (s.dout n).st = .testing) (hdue : (s.dout n).since + 50 * us ≤ s.time) :
    doDoTestPulseEnd n [] s = withDo n (doEnter n .on) s := by
  have hguard : ¬((s.dout n).st != .testing || decide (s.time < (s.dout n).since + 50 * us)) = true := by simp [hst, hdue]
  exact (if_neg hguard).trans rfl

theorem doDoTrip_trips {n : Nat} {amps : Rat} {limiting : Bool} (h : (((s.dout n).st == .testing || (s.dout n).st == .on)
      && ((limiting && heldFor (s.dout n).limitSince s.time (100 * us)) || (s.dout n).overload s.time amps)) = true) :
    doDoTrip n amps limiting s = withDo n (fun s' =>
      doEnter n (if (s.dout n).retries < 3 then .retryWait else .latched) (modDo n (fun d =>
        { ((d.setCode 5 false).setCode 6 false).setCode (if limiting && heldFor (s.dout n).limitSince s.time (100 * us) then 6 else 5) true with
          tripAt := s'.time, limitSince := none }) s')) s :=
  if_neg (not_neither h)

theorem doDoRetry_due {n : Nat} (h : ((s.dout n).st == .retryWait && decide ((s.dout n).tripAt + 10 * ms ≤ s.time) && doWant n s
      && !(s.dout n).forcedSafe) = true) :
    doDoRetry n s = withDo n (fun s => doEnter n .on (modDo n (fun d => { d with retries := d.retries + 1 }) s)) s :=
  if_neg (by simpa using h)

theorem doDoRetryReset_due {n : Nat} (h : ((s.dout n).st == .on && (s.dout n).retries != 0
      && decide (max (s.dout n).since (s.dout n).tripAt + 100 * ms ≤ s.time)) = true) :
    doDoRetryReset n s = withDo n (modDo n (fun d => { (d.setCode 5 false).setCode 6 false with retries := 0 })) s :=
  if_neg (by simpa using h)

/-- Settles O52: each condition is the negation of the row's guard. -/
theorem fioEventsOccur : Obligations.FioEventsOccur := by
  refine ⟨fun _ _ _ => occursOn_every (fun _ => rfl) rfl,
    fun _ _ => occursOn_of (fun _ _ => rfl) rfl fun _ h => ite_of_not h,
    fun _ _ => occursOn_every (fun _ => rfl) rfl,
    fun _ _ _ _ => occursOn_every (fun _ => rfl) rfl,
    fun _ _ _ => occursOn_every (fun _ => rfl) rfl,
    fun _ _ => occursOn_of (fun _ _ => rfl) rfl fun _ h => if_pos h,
    fun _ _ _ => occursOn_of (fun _ _ => rfl) rfl fun _ h => ite_of_not h,
    fun _ n seen => occursOn_of (fun _ _ => rfl) rfl fun s h => ?alone,
    fun _ _ _ => occursOn_every (fun _ => rfl) rfl,
    fun _ _ _ _ => occursOn_of (fun _ _ => rfl) rfl fun _ h => doDoTrip_trips h,
    fun _ _ => occursOn_of (fun _ _ => rfl) rfl fun _ h => doDoRetry_due h,
    fun _ _ => occursOn_of (fun _ _ => rfl) rfl fun _ h => doDoRetryReset_due h,
    fun _ _ _ => occursOn_every (fun _ => rfl) rfl,
    fun _ _ _ => occursOn_every (fun _ => rfl) rfl,
    fun _ _ _ _ => occursOn_every (fun _ => rfl) rfl,
    fun _ _ => occursOn_of (fun _ _ => rfl) rfl fun _ h => if_pos h⟩
  case alone =>
    obtain ⟨⟨hst, hdue⟩, rfl⟩ : ((s.dout n).st = .testing ∧ (s.dout n).since + 50 * us ≤ s.time) ∧ seen = [] := by simpa using h
    exact doDoTestPulseEnd_alone hst hdue

/-! ### Positioning and time (chapters 12 and 13) -/

theorem doLockLoss_lost {c : Nat} {pli : Rat} (h : (((s.gch c).st == 4 || (s.gch c).st == 5 || (s.gch c).st == 6) && decide (pli < 7 / 10)) = true) :
    doLockLoss c pli s = modGch c (fun g => { g with st := 2, lockMs := 0, slip := true, flags := 0, used := false }) s := by
  obtain ⟨hst, hlow⟩ := Bool.and_eq_true_iff.mp h
  refine if_neg ?_
  simp only [Bool.or_eq_true, Bool.and_eq_true, bne_iff_ne, beq_iff_eq, decide_eq_true_eq] at hst hlow ⊢
  rintro (hnot | hhigh)
  · exact absurd hst (by tauto)
  · exact absurd hlow (not_lt.mpr hhigh)

/-- A unit that decodes keeps its satellite's ephemeris; with no partition named it is told to none (R300). -/
theorem doNavUnit_kept {c : Nat} {u : NavUnit} (hpar : u.parity < 2) (hpart : 127 < s.gns.cfg.navPart) :
    doNavUnit c u s = { s with gns := { s.gns with
      ephem := ((systemOf (s.gch c).signal, (s.gch c).svid) :: s.gns.ephem).eraseDups, almanac := true } } := by
  simp only [doNavUnit, hpar, hpart, if_true]

theorem doMappingStep_due {at_ : Nat} {d : Int} (h : s.tim.step = some (at_, d)) (hdue : at_ ≤ s.time) :
    doMappingStep s = stepMapping d (modTim (fun t => { t with step := none }) s) := by
  simp only [doMappingStep, h, not_lt.mpr hdue, if_false]

theorem doLeapSecond_due {g l : Int} (h : s.tim.leapNext = some (g, l)) (hmap : s.tim.mapped = true)
    (hdue : g * 1000000000 ≤ (s.time : Int) + s.tim.o) :
    doLeapSecond s = timEvent 2 0 (modTim (fun t => { t with leap := l, leapNext := none, leaps := ((g, t.leap, l) :: t.leaps).take 16 }) s) := by
  simp only [doLeapSecond, h, hmap, hdue, decide_true, Bool.and_true, if_true]

theorem doGptp_announce {gm : Nat} (h : gm ≠ s.tim.gm) : doGptp (.announce gm) s = timEvent 6 0 (modTim (fun t => { t with gm := gm }) s) :=
  if_neg (by simpa using h)

theorem doGptp_send {eth : Nat} (h : bitOf s.tim.cfg.gptpPorts eth = true) :
    doGptp (.send eth) s = modTim (fun t => { t with announces := announceOf eth s :: t.announces }) s := if_pos h

theorem doGptp_sync_noMapping {off leap : Int} {lock : Bool} (h : s.follows = true) :
    doGptp (.sync off none leap lock) s = { s with id := { s.id with managerOffset := off, timeLock := lock } } :=
  if_neg (by simpa using h)

/-- Settles O53: what the row reads of its unit, its message or the state's next step selects its branch. -/
theorem gnsTimEventsOccur : Obligations.GnsTimEventsOccur := by
  refine ⟨fun _ _ => occursOn_every (fun _ => rfl) rfl,
    fun _ => occursOn_of (fun _ _ => rfl) rfl fun _ h => if_pos h,
    fun _ _ _ _ _ => occursOn_every (fun _ => rfl) rfl,
    fun _ _ _ => occursOn_of (fun _ _ => rfl) rfl fun _ h => ite_of_not h,
    fun _ _ _ => occursOn_of (fun _ _ => rfl) rfl fun _ h => ite_of_not h,
    fun _ _ _ => occursOn_of (fun _ _ => rfl) rfl fun _ h => doLockLoss_lost h,
    fun _ c u => occursOn_of (fun _ _ => rfl) rfl fun s h => ?kept,
    fun _ _ _ => occursOn_every (fun _ => rfl) rfl,
    fun _ _ _ _ => occursOn_of (fun _ _ => rfl) rfl fun _ h => ite_of_not h,
    fun _ _ _ _ _ _ => occursOn_every (fun _ => rfl) rfl,
    fun _ _ => occursOn_every (fun _ => rfl) rfl,
    fun _ _ => occursOn_every (fun _ => rfl) rfl,
    fun _ => occursOn_of (fun _ _ => rfl) rfl fun _ h => if_pos h,
    fun _ k => occursOn_of (fun _ _ => rfl) rfl fun s h => ?ppsOut,
    fun _ at_ d => occursOn_of (fun _ _ => rfl) rfl fun s h => ?step,
    fun _ g l => occursOn_of (fun _ _ => rfl) rfl fun s h => ?leap,
    fun _ m gm => occursOn_of (fun _ _ => rfl) rfl fun s h => ?announce,
    fun _ m eth => occursOn_of (fun _ _ => rfl) rfl fun s h => ?send,
    fun _ m off leap lock => occursOn_of (fun _ _ => rfl) rfl fun s h => ?sync,
    fun _ => occursOn_every (fun _ => rfl) rfl⟩
  case kept =>
    obtain ⟨hpar, hpart⟩ : u.parity < 2 ∧ 127 < s.gns.cfg.navPart := by simpa using h
    exact doNavUnit_kept hpar hpart
  case ppsOut =>
    have hk : ¬2 ≤ k := by simpa using h
    exact if_neg hk
  case step =>
    obtain ⟨hstep, hdue⟩ : s.tim.step = some (at_, d) ∧ at_ ≤ s.time := by simpa using h
    exact doMappingStep_due hstep hdue
  case leap =>
    obtain ⟨⟨hnext, hmap⟩, hdue⟩ : (s.tim.leapNext = some (g, l) ∧ s.tim.mapped = true)
        ∧ g * 1000000000 ≤ (s.time : Int) + s.tim.o := by
      simpa using h
    exact doLeapSecond_due hnext hmap hdue
  case announce =>
    obtain ⟨rfl, hgm⟩ : m = .announce gm ∧ gm ≠ s.tim.gm := by simpa using h
    exact doGptp_announce hgm
  case send =>
    obtain ⟨rfl, hport⟩ : m = .send eth ∧ bitOf s.tim.cfg.gptpPorts eth = true := by simpa using h
    exact doGptp_send hport
  case sync =>
    obtain ⟨rfl, hfollows⟩ : m = .sync off none leap lock ∧ s.follows = true := by simpa using h
    exact doGptp_sync_noMapping hfollows

/-! ### Fusion and camera links (chapters 14 and 15) -/

theorem doDetectionBlock_waits {source stamp : Nat} {dets : List Detection}
    (h : (fusOn s && decide (source < 8) && (s.fus.sources.getD source {}).kind != 0) = true) :
    doDetectionBlock source stamp dets s
      = modFus (fun x => { x with blocks := x.blocks ++
        [{ stamp := stamp, source := source, src := s.fus.sources.getD source {}, dets := dets }] }) s :=
  if_neg (by simpa using h)

theorem doCsiPacket_eccBad {l : Nat} {k : CsiPacket} (hl : l < 4) (hup : (s.link l).st = .up) (hecc : k.eccBad = true) :
    doCsiPacket l k s = modLink l (fun y => { y with discarded := y.discarded + 1 }) s := by
  have hon : ¬(decide (4 ≤ l) || (s.link l).st != .up) = true := by simp [hl, hup]
  exact (if_neg hon).trans (if_pos hecc)

/-- A frame start opens a frame in the pipeline of the packet's route. -/
theorem doCsiPacket_frameStart {l : Nat} {k : CsiPacket} {r : CamRoute} (hl : l < 4) (hup : (s.link l).st = .up) (hecc : k.eccBad = false)
    (hr : ((s.link l).routes.find? fun r => r.vc == k.vc && decide (r.pipe < 8)) = some r) (hon : (s.pipe r.pipe).st ≠ .off) (hdt : k.dt = 0) :
    doCsiPacket l k s = openFrame r.pipe s := by
  have hlink : (decide (4 ≤ l) || (s.link l).st != .up) = false := by simp [hl, hup]
  have hpipe : ((s.pipe r.pipe).st != .off) = true := by simpa using hon
  simp only [doCsiPacket, hlink, hecc, hr, hdt, hpipe, BEq.rfl, Bool.false_eq_true, if_false, if_true]

theorem doResyncRelease_fails {k : Nat} (hst : (s.pair k).st = 2) (hend : (s.pair k).releaseAt + 10 * pairPeriod k s ≤ s.time) :
    doResyncRelease k s = modPair k (fun y => { y with retryAt := s.time + 10 * sec }) (pairEnter k 3 s) := by
  have hguard : ¬((s.pair k).st != 2) = true := by simp [hst]
  exact (if_neg hguard).trans (if_pos hend)

theorem doResyncRelease_restarts {k : Nat} (hst : (s.pair k).st = 2) (hend : s.time < (s.pair k).releaseAt + 10 * pairPeriod k s)
    (hrel : (s.pair k).releaseAt ≤ s.time) (hnot : (s.pair k).matching = false) :
    doResyncRelease k s = modPair k (fun y => { y with matching := true, qa := [], qb := [], hits := 0 }) s := by
  have hguard : ¬((s.pair k).st != 2) = true := by simp [hst]
  exact (if_neg hguard).trans ((if_neg (not_le.mpr hend)).trans (if_pos (by simp [hrel, hnot])))

/-- A job other than the grain camera's classification is no sample of a flow source (R152). -/
theorem doJobComplete_other {res : VaResult} (h : (s.cam.running.any fun j => j.1 != 8) = true) : doJobComplete res s = doVaComplete res s := by
  obtain ⟨⟨j, w⟩, hj, hne⟩ := (Option.any_eq_true ..).mp h
  have hne' : j ≠ 8 := by simpa using hne
  unfold doJobComplete
  split
  · simp_all
  · rfl

/-- Settles O54: what the row finds of its link, pair or job selects its branch. -/
theorem fusCamEventsOccur : Obligations.FusCamEventsOccur := by
  refine ⟨fun _ _ => occursOn_every (fun _ => rfl) rfl,
    fun _ _ => occursOn_every (fun _ => rfl) rfl,
    fun _ _ _ _ => occursOn_of (fun _ _ => rfl) rfl fun _ h => ite_of_not h,
    fun _ _ _ _ => occursOn_of (fun _ _ => rfl) rfl fun _ h => doDetectionBlock_waits h,
    fun _ => occursOn_every (fun _ => rfl) rfl,
    fun _ _ _ => occursOn_every (fun _ => rfl) rfl,
    fun _ l k => occursOn_of (fun _ _ => rfl) rfl fun s h => ?ecc,
    fun _ l k r => occursOn_of (fun _ _ => rfl) rfl fun s h => ?frame,
    fun _ _ _ => occursOn_every (fun _ => rfl) rfl,
    fun _ _ => occursOn_every (fun _ => rfl) rfl,
    fun _ k => occursOn_of (fun _ _ => rfl) rfl fun s h => ?fails,
    fun _ k => occursOn_of (fun _ _ => rfl) rfl fun s h => ?restarts,
    fun _ _ => occursOn_of (fun _ _ => rfl) rfl fun _ h => doJobComplete_other h,
    fun _ _ => occursOn_every (fun _ => rfl) rfl,
    fun _ _ => occursOn_every (fun _ => rfl) rfl,
    fun _ _ => occursOn_every (fun _ => rfl) rfl⟩
  case ecc =>
    obtain ⟨⟨hl, hup⟩, hecc⟩ : (l < 4 ∧ (s.link l).st = .up) ∧ k.eccBad = true := by simpa using h
    exact doCsiPacket_eccBad hl hup hecc
  case frame =>
    simp only [Bool.and_eq_true, decide_eq_true_eq, beq_iff_eq, bne_iff_ne, Bool.not_eq_true'] at h
    obtain ⟨⟨⟨⟨⟨hl, hup⟩, hecc⟩, hr⟩, hon⟩, hdt⟩ := h
    exact doCsiPacket_frameStart hl hup hecc hr hon hdt
  case fails =>
    obtain ⟨hst, hend⟩ : (s.pair k).st = 2 ∧ (s.pair k).releaseAt + 10 * pairPeriod k s ≤ s.time := by simpa using h
    exact doResyncRelease_fails hst hend
  case restarts =>
    simp only [Bool.and_eq_true, decide_eq_true_eq, beq_iff_eq, Bool.not_eq_true'] at h
    obtain ⟨⟨⟨hst, hend⟩, hrel⟩, hnot⟩ := h
    exact doResyncRelease_restarts hst hend hrel hnot

/-! ### Machine bus ports (chapter 16) -/

theorem doTtReference_received {c n prio : Nat} (htt : (s.canCh c).tt.isSome = true) (hon : (ttOn c s && (s.canCh c).st.on) = true) :
    doTtReference c (.received n prio) s = modCan c (fun x => { x with
      ttRun := true, cycleCount := n % 64, cycleAt := s.time, otherMaster := prio < s.tim.cfg.ttcanPrio }) s := by
  obtain ⟨t, ht⟩ := Option.isSome_iff_exists.mp htt
  simp only [doTtReference, ht, hon, Bool.not_true, Bool.false_eq_true, if_false]

theorem doClaimMsg_request {c : Nat} (hcl : (s.canCh c).claim.isSome = true) (hon : (s.canCh c).st.on = true) :
    doClaimMsg c .request s = sendClaim c s := by
  obtain ⟨⟨name, pref, first, last⟩, hx⟩ := Option.isSome_iff_exists.mp hcl
  simp only [doClaimMsg, hx, hon, Bool.not_true, Bool.false_eq_true, if_false]

/-- Settles O55: each condition is the row's guard; a message's kind selects its branch. -/
theorem canEventsOccur : Obligations.CanEventsOccur := by
  refine ⟨fun _ _ _ _ _ => occursOn_of (fun _ _ => rfl) rfl fun _ h => ite_of_not h,
    fun _ _ _ _ _ => occursOn_of (fun _ _ => rfl) rfl fun _ h => ite_of_not h,
    fun _ _ _ => occursOn_every (fun _ => rfl) rfl,
    fun _ _ => occursOn_every (fun _ => rfl) rfl,
    fun _ _ _ => occursOn_every (fun _ => rfl) rfl,
    fun _ _ _ => occursOn_of (fun _ _ => rfl) rfl fun _ h => if_pos h,
    fun _ _ => occursOn_of (fun _ _ => rfl) rfl fun _ h => if_pos h,
    fun _ _ => occursOn_of (fun _ _ => rfl) rfl fun _ h => if_pos h,
    fun _ _ => occursOn_every (fun _ => rfl) rfl,
    fun _ _ _ => occursOn_of (fun _ _ => rfl) rfl fun _ h => ite_of_not h,
    fun _ _ _ => occursWhen_of (fun _ _ => rfl) rfl fun _ h => if_pos h,
    fun _ _ _ => occursWhen_of (fun _ _ => rfl) rfl fun _ h => ite_of_not h,
    fun _ _ _ => occursOn_every (fun _ => rfl) rfl,
    fun _ c r n prio => occursOn_of (fun _ _ => rfl) rfl fun s h => ?received,
    fun _ _ _ => occursOn_every (fun _ => rfl) rfl,
    fun _ c m => occursOn_of (fun _ _ => rfl) rfl fun s h => ?request,
    fun _ _ _ => occursOn_every (fun _ => rfl) rfl,
    fun _ _ _ => occursOn_of (fun _ _ => rfl) rfl fun _ h => ite_of_not h,
    fun _ _ => occursOn_of (fun _ _ => rfl) rfl fun _ h => if_pos h⟩
  case received =>
    simp only [Bool.and_eq_true, beq_iff_eq] at h
    obtain ⟨⟨⟨rfl, htt⟩, hrun⟩, hon⟩ := h
    exact doTtReference_received htt (Bool.and_eq_true_iff.mpr ⟨hrun, hon⟩)
  case request =>
    simp only [Bool.and_eq_true, beq_iff_eq] at h
    obtain ⟨⟨rfl, hcl⟩, hon⟩ := h
    exact doClaimMsg_request hcl hon

/-! ### Fleet coordination (chapter 17) -/

/-- Settles O56: each condition is the row's guard. -/
theorem fltEventsOccur : Obligations.FltEventsOccur :=
  ⟨fun _ => occursOn_of (fun _ _ => rfl) rfl fun _ h => ite_of_not h,
    fun _ _ _ _ => occursOn_of (fun _ _ => rfl) rfl fun _ h => ite_of_not h,
    fun _ _ => occursOn_of (fun _ _ => rfl) rfl fun _ h => ite_of_not h,
    fun _ => occursOn_of (fun _ _ => rfl) rfl fun _ h => if_pos h,
    fun _ => occursOn_of (fun _ _ => rfl) rfl fun _ h => if_pos h,
    fun _ => occursOn_of (fun _ _ => rfl) rfl fun _ h => if_pos h,
    fun _ => occursOn_of (fun _ _ => rfl) rfl fun _ h => ite_of_not h⟩

/-! ### Compute islands and redundancy (chapter 18) -/

theorem doHeartbeat_acting (hact : s.acting = true) (hon : (s.id.clockFail || s.pwr.saving || s.pwr.st == .off || s.pwr.st == .sleep) = false) :
    doHeartbeat s = { s with col := { s.col with hbOut := { time := s.time, notice := false } :: s.col.hbOut } } :=
  (if_pos hact).trans (if_neg (by simp [hon]))

/-- Settles O57: each condition is the row's guard; a manager sends the heartbeat where its power lets it. -/
theorem colEventsOccur : Obligations.ColEventsOccur := by
  refine ⟨fun _ _ => occursOn_every (fun _ => rfl) rfl,
    fun _ _ _ _ => occursOn_of (fun _ _ => rfl) rfl fun _ h => if_pos h,
    fun _ _ => occursOn_every (fun _ => rfl) rfl,
    fun _ _ => occursOn_every (fun _ => rfl) rfl,
    fun _ _ => occursOn_of (fun _ _ => rfl) rfl fun _ h => if_pos h,
    fun _ _ => occursOn_every (fun _ => rfl) rfl,
    fun _ _ => occursOn_every (fun _ => rfl) rfl,
    fun _ _ _ => occursOn_of (fun _ _ => rfl) rfl fun _ h => ite_of_not h,
    fun _ _ => occursOn_of (fun _ _ => rfl) rfl fun _ h => ite_of_not h,
    fun _ => occursOn_of (fun _ _ => rfl) rfl fun s h => ?sends,
    fun _ => occursOn_of (fun _ _ => rfl) rfl fun _ h => ite_of_not h,
    fun _ => occursOn_every (fun _ => rfl) rfl,
    fun _ => occursOn_of (fun _ _ => rfl) rfl fun _ h => if_pos h,
    fun _ _ => occursOn_every (fun _ => rfl) rfl⟩
  case sends =>
    obtain ⟨hact, hon⟩ := Bool.and_eq_true_iff.mp h
    exact doHeartbeat_acting hact (Bool.not_eq_true' _ ▸ hon)

/-! ### Memory, DMA and Cairn (chapters 19 to 21) -/

/-- `DMA_START` on a channel that runs, or that is not the partition's own, is an access fault (R464). -/
theorem doDmaStart_refused {c n : Nat} (h : (!ownsCh c n s || (s.dch c).st == .running || (s.dch c).st == .idleAtTail) = true) :
    doDmaStart c n s = dmaAccessFault s := by
  unfold doDmaStart
  split
  · rfl
  next hown =>
    have hruns : (s.dch c).st = .running ∨ (s.dch c).st = .idleAtTail := by simpa [hown] using h
    obtain hst | hst := hruns <;> simp only [hst]

theorem doDmaStart_fetches {c n : Nat} (hown : ownsCh c n s = true) (hst : (s.dch c).st ≠ .running ∧ (s.dch c).st ≠ .idleAtTail)
    (hen : (s.dch c).enabled = true) :
    doDmaStart c n s = fetchDesc c (s.dch c).head (modCh c (fun x => { x with cause := 0, prevCrc := none }) s) := by
  refine (if_neg (by simp [hown])).trans ?_
  dsimp only
  split
  next hrun => exact absurd hrun hst.1
  next htail => exact absurd htail hst.2
  next => exact if_neg (by simp [hen])

theorem doDmaAbort_stops {c n : Nat} (hown : ownsCh c n s = true) (hst : (s.dch c).st = .running ∨ (s.dch c).st = .idleAtTail) :
    doDmaAbort c n s = modCh c (fun x => { x with st := .stopped, desc := none }) s := by
  refine (if_neg (by simp [hown])).trans ?_
  obtain hst | hst := hst <;> simp only [hst]

theorem doDoorbell_running {c n : Nat} (hown : ownsCh c n s = true) (hst : (s.dch c).st = .running) :
    doDoorbell c n s = modCh c (fun x => { x with doorbellPending := true }) s := by
  refine (if_neg (by simp [hown])).trans ?_
  simp only [hst]

theorem doDoorbell_idleAtTail {c n : Nat} (hown : ownsCh c n s = true) (hst : (s.dch c).st = .idleAtTail) :
    doDoorbell c n s = tailReread c s := by
  refine (if_neg (by simp [hown])).trans ?_
  simp only [hst]

theorem doCursorTimeout_due {k : Nat} (h : ((s.crn.cursors.getD k none).any fun c => decide (c.lastRead + 600 * sec ≤ s.time)) = true) :
    doCursorTimeout k s = { s with crn := { s.crn with cursors := s.crn.cursors.set k none } } := by
  obtain ⟨c, hc, hdue⟩ := (Option.any_eq_true ..).mp h
  simp only [doCursorTimeout, hc, of_decide_eq_true hdue, if_true]

/-- Settles O58: the channel's owner and state select what a DMA register's write does; elsewhere the row's guard is the condition. -/
theorem memDmaCrnEventsOccur : Obligations.MemDmaCrnEventsOccur := by
  refine ⟨fun _ _ _ _ => occursOn_every (fun _ => rfl) rfl,
    fun _ => occursOn_of (fun _ _ => rfl) rfl fun _ h => if_pos h,
    fun _ _ _ => occursOn_of (fun _ _ => rfl) rfl fun _ h => doDmaStart_refused h,
    fun _ c n => occursOn_of (fun _ _ => rfl) rfl fun s h => ?fetches,
    fun _ _ _ => occursOn_of (fun _ _ => rfl) rfl fun _ h => if_pos h,
    fun _ c n => occursOn_of (fun _ _ => rfl) rfl fun s h => ?stops,
    fun _ _ _ => occursOn_of (fun _ _ => rfl) rfl fun _ h => if_pos h,
    fun _ c n => occursOn_of (fun _ _ => rfl) rfl fun s h => ?running,
    fun _ c n => occursOn_of (fun _ _ => rfl) rfl fun s h => ?idleAtTail,
    fun _ _ => occursOn_every (fun _ => rfl) rfl,
    fun _ => occursWhen_every (fun _ => rfl) rfl,
    fun _ => occursWhen_of (fun _ _ => rfl) rfl fun _ h => ite_of_not h,
    fun _ _ => occursWhen_of (fun _ _ => rfl) rfl fun _ h => doCursorTimeout_due h,
    fun _ _ => occursOn_every (fun _ => rfl) rfl,
    fun _ _ => occursOn_every (fun _ => rfl) rfl⟩
  case fetches =>
    simp only [Bool.and_eq_true, Bool.not_eq_true', Bool.or_eq_false_iff, beq_eq_false_iff_ne] at h
    obtain ⟨⟨hown, hst⟩, hen⟩ := h
    exact doDmaStart_fetches hown hst hen
  case stops =>
    simp only [Bool.and_eq_true, Bool.or_eq_true, beq_iff_eq] at h
    exact doDmaAbort_stops h.1 h.2
  case running =>
    simp only [Bool.and_eq_true, beq_iff_eq] at h
    exact doDoorbell_running h.1 h.2
  case idleAtTail =>
    simp only [Bool.and_eq_true, beq_iff_eq] at h
    exact doDoorbell_idleAtTail h.1 h.2

/-! ### Update and power (chapters 22 and 23) -/

theorem doStepComplete_idle (hst : s.pwr.st = .idle)
    (h : (s.pwr.move.any (fun m => decide (m.target.code < 3)) && (runningParts s).isEmpty) = true) : doStepComplete s = runMove 6 s := by
  obtain ⟨hmove, hparts⟩ := Bool.and_eq_true_iff.mp h
  obtain ⟨m, hm, hcode⟩ := (Option.any_eq_true ..).mp hmove
  simp only [doStepComplete, hm, hst, hcode, hparts, Bool.and_self, if_true]

theorem doIgn_rising (hst : s.pwr.st ≠ .off) : doIgn true s = fireWake 2 (reportEdge 7 true (modPwr (fun p => { p with ign := true }) s)) :=
  (if_neg (by simpa using hst)).trans (if_pos rfl)

theorem doIgn_falling (hst : s.pwr.st ≠ .off) : doIgn false s = reportEdge 7 false (modPwr (fun p => { p with ign := false }) s) :=
  (if_neg (by simpa using hst)).trans (if_neg Bool.false_ne_true)

theorem doWakeEdge_rising (hst : s.pwr.st ≠ .off) :
    doWakeEdge true s = fireWake 3 (reportEdge 8 true (modPwr (fun p => { p with wake := true }) s)) :=
  (if_neg (by simpa using hst)).trans (if_pos rfl)

theorem doWakeEdge_falling (hst : s.pwr.st ≠ .off) : doWakeEdge false s = reportEdge 8 false (modPwr (fun p => { p with wake := false }) s) :=
  (if_neg (by simpa using hst)).trans (if_neg Bool.false_ne_true)

/-- Settles O59: each condition is the row's guard; an input's edge selects whether a wake source fires. -/
theorem updPwrEventsOccur : Obligations.UpdPwrEventsOccur := by
  refine ⟨fun _ => occursOn_every (fun _ => rfl) rfl,
    fun _ _ => occursOn_every (fun _ => rfl) rfl,
    fun _ => occursOn_every (fun _ => rfl) rfl,
    fun _ _ => occursOn_every (fun _ => rfl) rfl,
    fun _ => occursWhen_every (fun _ => rfl) rfl,
    fun _ => occursWhen_of (fun _ _ => rfl) rfl fun s h => ?idle,
    fun _ => occursOn_of (fun _ _ => rfl) rfl fun _ h => if_pos h,
    fun _ => occursOn_of (fun _ _ => rfl) rfl fun _ h => if_pos h,
    fun _ _ => occursWhen_every (fun _ => rfl) rfl,
    fun _ rising => occursWhen_of (fun _ _ => rfl) rfl fun s h => ?ignOn,
    fun _ rising => occursWhen_of (fun _ _ => rfl) rfl fun s h => ?ignOff,
    fun _ rising => occursWhen_of (fun _ _ => rfl) rfl fun s h => ?wakeOn,
    fun _ rising => occursWhen_of (fun _ _ => rfl) rfl fun s h => ?wakeOff,
    fun _ => occursWhen_of (fun _ _ => rfl) rfl fun _ h => if_pos h,
    fun _ _ => occursWhen_every (fun _ => rfl) rfl,
    fun _ _ _ => occursWhen_every (fun _ => rfl) rfl,
    fun _ _ _ => occursWhen_of (fun _ _ => rfl) rfl fun _ h => ite_of_not h,
    fun _ _ _ _ => occursWhen_of (fun _ _ => rfl) rfl fun _ h => ite_of_not h,
    fun _ _ => occursWhen_of (fun _ _ => rfl) rfl fun _ h => ite_of_not h,
    fun _ => occursOn_of (fun _ _ => rfl) rfl fun _ h => if_pos h⟩
  case idle =>
    simp only [Bool.and_assoc] at h
    obtain ⟨hst, hmove⟩ := Bool.and_eq_true_iff.mp h
    exact doStepComplete_idle (eq_of_beq hst) hmove
  case ignOn =>
    obtain ⟨rfl, hst⟩ : rising = true ∧ s.pwr.st ≠ .off := by simpa using h
    exact doIgn_rising hst
  case ignOff =>
    obtain ⟨rfl, hst⟩ : rising = false ∧ s.pwr.st ≠ .off := by simpa using h
    exact doIgn_falling hst
  case wakeOn =>
    obtain ⟨rfl, hst⟩ : rising = true ∧ s.pwr.st ≠ .off := by simpa using h
    exact doWakeEdge_rising hst
  case wakeOff =>
    obtain ⟨rfl, hst⟩ : rising = false ∧ s.pwr.st ≠ .off := by simpa using h
    exact doWakeEdge_falling hst

/-! ### Summit (chapter 24) -/

theorem doStrapRead_changed {v i : Nat} (hi : s.id.index = some i) (hsum : s.id.summitLost = false) (hv : (v % 8 != i) = true)
    (hnew : (s.id.straps != some (v % 8)) = true) :
    doStrapRead v s = cairn 0x0182 0x70 (le 1 i ++ le 1 (v % 8) ++ zeros 2)
      (modId (fun d => { d with straps := some (v % 8), strapChanged := true }) s) := by
  simp only [doStrapRead, hi, hsum, hv, hnew, Bool.false_eq_true, if_false, Bool.and_self, if_true]

theorem doHeartbeatSum_arrived (hon : s.mainOn = true) : doHeartbeatSum true s = modSum (fun m => { m with heartbeat := s.time }) s :=
  (if_neg (by simp [hon])).trans (if_pos rfl)

theorem doHeartbeatSum_missing (hon : s.mainOn = true) (hdue : s.sum.heartbeat + 10 * ms ≤ s.time) : doHeartbeatSum false s = sumExclude s :=
  (if_neg (by simp [hon])).trans ((if_neg Bool.false_ne_true).trans (if_pos hdue))

theorem doOscCheck_bad {count : Nat} (hon : s.mainOn = true) (hsum : s.id.summitLost = false)
    (hbad : (s.tim.st == .locked && (count + 10000 < 50000000 || 50010000 < count)) = true) :
    doOscCheck count s = let u := modSum (fun m => { m with oscBad := s.sum.oscBad + 1 }) s
      if 3 ≤ s.sum.oscBad + 1 then sumExclude u else u := by
  simp only [doOscCheck, hon, hsum, hbad, Bool.not_true, Bool.or_false, Bool.false_eq_true, if_false, if_true]

theorem doOscCheck_good {count : Nat} (hon : s.mainOn = true) (hsum : s.id.summitLost = false)
    (hgood : (s.tim.st == .locked && (count + 10000 < 50000000 || 50010000 < count)) = false) :
    doOscCheck count s = modSum (fun m => { m with oscBad := 0 }) s := by
  simp only [doOscCheck, hon, hsum, hgood, Bool.not_true, Bool.or_false, Bool.false_eq_true, if_false]
  rfl

/-- Settles O60: each condition is the row's guard, or selects the branch of a heartbeat or of an oscillator's count. -/
theorem sumEventsOccur : Obligations.SumEventsOccur := by
  refine ⟨fun _ _ => occursWhen_of (fun _ _ => rfl) rfl fun _ h => ite_of_not h,
    fun _ => occursWhen_of (fun _ _ => rfl) rfl fun _ h => ite_of_not h,
    fun _ v i => occursWhen_of (fun _ _ => rfl) rfl fun s h => ?strap,
    fun _ arrived => occursWhen_of (fun _ _ => rfl) rfl fun s h => ?arrived,
    fun _ arrived => occursWhen_of (fun _ _ => rfl) rfl fun s h => ?missing,
    fun _ count => occursWhen_of (fun _ _ => rfl) rfl fun s h => ?bad,
    fun _ count => occursWhen_of (fun _ _ => rfl) rfl fun s h => ?good,
    fun _ _ => occursWhen_of (fun _ _ => rfl) rfl fun _ h => ite_of_not h,
    fun _ _ _ _ _ _ => occursWhen_of (fun _ _ => rfl) rfl fun _ h => ite_of_not h,
    fun _ _ => occursWhen_of (fun _ _ => rfl) rfl fun s h => ?humidity,
    fun _ => occursWhen_of (fun _ _ => rfl) rfl fun _ h => ite_of_not h,
    fun _ _ => occursWhen_of (fun _ _ => rfl) rfl fun _ h => ite_of_not h,
    fun _ _ _ => occursWhen_of (fun _ _ => rfl) rfl fun _ h => ite_of_not h,
    fun _ _ _ => occursWhen_every (fun _ => rfl) rfl,
    fun _ _ _ => occursWhen_of (fun _ _ => rfl) rfl fun _ h => if_pos h⟩
  case strap =>
    simp only [Bool.and_eq_true, beq_iff_eq, Bool.not_eq_true'] at h
    obtain ⟨⟨⟨hi, hsum⟩, hv⟩, hnew⟩ := h
    exact doStrapRead_changed hi hsum hv hnew
  case arrived =>
    obtain ⟨hon, rfl⟩ := Bool.and_eq_true_iff.mp h
    exact congrArg stopMove (doHeartbeatSum_arrived hon)
  case missing =>
    obtain ⟨⟨hon, rfl⟩, hdue⟩ : (s.mainOn = true ∧ arrived = false) ∧ s.sum.heartbeat + 10 * ms ≤ s.time := by simpa using h
    exact congrArg stopMove (doHeartbeatSum_missing hon hdue)
  case bad =>
    simp only [Bool.and_assoc] at h
    obtain ⟨hon, h⟩ := Bool.and_eq_true_iff.mp h
    obtain ⟨hsum, hbad⟩ := Bool.and_eq_true_iff.mp h
    exact congrArg stopMove (doOscCheck_bad hon (by simpa using hsum) hbad)
  case good =>
    simp only [Bool.and_assoc] at h
    obtain ⟨hon, h⟩ := Bool.and_eq_true_iff.mp h
    obtain ⟨hsum, hgood⟩ := Bool.and_eq_true_iff.mp h
    exact congrArg stopMove (doOscCheck_good hon (by simpa using hsum) (Bool.not_eq_true' _ ▸ hgood))
  case humidity =>
    exact if_neg (by simp [h])

end

end Sys2Proof.Machine

/-! # Every command, where it is permitted

The rules of a command are its conditions, checked in their order, and then its effect (R73, step 8). A permitted command has none of its
refusals, so what it does is the effect alone (`does_permitted`); the further conditions of a clause select a branch of that effect
(`does_where` and those after it). -/

namespace Sys2Proof.Machine

/-! ## Commands whose rules are their conditions and then their effect -/

section
variable {op : Op} {i : Packet → Instr} {chk : Req → State → List (Bool × Status)} {run : Req → State → Res × State}
  {A B D F : Req → State → Bool} {E : Req → State → Res × State → Prop}

/-- A command completes as its own rules answer. -/
theorem does_eff {C : Req → State → Bool} (eff : Req → State → Res × State) (h : ∀ r t, C r t = true → E r t (eff r t))
    (hi : ∀ p s, exec (i p) s = command op p s := by exact fun _ _ => rfl)
    (heff : ∀ p port ctr raw s, effOf ⟨op, p, port, ctr, raw⟩ s = eff ⟨op, p, port, ctr, raw⟩ s := by exact fun _ _ _ _ _ => rfl) :
    Does op i C E := by
  refine does_of hi fun r t hop hc => ?_
  subst hop
  rw [show effOf r t = eff r t from heff r.p r.port r.ctr r.raw t]
  exact h r t hc

/-- A command whose rules check its conditions and then run completes as its run says, where `C` brings the conditions along. -/
theorem does_run {C : Req → State → Bool} (eff : Req → State → Res × State) (hrun : ∀ r t, eff r t = check t (chk r t) fun _ => run r t)
    (hC : ∀ r t, C r t = true → permitted (chk r t) = true) (h : ∀ r t, C r t = true → E r t (run r t))
    (hi : ∀ p s, exec (i p) s = command op p s := by exact fun _ _ => rfl)
    (heff : ∀ p port ctr raw s, effOf ⟨op, p, port, ctr, raw⟩ s = eff ⟨op, p, port, ctr, raw⟩ s := by exact fun _ _ _ _ _ => rfl) :
    Does op i C E := by
  refine does_eff eff (fun r t hc => ?_) hi heff
  rw [hrun, check_permitted (hC r t hc)]
  exact h r t hc

/-- A command whose rules check its conditions and then run does its run alone where it is permitted. -/
theorem does_permitted (eff : Req → State → Res × State) (hrun : ∀ r t, eff r t = check t (chk r t) fun _ => run r t)
    (h : ∀ r t, permitted (chk r t) = true → E r t (run r t))
    (hi : ∀ p s, exec (i p) s = command op p s := by exact fun _ _ => rfl)
    (heff : ∀ p port ctr raw s, effOf ⟨op, p, port, ctr, raw⟩ s = eff ⟨op, p, port, ctr, raw⟩ s := by exact fun _ _ _ _ _ => rfl) :
    Does op i (fun r t => permitted (chk r t)) E :=
  does_run eff hrun (fun _ _ hc => hc) h hi heff

/-- Where it is permitted and a further condition selects a branch, it does that branch. -/
theorem does_where (eff : Req → State → Res × State) (hrun : ∀ r t, eff r t = check t (chk r t) fun _ => run r t)
    (h : ∀ r t, permitted (chk r t) = true → A r t = true → E r t (run r t))
    (hi : ∀ p s, exec (i p) s = command op p s := by exact fun _ _ => rfl)
    (heff : ∀ p port ctr raw s, effOf ⟨op, p, port, ctr, raw⟩ s = eff ⟨op, p, port, ctr, raw⟩ s := by exact fun _ _ _ _ _ => rfl) :
    Does op i (fun r t => permitted (chk r t) && A r t) E := by
  refine does_run eff hrun (fun _ _ hc => ?_) (fun r t hc => ?_) hi heff
  · exact (Bool.and_eq_true_iff.mp hc).1
  · obtain ⟨hp, ha⟩ := Bool.and_eq_true_iff.mp hc
    exact h r t hp ha

/-- Two conditions select the branch. -/
theorem does_where₂ (eff : Req → State → Res × State) (hrun : ∀ r t, eff r t = check t (chk r t) fun _ => run r t)
    (h : ∀ r t, permitted (chk r t) = true → A r t = true → B r t = true → E r t (run r t))
    (hi : ∀ p s, exec (i p) s = command op p s := by exact fun _ _ => rfl)
    (heff : ∀ p port ctr raw s, effOf ⟨op, p, port, ctr, raw⟩ s = eff ⟨op, p, port, ctr, raw⟩ s := by exact fun _ _ _ _ _ => rfl) :
    Does op i (fun r t => permitted (chk r t) && A r t && B r t) E := by
  simp only [Bool.and_assoc]
  refine does_where eff hrun (fun r t hp hc => ?_) hi heff
  obtain ⟨ha, hb⟩ := Bool.and_eq_true_iff.mp hc
  exact h r t hp ha hb

/-- Three conditions select the branch. -/
theorem does_where₃ (eff : Req → State → Res × State) (hrun : ∀ r t, eff r t = check t (chk r t) fun _ => run r t)
    (h : ∀ r t, permitted (chk r t) = true → A r t = true → B r t = true → D r t = true → E r t (run r t))
    (hi : ∀ p s, exec (i p) s = command op p s := by exact fun _ _ => rfl)
    (heff : ∀ p port ctr raw s, effOf ⟨op, p, port, ctr, raw⟩ s = eff ⟨op, p, port, ctr, raw⟩ s := by exact fun _ _ _ _ _ => rfl) :
    Does op i (fun r t => permitted (chk r t) && A r t && B r t && D r t) E := by
  simp only [Bool.and_assoc]
  refine does_where eff hrun (fun r t hp hc => ?_) hi heff
  obtain ⟨ha, hc⟩ := Bool.and_eq_true_iff.mp hc
  obtain ⟨hb, hd⟩ := Bool.and_eq_true_iff.mp hc
  exact h r t hp ha hb hd

/-- Conditions may be grouped to the right. -/
theorem does_assoc {P : Req → State → Bool} (h : Does op i (fun r t => P r t && (A r t && B r t)) E) :
    Does op i (fun r t => P r t && A r t && B r t) E := by
  simpa only [Bool.and_assoc] using h

/-- Four conditions select the branch. -/
theorem does_where₄ (eff : Req → State → Res × State) (hrun : ∀ r t, eff r t = check t (chk r t) fun _ => run r t)
    (h : ∀ r t, permitted (chk r t) = true → A r t = true → B r t = true → D r t = true → F r t = true → E r t (run r t))
    (hi : ∀ p s, exec (i p) s = command op p s := by exact fun _ _ => rfl)
    (heff : ∀ p port ctr raw s, effOf ⟨op, p, port, ctr, raw⟩ s = eff ⟨op, p, port, ctr, raw⟩ s := by exact fun _ _ _ _ _ => rfl) :
    Does op i (fun r t => permitted (chk r t) && A r t && B r t && D r t && F r t) E := by
  simp only [Bool.and_assoc]
  refine does_where eff hrun (fun r t hp hc => ?_) hi heff
  obtain ⟨ha, hc⟩ := Bool.and_eq_true_iff.mp hc
  obtain ⟨hb, hc⟩ := Bool.and_eq_true_iff.mp hc
  obtain ⟨hd, hf⟩ := Bool.and_eq_true_iff.mp hc
  exact h r t hp ha hb hd hf

end

/-- A command whose row is a packet's waits where its packet is admitted and no sample is there. -/
theorem waits_of {op : Op} {i : Packet → Instr} (hi : ∀ p s, exec (i p) s = command op p s) : Waits op i := by
  intro p s r t h hw
  rw [hi, command_waits h hw]

/-! ### SYS (chapters 01 to 03) -/

/-- A permitted command has none of its refusals. -/
theorem permitted_not {cs : List (Bool × Status)} (h : permitted cs = true) {b : Bool} {st : Status} (hb : (b, st) ∈ cs) : b = false := by
  simpa using List.all_eq_true.mp h (b, st) hb

/-- A session opens only under a key of its slot (R69). -/
theorem sessionKey_of_permitted {r : Req} {t : State} (h : permitted (chkSysSessionOpen r t) = true) :
    ∃ key n, t.sum.sessionKeys.getD (u8 r.p.payload 0) none = some (key, n) := by
  have hkey : ((t.sum.sessionKeys.getD (u8 r.p.payload 0) none).map (·.1)).isNone = false :=
    permitted_not h (st := .badParam) (by simp [chkSysSessionOpen])
  have hsome : (t.sum.sessionKeys.getD (u8 r.p.payload 0) none).isSome = true := by simpa using hkey
  obtain ⟨⟨key, n⟩, hx⟩ := Option.isSome_iff_exists.mp hsome
  exact ⟨key, n, hx⟩

/-- Settles O28: each row's effect is the clause's; a session opens under the slot's key, on whatever link its packet came by. -/
theorem sysCommandsComplete : Obligations.SysCommandsComplete := by
  refine ⟨does_permitted effSysIdent (fun _ _ => rfl) fun r t hp => rfl,
    does_permitted effSysStatus (fun _ _ => rfl) fun r t hp => rfl,
    does_where effSysSessionOpen (fun _ _ => rfl) fun r t hp hnew => ?opened,
    does_where effSysSessionClose (fun _ _ => rfl) fun r t hp hsome => congrArg done (if_pos hsome),
    does_where effSysSessionClose (fun _ _ => rfl) fun r t hp hnone => congrArg done (if_neg (by simp [Option.isNone_iff_eq_none.mp hnone])),
    does_permitted effSysCreditSet (fun _ _ => rfl) fun r t hp => ⟨_, rfl, rfl, rfl⟩⟩
  case opened =>
    obtain ⟨key, n, hkey⟩ := sessionKey_of_permitted hp
    have hold : ∀ e ip udp, r.p.via = .eth e ip udp → addrSession e ip udp t = none := fun e ip udp hv => by simpa [hv] using hnew
    simp only [hkey, beq_iff_eq]
    cases hv : r.p.via
    case eth e ip udp =>
      simp only [hold e ip udp hv]
      exact ⟨_, _, key, n, _, rfl, rfl, rfl, rfl, rfl, rfl, rfl, List.length_map .., rfl⟩
    all_goals exact ⟨_, _, key, n, _, rfl, rfl, rfl, rfl, rfl, rfl, rfl, List.length_map .., rfl⟩

/-! ### SIG (chapter 02) -/

@[simp] theorem exportOnChange_force (h : Nat) (old new : Rec) (s : State) (m : Nat) : (exportOnChange h old new s).force m = s.force m := by
  unfold exportOnChange
  split <;> rfl

/-- A publication leaves the forces as they are. -/
@[simp] theorem storeOwn_force (n : Nat) (r : Rec) (s : State) (m : Nat) : (storeOwn n r s).force m = s.force m := by
  unfold storeOwn
  split
  · rfl
  · exact (exportOnChange_force ..).trans ((apply_ite (State.force · m) _ _ _).trans (ite_self _))

/-- A recorded force event changes no record and no force. -/
theorem forceEvent_frame (b : List Byte) (k : Nat) (s : State) : ∃ c, forceEvent b k s = { s with crn := c } := cairn_frame ..

@[simp] theorem forceEvent_ownRec (b : List Byte) (k : Nat) (s : State) (m : Nat) : (forceEvent b k s).ownRec m = s.ownRec m := by
  obtain ⟨c, hc⟩ := forceEvent_frame b k s
  rw [hc]
  rfl

@[simp] theorem forceEvent_force (b : List Byte) (k : Nat) (s : State) (m : Nat) : (forceEvent b k s).force m = s.force m := by
  obtain ⟨c, hc⟩ := forceEvent_frame b k s
  rw [hc]
  rfl

/-- A publication on a local that is not forced stores the record as it is given, with its stamp and its staleness (R36, R54). -/
theorem publishAs_unforced {n fresh : Nat} {r : Rec} {s : State} (h : s.force n = none) :
    publishAs n r fresh s = storeOwn n { r with stamp := if r.stamp == 0 then s.time else r.stamp
                                                staleAt := if fresh == 0 then none else some (s.time + fresh * us) } s := by
  rw [publishAs, h]

/-- On a forced local it stores the forced record, and counts what it discards (R40). -/
theorem publishAs_forced {n fresh : Nat} {r : Rec} {f : Force} {s : State} (h : s.force n = some f) :
    publishAs n r fresh s = storeOwn n (forcedRec f s) { s with sig := { s.sig with forces := s.sig.forces.map fun g =>
      if g.localNo == n then { g with discarded := g.discarded + 1, lastPublished := s.time } else g } } := by
  rw [publishAs, h]

/-- A force in the table is found. -/
theorem force_isSome {s : State} {f : Force} {n : Nat} (h : f ∈ s.sig.forces) (hn : f.localNo = n) : (s.force n).isSome = true :=
  List.find?_isSome.mpr ⟨f, h, beq_iff_eq.mpr hn⟩

/-- Settles O29: what a read keeps, a write publishes and a force puts into the record; a force in the table discards a write. -/
theorem sigCommandsComplete : Obligations.SigCommandsComplete := by
  refine ⟨does_where effSigRead (fun _ _ => rfl) fun r t hp hnone => ?live, does_where effSigRead (fun _ _ => rfl) fun r t hp hsome => ?kept,
    does_where₂ effSigWrite (fun _ _ => rfl) fun r t hp hpub hfree => ?written,
    does_where effSigWrite (fun _ _ => rfl) fun r t hp hforced => ?forced,
    does_permitted effSigRouteSet (fun _ _ => rfl) fun r t hp => ⟨_, _, rfl, rfl, rfl⟩,
    does_where₂ effSigForce (fun _ _ => rfl) fun r t hp hpub hset => ⟨_, _, if_pos hset, ?set⟩,
    does_where effSigForce (fun _ _ => rfl) fun r t hp hend => ?ended⟩
  case live => simp only [Option.isNone_iff_eq_none.mp hnone]
  case kept =>
    obtain ⟨y, hy⟩ := Option.isSome_iff_exists.mp hsome
    exact ⟨y, hy, by simp only [hy]⟩
  case written =>
    refine ⟨_, congrArg done (publishAs_unforced (Option.isNone_iff_eq_none.mp hfree)), ?_⟩
    obtain ⟨hseq, -, hvalue, -, -, hother⟩ := publicationsTouchOneRecord.2 (hLocal (u32 r.p.payload 0)) _ t hpub
    exact ⟨hvalue, hseq, hother⟩
  case forced =>
    obtain ⟨f, hf⟩ := Option.isSome_iff_exists.mp hforced
    exact ⟨f, _, hf, rfl, congrArg done (publishAs_forced hf)⟩
  case set =>
    simp only [forceEvent_ownRec, forceEvent_force, storeOwn_force]
    rw [storeOwn_ownRec _ _ (by exact hpub), setOwn_ownRec_same]
    exact ⟨rfl, rfl, force_isSome (List.mem_append_right _ (List.mem_singleton_self _)) rfl⟩
  case ended =>
    have hset : ¬(u8 r.p.payload 4 == 0) = true := by rw [eq_of_beq hend]; decide
    exact ⟨_, _, rfl, rfl, if_neg hset⟩

/-! ### FUN (chapter 04) -/

/-- Settles O30: the state of the function selects the branch of FUN_ENABLE and FUN_CLEAR; between samples the commands of R93 wait. -/
theorem funCommandsComplete : Obligations.FunCommandsComplete := by
  refine ⟨does_where effFunConfig (fun _ _ => rfl) fun r t hp hpeer => if_pos hpeer,
    does_where effFunConfig (fun _ _ => rfl) fun r t hp hpeer => if_neg (by simpa using hpeer),
    does_where₂ effFunEnable (fun _ _ => rfl) fun r t hp hst hfree => ⟨_, rfl, ?starts⟩,
    does_where₂ effFunEnable (fun _ _ => rfl) fun r t hp hst hsat => ?goes,
    does_where₂ effFunEnable (fun _ _ => rfl) fun r t hp hst hunsat => ?unsat,
    does_where effFunEnable (fun _ _ => rfl) fun r t hp hst => ?held,
    does_where effFunEnable (fun _ _ => rfl) fun r t hp hst => ?fault,
    does_where₂ effFunEnable (fun _ _ => rfl) fun r t hp hst hrefused => ?refused,
    does_where effFunEnable (fun _ _ => rfl) fun r t hp hst => ?runs,
    does_permitted effFunDisable (fun _ _ => rfl) fun r t hp => ⟨_, _, rfl, rfl, rfl⟩,
    does_permitted effFunSourceSet (fun _ _ => rfl) fun r t hp => ⟨_, rfl, rfl⟩,
    does_permitted effFunState (fun _ _ => rfl) fun r t hp => ⟨_, _, rfl, rfl, rfl⟩,
    does_where₂ effFunClear (fun _ _ => rfl) fun r t hp hst hlatched => if_neg (by simpa [eq_of_beq hst] using hlatched),
    does_where effFunClear (fun _ _ => rfl) fun r t hp hst => if_pos hst,
    does_permitted effFunInterlockSet (fun _ _ => rfl) fun r t hp => ⟨_, rfl, rfl, rfl, rfl⟩,
    does_permitted effFunAutoSet (fun _ _ => rfl) fun r t hp => ⟨_, _, rfl, rfl, rfl, rfl, rfl, rfl, rfl, rfl⟩,
    waits_of fun _ _ => rfl, waits_of fun _ _ => rfl, waits_of fun _ _ => rfl, waits_of fun _ _ => rfl, waits_of fun _ _ => rfl⟩
  case starts => simp only [eq_of_beq hst, Option.isNone_iff_eq_none.mp hfree]
  case goes => simp only [eq_of_beq hst, hsat, if_true]
  case unsat =>
    simp only [eq_of_beq hst]
    exact if_neg (by simpa using hunsat)
  case held => simp only [eq_of_beq hst]
  case fault => simp only [eq_of_beq hst]
  case refused =>
    obtain ⟨c, hc⟩ := Option.isSome_iff_exists.mp hrefused
    exact ⟨c, hc, by simp only [eq_of_beq hst, hc]⟩
  case runs =>
    simp only [Bool.or_eq_true, beq_iff_eq] at hst
    obtain (hst | hst) | hst := hst <;> simp only [hst]

/-! ### CUL (chapter 05) -/

/-- Settles O31: a stop's operation and Couloir's state select its branch; the other rows have one effect each. -/
theorem culCommandsComplete : Obligations.CulCommandsComplete := by
  refine ⟨does_where effCulConfig (fun _ _ => rfl) fun r t hp hst => ?configured,
    does_where effCulConfig (fun _ _ => rfl) fun r t hp hst => congrArg done (if_pos hst),
    does_permitted effCulStageSet (fun _ _ => rfl) fun r t hp => ⟨_, rfl, rfl, rfl⟩,
    does_permitted effCulSensorSet (fun _ _ => rfl) fun r t hp => ⟨_, _, rfl, rfl, rfl, rfl, rfl, rfl, rfl, rfl⟩,
    does_permitted effCulStart (fun _ _ => rfl) fun r t hp => rfl,
    does_where effCulStop (fun _ _ => rfl) fun r t hp hnow => congrArg done (if_pos hnow),
    does_where₃ effCulStop (fun _ _ => rfl) fun r t hp hop hrun hempty => ?drained,
    does_where₃ effCulStop (fun _ _ => rfl) fun r t hp hop hrun hopen => ?draining,
    does_where₂ effCulStop (fun _ _ => rfl) fun r t hp hop hrun => ?stopped,
    does_permitted effCulStatus (fun _ _ => rfl) fun r t hp => ⟨_, rfl, rfl⟩,
    does_permitted effCulLedgerRead (fun _ _ => rfl) fun r t hp => ⟨_, rfl, rfl⟩,
    does_permitted effCulCalRun (fun _ _ => rfl) fun r t hp => ⟨_, _, _, rfl, rfl, rfl, rfl, rfl, rfl, rfl, rfl⟩⟩
  case configured =>
    have hnot : ¬(t.cul.st == .unconfigured) = true := by simpa using hst
    exact ⟨_, congrArg done (if_neg hnot), rfl, rfl, rfl, rfl⟩
  case drained => simp [eq_of_beq hop, hrun, hempty]
  case draining =>
    have hopen' : (openParcels (culEnter .draining t)).isEmpty = false := by simpa using hopen
    simp only [eq_of_beq hop, hrun, hopen', Bool.false_eq_true, if_true, if_false]
    rfl
  case stopped =>
    have hnot : (t.cul.st == .running) = false := by simpa using hrun
    simp only [eq_of_beq hop, hnot, Bool.false_eq_true, if_false]
    rfl

/-! ### SEN (chapter 06) -/

/-- A permitted `SEN_CROP_SET` names one of the crops. -/
theorem cropTarget_of_permitted {r : Req} {t : State} (h : permitted (chkSenCropSet r t) = true) :
    ∃ p, unitIndex r.p.target 0x05 = some (0x100 + p)
      ∧ (((unitIndex r.p.target 0x05).filter fun i => decide (0x100 ≤ i) && decide (i < 0x110)).map (· - 0x100)).getD 0 = p := by
  have hsome : (((unitIndex r.p.target 0x05).filter fun i => decide (0x100 ≤ i) && decide (i < 0x110)).map (· - 0x100)).isNone = false :=
    permitted_not h (st := .badParam) (List.mem_cons_self ..)
  obtain ⟨p, hp⟩ := Option.isSome_iff_exists.mp (Option.isNone_eq_false_iff.mp hsome)
  rw [hp]
  obtain ⟨i, hi, rfl⟩ := Option.map_eq_some_iff.mp hp
  obtain ⟨hunit, hrange⟩ := Option.filter_eq_some_iff.mp hi
  simp only [Bool.and_eq_true, decide_eq_true_eq] at hrange
  exact ⟨i - 0x100, by rw [hunit, Nat.add_sub_of_le hrange.1], rfl⟩

/-- An entry of a table that is computed for the first `n` indices. -/
theorem getD_map_range {n i : Nat} (f : Nat → Nat) (h : i < n) : ((List.range n).map f).getD i 0 = f i := by
  simp [List.getD, h]

/-- Settles O32: the operation of a training or a load selects its branch, and a long window gives a table of 256 entries. -/
theorem senCommandsComplete : Obligations.SenCommandsComplete := by
  refine ⟨does_permitted effSenChannelSet (fun _ _ => rfl) fun r t hp => rfl,
    does_permitted effSenClassWrite (fun _ _ => rfl) fun r t hp => rfl,
    does_where effSenTrain (fun _ _ => rfl) fun r t hp hop => if_pos hop,
    does_where effSenTrain (fun _ _ => rfl) fun r t hp hop => ?others,
    does_where effSenTrain (fun _ _ => rfl) fun r t hp hop => ?ends,
    does_where₂ effSenTrain (fun _ _ => rfl) fun r t hp hop hshort => ?short,
    does_where₂ effSenTrain (fun _ _ => rfl) fun r t hp hop hlong => ?trained,
    does_permitted effSenChannelRead (fun _ _ => rfl) fun r t hp => ⟨_, rfl, rfl⟩,
    does_permitted effSenCropSet (fun _ _ => rfl) fun r t hp => ?crop,
    does_permitted effSenYieldConfig (fun _ _ => rfl) fun r t hp => ⟨_, _, rfl, rfl, rfl, rfl, rfl, rfl, rfl, rfl, rfl⟩,
    does_where effSenCalLoad (fun _ _ => rfl) fun r t hp hop => ⟨_, _, rfl, rfl, ?weighed⟩,
    does_where effSenCalLoad (fun _ _ => rfl) fun r t hp hop => ⟨_, rfl, if_pos hop⟩,
    does_where effSenCalLoad (fun _ _ => rfl) fun r t hp hop => ⟨_, rfl, ?loaded⟩,
    does_where₂ effSenCalLoad (fun _ _ => rfl) fun r t hp hop hfit => ?fits,
    does_where₂ effSenCalLoad (fun _ _ => rfl) fun r t hp hop hfit => ?fitsNot,
    does_where effSenCalLoad (fun _ _ => rfl) fun r t hp hop => ⟨_, rfl, ?cleared⟩,
    does_permitted effSenStatus (fun _ _ => rfl) fun r t hp => ⟨_, fun _ => rfl, rfl⟩⟩
  case others =>
    simp only [eq_of_beq hop]
    rfl
  case ends =>
    simp only [eq_of_beq hop]
    rfl
  case short =>
    simp only [eq_of_beq hop, hshort, if_true]
    rfl
  case trained =>
    have hlong' : windowShort (t.senCh ((senChTarget r).getD 0)).cfgToCome.window (medianRing (t.senCh ((senChTarget r).getD 0)).rings) = false := by
      simpa using hlong
    simp only [eq_of_beq hop, hlong', Bool.false_eq_true, if_false]
    exact ⟨_, rfl, by simp, fun i hi => getD_map_range _ hi⟩
  case crop =>
    obtain ⟨p, hunit, hget⟩ := cropTarget_of_permitted hp
    exact ⟨p, _, hunit, rfl, by rw [← hget]; rfl⟩
  case weighed =>
    simp only [eq_of_beq hop]
    rfl
  case loaded =>
    simp only [eq_of_beq hop]
    rfl
  case fits =>
    obtain ⟨u, hu⟩ := Option.isSome_iff_exists.mp hfit
    refine ⟨u, hu, ?_⟩
    simp only [eq_of_beq hop, hu]
    rfl
  case fitsNot =>
    simp only [eq_of_beq hop, Option.isNone_iff_eq_none.mp hfit]
    rfl
  case cleared =>
    simp only [eq_of_beq hop]
    rfl

/-! ### MAP (chapter 07) -/

/-- A permitted `MAP_FIELD_OPEN` creates a field that is not there yet (R161). -/
theorem field_none_of_permitted {r : Req} {t : State} (h : permitted (chkMapFieldOpen r t) = true) (hcreate : (u8 r.p.payload 4 == 0) = true) :
    t.field (u32 r.p.payload 0) = none := by
  have hdiffer : ((u8 r.p.payload 4 == 0) == (t.field (u32 r.p.payload 0)).isSome) = false :=
    permitted_not h (st := .badParam) (by simp [chkMapFieldOpen])
  simpa [hcreate] using hdiffer

/-- A tile that is not in the cache, or is of a field that is not open, is read of the store (R163). -/
theorem tileRead_uncached {te tn : Int} {t : State} {k : Nat} (h : ((t.tile te tn).isNone || (k != 0 && k != t.map.open_)) = true) :
    (if (if k == 0 then t.map.open_ else k) == t.map.open_ then t.tile te tn else none) = none := by
  simp only [Bool.or_eq_true, Option.isNone_iff_eq_none, Bool.and_eq_true, bne_iff_ne] at h
  obtain hnone | ⟨hne, hopen⟩ := h
  · rw [hnone, ite_self]
  · simp [hne, hopen]

/-- A tile of the open field is read of the cache. -/
theorem tileRead_cached {te tn : Int} {t : State} {k : Nat} (h : (k == 0 || k == t.map.open_) = true) :
    (if (if k == 0 then t.map.open_ else k) == t.map.open_ then t.tile te tn else none) = t.tile te tn := by
  simp only [Bool.or_eq_true, beq_iff_eq] at h
  obtain h | h := h <;> simp [h]

/-- Settles O33: whether the field is there, and whether its tile is in the cache, select the branch. -/
theorem mapCommandsComplete : Obligations.MapCommandsComplete := by
  refine ⟨does_where₂ effMapFieldOpen (fun _ _ => rfl) fun r t hp hcreate hroom => ?created,
    does_where₂ effMapFieldOpen (fun _ _ => rfl) fun r t hp hcreate hfull => if_pos (by simp only [hcreate, hfull, Bool.and_self]),
    does_where₂ effMapFieldOpen (fun _ _ => rfl) fun r t hp hopen hfound => ?opened,
    does_where effMapFieldClose (fun _ _ => rfl) fun r t hp hempty => if_pos hempty,
    does_where effMapFieldClose (fun _ _ => rfl) fun r t hp hwaits => if_neg (by simpa using hwaits),
    does_permitted effMapConfig (fun _ _ => rfl) fun r t hp => ⟨_, rfl, rfl, rfl, rfl, rfl⟩,
    does_where effMapTileRead (fun _ _ => rfl) fun r t hp hun => ⟨_, rfl, ?stored⟩,
    does_where effMapTileRead (fun _ _ => rfl) fun r t hp hcached => ?cached,
    does_permitted effMapStatus (fun _ _ => rfl) fun r t hp => rfl,
    does_where₂ effMapExport (fun _ _ => rfl) fun r t hp hother hfound => ?closed,
    does_where₂ effMapExport (fun _ _ => rfl) fun r t hp hopen hfound => ?flushed,
    does_permitted effMapExportRead (fun _ _ => rfl) fun r t hp => rfl⟩
  case created =>
    have hroom' : ¬64 ≤ t.map.fields.length := by simpa using hroom
    refine ⟨_, _, rfl, rfl, ?_⟩
    simp only [hcreate, hroom', field_none_of_permitted hp hcreate, decide_false, Bool.and_false, Bool.false_eq_true, if_false, if_true]
    rfl
  case opened =>
    obtain ⟨f, hf⟩ := Option.isSome_iff_exists.mp hfound
    refine ⟨f, _, hf, rfl, ?_⟩
    simp only [eq_of_beq hopen, hf]
    rfl
  case stored =>
    simp only [tileRead_uncached hun]
    simp only [beq_iff_eq]
    cases (t.field (if u32 r.p.payload 0 = 0 then t.map.open_ else u32 r.p.payload 0)).bind fun f => f.stored (i16 r.p.payload 4) (i16 r.p.payload 6)
    · rfl
    · rfl
  case cached =>
    obtain ⟨hid, hsome⟩ := Bool.and_eq_true_iff.mp hcached
    obtain ⟨y, hy⟩ := Option.isSome_iff_exists.mp hsome
    refine ⟨y, _, hy, rfl, ?_⟩
    simp only [(tileRead_cached hid).trans hy]
  case closed =>
    obtain ⟨f, hf⟩ := Option.isSome_iff_exists.mp hfound
    have hne : (u32 r.p.payload 0 == t.map.open_) = false := by simpa using hother
    simp only [hne, hf, Bool.false_eq_true, if_false]
    exact ⟨f, _, rfl, rfl, rfl, rfl, rfl⟩
  case flushed =>
    obtain ⟨f, hf⟩ := Option.isSome_iff_exists.mp hfound
    refine ⟨f, hf, ?_⟩
    simp only [hopen, hf, if_true]

/-! ### GDE (chapter 08) -/

/-- A pass in the range of R183 that its line has is not refused. -/
theorem passInRange {k : Int} {o : Option Pass} (hlow : -4096 ≤ k) (hhigh : k ≤ 4095) (ho : o.isSome = true) :
    (decide (k < -4096) || decide (4095 < k) || o.isNone) = false := by
  simp only [not_lt.mpr hlow, not_lt.mpr hhigh, decide_false, Bool.or_self, Bool.false_or, Option.isNone_eq_false_iff, ho]

/-- A calibration command is taken while guidance does not steer, the machine stands, no point is being recorded, and the points are enough
(R190). -/
theorem wasCal_goes {op : Nat} {s : State} (hsteer : gdeSteering s = false) (hfin : s.gde.st ≠ .finishing)
    (hslow : ¬1 / 10 < kmh (absR (gdeSpeed s))) (hrec : op < 3 → s.gde.recording.isSome = false)
    (hpts : op = 3 → 3 ≤ (s.gde.points.filterMap id).length) :
    ¬(gdeSteering s || s.gde.st == .finishing || decide (1 / 10 < kmh (absR (gdeSpeed s))) || (decide (op < 3) && s.gde.recording.isSome)
      || (op == 3 && decide ((s.gde.points.filterMap id).length < 3))) = true := by
  simp only [Bool.or_eq_true, Bool.and_eq_true, decide_eq_true_eq, beq_iff_eq, hsteer, Bool.false_eq_true, hfin, hslow, false_or]
  rintro (⟨hop, hrecording⟩ | ⟨hop, hfew⟩)
  · rw [hrec hop] at hrecording
    exact absurd hrecording Bool.false_ne_true
  · exact absurd hfew (not_lt.mpr (hpts hop))

/-- The points of a calibration are refused unless both readings are monotone and they span 20 degrees (R190). -/
theorem calRefused_eq (a b : Bool) (d : Rat) : (!a || !b || decide (d < 20)) = !(a && b && decide (20 ≤ d)) := by
  rw [Bool.not_and, Bool.not_and, ← decide_not]
  simp only [not_le]

/-- Settles O34: the condition of a clause is the state of guidance, of the line or of the calibration that selects its branch; outside a
law sample the six commands of R192 wait. -/
theorem gdeCommandsComplete : Obligations.GdeCommandsComplete := by
  refine ⟨does_where₃ effGdeConfig (fun _ _ => rfl) fun r t hp hsteer hfin hloop => ?installs,
    does_where₄ effGdeConfig (fun _ _ => rfl) fun r t hp hsteer hfin hloop hfree => ?noLoop,
    does_where effGdeConfig (fun _ _ => rfl) fun r t hp hsteer => if_pos hsteer,
    does_where effGdeLineWrite (fun _ _ => rfl) fun r t hp hop => ?begun,
    does_where₂ effGdeLineWrite (fun _ _ => rfl) fun r t hp hop hdraft => ?added,
    does_where₂ effGdeLineWrite (fun _ _ => rfl) fun r t hp hop hdraft => ?kept,
    does_where effGdeLineWrite (fun _ _ => rfl) fun r t hp hop => ?deleted,
    does_assoc <| does_assoc <| does_assoc <| does_assoc <| does_where effGdeLineSelect (fun _ _ => rfl) fun r t hp hc => ?given,
    does_where effGdeLineSelect (fun _ _ => rfl) fun r t hp hnone => ?noLine,
    does_where₃ effGdeLineSelect (fun _ _ => rfl) fun r t hp hline hsteer hother => ?steers,
    does_where₄ effGdeLineSelect (fun _ _ => rfl) fun r t hp hline hsteer hown hfar => ?noPass,
    does_where₃ effGdeLineSelect (fun _ _ => rfl) fun r t hp hsteer hown hline => ?nearest,
    does_where effGdeEngage (fun _ _ => rfl) fun r t hp hst => ⟨_, rfl, ?ready⟩,
    does_where effGdeEngage (fun _ _ => rfl) fun r t hp hst => ?standby,
    does_where effGdeEngage (fun _ _ => rfl) fun r t hp hst => ?engaged,
    does_where₂ effGdeEngage (fun _ _ => rfl) fun r t hp hst hblock => ?blocked,
    does_where effGdeEngage (fun _ _ => rfl) fun r t hp hst => ?finishing,
    does_where effGdeEngage (fun _ _ => rfl) fun r t hp hst => ?faulted,
    does_where₂ effGdeEngage (fun _ _ => rfl) fun r t hp hst hblock => ⟨_, rfl, ?releasing⟩,
    does_permitted effGdeDisengage (fun _ _ => rfl) fun r t hp => ⟨_, rfl, (apply_ite done ..).symm⟩,
    does_permitted effGdeStatus (fun _ _ => rfl) fun r t hp => ⟨_, rfl, rfl⟩,
    does_assoc <| does_assoc <| does_assoc <| does_assoc <| does_where effGdeWasCal (fun _ _ => rfl) fun r t hp hc => ?records,
    does_where₄ effGdeWasCal (fun _ _ => rfl) fun r t hp hop hsteer hfin hslow => ?cleared,
    does_where effGdeWasCal (fun _ _ => rfl) fun r t hp hbad => if_pos hbad,
    does_assoc <| does_assoc <| does_assoc <| does_assoc <| does_assoc <| does_assoc <| does_assoc <|
      does_where effGdeWasCal (fun _ _ => rfl) fun r t hp hc => ?calibrated,
    does_assoc <| does_assoc <| does_assoc <| does_assoc <| does_assoc <|
      does_where effGdeWasCal (fun _ _ => rfl) fun r t hp hc => ?rejected,
    waits_of fun _ _ => rfl, waits_of fun _ _ => rfl, waits_of fun _ _ => rfl, waits_of fun _ _ => rfl, waits_of fun _ _ => rfl,
    waits_of fun _ _ => rfl⟩
  case installs =>
    have hfree : ¬(gdeSteering (gdeBefore t) || (gdeBefore t).gde.st == .finishing) = true := by simp_all
    exact (if_neg hfree).trans (ite_of_not hloop)
  case noLoop =>
    have hstill : ¬(gdeSteering (gdeBefore t) || (gdeBefore t).gde.st == .finishing) = true := by simp_all
    exact (if_neg hstill).trans (if_pos (by simp only [hloop, hfree, Bool.and_self]))
  case begun =>
    simp only [eq_of_beq hop]
    exact ⟨_, _, rfl, rfl, rfl, rfl⟩
  case added =>
    obtain ⟨y, hy⟩ := Option.isSome_iff_exists.mp hdraft
    simp only [eq_of_beq hop, hy]
    exact ⟨_, _, rfl, rfl, rfl, rfl⟩
  case kept =>
    obtain ⟨y, hy⟩ := Option.isSome_iff_exists.mp hdraft
    simp only [eq_of_beq hop, hy]
    exact ⟨_, _, rfl, rfl, rfl, rfl⟩
  case deleted => simp only [eq_of_beq hop]
  case given =>
    simp only [Bool.and_eq_true, Bool.not_eq_true', decide_eq_true_eq] at hc
    obtain ⟨hgiven, hsteer, hlow, hhigh, hline⟩ := hc
    obtain ⟨l, hl, hpass⟩ := (Option.any_eq_true ..).mp hline
    simp only [hl, hsteer, hgiven, passInRange hlow hhigh hpass, Bool.false_and, Bool.false_eq_true, if_false, if_true]
    exact ⟨_, rfl, rfl⟩
  case nearest =>
    obtain ⟨l, hl, hk⟩ := (Option.any_eq_true ..).mp hline
    obtain ⟨k, hk, hin⟩ := (Option.any_eq_true ..).mp hk
    simp only [Bool.and_eq_true, decide_eq_true_eq] at hin
    obtain ⟨⟨hlow, hhigh⟩, hpass⟩ := hin
    have hgiven : (u8 r.p.payload 1 == 1) = false := by rw [eq_of_beq hown]; rfl
    have hsteer' : gdeSteering (gdeBefore t) = false := by simpa using hsteer
    refine ⟨l, k, hl, hk, ?_⟩
    simp only [hl, hk, hsteer', hgiven, passInRange hlow hhigh hpass, Bool.false_and, Bool.false_eq_true, if_false]
  case noLine => simp only [Option.isNone_iff_eq_none.mp hnone]
  case steers =>
    obtain ⟨l, hl⟩ := Option.isSome_iff_exists.mp hline
    simp only [hl, hsteer, hother, Bool.and_self, if_true]
  case noPass =>
    obtain ⟨l, hl⟩ := Option.isSome_iff_exists.mp hline
    have hsteer' : gdeSteering (gdeBefore t) = false := by simpa using hsteer
    have hgiven : (u8 r.p.payload 1 == 1) = false := by rw [eq_of_beq hown]; rfl
    have hk : nearestPass l (bits32 r.p.payload 4) (gdeBefore t) = none := by simpa [hl] using hfar
    simp only [hl, hk, hsteer', hgiven, Bool.false_and, Bool.false_eq_true, if_false]
  case ready => simp only [engageRequest, eq_of_beq hst]
  case standby =>
    simp only [Bool.or_eq_true, beq_iff_eq] at hst
    obtain hst | hst := hst <;> (simp only [engageRequest, hst]; rfl)
  case engaged =>
    simp only [Bool.or_eq_true, beq_iff_eq] at hst
    obtain hst | hst := hst <;> (simp only [engageRequest, hst]; rfl)
  case blocked =>
    have hne : (gdeBlockers (gdeBefore t) == 0x400) = false := by simpa using hblock
    simp only [engageRequest, eq_of_beq hst, hne]
    rfl
  case finishing =>
    simp only [engageRequest, eq_of_beq hst]
    rfl
  case faulted =>
    simp only [engageRequest, eq_of_beq hst]
    rfl
  case releasing => simp only [engageRequest, eq_of_beq hst, hblock, if_true]
  case records =>
    simp only [Bool.and_eq_true, Bool.not_eq_true', bne_iff_ne, decide_eq_true_eq, decide_eq_false_iff_not, Option.isNone_iff_eq_none] at hc
    obtain ⟨hop, hsteer, hfin, hslow, hrec⟩ := hc
    have hgo := wasCal_goes (op := u8 r.p.payload 0) hsteer hfin hslow (fun _ => by rw [hrec]; rfl) fun h => absurd hop (by omega)
    exact ⟨_, _, (if_neg hgo).trans (if_pos hop), rfl, rfl, rfl, rfl, rfl⟩
  case cleared =>
    have hfour : u8 r.p.payload 0 = 4 := eq_of_beq hop
    have hgo := wasCal_goes (op := u8 r.p.payload 0) (s := gdeBefore t) (by simpa using hsteer) (by simpa using hfin) (by simpa using hslow)
      (fun h => absurd h (by omega)) fun h => absurd h (by omega)
    exact (if_neg hgo).trans ((if_neg (by omega)).trans (if_pos hop))
  case calibrated =>
    simp only [Bool.and_eq_true, Bool.not_eq_true', bne_iff_ne, decide_eq_true_eq, decide_eq_false_iff_not, beq_iff_eq] at hc
    obtain ⟨hop, hsteer, hfin, hslow, hpts, ha, hb, hspan⟩ := hc
    have hgo := wasCal_goes (op := u8 r.p.payload 0) hsteer hfin hslow (fun h => absurd h (by omega)) fun _ => hpts
    exact (if_neg hgo).trans ((if_neg (by omega)).trans ((if_neg (by simp [hop])).trans
      (if_neg (by rw [calRefused_eq, ha, hb, decide_eq_true hspan]; decide))))
  case rejected =>
    simp only [Bool.and_eq_true, Bool.not_eq_true', bne_iff_ne, decide_eq_true_eq, decide_eq_false_iff_not, beq_iff_eq] at hc
    obtain ⟨hop, hsteer, hfin, hslow, hpts, hbad⟩ := hc
    have hgo := wasCal_goes (op := u8 r.p.payload 0) hsteer hfin hslow (fun h => absurd h (by omega)) fun _ => hpts
    exact (if_neg hgo).trans ((if_neg (by omega)).trans ((if_neg (by simp [hop])).trans (if_pos (by rw [calRefused_eq, hbad]; rfl))))

/-! ### LPE (chapter 09) -/

/-- Settles O35: the loop's and the bank's state and the operation select the branch. -/
theorem lpeCommandsComplete : Obligations.LpeCommandsComplete := by
  refine ⟨does_permitted (effLpeLoopConfig fun loc part s => producerOf loc s == some part) (fun _ _ => rfl) fun r t hp =>
      ⟨_, _, _, rfl, rfl, rfl, rfl, rfl⟩,
    does_where (effLpeLoopRun loopDest) (fun _ _ => rfl) fun r t hp hop => if_pos hop,
    does_where (effLpeLoopRun loopDest) (fun _ _ => rfl) fun r t hp hop => ⟨_, rfl, if_neg (by simp [eq_of_beq hop])⟩,
    does_permitted effLpeBankWrite (fun _ _ => rfl) fun r t hp => rfl,
    does_where effLpeBankSwap (fun _ _ => rfl) fun r t hp hidle => ⟨_, rfl, if_pos hidle⟩,
    does_where₂ effLpeBankSwap (fun _ _ => rfl) fun r t hp hbusy hsame => (if_neg (by simpa using hbusy)).trans (if_pos hsame),
    does_where₂ effLpeBankSwap (fun _ _ => rfl) fun r t hp hbusy hother => (if_neg (by simpa using hbusy)).trans (ite_of_not hother),
    does_where effLpeLoopStatus (fun _ _ => rfl) fun r t hp hused => ⟨_, _, rfl, rfl, ?used⟩,
    does_where effLpeLoopStatus (fun _ _ => rfl) fun r t hp hfree => ⟨_, _, rfl, rfl, ?free⟩,
    does_where effLpeTraceSet (fun _ _ => rfl) fun r t hp hop => (if_neg (by simp [eq_of_beq hop])).trans (if_pos hop),
    does_where effLpeTraceSet (fun _ _ => rfl) fun r t hp hop => ⟨_, rfl, if_pos hop⟩,
    does_where effLpeTraceSet (fun _ _ => rfl) fun r t hp hop => (if_neg (by simp [eq_of_beq hop])).trans (if_neg (by simp [eq_of_beq hop])),
    does_permitted effLpeTraceRead (fun _ _ => rfl) fun r t hp => ⟨_, rfl, rfl⟩,
    does_permitted effLpeEngineStatus (fun _ _ => rfl) fun r t hp => ⟨_, rfl, rfl⟩⟩
  case used =>
    have hused' : ((t.loop (loopTarget r)).st == .free) = false := by simpa using hused
    simp only [hused', Bool.false_eq_true, if_false]
  case free => simp only [hfree, if_true]

/-! ### VLV (chapter 10) -/

/-- Settles O36: the channel's state and mode and the operation select what VLV_DRIVE does; the other rows have one effect each. -/
theorem vlvCommandsComplete : Obligations.VlvCommandsComplete := by
  refine ⟨does_permitted effVlvConfig (fun _ _ => rfl) fun r t hp => ⟨_, _, rfl, rfl, rfl⟩,
    does_where₃ effVlvDrive (fun _ _ => rfl) fun r t hp hop htest hon => ⟨_, rfl, ?off⟩,
    does_where effVlvDrive (fun _ _ => rfl) fun r t hp hc => ⟨_, rfl, ?offOn⟩,
    does_where₂ effVlvDrive (fun _ _ => rfl) fun r t hp hop hst => (if_neg (by simp [eq_of_beq hop])).trans (if_pos hst),
    does_where₄ effVlvDrive (fun _ _ => rfl) fun r t hp hop hst hmode hlevel => ?low,
    does_where effVlvDrive (fun _ _ => rfl) fun r t hp hc => ?held,
    does_where₄ effVlvDrive (fun _ _ => rfl) fun r t hp hop hmode hst hbanks => ?starts,
    does_where₄ effVlvDrive (fun _ _ => rfl) fun r t hp hop hmode hst hbanks => ?refused,
    does_where₃ effVlvDrive (fun _ _ => rfl) fun r t hp hop hmode hst => ?testing,
    does_permitted effVlvStatus (fun _ _ => rfl) fun r t hp => ⟨_, _, rfl, rfl, rfl⟩,
    does_permitted effVlvClear (fun _ _ => rfl) fun r t hp => ⟨_, _, rfl, rfl, rfl⟩,
    does_permitted effVlvGroupStatus (fun _ _ => rfl) fun r t hp => ⟨_, _, rfl, rfl, rfl⟩⟩
  case off =>
    refine (if_pos hop).trans ?_
    dsimp only
    split
    · simp_all
    · simp_all
    · rfl
  case offOn =>
    simp only [Bool.and_eq_true, Bool.or_eq_true, beq_iff_eq] at hc
    obtain ⟨hop, hst⟩ := hc
    obtain hst | hst := hst <;> (simp only [hop, hst]; rfl)
  case low =>
    refine (if_neg (by simp [eq_of_beq hop])).trans ((if_neg (by simpa using hst)).trans (if_pos ?_))
    simp only [hmode, hlevel, Bool.and_self]
  case held =>
    simp only [Bool.and_assoc] at hc
    obtain ⟨hop, hc⟩ := Bool.and_eq_true_iff.mp hc
    obtain ⟨hmode, hst⟩ := Bool.and_eq_true_iff.mp hc
    simp only [Bool.or_eq_true, beq_iff_eq] at hst
    refine (if_neg (by simp [eq_of_beq hop])).trans ((if_neg ?_).trans ((ite_of_not hmode).trans ?_))
    · obtain hst | hst := hst <;> simp [hst]
    · obtain hst | hst := hst <;> simp only [hst]
  case starts =>
    refine (if_neg (by simp [eq_of_beq hop])).trans ((if_neg (by simp [eq_of_beq hst])).trans ((ite_of_not hmode).trans ?_))
    simp only [eq_of_beq hst, Option.isNone_iff_eq_none.mp hbanks]
  case refused =>
    obtain ⟨⟨k, c⟩, hk⟩ := Option.isSome_iff_exists.mp hbanks
    refine ⟨k, c, hk, (if_neg (by simp [eq_of_beq hop])).trans ((if_neg (by simp [eq_of_beq hst])).trans ((ite_of_not hmode).trans ?_))⟩
    simp only [eq_of_beq hst, hk]
  case testing =>
    refine (if_neg (by simp [eq_of_beq hop])).trans ((if_neg (by simp [eq_of_beq hst])).trans ((ite_of_not hmode).trans ?_))
    simp only [eq_of_beq hst]

/-! ### FIO (chapter 11) -/

/-- A change of an output depends only on the state that it leaves. -/
theorem withDo_congr {n : Nat} {f g : State → State} {s : State} (h : f s = g s) : withDo n f s = withDo n g s :=
  congrArg (doSync n (s.dout n)) h

/-- Settles O37: a change of an output is told by the state that it leaves (`withDo_congr`); the unit's index selects what is told. -/
theorem fioCommandsComplete : Obligations.FioCommandsComplete := by
  refine ⟨does_permitted effFioDiConfig (fun _ _ => rfl) fun r t hp => ⟨_, _, _, rfl, rfl, rfl, rfl, rfl, rfl, rfl, rfl, rfl, rfl⟩,
    does_permitted effFioAiConfig (fun _ _ => rfl) fun r t hp => ⟨_, rfl, rfl⟩,
    does_where₃ effFioDoConfig (fun _ _ => rfl) fun r t hp hfree hop hst => ⟨_, rfl, congrArg done (withDo_congr ?again)⟩,
    does_where effFioDoConfig (fun _ _ => rfl) fun r t hp hop => ⟨_, rfl, congrArg done (withDo_congr ?off)⟩,
    does_where₃ effFioDoConfig (fun _ _ => rfl) fun r t hp hfree hop hst => ⟨_, rfl, congrArg done (withDo_congr ?first)⟩,
    does_where₂ effFioDoConfig (fun _ _ => rfl) fun r t hp hheld hop => ⟨_, rfl, congrArg done (withDo_congr ?held)⟩,
    does_permitted effFioDoClear (fun _ _ => rfl) fun r t hp => ⟨_, _, _, rfl, rfl, rfl, rfl⟩,
    does_where effFioStatus (fun _ _ => rfl) fun r t hp hk => ⟨_, rfl, ?ai⟩,
    does_where effFioStatus (fun _ _ => rfl) fun r t hp hk => ⟨_, rfl, if_pos (of_decide_eq_true hk)⟩,
    does_where₂ effFioStatus (fun _ _ => rfl) fun r t hp hlow hhigh => ⟨_, rfl, ?dout⟩⟩
  case again =>
    have hst' : ((t.dout (fioTarget r - 0x100)).st == .unconfigured) = false := by simpa using hst
    simp only [eq_of_beq hop, hst', Bool.false_eq_true, if_false]
    exact (if_neg Bool.false_ne_true).trans (ite_of_not hfree)
  case off =>
    simp only [eq_of_beq hop]
    exact if_pos rfl
  case first =>
    simp only [eq_of_beq hop, hst, if_true, modDo_time]
    exact (if_neg Bool.false_ne_true).trans (if_neg (by simpa [doEnter] using hfree))
  case held =>
    simp only [eq_of_beq hop, modDo_time]
    exact (if_neg Bool.false_ne_true).trans (if_pos (by split <;> simpa [doEnter] using hheld))
  case ai => exact (if_neg (by simp at hk; omega)).trans (if_neg (by simp at hk; omega))
  case dout => exact (if_neg (by simp at hlow; omega)).trans (if_pos (of_decide_eq_true hhigh))

/-! ### GNS and TIM (chapters 12 and 13) -/

/-- A channel read from a latch names one that is kept (R303). -/
theorem latch_of_permitted {r : Req} {t : State} (h : permitted (chkGnsChannelRead r t) = true) (hsrc : (u8 r.p.payload 3 == 1) = true) :
    ∃ l, (t.gns.ring.find? fun l => l.no == u32 r.p.payload 4) = some l := by
  have hkept : ((u8 r.p.payload 3 == 1) && (t.gns.ring.find? fun l => l.no == u32 r.p.payload 4).isNone) = false :=
    permitted_not h (st := .badParam) (by simp [chkGnsChannelRead])
  rw [hsrc, Bool.true_and] at hkept
  exact Option.isSome_iff_exists.mp (Option.isNone_eq_false_iff.mp hkept)

/-- An integer of `n` bytes is `n` bytes long. -/
theorem le_length (n v : Nat) : (le n v).length = n := by
  induction n generalizing v with
  | zero => rfl
  | succ n ih => rw [le, List.length_cons, ih]

/-- The two times lead the reply of a conversion. -/
theorem take_times (a b : Int) (rest : List Byte) : (leInt 8 a ++ leInt 8 b ++ rest).take 16 = leInt 8 a ++ leInt 8 b :=
  List.take_left' (by simp only [List.length_append, leInt, le_length])

/-- The module time and the GPS time of a conversion, and whether the instant is older than every mapping kept (R310). -/
def converted (r : Req) (t : State) : Int × Int × Bool :=
  if u8 r.p.payload 0 == 0 then
    ((u64 r.p.payload 8 : Int), u64 r.p.payload 8 + (mappingAt (u64 r.p.payload 8) t).1, (mappingAt (u64 r.p.payload 8) t).2)
  else match t.tim.maps.find? fun y => decide ((y.1 : Int) ≤ i64 r.p.payload 8 - y.2) with
    | some y => (i64 r.p.payload 8 - y.2, i64 r.p.payload 8, false)
    | none => (i64 r.p.payload 8 - (t.tim.maps.getLast?.map (·.2)).getD t.tim.o, i64 r.p.payload 8, true)

/-- A conversion answers its two times, and `DEGRADED` where the instant is older than every mapping. -/
theorem effTimConvert_converted {r : Req} {t : State} (h : permitted (chkTimConvert r t) = true) :
    ∃ b, effTimConvert r t = (.fin (if (converted r t).2.2 then .degraded else .done) b, t)
      ∧ b.take 16 = leInt 8 (converted r t).1 ++ leInt 8 (converted r t).2.1 := by
  unfold effTimConvert
  rw [check_permitted h]
  refine ⟨_, rfl, ?_⟩
  simp only [List.append_assoc]
  rw [← List.append_assoc]
  exact take_times _ _ _

/-- Settles O38: what is read, and what a conversion is of (`converted`), select the branch. -/
theorem gnsTimCommandsComplete : Obligations.GnsTimCommandsComplete := by
  refine ⟨does_permitted (effGnsConfig gdeSteering) (fun _ _ => rfl) fun r t hp => ⟨_, rfl, rfl, rfl⟩,
    does_permitted effGnsRtcmPut (fun _ _ => rfl) fun r t hp => ⟨_, rfl, rfl⟩,
    does_permitted effGnsRawLatch (fun _ _ => rfl) fun r t hp => ⟨_, rfl, rfl⟩,
    does_permitted effGnsTest (fun _ _ => rfl) fun r t hp => ⟨_, rfl, rfl⟩,
    does_permitted (effGnsRestart gdeSteering) (fun _ _ => rfl) fun r t hp => ⟨_, rfl, rfl, rfl, rfl, rfl, rfl⟩,
    does_permitted effGnsStatus (fun _ _ => rfl) fun r t hp => ⟨_, rfl, rfl⟩,
    does_where effGnsChannelRead (fun _ _ => rfl) fun r t hp hsrc => ⟨_, rfl, ?now⟩,
    does_where effGnsChannelRead (fun _ _ => rfl) fun r t hp hsrc => ?latched,
    does_permitted effTimConfig (fun _ _ => rfl) fun r t hp => ⟨_, _, rfl, rfl, rfl, rfl, rfl, rfl, rfl, rfl, rfl, rfl⟩,
    does_where effTimStatus (fun _ _ => rfl) fun r t hp hhold => ?running,
    does_where effTimStatus (fun _ _ => rfl) fun r t hp hhold => ?holdover,
    does_eff effTimConvert fun r t hc => ?fromModule, does_eff effTimConvert fun r t hc => ?fromGps,
    does_eff effTimConvert fun r t hc => ?fromOld,
    does_permitted effTimEpochSet (fun _ _ => rfl) fun r t hp => ⟨_, rfl, rfl⟩⟩
  case now =>
    simp only [eq_of_beq hsrc]
    rfl
  case latched =>
    obtain ⟨l, hl⟩ := latch_of_permitted hp hsrc
    refine ⟨l, _, hl, rfl, ?_⟩
    simp only [hsrc, hl, if_true]
    rfl
  case running => simp only [Option.isNone_iff_eq_none.mp hhold]
  case holdover =>
    obtain ⟨h, hh⟩ := Option.isSome_iff_exists.mp hhold
    refine ⟨h, hh, ?_⟩
    simp only [hh]
  case fromModule =>
    obtain ⟨hp, hfrom⟩ := Bool.and_eq_true_iff.mp hc
    obtain ⟨b, hb, htimes⟩ := effTimConvert_converted hp
    rw [converted, if_pos hfrom] at hb htimes
    exact ⟨_, _, _, b, rfl, rfl, hb, htimes⟩
  case fromGps =>
    obtain ⟨hc, hmap⟩ := Bool.and_eq_true_iff.mp hc
    obtain ⟨hp, hfrom⟩ := Bool.and_eq_true_iff.mp hc
    obtain ⟨b, hb, htimes⟩ := effTimConvert_converted hp
    obtain ⟨y, hy⟩ := Option.isSome_iff_exists.mp (List.find?_isSome.mpr (List.any_eq_true.mp hmap))
    have hconv : converted r t = (i64 r.p.payload 8 - y.2, i64 r.p.payload 8, false) := by
      rw [converted, if_neg (by simp [eq_of_beq hfrom]), hy]
    rw [hconv] at hb htimes
    exact ⟨y, b, hy, hb, htimes⟩
  case fromOld =>
    obtain ⟨hc, hold⟩ := Bool.and_eq_true_iff.mp hc
    obtain ⟨hp, hfrom⟩ := Bool.and_eq_true_iff.mp hc
    obtain ⟨b, hb, htimes⟩ := effTimConvert_converted hp
    have hnone : t.tim.maps.find? (fun y => decide ((y.1 : Int) ≤ i64 r.p.payload 8 - y.2)) = none := by simpa using hold
    have hconv : converted r t = (i64 r.p.payload 8 - (t.tim.maps.getLast?.map (·.2)).getD t.tim.o, i64 r.p.payload 8, true) := by
      rw [converted, if_neg (by simp [eq_of_beq hfrom]), hnone]
    rw [hconv] at hb htimes
    exact ⟨b, hb, htimes⟩

/-! ### FUS and CAM (chapters 14 and 15) -/

/-- An index that is within its range, where the value that stands for none is not, is the unit's. -/
theorem unit_of_index {o : Option Nat} {p : Nat → Bool} {first none : Nat} (hfirst : ∀ i, p i = true → first ≤ i)
    (h : (o.filter p).getD none ≠ none) : o = some (first + ((o.filter p).getD none - first)) := by
  cases ho : o.filter p with
  | none => simp [ho] at h
  | some i =>
    obtain ⟨hi, hp⟩ := Option.filter_eq_some_iff.mp ho
    rw [hi, Option.getD_some, Nat.add_sub_cancel' (hfirst i hp)]

/-- A permitted `FUS_GROUP_SET` names a group. -/
theorem groupTarget_of_permitted {r : Req} {t : State} (h : permitted (chkFusGroupSet gdeSteering r t) = true) :
    unitIndex r.p.target 0x0D
      = some (0x200 + (((unitIndex r.p.target 0x0D).filter fun i => decide (0x201 ≤ i) && decide (i < 0x210)).getD 0x210 - 0x200)) := by
  have hg : decide (15 < ((unitIndex r.p.target 0x0D).filter fun i => decide (0x201 ≤ i) && decide (i < 0x210)).getD 0x210 - 0x200) = false :=
    permitted_not h (st := .badParam) (List.mem_cons_self ..)
  refine unit_of_index (fun i hi => ?_) fun hnone => ?_
  · simp only [Bool.and_eq_true, decide_eq_true_eq] at hi
    omega
  · rw [hnone] at hg
    exact absurd hg (by decide)

/-- A permitted `FUS_SOURCE_SET` names a source. -/
theorem sourceTarget_of_permitted {r : Req} {t : State} (h : permitted (chkFusSourceSet r t) = true) :
    unitIndex r.p.target 0x0D
      = some (0x300 + (((unitIndex r.p.target 0x0D).filter fun i => decide (0x300 ≤ i) && decide (i < 0x308)).getD 0x308 - 0x300)) := by
  have hk : decide (7 < ((unitIndex r.p.target 0x0D).filter fun i => decide (0x300 ≤ i) && decide (i < 0x308)).getD 0x308 - 0x300) = false :=
    permitted_not h (st := .badParam) (List.mem_cons_self ..)
  refine unit_of_index (fun i hi => ?_) fun hnone => ?_
  · simp only [Bool.and_eq_true, decide_eq_true_eq] at hi
    omega
  · rw [hnone] at hk
    exact absurd hk (by decide)

/-- Settles O39: the unit that a permitted command names is its range's; what the payload switches on or off selects the branch. -/
theorem fusCamCommandsComplete : Obligations.FusCamCommandsComplete := by
  refine ⟨does_permitted (effFusConfig fusBusy) (fun _ _ => rfl) fun r t hp => ⟨_, rfl, rfl⟩,
    does_permitted (effFusFrameSet fusBusy) (fun r t => by unfold effFusFrameSet; rfl) fun r t hp => ⟨_, rfl, rfl⟩,
    does_where effFusFrameRead (fun r t => by unfold effFusFrameRead; rfl) fun r t hp hto => ⟨_, _, rfl, rfl, ?toVehicle⟩,
    does_where₂ effFusFrameRead (fun r t => by unfold effFusFrameRead; rfl) fun r t hp hto hpose => ?toMap,
    does_permitted (effFusGroupSet gdeSteering) (fun r t => by unfold effFusGroupSet; rfl) fun r t hp =>
      ⟨_, _, groupTarget_of_permitted hp, rfl, by simp only [modFus]⟩,
    does_permitted effFusSourceSet (fun r t => by unfold effFusSourceSet; rfl) fun r t hp => ⟨_, _, sourceTarget_of_permitted hp, rfl, rfl⟩,
    does_permitted effFusStatus (fun _ _ => rfl) fun r t hp => ⟨_, _, rfl, rfl, rfl⟩,
    does_where effFusTrackRead (fun _ _ => rfl) fun r t hp htable => ⟨_, rfl, ?table⟩,
    does_where effFusTrackRead (fun _ _ => rfl) fun r t hp htable => ⟨_, rfl, ?noTable⟩,
    does_where effCamLinkSet (fun r t => by unfold effCamLinkSet; rfl) fun r t hp hsame => ⟨_, rfl, ?kept⟩,
    does_where effCamLinkSet (fun r t => by unfold effCamLinkSet; rfl) fun r t hp hagain => ⟨_, _, _, rfl, rfl, rfl, ?trained⟩,
    does_permitted effCamPipeSet (fun _ _ => rfl) fun r t hp => ⟨_, rfl, rfl⟩,
    does_where₂ effCamPairSet (fun r t => by unfold effCamPairSet; rfl) fun r t hp ha hb => ?paired,
    does_where effCamPairSet (fun r t => by unfold effCamPairSet; rfl) fun r t hp hoff => ?unpaired,
    does_where effCamFsyncSet (fun r t => by unfold effCamFsyncSet; rfl) fun r t hp hper => ⟨_, rfl, ?periodic⟩,
    does_where effCamFsyncSet (fun r t => by unfold effCamFsyncSet; rfl) fun r t hp hper => ?stopped,
    does_permitted effCamSensorWrite (fun _ _ => rfl) fun r t hp => ⟨_, _, rfl, rfl, rfl⟩,
    does_permitted effCamVaSet (fun _ _ => rfl) fun r t hp => rfl,
    does_eff effCamStatus fun r t hlink => ⟨_, rfl, ?link⟩,
    does_eff effCamStatus fun r t hpipe => ?pipe⟩
  case toVehicle =>
    simp only [eq_of_beq hto]
  case toMap =>
    obtain ⟨p, hp⟩ := Option.isSome_iff_exists.mp hpose
    refine ⟨p, _, hp, rfl, ?_⟩
    simp only [eq_of_beq hto, hp]
  case table =>
    have htable' : t.fus.table.isEmpty = false := by simpa using htable
    simp only [htable', Bool.false_eq_true, if_false]
  case noTable => simp only [htable, if_true]
  case kept =>
    simp only [(Bool.not_eq_true' _).mp hsame, Bool.false_eq_true, if_false]
  case trained =>
    simp only [hagain, if_true]
    rfl
  case paired =>
    have hon : (u8 r.p.payload 0 == 0xFF || u8 r.p.payload 1 == 0xFF) = false := by simp_all
    simp only [hon, Bool.false_eq_true, if_false]
  case unpaired => simp only [hoff, if_true]
  case periodic =>
    have hper' : (u32 r.p.payload 0 == 0) = false := by simpa using hper
    simp only [hper', Bool.false_eq_true, if_false]
  case stopped =>
    simp only [eq_of_beq hper]
    rfl
  case link =>
    obtain ⟨l, hl⟩ := Option.isSome_iff_exists.mp hlink
    unfold effCamStatus
    simp only [hl]
    rfl
  case pipe =>
    obtain ⟨hl, hpipe⟩ := Bool.and_eq_true_iff.mp hpipe
    obtain ⟨p, hp⟩ := Option.isSome_iff_exists.mp hpipe
    refine ⟨p, _, hp, rfl, ?_⟩
    unfold effCamStatus
    simp only [Option.isNone_iff_eq_none.mp hl, hp]

/-! ### CAN (chapter 16) -/

/-- Settles O40: the operation selects the branch of CAN_POWER and CAN_CLAIM; the other rows have one effect each. -/
theorem canCommandsComplete : Obligations.CanCommandsComplete :=
  ⟨does_permitted effCanConfig (fun _ _ => rfl) fun r t hp => ⟨_, _, _, rfl, rfl, rfl, rfl⟩,
    does_permitted effCanBufferSet (fun _ _ => rfl) fun r t hp => rfl,
    does_permitted effCanFilterSet (fun _ _ => rfl) fun r t hp => rfl,
    does_where effCanPower (fun _ _ => rfl) fun r t hp hop => ⟨_, rfl, if_pos hop⟩,
    does_where effCanPower (fun _ _ => rfl) fun r t hp hop => if_neg (by simp [eq_of_beq hop]),
    does_permitted effCanRecover (fun _ _ => rfl) fun r t hp => ⟨_, rfl, rfl⟩,
    does_permitted effCanTtSet (fun _ _ => rfl) fun r t hp => rfl,
    does_where effCanClaim (fun _ _ => rfl) fun r t hp hname => ⟨_, rfl, ite_of_not hname⟩,
    does_where effCanClaim (fun _ _ => rfl) fun r t hp hnone => if_pos hnone,
    does_permitted effCanStatus (fun _ _ => rfl) fun r t hp => ⟨_, _, rfl, rfl, rfl⟩⟩

/-! ### FLT (chapter 17) -/

/-- A marker enters a table that is not full, in the place of an earlier version of it (R400). -/
theorem putHazard_of_room {h : Hazard} {s : State} (hroom : s.flt.hazards.length < 64) :
    putHazard h s = some (modFlt (fun f => { f with hazards :=
      (s.flt.hazards.filter fun x => !(x.issuer == h.issuer && x.number == h.number)) ++ [h] }) s) :=
  if_pos (Nat.lt_of_le_of_lt (List.length_filter_le ..) hroom)

/-- Settles O41: the operation, the table's room and the field's peers select the branch; outside an exchange instant the commands of
R396 wait. -/
theorem fltCommandsComplete : Obligations.FltCommandsComplete := by
  refine ⟨does_permitted effFltConfig (fun _ _ => rfl) fun r t hp => ⟨_, rfl, rfl, rfl, rfl, rfl, rfl, rfl, rfl, rfl, rfl, rfl⟩,
    does_permitted effFltKeySet (fun _ _ => rfl) fun r t hp => rfl,
    does_permitted effFltMemberSet (fun _ _ => rfl) fun r t hp => rfl,
    does_where₂ effFltHazardSet (fun _ _ => rfl) fun r t hp hkind hroom => ?placed,
    does_where effFltHazardSet (fun _ _ => rfl) fun r t hp hkind => ⟨_, _, _, rfl, rfl, rfl, if_pos hkind⟩,
    does_where effFltHazardSet (fun _ _ => rfl) fun r t hp hkind => ⟨_, rfl, (ite_of_not hkind).trans ?put⟩,
    does_where₃ effFltLine (fun _ _ => rfl) fun r t hp hop hon hpeers => ⟨_, rfl, (if_pos hop).trans ?sent⟩,
    does_where effFltLine (fun _ _ => rfl) fun r t hp hc => ?nobody,
    does_where₃ effFltLine (fun _ _ => rfl) fun r t hp hop hline hfield => ?received,
    does_where₂ effFltUnload (fun _ _ => rfl) fun r t hp hop hidle => (if_pos hop).trans (if_neg (by simpa using hidle)),
    does_where₂ effFltUnload (fun _ _ => rfl) fun r t hp hop hbusy => (if_pos hop).trans (if_pos hbusy),
    does_where effFltUnload (fun _ _ => rfl) fun r t hp hop => if_neg (by simp [eq_of_beq hop]),
    does_where effFltStatus (fun _ _ => rfl) fun r t hp hall => if_neg (by simpa using hall),
    does_where effFltStatus (fun _ _ => rfl) fun r t hp hmember => if_pos hmember,
    waits_of fun _ _ => rfl, waits_of fun _ _ => rfl, waits_of fun _ _ => rfl, waits_of fun _ _ => rfl,
    waits_of fun _ _ => rfl, waits_of fun _ _ => rfl⟩
  case placed =>
    refine ⟨?next, _, _, rfl, rfl, (ite_of_not hkind).trans ?done, ?version, ?hazards⟩
    case done =>
      rw [putHazard_of_room (by exact of_decide_eq_true hroom)]
    case version => rfl
    case hazards => rfl
  case put => cases putHazard _ _ <;> rfl
  case sent =>
    simp only [hon, if_true]
    exact ite_of_not hpeers
  case nobody =>
    obtain ⟨hop, hc⟩ := Bool.and_eq_true_iff.mp hc
    refine (if_pos hop).trans ?_
    generalize lineChunks 512 _ (fltBefore t) = v at hc ⊢
    refine if_pos ?_
    obtain hoff | hpeers := (Bool.or_eq_true _ _).mp hc
    · rw [ite_of_not hoff, List.isEmpty_nil]
    · split
      · exact hpeers
      · rfl
  case received =>
    obtain ⟨y, hy⟩ := Option.isSome_iff_exists.mp hline
    obtain ⟨f, hf⟩ := Option.isSome_iff_exists.mp hfield
    refine ⟨_, y, f, rfl, hy, hf, (if_neg (by simp [eq_of_beq hop])).trans ?_⟩
    simp only [hy, hf]

/-! ### COL (chapter 18) -/

/-- What is put in where there is room leaves a list as long as it was. -/
theorem take_splice {α : Type} {l hs : List α} {first : Nat} (h : hs.length + first ≤ l.length) :
    (l.take first ++ hs ++ l.drop (first + hs.length)).take l.length = l.take first ++ hs ++ l.drop (first + hs.length) :=
  List.take_of_length_le (by simp; omega)

/-- What is added to a list where a condition fails. -/
theorem ite_append {α : Type} {c : Prop} [Decidable c] (l m : List α) : (if c then l else l ++ m) = l ++ if c then [] else m := by
  split
  · exact (List.append_nil l).symm
  · rfl

/-- Settles O42: a list of inputs is replaced or spliced; what an admission refuses, and a partition's state, select the branch. -/
theorem colCommandsComplete : Obligations.ColCommandsComplete := by
  refine ⟨does_permitted effColPartitionConfig (fun _ _ => rfl) fun r t hp =>
      ⟨_, _, _, rfl, rfl, rfl, rfl, rfl, rfl, rfl, rfl, rfl, rfl, rfl, rfl, rfl, rfl⟩,
    does_where₂ effColInputSet (fun _ _ => rfl) fun r t hp hfirst htotal => ⟨_, rfl, ?whole⟩,
    does_where₂ effColInputSet (fun _ _ => rfl) fun r t hp hin htotal => ?part,
    does_where₃ effColAdmit (fun _ _ => rfl) fun r t hp hplaced harea hmirror => ⟨_, rfl, ?admitted⟩,
    does_where effColAdmit (fun _ _ => rfl) fun r t hp hc => ⟨_, _, rfl, rfl, ?refused⟩,
    does_assoc <| does_assoc <| does_where₃ effColPartitionRun (fun _ _ => rfl) fun r t hp hop hst hmay => ⟨_, rfl, (if_pos hop).trans ?starts⟩,
    does_where effColPartitionRun (fun _ _ => rfl) fun r t hp hc => ?runs,
    does_where₃ effColPartitionRun (fun _ _ => rfl) fun r t hp hop hst hmay => (if_pos hop).trans ?startsNot,
    does_where effColPartitionRun (fun _ _ => rfl) fun r t hp hc => ?stops,
    does_where effColPartitionRun (fun _ _ => rfl) fun r t hp hc => ?clears,
    does_where₂ effColPartitionRun (fun _ _ => rfl) fun r t hp hop hst => (if_neg (by simp [eq_of_beq hop])).trans ?stopped,
    does_permitted effColStatus (fun _ _ => rfl) fun r t hp => ⟨_, rfl, rfl⟩,
    does_permitted effColPartitionStatus (fun _ _ => rfl) fun r t hp => ⟨_, _, rfl, rfl, rfl⟩,
    does_permitted effColRoleReturn (fun _ _ => rfl) fun r t hp => ⟨_, rfl, rfl⟩,
    does_permitted effColInject (fun _ _ => rfl) fun r t hp => rfl⟩
  case whole =>
    rw [eq_of_beq hfirst, ← eq_of_beq htotal, List.take_zero, List.nil_append, List.take_left' (by simp)]
  case part =>
    rw [eq_of_beq htotal, Nat.max_eq_left (by simpa [Nat.add_comm] using hin), Nat.sub_self, List.replicate_zero, List.append_nil]
    have hsplice := take_splice (hs := (List.range (u16 r.p.payload 2)).map fun i => u32 r.p.payload (8 + 4 * i)) (by simpa using hin)
    exact congrArg (fun l => done (t.setPart _ { t.part _ with inputs := l })) (by simpa using hsplice)
  case admitted =>
    simp only [harea, hmirror, hplaced, if_true]
  case refused =>
    simp only [ite_append]
    refine if_neg fun hempty => ?_
    simp only [List.isEmpty_iff, List.append_eq_nil_iff] at hempty
    obtain ⟨⟨hplaced, harea⟩, -⟩ := hempty
    exact absurd hc (by simp_all)
  case starts =>
    simp only [eq_of_beq hst]
    exact if_pos (by rwa [Bool.and_assoc])
  case runs =>
    obtain ⟨hop, hst⟩ := Bool.and_eq_true_iff.mp hc
    refine (if_pos hop).trans ?_
    obtain hst | hst := (Bool.or_eq_true _ _).mp hst <;> simp only [eq_of_beq hst]
  case startsNot =>
    simp only [eq_of_beq hst]
    exact ite_of_not hmay
  case stops =>
    obtain ⟨hop, hst⟩ := Bool.and_eq_true_iff.mp hc
    refine (if_neg (by simp [eq_of_beq hop])).trans ?_
    obtain hst | hst := (Bool.or_eq_true _ _).mp hst <;> simp only [eq_of_beq hst]
  case clears =>
    obtain ⟨hop, hst⟩ := Bool.and_eq_true_iff.mp hc
    refine (if_neg (by simp [eq_of_beq hop])).trans ?_
    obtain hst | hst := (Bool.or_eq_true _ _).mp hst <;> simp only [eq_of_beq hst]
  case stopped => simp only [eq_of_beq hst]

/-! ### UPD and PWR (chapters 22 and 23) -/

/-- Settles O44: the image, the install queue, the manager's part and the move in progress select the branch. -/
theorem updPwrCommandsComplete : Obligations.UpdPwrCommandsComplete := by
  refine ⟨does_where effUpdBegin (fun _ _ => rfl) fun r t hp hother => if_neg (by simpa using hother),
    does_where effUpdBegin (fun _ _ => rfl) fun r t hp hsame => if_pos hsame,
    does_where effUpdPiece (fun _ _ => rfl) fun r t hp hfits => ?fits,
    does_where effUpdPiece (fun _ _ => rfl) fun r t hp hfull => ?full,
    does_permitted effUpdStatus (fun _ _ => rfl) fun r t hp => rfl,
    does_permitted effUpdMissing (fun _ _ => rfl) fun r t hp => ⟨_, rfl, rfl⟩,
    does_where effUpdInstall (fun _ _ => rfl) fun r t hp hqueue => ?installs,
    does_where effUpdInstall (fun _ _ => rfl) fun r t hp hqueue => ?nothing,
    does_where₂ effUpdCommit (fun _ _ => rfl) fun r t hp hop hmgr => ?manager,
    does_where effUpdCommit (fun _ _ => rfl) fun r t hp hop => congrArg (fun u => done (modUpd _ u)) (if_pos hop),
    does_where₂ effUpdCommit (fun _ _ => rfl) fun r t hp hop hmgr => ?member,
    does_where effUpdAbort (fun _ _ => rfl) fun r t hp hst => if_neg (by simpa using hst),
    does_where effUpdAbort (fun _ _ => rfl) fun r t hp hst => if_pos hst,
    does_where₂ effPwrSet (fun _ _ => rfl) fun r t hp hmove hnew => ⟨_, _, rfl, ?moves, rfl⟩,
    does_where₂ effPwrSet (fun _ _ => rfl) fun r t hp hmove hthere => ?there,
    does_where effPwrSet (fun _ _ => rfl) fun r t hp hmove => ?superseded,
    does_permitted effPwrConfig (fun _ _ => rfl) fun r t hp => ⟨_, rfl, rfl⟩,
    does_permitted effPwrStatus (fun _ _ => rfl) fun r t hp => ⟨_, _, rfl, fun _ => rfl, rfl⟩⟩
  case fits =>
    obtain ⟨⟨k, u⟩, hu⟩ := Option.isSome_iff_exists.mp hfits
    refine ⟨k, u, hu, ?_⟩
    simp only [hu]
  case full => simp only [Option.isNone_iff_eq_none.mp hfull]
  case installs =>
    obtain ⟨m, hm, hq⟩ := (Option.any_eq_true ..).mp hqueue
    refine ⟨m, _, _, hm, rfl, ?_, rfl⟩
    simp only [hm]
    exact ite_of_not hq
  case nothing =>
    obtain ⟨m, hm, hq⟩ := (Option.any_eq_true ..).mp hqueue
    refine ⟨m, hm, ?_⟩
    simp only [hm, List.isEmpty_iff.mp hq]
    rfl
  case manager => exact congrArg (fun u => done (modUpd _ u)) ((if_neg (by simp [eq_of_beq hop])).trans (if_pos hmgr))
  case member => exact congrArg (fun u => done (modUpd _ u)) ((if_neg (by simp [eq_of_beq hop])).trans (ite_of_not hmgr))
  case moves =>
    simp only [Option.isNone_iff_eq_none.mp hmove]
    exact if_neg (by simpa using hnew)
  case there =>
    simp only [Option.isNone_iff_eq_none.mp hmove]
    exact if_pos hthere
  case superseded =>
    obtain ⟨m, hm⟩ := Option.isSome_iff_exists.mp hmove
    refine ⟨m, _, hm, rfl, ?_⟩
    simp only [hm]

/-! ### SUM (chapter 24) -/

/-- Settles O45: the loss of Summit and the kind of a key select the branch. -/
theorem sumCommandsComplete : Obligations.SumCommandsComplete := by
  refine ⟨does_where effSumStatus (fun _ _ => rfl) fun r t hp hlost => if_pos hlost,
    does_where effSumStatus (fun _ _ => rfl) fun r t hp hthere => ite_of_not hthere,
    does_permitted effSumConfig (fun _ _ => rfl) fun r t hp => ⟨_, rfl, rfl⟩,
    does_where effSumKeySet (fun _ _ => rfl) fun r t hp hkind => ?image,
    does_where effSumKeySet (fun _ _ => rfl) fun r t hp hkind => ⟨_, _, rfl, rfl, ?session⟩,
    does_where effSumKeySet (fun _ _ => rfl) fun r t hp hkind => ⟨_, _, rfl, rfl, ?sign⟩,
    does_permitted effSumWindowText (fun _ _ => rfl) fun r t hp => ⟨_, rfl, rfl⟩⟩
  case image =>
    simp only [eq_of_beq hkind]
    exact ⟨_, rfl, rfl⟩
  case session => simp only [eq_of_beq hkind]
  case sign => simp only [eq_of_beq hkind]

end Sys2Proof.Machine

/-! # What O43 depends on

Of `Obligations.MemDmaCrnCommandsComplete` every clause holds but one, which is neither provable nor refutable: where `MEM_INJECT` stores the
poison mark, the clause has nothing follow from it, while in the model what the module keeps in that line becomes poisoned too (R42, R138,
R172, R443; `newMarks`). Which line holds what is the free value `Config.holds` (log entry 255), of which Lean knows nothing. Where no line
holds anything, O43 is true (`memDmaCrnCommandsComplete_of_nothing`); where a line of DRAM holds a record, it is false
(`not_memDmaCrnCommandsComplete_of_record`). `memInject_poison_marks` says what holds whatever that value is. -/

namespace Sys2Proof.Machine

/-! ## What a marked line holds lies outside memory -/

section
variable (s : State)

@[simp] theorem culEvent_mem (cause : Nat) (stage : Option Nat) (parcel : Nat) : (culEvent cause stage parcel s).mem = s.mem :=
  event_mem_eq ..

@[simp] theorem reportClose_mem (cause no : Nat) : (reportClose cause no s).mem = s.mem := by
  unfold reportClose
  split
  · rfl
  · exact culEvent_mem ..

@[simp] theorem updateKcam_mem (p : Parcel) : (updateKcam p s).mem = s.mem := by
  unfold updateKcam
  extract_lets
  split
  · rfl
  split
  · rfl
  · rfl

@[simp] theorem noteHistory_mem (p : Parcel) : (noteHistory p s).mem = s.mem := by
  unfold noteHistory
  extract_lets
  split
  · rfl
  · rfl

@[simp] theorem forceClose_mem (flag cause : Nat) (p : Parcel) : (forceClose flag cause p s).mem = s.mem := by
  simp only [forceClose, closeParcel, setParcel, reportClose_mem, modCul_mem, noteHistory_mem, updateKcam_mem]

@[simp] theorem culEnter_mem (st : CulSt) : (culEnter st s).mem = s.mem := by
  unfold culEnter
  extract_lets entered told ended sig quiet shown
  have hended : ended.mem = s.mem := by
    simp only [ended]
    split
    · split
      · exact culEvent_mem ..
      · exact (finish_mem_eq ..).trans (culEvent_mem ..)
    · exact culEvent_mem ..
  have hquiet : quiet.mem = s.mem := by
    simp only [quiet]
    split
    · exact hended
    · exact hended
  split
  · rfl
  split
  · rfl
  exact (pubHw_mem_eq ..).trans ((pubHw_mem_eq ..).trans hquiet)

@[simp] theorem culStopNow_mem : (culStopNow s).mem = s.mem := by
  unfold culStopNow
  extract_lets cleared closed
  split
  · rfl
  · rw [culEnter_mem]
    exact foldl_frame (·.mem = s.mem) (fun u p hu => (forceClose_mem u 3 3 p).trans hu) _ cleared rfl

@[simp] theorem staleForecasts_mem : (staleForecasts s).mem = s.mem := by
  refine foldl_frame (fun u => u.mem = s.mem) (fun u k hu => ?_) _ s rfl
  dsimp only
  split
  · exact hu
  · exact hu

@[simp] theorem culFault_mem : (culFault s).mem = s.mem := by
  unfold culFault
  split
  · exact (staleForecasts_mem _).trans (culStopNow_mem s)
  · rfl

@[simp] theorem markLedger_mem (line : Nat) : (markLedger line s).mem = s.mem := by
  unfold markLedger
  extract_lets hit opened marked
  exact foldl_frame (·.mem = s.mem) (fun u _ hu => (forceClose_mem u 2 2 _).trans hu) _ marked rfl

@[simp] theorem markHeld_mem (line : Nat) : (markHeld s line).mem = s.mem := by
  unfold markHeld markCouloir
  split
  · exact (culFault_mem _).trans (markLedger_mem _ line)
  · exact markLedger_mem _ line

@[simp] theorem newMarks_mem (lines : List Nat) (t : State) : (newMarks lines s t).mem = t.mem :=
  foldl_frame (·.mem = t.mem) (fun u l hu => (markHeld_mem u l).trans hu) _ _ rfl

end

/-! ## `MEM_INJECT` -/

/-- `MEM_INJECT` with what follows for what the module keeps in the line that it corrupts (R438, R443). -/
def effInject (r : Req) (s : State) : Res × State := ((effMemInject r s).1, newMarks [u64 r.p.payload 0] s (effMemInject r s).2)

/-- An error pattern is added to the line's errors; what the line then holds is marked, if it cannot be corrected any more. -/
theorem effInject_errors {r : Req} {t : State} (hp : permitted (chkMemInject r t) = true) (hkind : (u8 r.p.payload 8 != 3) = true) :
    ∃ u, effInject r t = done u ∧ u.mem = { t.mem with errors := t.mem.errors ++
      [{ line := u64 r.p.payload 0, pat := injectPat (u8 r.p.payload 8) (u8 r.p.payload 9) (u8 r.p.payload 10), injected := true }] } := by
  have hrun : effMemInject r t = done { t with mem := { t.mem with errors := t.mem.errors ++
      [{ line := u64 r.p.payload 0, pat := injectPat (u8 r.p.payload 8) (u8 r.p.payload 9) (u8 r.p.payload 10), injected := true }] } } := by
    simp only [effMemInject, check_permitted hp]
    exact if_neg (by simpa using hkind)
  refine ⟨newMarks [u64 r.p.payload 0] t (effMemInject r t).2, by simp only [effInject, hrun, done], ?_⟩
  rw [newMarks_mem, hrun]
  rfl

/-- The poison mark is stored with a line of zeros, and what the line holds is marked. -/
theorem effInject_poison {r : Req} {t : State} (hp : permitted (chkMemInject r t) = true) (hkind : (u8 r.p.payload 8 == 3) = true) :
    effInject r t = done (newMarks [u64 r.p.payload 0] t (storeLine (u64 r.p.payload 0) (zeros 64) true t)) := by
  have hrun : effMemInject r t = done (storeLine (u64 r.p.payload 0) (zeros 64) true t) := by
    simp only [effMemInject, check_permitted hp]
    exact if_pos hkind
  simp only [effInject, hrun, done]

/-- What holds in place of the clause that O43 has for the poison mark: `MEM_INJECT` stores the marked line, and what the module keeps in that
line is marked with it. -/
theorem memInject_poison_marks : Does .memInject .memInject
    (fun r t => permitted (chkMemInject r t) && u8 r.p.payload 8 == 3)
    (fun r t x => x = done (newMarks [u64 r.p.payload 0] t (storeLine (u64 r.p.payload 0) (zeros 64) true t))) := by
  refine does_eff effInject fun r t hc => ?_
  obtain ⟨hp, hkind⟩ := Bool.and_eq_true_iff.mp hc
  exact effInject_poison hp hkind

/-! ## Every clause but that of the poison mark -/

/-- A cursor that may be read is one of the eight and open. -/
theorem cursor_of_permitted {r : Req} {t : State} (h : permitted (chkCrnRead r t) = true) : ∃ c, cursorOf r t = some c := by
  cases hc : cursorOf r t with
  | some c => exact ⟨c, rfl⟩
  | none => exact absurd (permitted_not h (b := true) (st := .badParam) (by simp [chkCrnRead, hc])) (by simp)

/-- The fields between the number of records and the records themselves, taken together (R480). -/
theorem append_inner (a b c d e f : List Byte) : a ++ b ++ c ++ d ++ e ++ f = a ++ (b ++ c ++ d ++ e) ++ f := by
  simp only [List.append_assoc]

/-- The `seq` from which a cursor is opened to read (R479). -/
def cursorFrom (r : Req) (t : State) : Nat :=
  let part := (unitIndex r.p.target 0x14).getD 0xFFFF - 0x10
  if u8 r.p.payload 0 == 0 then ((t.partRecs part).head?.map (·.seq)).getD (afterNewest part t)
  else if u8 r.p.payload 0 == 1 then afterNewest part t
  else if u8 r.p.payload 0 == 2 then u64 r.p.payload 8 % 2 ^ 32
  else (((t.partRecs part).find? fun y => u64 r.p.payload 8 ≤ y.opTime).map (·.seq)).getD (afterNewest part t)

/-- A cursor opened at a `seq` in the first free slot, with the reply that tells it (R479). -/
def openCursor (r : Req) (next : Nat) (t : State) : Res × State :=
  let k := ((t.crn.cursors.zipIdx.find? fun e => e.1.isNone).map (·.2)).getD 0
  let part := (unitIndex r.p.target 0x14).getD 0xFFFF - 0x10
  let c : Cursor := { port := r.port, part := part, next := next, group := u8 r.p.payload 1, lastRead := t.time }
  (.fin .done (le 1 k ++ zeros 3 ++ le 4 next), { t with crn := { t.crn with cursors := t.crn.cursors.set k (some c) } })

theorem effCrnCursorOpen_check (r : Req) (t : State) :
    effCrnCursorOpen r t = check t (chkCrnCursorOpen r t) fun _ => openCursor r (cursorFrom r t) t := rfl

/-- The clause of O43 for the poison mark: `MEM_INJECT` stores the marked line and does nothing else. -/
def PoisonInjectionStoresAlone : Prop :=
  Does .memInject .memInject
    (fun r t => permitted (chkMemInject r t) && u8 r.p.payload 8 == 3)
    (fun r t x => x = done (storeLine (u64 r.p.payload 0) (zeros 64) true t))

/-- Every other clause of O43 holds, so O43 is that clause: the state and the payload select the branch of each row. -/
theorem memDmaCrnCommandsComplete_iff : Obligations.MemDmaCrnCommandsComplete ↔ PoisonInjectionStoresAlone := by
  refine ⟨fun ⟨_, _, _, _, _, _, _, _, _, h, _⟩ => h, fun hpoison => ?_⟩
  refine ⟨does_permitted effMemStatus (fun _ _ => rfl) fun r t hp => rfl,
    does_permitted effMemScrubConfig (fun _ _ => rfl) fun r t hp => ⟨_, rfl, rfl⟩,
    does_where effMemRegionSet (fun _ _ => rfl) fun r t hp hsize => ⟨_, rfl, ?names⟩,
    does_where effMemRegionSet (fun _ _ => rfl) fun r t hp hsize => ⟨_, rfl, ?unnames, rfl⟩,
    does_where effMemDeviceFail (fun _ _ => rfl) fun r t hp hop => ⟨_, rfl, if_pos hop⟩,
    does_where effMemDeviceFail (fun _ _ => rfl) fun r t hp hop => ⟨_, rfl, if_neg (by simp [eq_of_beq hop])⟩,
    does_where effMemRemapClear (fun _ _ => rfl) fun r t hp he => congrArg done (if_neg (by simpa using he)),
    does_where effMemRemapClear (fun _ _ => rfl) fun r t hp he => congrArg done (if_pos he),
    does_eff effInject fun r t hc => ?inject, hpoison,
    does_permitted effDmaChannelSet (fun _ _ => rfl) fun r t hp => rfl,
    does_permitted effDmaStatus (fun _ _ => rfl) fun r t hp => ⟨_, rfl, rfl⟩,
    does_permitted effCrnStatus (fun _ _ => rfl) fun r t hp => rfl,
    does_where effCrnCursorOpen effCrnCursorOpen_check fun r t hp hfrom =>
      ⟨_, (openCursor r _ t).2, rfl, congrArg (openCursor r · t) ?seq, rfl⟩,
    does_where effCrnCursorOpen effCrnCursorOpen_check fun r t hp hfrom => ⟨_, _, rfl, rfl, congrArg (openCursor r · t) ?oldest⟩,
    does_where effCrnCursorOpen effCrnCursorOpen_check fun r t hp hfrom => ⟨_, _, rfl, rfl, congrArg (openCursor r · t) ?newest⟩,
    does_where effCrnCursorOpen effCrnCursorOpen_check fun r t hp hfrom => ⟨_, _, rfl, rfl, congrArg (openCursor r · t) ?time⟩,
    does_permitted effCrnRead (fun _ _ => rfl) fun r t hp => ?read,
    does_permitted effCrnCursorClose (fun _ _ => rfl) fun r t hp => ⟨_, rfl, rfl⟩,
    does_where effCrnClear (fun _ _ => rfl) fun r t hp hm => ⟨_, rfl, if_pos hm⟩,
    does_where₂ effCrnClear (fun _ _ => rfl) fun r t hp hm hfirst => (ite_of_not hm).trans (if_pos (of_decide_eq_true hfirst)),
    does_where₂ effCrnClear (fun _ _ => rfl) fun r t hp hm hboth =>
      ⟨_, rfl, (ite_of_not hm).trans (if_neg (Nat.not_lt.mpr (of_decide_eq_true hboth)))⟩,
    does_where effCrnAppWrite (fun _ _ => rfl) fun r t hp hroom => ?accepted,
    does_where effCrnAppWrite (fun _ _ => rfl) fun r t hp hfull => ?dropped⟩
  case names =>
    have hzero : (u64 r.p.payload 8 == 0) = false := by simpa using hsize
    simp only [hzero]
    rfl
  case unnames => simp only [hsize, if_true]
  case inject =>
    obtain ⟨hp, hkind⟩ := Bool.and_eq_true_iff.mp hc
    exact effInject_errors hp hkind
  case seq => simp only [cursorFrom, eq_of_beq hfrom]; rfl
  case oldest => simp only [cursorFrom, eq_of_beq hfrom]; rfl
  case newest => simp only [cursorFrom, eq_of_beq hfrom]; rfl
  case time => simp only [cursorFrom, eq_of_beq hfrom]; rfl
  case read =>
    obtain ⟨c, hc⟩ := cursor_of_permitted hp
    simp only [hc]
    refine ⟨c, _, _, _, _, rfl, rfl, congrArg (fun l => (Res.fin .done l, _)) (append_inner ..), ?_, rfl⟩
    simp only [List.length_append, le_length]
    rfl
  case accepted => exact congrArg (fun st => (Res.fin st [], _)) (if_neg (Nat.not_le.mpr (of_decide_eq_true hroom)))
  case dropped => exact congrArg (fun st => (Res.fin st [], _)) (if_pos (of_decide_eq_true hfull))

/-! ## Where no line of memory holds anything of the module's -/

section
variable {line : Nat} (hnothing : ∀ k a b, Config.holds line k a b = false)
include hnothing

theorem markRecords_of_nothing (s : State) : markRecords line s = s := by
  simp only [markRecords, hnothing, Bool.or_false, List.map_id']

theorem markCells_of_nothing (s : State) : markCells line s = s := by
  simp only [markCells, hnothing, List.filter_false, List.foldl_nil, List.map_id', modMap]

theorem markLedger_of_nothing (s : State) : markLedger line s = s := by
  simp only [markLedger, hnothing, Bool.and_false, Bool.or_false, List.filter_false, List.foldl_nil, List.map_id', modCul]

theorem markHeld_of_nothing (s : State) : markHeld s line = s := by
  simp only [markHeld, markRecords_of_nothing hnothing, markCells_of_nothing hnothing, markLedger_of_nothing hnothing, markCouloir,
    hnothing, Bool.or_false, Bool.and_false, Bool.false_eq_true, if_false]
end

theorem newMarks_of_nothing (hnothing : ∀ line k a b, Config.holds line k a b = false) (lines : List Nat) (s t : State) :
    newMarks lines s t = t :=
  foldl_frame (· = t) (fun u l hu => (markHeld_of_nothing (hnothing l) u).trans hu) _ _ rfl

theorem poisonInjectionStoresAlone_of_nothing (hnothing : ∀ line k a b, Config.holds line k a b = false) :
    PoisonInjectionStoresAlone := by
  refine does_eff effInject fun r t hc => ?_
  obtain ⟨hp, hkind⟩ := Bool.and_eq_true_iff.mp hc
  rw [effInject_poison hp hkind, newMarks_of_nothing hnothing]

/-! ## Where the second line of DRAM holds the record of local 1 -/

/-- With no flight but a command's own and no restart due, nothing but its end follows from it. -/
theorem after_alone {p : Packet} {r : Req} {st : Status} {payload : List Byte} {s t : State} (hop : r.op ≠ .pwrSet)
    (hrestart : t.upd.restartDue = false) (hown : ∀ f ∈ t.sys.flights, f.req.port = r.port ∧ f.req.p.tag = r.p.tag) :
    after p r (.fin st payload, t) s = { finish r st payload t with time := max s.time p.time, pending := s.pending } := by
  obtain ⟨a, b, c, d, hfin⟩ := finish_frame r st payload t
  have hnone : (finish r st payload t).sys.flights = [] := by
    rw [finish_flights, List.map_eq_nil_iff, List.filter_eq_nil_iff]
    exact fun f hf => by simp [hown f hf]
  have hend : afterCommand r.op (settle r (.fin st payload, t)) = finish r st payload t := by
    rw [hfin] at hnone ⊢
    simp only [afterCommand, settle, beq_false_of_ne hop, Bool.false_eq_true, if_false, hfin, restartIfDue, hrestart]
  have hwaiting : startWaiting 129 (finish r st payload t) = finish r st payload t := by
    simp only [startWaiting, hnone, List.find?_nil]
  simp only [after, hend, hwaiting]

theorem after_sig {p : Packet} {r : Req} {st : Status} {payload : List Byte} {s t : State} (hop : r.op ≠ .pwrSet)
    (hrestart : t.upd.restartDue = false) (hown : ∀ f ∈ t.sys.flights, f.req.port = r.port ∧ f.req.p.tag = r.p.tag) :
    (after p r (.fin st payload, t) s).sig = t.sig := by
  obtain ⟨a, b, c, d, hfin⟩ := finish_frame r st payload t
  rw [after_alone hop hrestart hown, hfin]

/-- Two results of such a command that leave the same state have the same signal space. -/
theorem sig_of_after {p : Packet} {r : Req} {s u v : State} (hop : r.op ≠ .pwrSet) (h : after p r (done u) s = after p r (done v) s)
    (hu : u.upd.restartDue = false) (hv : v.upd.restartDue = false)
    (hownU : ∀ f ∈ u.sys.flights, f.req.port = r.port ∧ f.req.p.tag = r.p.tag)
    (hownV : ∀ f ∈ v.sys.flights, f.req.port = r.port ∧ f.req.p.tag = r.p.tag) : u.sig = v.sig := calc
  u.sig = (after p r (done u) s).sig := (after_sig hop hu hownU).symm
  _ = (after p r (done v) s).sig := by rw [h]
  _ = v.sig := after_sig hop hv hownV

/-- A worker in IDLE that publishes local 1. -/
def idlePublisher : State :=
  { configuredWorker with pwr := { configuredWorker.pwr with st := .idle }, sig := { State.reset.sig with own := [(1, default)] } }

/-- `MEM_INJECT` of its host that poisons the second line of DRAM. -/
def poisonPacket : Packet :=
  let p : Packet := { via := .mailbox 0, tag := 1, flags := 4, target := BitVec.ofNat 32 memUnit, length := 16, payload := le 8 0x40 ++ le 8 3 }
  { p with crc := BitVec.ofNat 32 (Crypto.crc32c (commandHeader (opCode .memInject) p 0 ++ p.payload)) }

/-- A permitted request to poison the second line of DRAM, where no line is poisoned yet and this one lies in a channel in use. -/
def poisonsCleanLine (r : Req) (t : State) : Bool :=
  permitted (chkMemInject r t) && u8 r.p.payload 8 == 3 && u64 r.p.payload 0 == 0x40
    && t.mem.poison.isEmpty && !t.lineExcluded 0x40 && (t.remapOf 0x40).isNone

/-- A module that publishes local 1, with Couloir at rest, no restart due and no other command in flight. -/
def publishesAlone (r : Req) (t : State) : Bool :=
  t.sig.own.head?.any (fun e => e.1 == 1 && !e.2.linePoison) && t.cul.ledger.isEmpty && !t.cul.st.busy
    && !t.upd.restartDue && t.sys.flights.all fun f => f.req.port == r.port && f.req.p.tag == r.p.tag

theorem poisonPacket_poisons : ∃ r t, taken .memInject poisonPacket idlePublisher = some (r, t) ∧ poisonsCleanLine r t = true
    ∧ publishesAlone r t = true := by
  have hmeets : ((taken .memInject poisonPacket idlePublisher).any fun x => poisonsCleanLine x.1 x.2 && publishesAlone x.1 x.2) = true := by
    decide +kernel
  obtain ⟨⟨r, t⟩, ht, h⟩ := (Option.any_eq_true _ _).mp hmeets
  obtain ⟨hline, halone⟩ := Bool.and_eq_true_iff.mp h
  exact ⟨r, t, ht, hline, halone⟩

theorem storeLine_marked {line : Nat} {data : List Byte} {t : State} (hpoison : t.mem.poison = []) (hexcluded : t.lineExcluded line = false)
    (hremap : t.remapOf line = none) : ∃ m, storeLine line data true t = { t with mem := m } ∧ m.poison = [line] := by
  simp only [storeLine, hexcluded, hremap, Bool.false_eq_true, if_false, if_true, hpoison, List.filter_nil]
  exact ⟨_, rfl, rfl⟩

theorem newMarks_line {line : Nat} {s t : State} (hs : s.mem.poison = []) (ht : t.mem.poison = [line]) :
    newMarks [line] s t = markHeld t line := by
  have hmarked : (t.mem.poison.filter fun l => !s.poisoned l) = [line] := by simp [State.poisoned, hs, ht]
  have hbad : ([line].filter fun l => t.unreadable l && !s.unreadable l && !t.poisoned l) = [] := by simp [State.poisoned, ht]
  simp only [newMarks, hmarked, hbad, List.append_nil, List.foldl_cons, List.foldl_nil]

theorem markHeld_frame {s : State} (line : Nat) (hledger : s.cul.ledger = []) (hrest : s.cul.st.busy = false) :
    ∃ a b, markHeld s line = { markRecords line s with map := a, cul := b } := by
  simp only [markHeld, markCouloir, markLedger, markCells, markRecords, openParcels, modCul, modMap, hledger, hrest, List.filter_nil,
    List.reverse_nil, List.foldl_nil, Bool.false_and, Bool.false_eq_true, if_false]
  exact ⟨_, _, rfl⟩

theorem markRecords_marks {s : State} {line loc : Nat} {e : Rec} (hholds : Config.holds line 0 loc 0 = true)
    (hown : s.sig.own.head? = some (loc, e)) (hclean : e.linePoison = false) : (markRecords line s).sig ≠ s.sig := by
  intro h
  have hhead : ((markRecords line s).sig.own.head?.map (·.2.linePoison)) = s.sig.own.head?.map (·.2.linePoison) := by rw [h]
  simp [markRecords, List.head?_map, hown, hholds, hclean] at hhead

theorem not_poisonInjectionStoresAlone_of_record (hholds : Config.holds 0x40 0 1 0 = true) : ¬ PoisonInjectionStoresAlone := by
  intro hcompletes
  obtain ⟨r, t, ht, hline, halone⟩ := poisonPacket_poisons
  simp only [poisonsCleanLine, Bool.and_eq_true, beq_iff_eq, List.isEmpty_iff, Bool.not_eq_true', Option.isNone_iff_eq_none,
    and_assoc] at hline
  obtain ⟨hp, hkind, haddr, hpoison, hexcluded, hremap⟩ := hline
  simp only [publishesAlone, Bool.and_eq_true, Bool.not_eq_true', List.all_eq_true, beq_iff_eq, List.isEmpty_iff, and_assoc,
    Option.any_eq_true] at halone
  obtain ⟨⟨⟨loc, e⟩, hown, hloc, hclean⟩, hledger, hrest, hrestart, hflights⟩ := halone
  have hmarks : (markRecords 0x40 t).sig ≠ t.sig :=
    markRecords_marks ((congrArg (Config.holds 0x40 0 · 0) hloc).trans hholds) hown hclean
  have hc : (permitted (chkMemInject r t) && u8 r.p.payload 8 == 3) = true := by simp [hp, hkind]
  obtain ⟨x, hx, rfl⟩ := hcompletes poisonPacket idlePublisher r t ht hc
  obtain ⟨y, hy, rfl⟩ := memInject_poison_marks poisonPacket idlePublisher r t ht hc
  obtain ⟨m, hstore, hm⟩ := storeLine_marked (data := zeros 64) hpoison hexcluded hremap
  obtain ⟨a, b, hheld⟩ := markHeld_frame (s := { t with mem := m }) 0x40 hledger hrest
  rw [haddr, hstore] at hx hy
  rw [newMarks_line hpoison hm, hheld] at hy
  obtain ⟨hop, -⟩ := command_taken ht
  have hne : r.op ≠ .pwrSet := by rw [hop]; nofun
  have hsig := sig_of_after hne (Host.Outcome.next.inj (hy.symm.trans hx)) hrestart hrestart hflights hflights
  exact hmarks hsig

/-- O43 holds if no line of memory holds anything that the module keeps. -/
theorem memDmaCrnCommandsComplete_of_nothing (hnothing : ∀ line k a b, Config.holds line k a b = false) :
    Obligations.MemDmaCrnCommandsComplete :=
  memDmaCrnCommandsComplete_iff.mpr (poisonInjectionStoresAlone_of_nothing hnothing)

/-- O43 fails if the second line of DRAM holds the record of local 1: poisoned by its host, the worker's line poisons the record. -/
theorem not_memDmaCrnCommandsComplete_of_record (hholds : Config.holds 0x40 0 1 0 = true) : ¬ Obligations.MemDmaCrnCommandsComplete :=
  fun h => not_poisonInjectionStoresAlone_of_record hholds (memDmaCrnCommandsComplete_iff.mp h)

end Sys2Proof.Machine
